-- ==== Sys2Proof/Word.lean ====
section
/-! DEFINITION. Word.lean: the bit-vector types of the part and the plainest arithmetic over naturals. -/

namespace Sys2Proof

/-- A register or unit word of 32 bits (03 R72). -/
abbrev Word := BitVec 32
/-- A word of the X and Y memories and of the Rhoif-16 registers (07 R161). -/
abbrev Half := BitVec 16
/-- The smallest addressable unit of the physical address map (00 R10). -/
abbrev Byte := BitVec 8

/-- Addition that stops at `top`. -/
def satAdd (top a b : Nat) : Nat := if top < a + b then top else a + b

end Sys2Proof
end

