-- ==== Sys2Proof/Syntax.lean ====
section
/-! DEFINITION. Syntax.lean: the commands of the block, one constructor per row of the table, and the operands they carry. -/

namespace Sys2Proof

/-! ### Syllables of the Rhoif-16 (07 R165, 08 R197, 09 R218 to R228) -/

/-- The four slots of a bundle, in their order (R165). -/
inductive Slot where
  | mac0 | mac1 | agu | ctl
  deriving DecidableEq, Repr

def Slot.num : Slot → Nat
  | .mac0 => 0 | .mac1 => 1 | .agu => 2 | .ctl => 3

/-- An operand of format M: a register code, or the word at pointer `ptr` (0 to 3 in its memory) with post-modification `md`
(R197, R199). -/
inductive MOp where
  | reg (code : Nat)
  | mem (ptr md : Nat)
  deriving DecidableEq, Repr

inductive MKind where
  | mpy | mac | msu | macs | msus | mpyi | maci | msui | mpyu | macu | mpysu | macsu
  deriving DecidableEq, Repr

inductive AKind where
  | aclr | amov | aadd | asub | aneg | aabs | ash | ashv | asat | ald | aldw | acmp | narr | aexp
  deriving DecidableEq, Repr

inductive RKind where
  | add | adds | adc | sub | subs | sbc | cmp | neg | abs | min | max | and | or | xor | andn | tst
  | shl | shr | asr | rol | mov | clz | cls | bxdet
  deriving DecidableEq, Repr

inductive IKind where
  | perm | shli | shri | asri | roli | asls | addi | bfx | bfi
  deriving DecidableEq, Repr

/-- What a syllable does, with its used operand fields (R198). `reserved` stands for every reserved opcode. -/
inductive Op where
  | nop
  | m (k : MKind) (acd : Nat) (a b : MOp)
  | a (k : AKind) (acd acs r : Nat) (sbx : Bool) (sh : Nat) (det : Bool)
  | r (k : RKind) (d a b : Nat) (det : Bool)
  | i (k : IKind) (d a imm : Nat)
  | movi (d : Nat) (imm : Half)
  | bxclr
  | ld (reg : Nat) (y : Bool) (ptr amod : Nat)
  | st (reg : Nat) (y : Bool) (ptr amod : Nat) (det : Bool)
  | ldxy (dx dy px mx py my : Nat)
  | pmod (y : Bool) (ptr amod : Nat)
  | paddi (pr : Nat) (simm : Half)
  | qset (q : Nat) (dir w32 : Bool) (cls sreg creg : Nat) (ext : Word)
  | qstop (q : Nat)
  | qpop (reg q : Nat) (w det : Bool)
  | qpush (reg q : Nat) (w : Bool)
  | qpopm (q : Nat) (w y : Bool) (ptr amod : Nat)
  | qpushm (q : Nat) (w y : Bool) (ptr amod : Nat)
  | qwait (q k : Nat)
  | qsync (q : Nat)
  | skf (cond q : Nat)
  | skr (rc r bit : Nat)
  | br (tgt : Nat)
  | brr (r : Nat) (h : Bool)
  | call (tgt : Nat)
  | callr (r : Nat) (h : Bool)
  | ret
  | rti
  | doLoop (rt : Bool) (creg : Option Nat) (cimm ofs : Nat)
  | lbrk (lv : Nat)
  | rep (creg : Option Nat) (cimm : Nat)
  | repi (creg : Option Nat) (cimm : Nat)
  | rrc (set : Bool) (k : Nat)
  | limx (d : Nat) (d2 : Option Nat) (ext : Word)
  | ei
  | di
  | ihold
  | waite
  | halt
  | reserved
  deriving DecidableEq, Repr

/-- A syllable: its slot and what it does. -/
structure Syl where
  slot : Slot
  op : Op
  deriving DecidableEq, Repr

/-- The 32-bit words a syllable takes, its extension counted (R166, R219). -/
def Syl.size (y : Syl) : Nat :=
  match y.op with
  | .qset .. => 2
  | .limx .. => 2
  | _ => 1


/-- Who makes a register access: the tenant its NI stamps and the NI itself (03 R82, 04 R95). -/
structure By where
  tnt : Fin 16
  ni : Fin 26
  deriving DecidableEq, Repr

/-- A CAN frame: identifier, IDE, FDF, BRS, DLC and data bytes (18 R500). -/
structure CanFrame where
  id : Nat
  ide : Bool
  fdf : Bool
  brs : Bool
  dlc : Nat
  data : List Byte
  deriving DecidableEq, Repr

/-- A start a receiver's packets make: the receiver, the packet's virtual channel, and whether it is the start of a long packet
rather than a frame or line start packet (02 R42). -/
structure CamStart where
  n : Fin 2
  vc : Fin 4
  long : Bool
  deriving DecidableEq, Repr

/-- The source of a start: a display pipe, or a receiver (02 R42). -/
inductive Raster where
  | pipe (p : Fin 2)
  | cam (c : CamStart)
  deriving DecidableEq, Repr

/-- The commands: one constructor per row of the table, in its order. -/
inductive Instr where
  /-- SEAM_TRANSFER (R20). -/
  | seamTransfer (up ok : Bool)
  /-- SEAM_RECOVERED (R21). -/
  | seamRecovered
  /-- SEAM_REFRESH_DONE (R21). -/
  | seamRefreshDone
  /-- SYSPLL_LOCK (R566). -/
  | syspllLock
  /-- CRYSTAL_LOSS (R29). -/
  | crystalLoss
  /-- POS_LP_READ (R40). -/
  | posLpRead (w : By)
  /-- LTB_CLOCK_CHANGE (R41). -/
  | ltbClockChange
  /-- MASTER_LINE_START (R54). -/
  | masterLineStart (m : Raster)
  /-- MASTER_FRAME_START (R55). -/
  | masterFrameStart (m : Raster) (mode : Bool)
  /-- VIRTUAL_LINE_START (R46). -/
  | virtualLineStart
  /-- COAST_LINE_START (R50). -/
  | coastLineStart
  /-- BLANK_FILL_LINE_START (R51). -/
  | blankFillLineStart
  /-- MASTER_LOST (R52). -/
  | masterLost
  /-- LET_ENTRY_FIRE (R63). -/
  | letEntryFire (n : Fin 256)
  /-- LET_A_WRITE (R60). -/
  | letAWrite (w : By) (n : Fin 256) (v : Word)
  /-- LET_B_WRITE (R62). -/
  | letBWrite (w : By) (n : Fin 256) (v : Word)
  /-- CLR_MISS (R69). -/
  | clrMiss (w : By) (v : Word)
  /-- TRACKER_FRAME_START (R67). -/
  | trackerFrameStart (n : CamStart)
  /-- TRACKER_LINE_START (R67). -/
  | trackerLineStart (n : CamStart)
  /-- TRK_ENTRY_FIRE (R68). -/
  | trkEntryFire (n : Fin 2) (e : Fin 256)
  /-- REGISTER_WRITE (R82). -/
  | registerWrite (w : By) (p : Fin 224) (o : Fin 4096) (size : Nat) (v : Word)
  /-- SH_DISARM (R80). -/
  | shDisarm (w : By) (p : Fin 224) (auto : Fin 4)
  /-- SH_COMMIT_NOW (R80). -/
  | shCommitNow (w : By) (p : Fin 224) (auto : Fin 4)
  /-- SH_ARM_LINE_EVENT (R80). -/
  | shArmLineEvent (w : By) (p : Fin 224) (auto : Fin 4)
  /-- SH_ARM_FRAME (R80). -/
  | shArmFrame (w : By) (p : Fin 224) (auto : Fin 4)
  /-- SH_AUTO_SET (R80). -/
  | shAutoSet (w : By) (p : Fin 224) (auto mode : Fin 4)
  /-- COMMIT_EVENT (R80). -/
  | commitEvent (p : Fin 224)
  /-- ERR_CODE_CLR (R87). -/
  | errCodeClr (w : By) (p : Fin 224)
  /-- EV_RAW_CLEAR (R90). -/
  | evRawClear (w : By) (p : Fin 224) (v : Word)
  /-- SOFT_RESET (R568). -/
  | softReset (w : By) (p : Fin 224) (v : Word)
  /-- SOFT_RESET_DONE (R93). -/
  | softResetDone (p : Fin 224)
  /-- EVR_ROUTE_WRITE (R89). -/
  | evrRouteWrite (w : By) (i : Fin 224) (v : Word)
  /-- TEN_LOCK (R104). -/
  | tenLock (w : By)
  /-- LOCK_CHECK_DONE (R104). -/
  | lockCheckDone
  /-- TEN_POP (R107). -/
  | tenPop (w : By)
  /-- TEN_WA_WRITE (R100). -/
  | tenWaWrite (w : By) (t : Fin 16) (i : Fin 8) (v : Word)
  /-- TEN_WB_WRITE (R100). -/
  | tenWbWrite (w : By) (t : Fin 16) (i : Fin 8) (v : Word)
  /-- CP_PUSH (R116). -/
  | cpPush (w : By) (t : Fin 16)
  /-- CP_CLEAR (R116). -/
  | cpClear (w : By) (t : Fin 16)
  /-- CP_COMMIT (R116). -/
  | cpCommit (w : By) (t : Fin 16)
  /-- WD_MASK_WITHDRAW (R124). -/
  | wdMaskWithdraw (w : By) (m : BitVec 16)
  /-- ADM_EVAL_START (R123). -/
  | admEvalStart
  /-- ADM_EVAL_DONE (R122). -/
  | admEvalDone
  /-- WELT_REQUEST (R139). -/
  | weltRequest (n : Fin 26) (sub : Fin 4) (loadT : Fin 16) (cmd cls : Nat) (a : Word) (size : Nat) (data : List Byte)
  /-- RTE_WRITE (R135). -/
  | rteWrite (w : By) (n : Fin 26) (i : Fin 64) (v : Word)
  /-- RLINV (R137). -/
  | rlinv (w : By) (n : Fin 26)
  /-- NI_COUNTER_CLEAR (R157). -/
  | niCounterClear (w : By) (n : Fin 26)
  /-- ROUTER_PACKET (R152). -/
  | routerPacket (i : Nat) (hdrBad : Bool) (bad : List Nat)
  /-- TRACE_RECORD_WRITE (R154). -/
  | traceRecordWrite
  /-- TARGET_REQUEST (R147). -/
  | targetRequest (i : Nat) (hdrBad : Bool) (bad : List Nat)
  /-- WAKE_FAIL_TIMEOUT (R147). -/
  | wakeFailTimeout (n : Fin 26)
  /-- WELT_RESPONSE (R151). -/
  | weltResponse (i : Nat) (hdrBad : Bool) (bad : List Nat)
  /-- RESPONSE_TIMEOUT (R151). -/
  | responseTimeout (n : Fin 26) (tid : Fin 64)
  /-- TRC_CLR (R158). -/
  | trcClr (w : By) (v : Word)
  /-- TRC_DATA_READ (R158). -/
  | trcDataRead (w : By)
  /-- RT_CTRL_CLR (R156). -/
  | rtCtrlClr (w : By) (r : Fin 16)
  /-- PROBE_CTRL_WRITE (R158). -/
  | probeCtrlWrite (w : By) (m : Fin 8) (v : Word)
  /-- IRQ_EVENT (R187). -/
  | irqEvent (c : Fin 5) (n : Fin 16)
  /-- INTERRUPT_ENTRY (R189). -/
  | interruptEntry (c : Fin 5)
  /-- RELEASE_EVENT (R193). -/
  | releaseEvent (c : Fin 5) (arg : Nat)
  /-- CORE_RUN (R192). -/
  | coreRun (w : By) (c : Fin 5)
  /-- CORE_HALT_REQUEST (R192). -/
  | coreHaltRequest (w : By) (c : Fin 5)
  /-- CORE_STEP (R192). -/
  | coreStep (w : By) (c : Fin 5)
  /-- CR_REL_CLR (R192). -/
  | crRelClr (w : By) (c : Fin 5)
  /-- QUEUE_READ_ISSUE (R180). -/
  | queueReadIssue (c : Fin 5) (q : Fin 4)
  /-- QUEUE_MERGE_TIMEOUT (R182). -/
  | queueMergeTimeout (c : Fin 5) (q : Fin 4)
  /-- QUEUE_RESPONSE (R185). -/
  | queueResponse (c : Fin 5) (q : Fin 4) (i : Nat) (sts : Fin 16) (dem late : Bool) (data : List Byte)
  /-- QUEUE_WAIT_TIMEOUT (R184). -/
  | queueWaitTimeout (c : Fin 5)
  /-- MAC_NOP (R204). -/
  | iMacNop (c : Fin 5) (pre : List Syl) (hi : Bool) (post : List Syl)
  /-- MPY (R205). -/
  | iMpy (c : Fin 5) (pre : List Syl) (hi : Bool) (acd : Nat) (a b : MOp) (post : List Syl)
  /-- MAC (R205). -/
  | iMac (c : Fin 5) (pre : List Syl) (hi : Bool) (acd : Nat) (a b : MOp) (post : List Syl)
  /-- MSU (R205). -/
  | iMsu (c : Fin 5) (pre : List Syl) (hi : Bool) (acd : Nat) (a b : MOp) (post : List Syl)
  /-- MACS (R205). -/
  | iMacs (c : Fin 5) (pre : List Syl) (hi : Bool) (acd : Nat) (a b : MOp) (post : List Syl)
  /-- MSUS (R205). -/
  | iMsus (c : Fin 5) (pre : List Syl) (hi : Bool) (acd : Nat) (a b : MOp) (post : List Syl)
  /-- MPYI (R205). -/
  | iMpyi (c : Fin 5) (pre : List Syl) (hi : Bool) (acd : Nat) (a b : MOp) (post : List Syl)
  /-- MACI (R205). -/
  | iMaci (c : Fin 5) (pre : List Syl) (hi : Bool) (acd : Nat) (a b : MOp) (post : List Syl)
  /-- MSUI (R205). -/
  | iMsui (c : Fin 5) (pre : List Syl) (hi : Bool) (acd : Nat) (a b : MOp) (post : List Syl)
  /-- MPYU (R205). -/
  | iMpyu (c : Fin 5) (pre : List Syl) (hi : Bool) (acd : Nat) (a b : MOp) (post : List Syl)
  /-- MACU (R205). -/
  | iMacu (c : Fin 5) (pre : List Syl) (hi : Bool) (acd : Nat) (a b : MOp) (post : List Syl)
  /-- MPYSU (R205). -/
  | iMpysu (c : Fin 5) (pre : List Syl) (hi : Bool) (acd : Nat) (a b : MOp) (post : List Syl)
  /-- MACSU (R205). -/
  | iMacsu (c : Fin 5) (pre : List Syl) (hi : Bool) (acd : Nat) (a b : MOp) (post : List Syl)
  /-- PERM (R215). -/
  | iPerm (c : Fin 5) (pre : List Syl) (hi : Bool) (d a imm : Nat) (post : List Syl)
  /-- BXCLR (R216). -/
  | iBxclr (c : Fin 5) (pre : List Syl) (hi : Bool) (post : List Syl)
  /-- BXDET (R216). -/
  | iBxdet (c : Fin 5) (pre : List Syl) (hi : Bool) (d a b : Nat) (det : Bool) (post : List Syl)
  /-- ACLR (R206). -/
  | iAclr (c : Fin 5) (pre : List Syl) (hi : Bool) (acd acs r : Nat) (sbx : Bool) (sh : Nat) (det : Bool) (post : List Syl)
  /-- AMOV (R206). -/
  | iAmov (c : Fin 5) (pre : List Syl) (hi : Bool) (acd acs r : Nat) (sbx : Bool) (sh : Nat) (det : Bool) (post : List Syl)
  /-- AADD (R206). -/
  | iAadd (c : Fin 5) (pre : List Syl) (hi : Bool) (acd acs r : Nat) (sbx : Bool) (sh : Nat) (det : Bool) (post : List Syl)
  /-- ASUB (R206). -/
  | iAsub (c : Fin 5) (pre : List Syl) (hi : Bool) (acd acs r : Nat) (sbx : Bool) (sh : Nat) (det : Bool) (post : List Syl)
  /-- ANEG (R206). -/
  | iAneg (c : Fin 5) (pre : List Syl) (hi : Bool) (acd acs r : Nat) (sbx : Bool) (sh : Nat) (det : Bool) (post : List Syl)
  /-- AABS (R206). -/
  | iAabs (c : Fin 5) (pre : List Syl) (hi : Bool) (acd acs r : Nat) (sbx : Bool) (sh : Nat) (det : Bool) (post : List Syl)
  /-- ASH (R206). -/
  | iAsh (c : Fin 5) (pre : List Syl) (hi : Bool) (acd acs r : Nat) (sbx : Bool) (sh : Nat) (det : Bool) (post : List Syl)
  /-- ASHV (R206). -/
  | iAshv (c : Fin 5) (pre : List Syl) (hi : Bool) (acd acs r : Nat) (sbx : Bool) (sh : Nat) (det : Bool) (post : List Syl)
  /-- ASAT (R206). -/
  | iAsat (c : Fin 5) (pre : List Syl) (hi : Bool) (acd acs r : Nat) (sbx : Bool) (sh : Nat) (det : Bool) (post : List Syl)
  /-- ALD (R206). -/
  | iAld (c : Fin 5) (pre : List Syl) (hi : Bool) (acd acs r : Nat) (sbx : Bool) (sh : Nat) (det : Bool) (post : List Syl)
  /-- ALDW (R206). -/
  | iAldw (c : Fin 5) (pre : List Syl) (hi : Bool) (acd acs r : Nat) (sbx : Bool) (sh : Nat) (det : Bool) (post : List Syl)
  /-- ACMP (R206). -/
  | iAcmp (c : Fin 5) (pre : List Syl) (hi : Bool) (acd acs r : Nat) (sbx : Bool) (sh : Nat) (det : Bool) (post : List Syl)
  /-- NARR (R207). -/
  | iNarr (c : Fin 5) (pre : List Syl) (hi : Bool) (acd acs r : Nat) (sbx : Bool) (sh : Nat) (det : Bool) (post : List Syl)
  /-- AEXP (R208). -/
  | iAexp (c : Fin 5) (pre : List Syl) (hi : Bool) (acd acs r : Nat) (sbx : Bool) (sh : Nat) (det : Bool) (post : List Syl)
  /-- ADD (R209). -/
  | iAdd (c : Fin 5) (pre : List Syl) (hi : Bool) (d a b : Nat) (det : Bool) (post : List Syl)
  /-- ADDS (R209). -/
  | iAdds (c : Fin 5) (pre : List Syl) (hi : Bool) (d a b : Nat) (det : Bool) (post : List Syl)
  /-- ADC (R209). -/
  | iAdc (c : Fin 5) (pre : List Syl) (hi : Bool) (d a b : Nat) (det : Bool) (post : List Syl)
  /-- SUB (R209). -/
  | iSub (c : Fin 5) (pre : List Syl) (hi : Bool) (d a b : Nat) (det : Bool) (post : List Syl)
  /-- SUBS (R209). -/
  | iSubs (c : Fin 5) (pre : List Syl) (hi : Bool) (d a b : Nat) (det : Bool) (post : List Syl)
  /-- SBC (R209). -/
  | iSbc (c : Fin 5) (pre : List Syl) (hi : Bool) (d a b : Nat) (det : Bool) (post : List Syl)
  /-- CMP (R209). -/
  | iCmp (c : Fin 5) (pre : List Syl) (hi : Bool) (d a b : Nat) (det : Bool) (post : List Syl)
  /-- NEG (R209). -/
  | iNeg (c : Fin 5) (pre : List Syl) (hi : Bool) (d a b : Nat) (det : Bool) (post : List Syl)
  /-- ABS (R209). -/
  | iAbs (c : Fin 5) (pre : List Syl) (hi : Bool) (d a b : Nat) (det : Bool) (post : List Syl)
  /-- MIN (R209). -/
  | iMin (c : Fin 5) (pre : List Syl) (hi : Bool) (d a b : Nat) (det : Bool) (post : List Syl)
  /-- MAX (R209). -/
  | iMax (c : Fin 5) (pre : List Syl) (hi : Bool) (d a b : Nat) (det : Bool) (post : List Syl)
  /-- AND (R210). -/
  | iAnd (c : Fin 5) (pre : List Syl) (hi : Bool) (d a b : Nat) (det : Bool) (post : List Syl)
  /-- OR (R210). -/
  | iOr (c : Fin 5) (pre : List Syl) (hi : Bool) (d a b : Nat) (det : Bool) (post : List Syl)
  /-- XOR (R210). -/
  | iXor (c : Fin 5) (pre : List Syl) (hi : Bool) (d a b : Nat) (det : Bool) (post : List Syl)
  /-- ANDN (R210). -/
  | iAndn (c : Fin 5) (pre : List Syl) (hi : Bool) (d a b : Nat) (det : Bool) (post : List Syl)
  /-- TST (R210). -/
  | iTst (c : Fin 5) (pre : List Syl) (hi : Bool) (d a b : Nat) (det : Bool) (post : List Syl)
  /-- SHL (R211). -/
  | iShl (c : Fin 5) (pre : List Syl) (hi : Bool) (d a b : Nat) (det : Bool) (post : List Syl)
  /-- SHR (R211). -/
  | iShr (c : Fin 5) (pre : List Syl) (hi : Bool) (d a b : Nat) (det : Bool) (post : List Syl)
  /-- ASR (R211). -/
  | iAsr (c : Fin 5) (pre : List Syl) (hi : Bool) (d a b : Nat) (det : Bool) (post : List Syl)
  /-- ROL (R211). -/
  | iRol (c : Fin 5) (pre : List Syl) (hi : Bool) (d a b : Nat) (det : Bool) (post : List Syl)
  /-- SHLI (R211). -/
  | iShli (c : Fin 5) (pre : List Syl) (hi : Bool) (d a imm : Nat) (post : List Syl)
  /-- SHRI (R211). -/
  | iShri (c : Fin 5) (pre : List Syl) (hi : Bool) (d a imm : Nat) (post : List Syl)
  /-- ASRI (R211). -/
  | iAsri (c : Fin 5) (pre : List Syl) (hi : Bool) (d a imm : Nat) (post : List Syl)
  /-- ROLI (R211). -/
  | iRoli (c : Fin 5) (pre : List Syl) (hi : Bool) (d a imm : Nat) (post : List Syl)
  /-- ASLS (R211). -/
  | iAsls (c : Fin 5) (pre : List Syl) (hi : Bool) (d a imm : Nat) (post : List Syl)
  /-- ADDI (R209). -/
  | iAddi (c : Fin 5) (pre : List Syl) (hi : Bool) (d a imm : Nat) (post : List Syl)
  /-- MOVI (R212). -/
  | iMovi (c : Fin 5) (pre : List Syl) (hi : Bool) (d : Nat) (imm : Half) (post : List Syl)
  /-- MOV (R212). -/
  | iMov (c : Fin 5) (pre : List Syl) (hi : Bool) (d a b : Nat) (det : Bool) (post : List Syl)
  /-- CLZ (R213). -/
  | iClz (c : Fin 5) (pre : List Syl) (hi : Bool) (d a b : Nat) (det : Bool) (post : List Syl)
  /-- CLS (R213). -/
  | iCls (c : Fin 5) (pre : List Syl) (hi : Bool) (d a b : Nat) (det : Bool) (post : List Syl)
  /-- BFX (R214). -/
  | iBfx (c : Fin 5) (pre : List Syl) (hi : Bool) (d a imm : Nat) (post : List Syl)
  /-- BFI (R214). -/
  | iBfi (c : Fin 5) (pre : List Syl) (hi : Bool) (d a imm : Nat) (post : List Syl)
  /-- AGU_NOP (R221). -/
  | iAguNop (c : Fin 5) (pre : List Syl) (post : List Syl)
  /-- LD (R222). -/
  | iLd (c : Fin 5) (pre : List Syl) (reg : Nat) (y : Bool) (ptr amod : Nat) (post : List Syl)
  /-- ST (R222). -/
  | iSt (c : Fin 5) (pre : List Syl) (reg : Nat) (y : Bool) (ptr amod : Nat) (det : Bool) (post : List Syl)
  /-- LDXY (R222). -/
  | iLdxy (c : Fin 5) (pre : List Syl) (dx dy px mx py my : Nat) (post : List Syl)
  /-- PMOD (R222). -/
  | iPmod (c : Fin 5) (pre : List Syl) (y : Bool) (ptr amod : Nat) (post : List Syl)
  /-- PADDI (R222). -/
  | iPaddi (c : Fin 5) (pre : List Syl) (pr : Nat) (simm : Half) (post : List Syl)
  /-- AGU_AMOV (R222). -/
  | iAguAmov (c : Fin 5) (pre : List Syl) (d a : Nat) (post : List Syl)
  /-- AMOVI (R222). -/
  | iAmovi (c : Fin 5) (pre : List Syl) (d : Nat) (imm : Half) (post : List Syl)
  /-- QSET (R223). -/
  | iQset (c : Fin 5) (pre : List Syl) (q : Nat) (dir w32 : Bool) (cls sreg creg : Nat) (ext : Word) (post : List Syl)
  /-- QSTOP (R223). -/
  | iQstop (c : Fin 5) (pre : List Syl) (q : Nat) (post : List Syl)
  /-- QPOP (R224). -/
  | iQpop (c : Fin 5) (pre : List Syl) (reg q : Nat) (w det : Bool) (post : List Syl)
  /-- QPUSH (R224). -/
  | iQpush (c : Fin 5) (pre : List Syl) (reg q : Nat) (w : Bool) (post : List Syl)
  /-- QPOPM (R224). -/
  | iQpopm (c : Fin 5) (pre : List Syl) (q : Nat) (w y : Bool) (ptr amod : Nat) (post : List Syl)
  /-- QPUSHM (R224). -/
  | iQpushm (c : Fin 5) (pre : List Syl) (q : Nat) (w y : Bool) (ptr amod : Nat) (post : List Syl)
  /-- QWAIT (R225). -/
  | iQwait (c : Fin 5) (pre : List Syl) (q k : Nat) (post : List Syl)
  /-- QSYNC (R225). -/
  | iQsync (c : Fin 5) (pre : List Syl) (q : Nat) (post : List Syl)
  /-- WAIT_BUNDLE_ISSUE (R226). -/
  | waitBundleIssue (c : Fin 5)
  /-- CTL_NOP (R228). -/
  | iCtlNop (c : Fin 5) (pre : List Syl) (post : List Syl)
  /-- SKF (R229). -/
  | iSkf (c : Fin 5) (pre : List Syl) (cond q : Nat) (post : List Syl)
  /-- SKR (R229). -/
  | iSkr (c : Fin 5) (pre : List Syl) (rc r bit : Nat) (post : List Syl)
  /-- BR (R231). -/
  | iBr (c : Fin 5) (pre : List Syl) (tgt : Nat) (post : List Syl)
  /-- BRR (R231). -/
  | iBrr (c : Fin 5) (pre : List Syl) (r : Nat) (h : Bool) (post : List Syl)
  /-- CALL (R231). -/
  | iCall (c : Fin 5) (pre : List Syl) (tgt : Nat) (post : List Syl)
  /-- CALLR (R231). -/
  | iCallr (c : Fin 5) (pre : List Syl) (r : Nat) (h : Bool) (post : List Syl)
  /-- RET (R231). -/
  | iRet (c : Fin 5) (pre : List Syl) (post : List Syl)
  /-- RTI (R190). -/
  | iRti (c : Fin 5) (pre : List Syl) (post : List Syl)
  /-- DO (R232). -/
  | iDo (c : Fin 5) (pre : List Syl) (rt : Bool) (creg : Option Nat) (cimm ofs : Nat) (post : List Syl)
  /-- LBRK (R233). -/
  | iLbrk (c : Fin 5) (pre : List Syl) (lv : Nat) (post : List Syl)
  /-- REP (R235). -/
  | iRep (c : Fin 5) (pre : List Syl) (creg : Option Nat) (cimm : Nat) (post : List Syl)
  /-- REPI (R235). -/
  | iRepi (c : Fin 5) (pre : List Syl) (creg : Option Nat) (cimm : Nat) (post : List Syl)
  /-- RRC (R234). -/
  | iRrc (c : Fin 5) (pre : List Syl) (set : Bool) (k : Nat) (post : List Syl)
  /-- LIMX (R236). -/
  | iLimx (c : Fin 5) (pre : List Syl) (d : Nat) (d2 : Option Nat) (ext : Word) (post : List Syl)
  /-- EI (R237). -/
  | iEi (c : Fin 5) (pre : List Syl) (post : List Syl)
  /-- DI (R237). -/
  | iDi (c : Fin 5) (pre : List Syl) (post : List Syl)
  /-- IHOLD (R237). -/
  | iIhold (c : Fin 5) (pre : List Syl) (post : List Syl)
  /-- WAITE (R238). -/
  | iWaite (c : Fin 5) (pre : List Syl) (post : List Syl)
  /-- HALT (R238). -/
  | iHalt (c : Fin 5) (pre : List Syl) (post : List Syl)
  /-- CTX_SWITCH_EVENT (R260). -/
  | ctxSwitchEvent (e : Fin 256) (n : Fin 8) (lost : Bool)
  /-- GRV_SW (R260). -/
  | grvSw (w : By) (n : Fin 8)
  /-- QUEUE_TRIGGER (R260). -/
  | queueTrigger
  /-- GRV_IDLE (R267). -/
  | grvIdle (w : By)
  /-- GRV_CLR (R267). -/
  | grvClr (w : By)
  /-- GC_ACTIDX_CLR (R260). -/
  | gcActidxClr (w : By) (n : Fin 8)
  /-- CELL_FIRE (R247). -/
  | cellFire (c : Fin 12) (r : Fin 8)
  /-- PORT_READ_ISSUE (R255). -/
  | portReadIssue (p : Fin 8)
  /-- WRITE_PORT_MERGE_TIMEOUT (R257). -/
  | writePortMergeTimeout (p : Fin 8)
  /-- PORT_RESPONSE (R258). -/
  | portResponse (p : Fin 8) (i : Nat) (sts : Fin 16) (dem late : Bool) (data : List Byte)
  /-- PORT_REFUSED_RETRY (R258). -/
  | portRefusedRetry (p : Fin 8) (i : Nat)
  /-- ACTIVATION_DONE (R264). -/
  | activationDone
  /-- ACTIVATION_WATCHDOG (R265). -/
  | activationWatchdog
  /-- LD_START (R285). -/
  | ldStart (w : By)
  /-- LD_ABORT (R286). -/
  | ldAbort (w : By)
  /-- LOAD_READ_DONE (R285). -/
  | loadReadDone (sts : Fin 16) (ofs : Nat)
  /-- LOAD_VERIFY_DONE (R277). -/
  | loadVerifyDone
  /-- LOAD_PART_EVAL_DONE (R284). -/
  | loadPartEvalDone
  /-- LOAD_EFFECT (R285). -/
  | loadEffect
  /-- LOAD_WRITE_DONE (R285). -/
  | loadWriteDone
  /-- CSI_FRAME_START (R299). -/
  | csiFrameStart (n : Fin 2) (vc : Fin 4) (num : BitVec 16) (hdr : Fin 3)
  /-- CSI_LINE_START (R42). -/
  | csiLineStart (n : Fin 2) (vc : Fin 4)
  /-- CSI_LONG_PACKET (R300). -/
  | csiLongPacket (n : Fin 2) (vc : Fin 4) (dt : BitVec 6) (hdr : Fin 3) (wc : BitVec 16) (payload : List Byte) (crcOk : Bool) (fifo : Option Nat) (fill : Nat)
  /-- CSI_FRAME_END (R300). -/
  | csiFrameEnd (n : Fin 2) (vc : Fin 4) (hdr : Fin 3)
  /-- FRAME_END_TIMEOUT (R300). -/
  | frameEndTimeout (n : Fin 2) (k : Fin 4)
  /-- CAP_FDONE (R300). -/
  | capFdone (n : Fin 2) (k : Fin 4)
  /-- STR_REL (R296). -/
  | strRel (w : By) (n : Fin 2) (k : Fin 4) (m : BitVec 4)
  /-- CAP_CLR (R316). -/
  | capClr (w : By) (n : Fin 2) (v : Word)
  /-- ISP_SUBMIT (R310). -/
  | ispSubmit (w : By) (v : Word)
  /-- ISP_ABORT (R317). -/
  | ispAbort (w : By) (v : Word)
  /-- TQ_PUSH (R314). -/
  | tqPush (w : By) (v : Word)
  /-- TQ_FLUSH (R314). -/
  | tqFlush (w : By) (v : Word)
  /-- ISP_JOB_START (R311). -/
  | ispJobStart (sts : Fin 16)
  /-- ISP_JOB_DONE (R311). -/
  | ispJobDone
  /-- ISP_XFER_ERROR (R311). -/
  | ispXferError (sts : Fin 16)
  /-- CAM_TRIGGER (R64). -/
  | camTrigger (n : Fin 2) (arg : BitVec 8)
  /-- CAM_TRIGGER_END (R64). -/
  | camTriggerEnd (n : Fin 2)
  /-- STROBE_ARM (R323). -/
  | strobeArm (e : Fin 256) (arg : BitVec 16)
  /-- PULSE_START (R318). -/
  | pulseStart
  /-- PULSE_END (R318). -/
  | pulseEnd
  /-- BUDGET_TICK (R322). -/
  | budgetTick
  /-- EB_LOCK (R321). -/
  | ebLock (w : By)
  /-- SKPCLR (R320). -/
  | skpclr (w : By)
  /-- SKP_FAULT (R320). -/
  | skpFault
  /-- SCAN_RUN (R342). -/
  | scanRun (w : By) (v : Word)
  /-- SCAN_CANCEL (R342). -/
  | scanCancel (w : By) (v : Word)
  /-- SCAN_SUBMIT (R341). -/
  | scanSubmit (w : By) (v : Word)
  /-- SCAN_LINE_READ (R327). -/
  | scanLineRead
  /-- SCAN_READOUT_END (R329). -/
  | scanReadoutEnd
  /-- SCAN_RECORD_DONE (R337). -/
  | scanRecordDone
  /-- SCAN_FRAME_DONE (R343). -/
  | scanFrameDone
  /-- HOLD_EXPIRE (R338). -/
  | holdExpire (i : Nat)
  /-- FORWARD_RESPONSE (R340). -/
  | forwardResponse (sts : Fin 16)
  /-- FORWARD_RETRY (R340). -/
  | forwardRetry
  /-- SCAN_XFER_ERR (R342). -/
  | scanXferErr (sts : Fin 16)
  /-- RING_CONSUME (R339). -/
  | ringConsume (w : By) (v : Word)
  /-- HASH (R348). -/
  | hash (bits : Nat) (src len dst : Word)
  /-- HMAC (R348). -/
  | hmac (slot : Fin 32) (src len dst : Word)
  /-- AES (R348). -/
  | aes (slot : Fin 32) (mode : Nat) (iv src len dst : Word) (dec : Bool)
  /-- ECDSA_SIGN (R348). -/
  | ecdsaSign (slot : Fin 32) (dg dst : Word)
  /-- ECDSA_VERIFY (R348). -/
  | ecdsaVerify (slot : Fin 32) (dg sig : Word)
  /-- ECDH (R348). -/
  | ecdh (slot : Fin 32) (pub dst : Word)
  /-- KS_SET (R351). -/
  | ksSet (slot : Fin 32) (attr src : Word)
  /-- KS_WRAP (R352). -/
  | ksWrap (slot : Fin 32) (dst : Word)
  /-- KS_UNWRAP (R352). -/
  | ksUnwrap (src : Word)
  /-- KS_CLEAR (R351). -/
  | ksClear (slot : Fin 32)
  /-- KS_FREEZE (R353). -/
  | ksFreeze
  /-- KS_READPUB (R351). -/
  | ksReadpub (slot : Fin 32) (dst : Word)
  /-- OTP_READ (R355). -/
  | otpRead (word : Fin 512) (dst : Word)
  /-- OTP_PROG (R355). -/
  | otpProg (word : Fin 512) (v : Word) (supplyOk : Bool)
  /-- LC_PROD (R356). -/
  | lcProd
  /-- LC_END (R356). -/
  | lcEnd
  /-- IMG_CHECK (R362). -/
  | imgCheck (src : Word)
  /-- ARB_ADVANCE (R363). -/
  | arbAdvance (c : Fin 4)
  /-- MC_INC (R357). -/
  | mcInc (n : Fin 8)
  /-- TIME_SET (R358). -/
  | timeSet (v : Word)
  /-- WIN_SET (R372). -/
  | winSet (i : Fin 8) (v : Word)
  /-- WIN_RAISE (R372). -/
  | winRaise (i : Fin 8) (v : Word)
  /-- CRYPTO_OP_DONE (R348). -/
  | cryptoOpDone
  /-- TRNG_STARTUP_DONE (R349). -/
  | trngStartupDone
  /-- TRNG_HEALTH_FAIL (R349). -/
  | trngHealthFail
  /-- BOOT_ROM_START (R360). -/
  | bootRomStart
  /-- BOOT_UNLOCK_WINDOW_EXPIRE (R361). -/
  | bootUnlockWindowExpire
  /-- DBG_REQUEST (R365). -/
  | dbgRequest (perm : BitVec 8)
  /-- DBG_TOKEN (R365). -/
  | dbgToken (key sig : List Byte)
  /-- DBG_VERIFY_DONE (R366). -/
  | dbgVerifyDone
  /-- INTAKE_SLOT_CLOSE (R367). -/
  | intakeSlotClose (w : By) (k : Fin 4) (v : Word)
  /-- CRED_CHECK_START (R373). -/
  | credCheckStart
  /-- CRED_CHECK_DONE (R371). -/
  | credCheckDone
  /-- SV_VERIFY (R374). -/
  | svVerify (w : By)
  /-- SV_RND_READ (R383). -/
  | svRndRead (w : By)
  /-- GRANT_TIMEOUT (R377). -/
  | grantTimeout
  /-- DP_FRAME_LATCH (R387). -/
  | dpFrameLatch (p : Fin 2)
  /-- PPLL_LOCK (R389). -/
  | ppllLock (p : Fin 2)
  /-- DP_LINE_START (R391). -/
  | dpLineStart (p : Fin 2) (late : BitVec 4)
  /-- ICV_SEAL (R400). -/
  | icvSeal (w : By)
  /-- ICV_OPEN (R400). -/
  | icvOpen (w : By)
  /-- ICV_FORMAT_CHECK_DONE (R401). -/
  | icvFormatCheckDone
  /-- GUARD_DECISION (R408). -/
  | guardDecision (p : Fin 2)
  /-- GUARD_MISSED_FRAME (R408). -/
  | guardMissedFrame (p : Fin 2)
  /-- TTG_RELEASE (R409). -/
  | ttgRelease (w : By) (p : Fin 2)
  /-- FORCE_OFF (R409). -/
  | forceOff (w : By)
  /-- LAMP_SYNC (R420). -/
  | lampSync (g : Fin 16)
  /-- PWM_PERIOD_START (R420). -/
  | pwmPeriodStart (t : Fin 17)
  /-- BL_SCAN (R428). -/
  | blScan (arg : BitVec 16)
  /-- SCAN_MISS_REPEAT (R428). -/
  | scanMissRepeat
  /-- LACE_LATCH_EVENT (R445). -/
  | laceLatchEvent
  /-- CAL_NOW (R431). -/
  | calNow (w : By)
  /-- SINK_HEADROOM_LOW (R419). -/
  | sinkHeadroomLow (n : Fin 24)
  /-- LAMP_FAULT_DECLARED (R435). -/
  | lampFaultDeclared (c : Fin 156) (short : Bool)
  /-- ROW_OVERCURRENT (R435). -/
  | rowOvercurrent (r : Fin 8)
  /-- MX_ADMISSION_RESULT (R424). -/
  | mxAdmissionResult
  /-- BOOST_OVP (R426). -/
  | boostOvp (v : Fin 256)
  /-- OVPCLR (R426). -/
  | ovpclr (w : By) (v : Word)
  /-- FG_CFG_WRITE (R432). -/
  | fgCfgWrite (w : By) (g : Fin 16) (v : Word)
  /-- FG_CLR (R436). -/
  | fgClr (w : By) (m : BitVec 16)
  /-- LD_FCLR (R435). -/
  | ldFclr (w : By)
  /-- SEAM_HOLD_FALLBACK_TICK (R438). -/
  | seamHoldFallbackTick
  /-- LACE_PUSH (R446). -/
  | lacePush (w : By) (v : Word)
  /-- LACE_FLUSH (R453). -/
  | laceFlush (w : By)
  /-- LACE_TRANSACTION_START (R446). -/
  | laceTransactionStart
  /-- LACE_RESPONSE (R443). -/
  | laceResponse (bytes : List Byte)
  /-- LACE_RESPONSE_TIMEOUT (R443). -/
  | laceResponseTimeout (readback : Bool)
  /-- LACE_ONLINE_WRITE (R444). -/
  | laceOnlineWrite (w : By) (i : Fin 2) (v : Word)
  /-- LACE_POLL (R447). -/
  | lacePoll
  /-- LACE_RESPONSE_POP (R453). -/
  | laceResponsePop (w : By)
  /-- LANE_ALIGNED (R456). -/
  | laneAligned (n : Fin 4)
  /-- LANE_ALIGN_LOST (R456). -/
  | laneAlignLost (n : Fin 4) (errs : Nat)
  /-- REFLOSS (R458). -/
  | refloss
  /-- LANEPLL_LOCK (R458). -/
  | lanepllLock
  /-- LANE_LP_EVENT (R460). -/
  | laneLpEvent (arg : BitVec 16)
  /-- LN_LP_IDLE (R460). -/
  | lnLpIdle (w : By) (n : Fin 4)
  /-- LN_LP_DORMANT (R460). -/
  | lnLpDormant (w : By) (n : Fin 4)
  /-- LN_LP_EXIT (R461). -/
  | lnLpExit (w : By) (n : Fin 4)
  /-- FAR_LP_ENTRY (R460). -/
  | farLpEntry (n : Fin 4)
  /-- LP_WINDOW_END (R461). -/
  | lpWindowEnd (n : Fin 4)
  /-- LP_EXIT_DONE (R461). -/
  | lpExitDone (n : Fin 4)
  /-- PANE_SEGMENT_SEND (R465). -/
  | paneSegmentSend (n : Fin 4) (x : Nat)
  /-- PANE_REPORT_RECEIVE (R467). -/
  | paneReportReceive (n : Fin 4) (b : List Byte) (bad : Bool)
  /-- HOST_VSTART (R468). -/
  | hostVstart (n : Fin 4) (b : List Byte) (bad : Bool)
  /-- HOST_VLINE (R468). -/
  | hostVline (n : Fin 4) (b : List Byte) (bad : Bool)
  /-- HIN_REL (R468). -/
  | hinRel (w : By) (n : Fin 4) (m : BitVec 4)
  /-- WL_DATA_PACKET (R473). -/
  | wlDataPacket (n : Fin 4) (b : List Byte) (bad : Bool)
  /-- WL_ACK (R472). -/
  | wlAck (n : Fin 4) (b : List Byte)
  /-- WL_NAK (R472). -/
  | wlNak (n : Fin 4) (b : List Byte)
  /-- WL_INIT (R471). -/
  | wlInit (n : Fin 4) (b : List Byte)
  /-- WL_INIT_TIMER (R471). -/
  | wlInitTimer (n : Fin 4)
  /-- WL_REPLAY_TIMEOUT (R472). -/
  | wlReplayTimeout (n : Fin 4)
  /-- RETRAIN (R474). -/
  | retrain (w : By) (n : Fin 4)
  /-- LK_CLR (R481). -/
  | lkClr (w : By) (n : Fin 4)
  /-- APERTURE_ACCESS (R475). -/
  | apertureAccess (w : By) (n : Fin 4) (seq : BitVec 12) (cls : Fin 3) (write : Bool) (o : Fin 2048) (v : Word)
  /-- PRBS_INJ1 (R478). -/
  | prbsInj1 (w : By) (n : Fin 4) (v : Word)
  /-- PRBS_LOCK_LOST (R478). -/
  | prbsLockLost (n : Fin 4) (errs bits : Nat)
  /-- ES_START (R479). -/
  | esStart (w : By) (n : Fin 4) (v : Word)
  /-- ES_DONE (R479). -/
  | esDone (n : Fin 4) (errs : Nat)
  /-- CAN_TX_REQUEST (R485). -/
  | canTxRequest (w : By) (n : Fin 2) (m : BitVec 16)
  /-- CAN_TX_ABORT (R500). -/
  | canTxAbort (w : By) (n : Fin 2) (m : BitVec 16)
  /-- CAN_TX_DONE (R485). -/
  | canTxDone (n : Fin 2)
  /-- CAN_FRAME_RECEIVED (R486). -/
  | canFrameReceived (n : Fin 2) (f : CanFrame)
  /-- CAN_BUSOFF (R485). -/
  | canBusoff (n : Fin 2)
  /-- CAN_REC (R485). -/
  | canRec (w : By) (n : Fin 2) (v : Word)
  /-- RXF_POP (R500). -/
  | rxfPop (w : By) (n : Fin 2)
  /-- CAN_WKSTAT_CLR (R500). -/
  | canWkstatClr (w : By)
  /-- CAN_SELECTIVE_WAKE (R488). -/
  | canSelectiveWake (cause : Fin 3) (f : CanFrame)
  /-- LIN_SCHEDULE_SLOT (R489). -/
  | linScheduleSlot
  /-- LIN_HEADER_RECEIVED (R489). -/
  | linHeaderReceived (pid : BitVec 8)
  /-- LIN_WKTX (R489). -/
  | linWktx (w : By) (v : Word)
  /-- LIN_BUS_WAKE (R489). -/
  | linBusWake
  /-- WAKE_EDGE (R490). -/
  | wakeEdge (i : Fin 4) (level : Bool)
  /-- WK_CLR (R490). -/
  | wkClr (w : By)
  /-- I2C_START (R491). -/
  | i2cStart (w : By) (n : Fin 3) (adr : BitVec 12)
  /-- I2C_WRITE (R491). -/
  | i2cWrite (w : By) (n : Fin 3) (k : BitVec 8)
  /-- I2C_READ (R491). -/
  | i2cRead (w : By) (n : Fin 3) (k : BitVec 8)
  /-- I2C_STOP (R491). -/
  | i2cStop (w : By) (n : Fin 3)
  /-- I2C_TXD_WRITE (R503). -/
  | i2cTxdWrite (w : By) (n : Fin 3) (b : Byte)
  /-- I2C_RXD_READ (R503). -/
  | i2cRxdRead (w : By) (n : Fin 3)
  /-- I2C_CMD_DONE (R491). -/
  | i2cCmdDone (n : Fin 3) (outcome : Fin 4) (data : List Byte)
  /-- I2C_STUCK (R491). -/
  | i2cStuck (n : Fin 3)
  /-- I2C_TARGET_ADDRESSED (R503). -/
  | i2cTargetAddressed (n : Fin 3) (write : Bool) (data : List Byte) (k : Nat)
  /-- SPI_TXD_WRITE (R504). -/
  | spiTxdWrite (w : By) (n : Fin 2) (v : Word)
  /-- SPI_RXD_READ (R504). -/
  | spiRxdRead (w : By) (n : Fin 2)
  /-- SPI_FRAME_DONE (R492). -/
  | spiFrameDone (n : Fin 2) (v : Word)
  /-- XS_CMD_GO (R493). -/
  | xsCmdGo (w : By) (v : Word)
  /-- XSPI_CMD_DONE (R493). -/
  | xspiCmdDone (data : List Byte) (flash : List (Nat × List Byte))
  /-- XSPI_POLL_READY (R493). -/
  | xspiPollReady
  /-- GP_SET (R506). -/
  | gpSet (w : By) (m : Word)
  /-- GP_CLR (R506). -/
  | gpClr (w : By) (m : Word)
  /-- GPIO_EVENT (R495). -/
  | gpioEvent (pin : Fin 32) (arg : BitVec 16)
  /-- GPIO_INPUT_EDGE (R495). -/
  | gpioInputEdge (pin : Fin 32) (level : Bool)
  /-- ADC_SINGLE (R499). -/
  | adcSingle (w : By) (v : Word)
  /-- ADC_SCAN_START (R499). -/
  | adcScanStart
  /-- ADC_CONVERSION_DONE (R497). -/
  | adcConversionDone (x : Int) (off : Bool)
  /-- AD_RES_READ (R502). -/
  | adResRead (w : By) (n : Fin 24)
  /-- LOWBAT_SET (R509). -/
  | lowbatSet
  /-- LOWBAT_CLEAR (R509). -/
  | lowbatClear
  /-- SHED_SET (R509). -/
  | shedSet
  /-- SHED_CLEAR (R509). -/
  | shedClear
  /-- OV_SET (R509). -/
  | ovSet
  /-- OV_CLEAR (R509). -/
  | ovClear
  /-- BROWN_OUT_RESET (R511). -/
  | brownOutReset
  /-- BOR_RESTART (R511). -/
  | borRestart
  /-- POWER_ON_RESET (R512). -/
  | powerOnReset
  /-- PWR_SLEEP (R515). -/
  | pwrSleep (w : By) (n : Fin 4)
  /-- SLEEP_ENTRY_DONE (R516). -/
  | sleepEntryDone
  /-- RTC_TICK (R514). -/
  | rtcTick
  /-- RTC_ALARM (R529). -/
  | rtcAlarm
  /-- PWR_DOM_WRITE (R518). -/
  | pwrDomWrite (w : By) (d : Fin 12) (v : Word)
  /-- DOMAIN_TRANSITION_DONE (R518). -/
  | domainTransitionDone (d : Fin 12)
  /-- DOMAIN_AUTO_IDLE (R521). -/
  | domainAutoIdle (d : Fin 12)
  /-- RST_SYSR (R522). -/
  | rstSysr (w : By)
  /-- RST_CCLR (R530). -/
  | rstCclr (w : By)
  /-- RST_CORE_WRITE (R530). -/
  | rstCoreWrite (w : By) (v : Word)
  /-- WD_CTRL_WRITE (R531). -/
  | wdCtrlWrite (w : By) (v : Word)
  /-- WD_KICK (R531). -/
  | wdKick (w : By) (v : Word)
  /-- WDG_EXPIRE (R531). -/
  | wdgExpire
  /-- DRAM_TRAIN_DONE (R524). -/
  | dramTrainDone (code : BitVec 16) (crc : Word)
  /-- DRAM_REF_EVENT (R525). -/
  | dramRefEvent (arg : BitVec 16) (n : Nat)
  /-- DRAM_FORCED_REFRESH (R525). -/
  | dramForcedRefresh (n : Nat)
  /-- AWL_DISARM (R540). -/
  | awlDisarm (w : By)
  /-- AWL_CLR (R540). -/
  | awlClr (w : By)
  /-- AWL_ARM (R540). -/
  | awlArm (w : By) (i : Fin 4) (v : Word)
  /-- AWL_HOLD_RELEASE (R537). -/
  | awlHoldRelease (i : Fin 4)
  /-- PROBE_MARK (R154). -/
  | probeMark (m : BitVec 16)
  /-- TRACK_TOKEN_ADVANCE (R250). -/
  | trackTokenAdvance
  /-- PWM_SUB_PERIOD_START (R422). -/
  | pwmSubPeriodStart (t : Fin 17)
  /-- PLL_RESTART (R29). -/
  | pllRestart
  /-- PRBS_CHECKER_LOCK (R478). -/
  | prbsCheckerLock (n : Fin 4)
  /-- CAN_BUS_ERROR (R485). -/
  | canBusError (n : Fin 2) (lost : Bool) (dTec dRec : Nat)
  /-- CAN_BUSOFF_RECOVERED (R485). -/
  | canBusoffRecovered (n : Fin 2)
  /-- LIN_FRAME_DONE (R489). -/
  | linFrameDone (errs : Nat) (data : List Byte)
  deriving DecidableEq, Repr

end Sys2Proof
end

