-- ==== Sys2Proof/Decode.lean ====
section
/-! DEFINITION. Decode.lean: the words that spell commands. The table gives no row any bits: commands reach the block as bus
accesses, packets, pins and ticks, never as words, so no word spells a command. The syllables of the Rhoif-16, which the part
does fetch, are read by Machine/Rhoif.lean and written by Machine/RhoifEnc.lean. -/

namespace Sys2Proof

/-- The command a word spells by the table's bits: no row has any. -/
def decodeTableWord (_nbits _w : Nat) : Option Instr := none

end Sys2Proof
end

