-- ==== Sys2Proof/Config.lean ====
section
/-! DEFINITION. Config.lean: what one die fixes, and the values the spec leaves open.
A value the spec leaves open is a constant with no body: nothing can evaluate it, so a statement holds for each value. -/

namespace Sys2Proof

/-- The two grades of the part (00 R1). -/
inductive Grade where
  | zm816
  | zm810
  deriving DecidableEq, Repr

/-- One Reed–Solomon block as sampled: codewords, check codewords, errors and erasures (13 R335). -/
structure RsBlk where
  n : Nat
  check : Nat
  e : Nat
  f : Nat
  deriving DecidableEq, Repr

/-- A candidate the locator found and the sampler read (13 R331 to R336): SYM, score, modules, blocks, whether its checks hold,
QR level, version, INVERTED, angle, pitch, corners, the decoded segments with the ECI designator before each, GS1, and
structured append. -/
structure Cand where
  sym : Nat
  score : Nat
  modules : Nat
  blocks : List RsBlk
  checkOk : Bool
  level : Nat
  version : Nat
  inv : Bool
  angle : Nat
  pitch : Nat
  corners : List (Nat × Nat)
  segs : List (Option Nat × List Byte)
  gs1 : Bool
  append : Nat
  deriving DecidableEq, Repr

/-- What the locator proposes (13 R331): SYM, whether the image is inverted, the sides in modules, the places of its patterns in
1/16 pixel of the window (QR: the finder at the corner, the finders along the top and the left, and the alignment pattern; Data
Matrix: the corner modules of the L, along the bottom, along the left, and the fourth; Aztec: the four orientation marks
clockwise; and the centre of a pattern's middle pixel where runs are counted), the index of the angle of a linear symbol's scan
lines and two of them, the tile whose contrast scores it, and the angle and corners it reports. -/
structure SymGroup where
  sym : Nat
  inv : Bool
  cols : Nat
  rows : Nat
  pts : List (Int × Int)
  line : Nat × Int × Int
  read : Nat
  tile : Nat × Nat
  angle : Nat
  corners : List (Nat × Nat)
  deriving DecidableEq, Repr

/-- A Reed–Solomon block as laid out in a symbol: its check codewords, and the modules of each codeword in order, each with
whether the mask inverts it, the most significant bit first. -/
structure SymBlock where
  check : Nat
  words : List (List (Nat × Nat × Bool))
  deriving DecidableEq, Repr

/-- A segment of a symbol's data before R336 makes bytes of it: digits, alphanumeric values, bytes, 13-bit Kanji values, the
characters of a text mode, FNC1, or an ECI designator. -/
inductive SymSeg where
  | numeric (l : List Nat)
  | alnum (l : List Nat)
  | bytes (l : List Byte)
  | kanji (l : List Nat)
  | text (l : List Byte)
  | eci (n : Nat)
  deriving DecidableEq, Repr

/-- The data of a symbol: its segments, whether FNC1 stands first, and a structured-append header. -/
structure SymData where
  segs : List SymSeg
  gs1 : Bool
  append : Nat
  deriving DecidableEq, Repr

/-- What a scan line reads as: SYM, the values of its characters (Code 128: start, data and check; EAN/UPC: the printed digits),
the narrow bar in 1/16 pixel, and the quiet zones before and after it in 1/16 pixel. -/
structure LinRead where
  sym : Nat
  values : List Nat
  narrow : Nat
  before : Nat
  after : Nat
  deriving DecidableEq, Repr

namespace Config

/-- A byte of memory whose contents are lost: `epoch` counts the losses of its region, so each loss gives fresh
contents (07 R161, 10 R266, 19 R511). -/
opaque freeByte : Nat → Nat → Byte

/-- The `n`-th word the spec leaves open, applied to the model's counter of free values. -/
opaque freeWord : Nat → Word

/-- What the data lanes of camera receiver `n` show at a time: [0] stop state, [1] high-speed receive (12 R316). The sensor
drives them. -/
opaque capLanes : Nat → Nat → BitVec 2

/-- The OTP words the factory programs: the UID and the HUK of the die, words 0 to 11 (14 R354). -/
opaque dieWord : Nat → Word

/-- The period of the ALWAYS wake oscillator, in eight-hundredths of a µs (18 R490: 32 kHz within 20 %). -/
opaque wakeOscPeriod : Nat

/-- SHA-2 over a message, `bits` selecting the variant (14 R348 names the standard only). -/
opaque sha : Nat → List Byte → List Byte
/-- HMAC-SHA-256 of a message under a key (14 R348). -/
opaque hmac : List Byte → List Byte → List Byte
/-- AES with a key, an initial vector and data: 0 CTR, 1 GCM encryption with its tag, 2 GCM decryption (14 R348). -/
opaque aes : Nat → List Byte → List Byte → List Byte → List Byte
/-- Whether the tag of a GCM message is right (14 R348). -/
opaque aesTagOk : List Byte → List Byte → List Byte → Bool
/-- CMAC of a message under a key (14 R376). -/
opaque cmac : List Byte → List Byte → List Byte
/-- An ECDSA signature of a digest under a key; the last argument stands for the nonce drawn (14 R348). -/
opaque ecdsaSign : List Byte → List Byte → Nat → List Byte
/-- Whether an ECDSA signature of a digest verifies under a public key (14 R348). -/
opaque ecdsaVerify : List Byte → List Byte → List Byte → Bool
/-- The shared secret of ECDH between a private and a public key (14 R348). -/
opaque ecdh : List Byte → List Byte → List Byte
/-- Key wrap and unwrap under a HUK, with the head of the bundle entry: the encrypted value and the tag, and the value where the
tag is right (14 R352). -/
opaque keyWrap : List Byte → List Byte → List Byte → List Byte
opaque keyUnwrap : List Byte → List Byte → List Byte → Option (List Byte)
/-- The `n`-th conditioned random word of the TRNG (14 R349). -/
opaque trng : Nat → Word

/-- The pattern groups the locator comes upon in a window, in the order found: from the dark pixels, the symbologies enabled and
whether the inverted image is tried too. Which of them pass is 13 R331's tests. -/
opaque scanGroups : List (List Bool) → Nat → Bool → List SymGroup

/-- The Reed–Solomon blocks of a symbol as its standard lays them out: SYM, version or layers, the sides in modules, QR level and
mask or Aztec data codewords (13 R334). -/
opaque symBlocks : Nat → Nat → Nat → Nat → List Nat → List SymBlock

/-- Where an Aztec symbol of a side keeps the codewords of its mode message (13 R334). -/
opaque aztecMode : Nat → Nat → List SymBlock

/-- The errors the engine reports of a block that does not correct (13 R335 states none). -/
opaque lostErrors : List Nat → Nat

/-- The data of the corrected blocks of a symbol: SYM, version, and the data codewords of each block (13 R336). -/
opaque symData : Nat → Nat → List (List Nat) → Option SymData

/-- What a scan line's dark and light pixels read as, if anything (13 R331, R334). -/
opaque linearRead : List Bool → List LinRead

/-- The 16-bit value of the `n`-th draw of an injector's LFSR since it was loaded with `seed`: 20 R538 gives the polynomial and
neither the register's form nor the bits drawn. -/
opaque awlDraw : Nat → Nat → Nat

/-- PG_ID.TYPE and PG_VER.REV of a page, which 03 R75 gives as "by page" with no values; and PG_ID.INST of NI16 to NI25, whose
numbers do not fit its four bits. -/
opaque pageType : Nat → BitVec 8
opaque pageRev : Nat → BitVec 8
opaque pageInst : Nat → BitVec 4

end Config
end Sys2Proof
end

