-- ==== Sys2Proof/Machine/Mesh.lean ====
section
/-! DEFINITION. Machine/Mesh.lean: where the network interfaces stand on the mesh, and routes. -/

namespace Sys2Proof.Machine

/-! ### The mesh: placement and routes (01 R22, R23; 06 R134, R135, R567) -/

/-- Router column, router row and local port (0 A, 1 B) of each NI (01 R23). -/
def niPlaces : List (Nat × Nat × Nat) :=
  [(0, 0, 0), (0, 0, 1), (1, 0, 0), (1, 0, 1), (2, 0, 0), (2, 0, 1), (3, 0, 0), (3, 0, 1), (0, 1, 0), (0, 1, 1),
   (1, 1, 0), (1, 1, 1), (2, 1, 0), (2, 1, 1), (3, 1, 0), (3, 1, 1), (0, 2, 0), (0, 2, 1), (1, 2, 0), (1, 2, 1),
   (2, 2, 0), (2, 2, 1), (3, 2, 0), (3, 2, 1), (0, 3, 0), (1, 3, 0)]

def niPlace (n : Nat) : Nat × Nat × Nat := niPlaces.getD n (0, 0, 0)

/-- Whether NIn is present on the grade (01 R26). -/
def niPresent (g : Grade) (n : Nat) : Bool := decide (n < 26) && !(decide (g = .zm810) && (n == 22 || n == 5))

/-- The present NI at a local port of a router. -/
def niAt (g : Grade) (x y port : Nat) : Option Nat :=
  (List.range 26).find? fun n => decide (niPlace n = (x, y, port)) && niPresent g n

/-- Power domain of the block behind NIn (01 R23). -/
def niDom (n : Nat) : Nat :=
  if n = 0 ∨ n = 5 then 10 else if n = 2 ∨ n = 3 ∨ n = 4 then 9 else if n = 8 ∨ n = 9 ∨ n = 10 then 7
  else if n = 11 ∨ n = 20 then 11 else if n = 13 then 2 else if n = 19 then 3 else if n = 21 then 4
  else if n = 22 then 5 else if n = 14 then 0 else if n = 16 then 8
  else if n = 17 ∨ n = 18 ∨ n = 24 ∨ n = 25 then 6 else 1

/-- Code `k` of a route. -/
def rtCode (rt k : Nat) : Nat := (rt >>> (3 * k)) % 8

/-- One mesh hop from (x, y): none off the grid (codes 0 north, 1 east, 2 south, 3 west). -/
def meshHop (x y c : Nat) : Option (Nat × Nat) :=
  if c = 0 then (if y = 0 then none else some (x, y - 1))
  else if c = 1 then (if x = 3 then none else some (x + 1, y))
  else if c = 2 then (if y = 3 then none else some (x, y + 1))
  else if c = 3 then (if x = 0 then none else some (x - 1, y))
  else none

/-- Walk the codes of a route from (x, y): the routers left with the code taken at each, and the end router and local
port. None where the route breaks R135. -/
def walkRoute (rt : Nat) : Nat → Nat → Nat → Nat → Option (List (Nat × Nat × Nat) × Nat × Nat × Nat)
  | 0, _, _, _ => none
  | n + 1, k, x, y =>
    let c := rtCode rt k
    if c = 4 ∨ c = 5 then (if n = 0 then some ([], x, y, c - 4) else none)
    else match meshHop x y c with
      | none => none
      | some (x', y') =>
        match walkRoute rt n (k + 1) x' y' with
        | none => none
        | some (l, e) => some ((x, y, c) :: l, e)

/-- No west after a non-west mesh code, no north with a south (06 R135). -/
def routeOrder (codes : List Nat) : Bool :=
  let mesh := codes.filter fun c => decide (c < 4)
  let rest := mesh.dropWhile fun c => c == 3
  !rest.contains 3 && !(rest.contains 0 && rest.contains 2)

/-- A route of NIn: its path and the NI it ends at, where R135 accepts it. -/
def routeOf (g : Grade) (n nc rt : Nat) : Option (List (Nat × Nat × Nat) × Nat × Nat × Nat × Nat) :=
  if nc = 0 ∨ 8 < nc then none
  else if routeOrder ((List.range nc).map (rtCode rt)) = false then none
  else
    let p := niPlace n
    match walkRoute rt nc 0 p.1 p.2.1 with
    | none => none
    | some (l, x, y, port) =>
      match niAt g x y port with
      | none => none
      | some t => some (l, x, y, port, t)

/-- The codes of the default route from NIn to NIi (06 R567). -/
def defaultCodes (n i : Nat) : List Nat :=
  let a := niPlace n
  let b := niPlace i
  List.replicate (a.1 - b.1) 3 ++ List.replicate (a.2.1 - b.2.1) 0 ++ List.replicate (b.2.1 - a.2.1) 2 ++
    List.replicate (b.1 - a.1) 1 ++ [4 + b.2.2]

def packCodes : List Nat → Nat
  | [] => 0
  | c :: t => c + 8 * packCodes t

/-- The route entry i of NIn right after reset (06 R567). -/
def rteDefault (g : Grade) (n i : Nat) : Nat :=
  if niPresent g n = true ∧ niPresent g i = true then
    let cs := defaultCodes n i
    0xF0000000 + cs.length <<< 24 + packCodes cs
  else 0

/-- The link directions along a route, as R119 (05) names them: injection, mesh links, ejection; `rev` gives the same links
in the opposite direction. -/
def linkDirs (g : Grade) (n nc rt : Nat) (rev : Bool) : List Nat :=
  match routeOf g n nc rt with
  | none => []
  | some (l, x, y, port, _) =>
    let p := niPlace n
    if rev then
      (8 * (4 * p.2.1 + p.1) + 4 + p.2.2) ::
        ((l.map fun h => match meshHop h.1 h.2.1 h.2.2 with
          | some (x', y') => 8 * (4 * y' + x') + (h.2.2 + 2) % 4
          | none => 0) ++ [8 * (4 * y + x) + 6 + port])
    else
      (8 * (4 * p.2.1 + p.1) + 6 + p.2.2) ::
        ((l.map fun h => 8 * (4 * h.2.1 + h.1) + h.2.2) ++ [8 * (4 * y + x) + 4 + port])

end Sys2Proof.Machine
end

