-- ==== Sys2Proof/Machine/RegMap.lean ====
section
/-! DEFINITION. Machine/RegMap.lean: the registers of each block, as the tables of the spec give them.
A row gives where a register stands in its page, what it reads at reset and which of its bits a write sets. Bits that
perform an action when written (WO) and status bits (RO) are in no mask: the block's own operations act on them. -/

namespace Sys2Proof.Machine

/-- The kinds of register page (03 R73; 10 R267; 12 R317; 13 R344; 14 R381). -/
inductive Blk where
  | ltb
  | evr
  | ten
  | adm
  | pwr
  | rst
  | wdg
  | sys
  | clk
  | router
  | ni
  | prb
  | stat
  | awl
  | core
  | grv
  | gctx
  | ald
  | cap
  | isp
  | isp1
  | isp2
  | isp3
  | scn
  | sill
  | sec
  | seck
  | svc
  | secin
  | dp
  | ttg
  | icv
  | ld
  | mx
  | bld
  | cal
  | fg
  | lace
  | lane
  | link
  | pane
  | can
  | lin
  | adc
  | i2c
  | spi
  | xspi
  | gpio
  | dram
  deriving DecidableEq, Repr

/-- A field whose values are limited: highest and lowest bit, lowest and highest value (03 R86). -/
structure Rng where
  hi : Nat
  lo : Nat
  min : Nat
  max : Nat
  deriving DecidableEq, Repr

/-- `cnt` registers from offset `off` on, `stride` bytes apart: reset value, and the bits with access RW, RWS, RWL and
W1C (00 R13). -/
structure RegRow where
  off : Nat
  stride : Nat
  cnt : Nat
  rst : Nat
  rw : Nat
  sh : Nat
  lk : Nat
  wc : Nat
  rng : List Rng
  deriving DecidableEq, Repr

/-- Whether a row names the register at offset `o`. -/
def RegRow.hits (r : RegRow) (o : Nat) : Bool :=
  decide (r.off ≤ o) && (o - r.off) % r.stride == 0 && decide ((o - r.off) / r.stride < r.cnt)

/-- Registers of the LTB page (R69). -/
def rows_ltb : List RegRow :=
  [⟨0x40, 0x4, 1, 0x4, 0x0, 0x137, 0x0, 0x0, [⟨2, 0, 0, 4⟩]⟩,
   ⟨0x44, 0x4, 1, 0xC, 0x0, 0x0, 0x0, 0x0, []⟩,
   ⟨0x50, 0x4, 1, 0x2EE, 0x0, 0xFFF, 0x0, 0x0, [⟨31, 0, 16, 4095⟩]⟩,
   ⟨0x54, 0x4, 1, 0x2EE, 0x0, 0x0, 0x0, 0x0, []⟩,
   ⟨0x58, 0x4, 1, 0x4571C7, 0x0, 0xFFFFFFF, 0x0, 0x0, [⟨27, 0, 4096, 268435455⟩]⟩,
   ⟨0x5C, 0x4, 1, 0x379, 0xFFF, 0x0, 0x0, 0x0, [⟨11, 0, 16, 4095⟩]⟩,
   ⟨0x60, 0x4, 1, 0x5DC, 0xFFF, 0x0, 0x0, 0x0, []⟩,
   ⟨0x64, 0x4, 1, 0x379, 0x0, 0x0, 0x0, 0x0, []⟩,
   ⟨0x80, 0x10, 2, 0x0, 0x1, 0x0, 0x0, 0x0, []⟩,
   ⟨0x100, 0x4, 32, 0x0, 0x0, 0x0, 0xFFFFFFFF, 0x0, []⟩,
   ⟨0x400, 0x8, 256, 0x0, 0x0, 0x0, 0x0, 0x0, []⟩,
   ⟨0x404, 0x8, 256, 0x0, 0x0, 0x0, 0x0, 0x0, []⟩]

/-- Registers of the EVR page (R88). -/
def rows_evr : List RegRow :=
  [⟨0x400, 0x4, 224, 0x7, 0x0, 0x0, 0x0, 0x0, []⟩]

/-- Registers of the TEN page (R98). -/
def rows_ten : List RegRow :=
  [⟨0x48, 0x4, 1, 0x0, 0x0, 0x0, 0x1F1F1F1F, 0x0, []⟩,
   ⟨0x100, 0x20, 1, 0x100101, 0x0, 0x0, 0xFF3F010F, 0x0, [⟨21, 16, 1, 63⟩, ⟨3, 0, 1, 15⟩]⟩,
   ⟨0x120, 0x20, 15, 0x100001, 0x0, 0x0, 0xFF3F010F, 0x0, [⟨21, 16, 1, 63⟩, ⟨3, 0, 1, 15⟩]⟩,
   ⟨0x104, 0x20, 1, 0xFF404040, 0x0, 0x0, 0xFF7F7F7F, 0x0, [⟨22, 16, 0, 64⟩, ⟨14, 8, 0, 64⟩, ⟨6, 0, 0, 64⟩]⟩,
   ⟨0x124, 0x20, 15, 0x0, 0x0, 0x0, 0xFF7F7F7F, 0x0, [⟨22, 16, 0, 64⟩, ⟨14, 8, 0, 64⟩, ⟨6, 0, 0, 64⟩]⟩,
   ⟨0x108, 0x20, 1, 0x10000FF, 0x0, 0x0, 0x1FF00FF, 0x0, [⟨24, 16, 0, 256⟩]⟩,
   ⟨0x128, 0x20, 15, 0x0, 0x0, 0x0, 0x1FF00FF, 0x0, [⟨24, 16, 0, 256⟩]⟩,
   ⟨0x10C, 0x20, 1, 0xFFFFFFF, 0x0, 0x0, 0xFFFFFFF, 0x0, []⟩,
   ⟨0x12C, 0x20, 15, 0x0, 0x0, 0x0, 0xFFFFFFF, 0x0, []⟩,
   ⟨0x110, 0x20, 1, 0x0, 0x0, 0x0, 0x0, 0x0, []⟩,
   ⟨0x130, 0x20, 15, 0x0, 0x0, 0x0, 0xFFFF, 0x0, []⟩,
   ⟨0x300, 0x4, 28, 0x0, 0x0, 0x0, 0xFFFFFFFF, 0x0, []⟩,
   ⟨0x400, 0x8, 8, 0x0, 0x0, 0x0, 0x0, 0x0, []⟩,
   ⟨0x404, 0x8, 8, 0x0, 0x0, 0x0, 0x0, 0x0, []⟩,
   ⟨0x440, 0x8, 120, 0x0, 0x0, 0x0, 0xFFFFF000, 0x0, []⟩,
   ⟨0x444, 0x8, 120, 0xC, 0x0, 0x0, 0x8000071F, 0x0, []⟩]

/-- Registers of the ADM page (R112). -/
def rows_adm : List RegRow :=
  [⟨0x48, 0x4, 1, 0x56CE, 0x0, 0x0, 0x0, 0x0, []⟩,
   ⟨0x4C, 0x4, 1, 0x0, 0xFFF0000, 0x0, 0x0, 0x0, []⟩,
   ⟨0x400, 0x40, 16, 0x0, 0xF0FFFFFF, 0x0, 0x0, 0x0, []⟩,
   ⟨0x404, 0x40, 16, 0x0, 0xFFF0FFF, 0x0, 0x0, 0x0, []⟩,
   ⟨0x408, 0x40, 16, 0x0, 0xFFFFFFFF, 0x0, 0x0, 0x0, []⟩,
   ⟨0x40C, 0x40, 16, 0x0, 0x7F000001, 0x0, 0x0, 0x0, []⟩]

/-- Registers of the PWR page (R529). -/
def rows_pwr : List RegRow :=
  [⟨0x48, 0x4, 1, 0x0, 0x107, 0x0, 0x0, 0x0, []⟩,
   ⟨0x50, 0x4, 1, 0x0, 0xFFFFFFFF, 0x0, 0x0, 0x0, []⟩,
   ⟨0x58, 0x4, 1, 0xFFFFF, 0x0, 0x0, 0x0, 0x0, []⟩,
   ⟨0x80, 0x4, 2, 0x640000, 0x0, 0x0, 0x0, 0x0, []⟩,
   ⟨0x88, 0x4, 10, 0x640033, 0x0, 0x0, 0x0, 0x0, []⟩]

/-- Registers of the RST page (R530). -/
def rows_rst : List RegRow :=
  [⟨0x48, 0x4, 1, 0x0, 0x0, 0x0, 0x0, 0x0, []⟩]

/-- Registers of the WDG page (R531). -/
def rows_wdg : List RegRow :=
  [⟨0x40, 0x4, 1, 0x3E80000, 0x0, 0x0, 0x0, 0x0, []⟩]

/-- Registers of the SYS page (R91). -/
def rows_sys : List RegRow := []

/-- Registers of the CLK page (R29). -/
def rows_clk : List RegRow := []

/-- Registers of the ROUTER pages (R156). -/
def rows_router : List RegRow := []

/-- Registers of the NI pages (R157). -/
def rows_ni : List RegRow :=
  [⟨0x48, 0x4, 1, 0x10000, 0xFFFFFF, 0x0, 0x0, 0x0, [⟨23, 0, 49152, 16777215⟩]⟩,
   ⟨0x4C, 0x4, 1, 0x3, 0xFF, 0x0, 0x0, 0x0, [⟨7, 0, 0, 3⟩]⟩]

/-- Registers of the PRB page (R158). -/
def rows_prb : List RegRow :=
  [⟨0x40, 0x4, 1, 0x0, 0x3, 0x0, 0x0, 0x0, []⟩,
   ⟨0x48, 0x4, 1, 0x0, 0x7FFC, 0x0, 0x0, 0x0, []⟩,
   ⟨0x104, 0x20, 8, 0x0, 0xFF3FFF00, 0x0, 0x0, 0x0, []⟩,
   ⟨0x108, 0x20, 8, 0x0, 0xFFFFFFFF, 0x0, 0x0, 0x0, []⟩,
   ⟨0x10C, 0x20, 8, 0x0, 0xFFFFFFFF, 0x0, 0x0, 0x0, []⟩]

/-- Registers of the STAT page (R155). -/
def rows_stat : List RegRow :=
  [⟨0x40, 0x4, 1, 0x0, 0x1, 0x0, 0x0, 0x0, []⟩]

/-- Registers of the AWL page (R540). -/
def rows_awl : List RegRow :=
  [⟨0x104, 0x20, 4, 0x0, 0xFFFFFFFF, 0x0, 0x0, 0x0, []⟩,
   ⟨0x108, 0x20, 4, 0x0, 0x1F, 0x0, 0x0, 0x0, []⟩,
   ⟨0x10C, 0x20, 4, 0x1, 0xFFFFFFFF, 0x0, 0x0, 0x0, []⟩,
   ⟨0x110, 0x20, 4, 0xACE1, 0xFFFFFFFF, 0x0, 0x0, 0x0, []⟩,
   ⟨0x114, 0x20, 4, 0x0, 0xFFFF, 0x0, 0x0, 0x0, []⟩,
   ⟨0x118, 0x20, 4, 0x100, 0xFFFF, 0x0, 0x0, 0x0, []⟩]

/-- Registers of the CORE pages (R192). -/
def rows_core : List RegRow :=
  [⟨0x44, 0x4, 1, 0x2, 0x0, 0x0, 0x0, 0x0, []⟩,
   ⟨0x48, 0x4, 1, 0x0, 0xFFFF, 0x0, 0x0, 0x0, []⟩,
   ⟨0x50, 0x4, 1, 0x0, 0xFFFFFF, 0x0, 0x0, 0x0, []⟩]

/-- Registers of the GRV page (R267). -/
def rows_grv : List RegRow :=
  [⟨0x44, 0x4, 1, 0x8, 0x0, 0x0, 0x0, 0x0, []⟩,
   ⟨0x58, 0x4, 1, 0x0, 0x0, 0x0, 0xFFFF, 0x0, []⟩,
   ⟨0x5C, 0x4, 1, 0x8, 0x0, 0x0, 0x0, 0x0, []⟩]

/-- Registers of the GCTX pages (R268). -/
def rows_gctx : List RegRow :=
  [⟨0x44, 0x4, 1, 0x0, 0xFFFFFF, 0x0, 0x0, 0x0, []⟩,
   ⟨0x48, 0x4, 1, 0x0, 0x10F, 0x0, 0x0, 0x0, []⟩,
   ⟨0x60, 0x20, 8, 0x0, 0x0, 0xFFFFFFFF, 0x0, 0x0, []⟩,
   ⟨0x64, 0x20, 8, 0x0, 0x0, 0xFFFFFFFF, 0x0, 0x0, []⟩,
   ⟨0x68, 0x20, 8, 0x0, 0x0, 0xFFFFFF, 0x0, 0x0, []⟩,
   ⟨0x6C, 0x20, 8, 0x0, 0x0, 0xFFF0037, 0x0, 0x0, [⟨5, 4, 0, 2⟩]⟩]

/-- Registers of the ALD page (R290). -/
def rows_ald : List RegRow :=
  [⟨0x48, 0x4, 1, 0x0, 0xFFFFFFF0, 0x0, 0x0, 0x0, []⟩,
   ⟨0x4C, 0x4, 1, 0x0, 0x3FFFF, 0x0, 0x0, 0x0, [⟨17, 0, 32, 262143⟩]⟩,
   ⟨0x50, 0x4, 1, 0x0, 0xFF, 0x0, 0x0, 0x0, []⟩,
   ⟨0x54, 0x4, 1, 0x100, 0x11F, 0x0, 0x0, 0x0, []⟩,
   ⟨0x58, 0x4, 1, 0x0, 0xFFF, 0x0, 0x0, 0x0, []⟩,
   ⟨0x5C, 0x4, 1, 0x0, 0x0, 0x0, 0x1F01, 0x0, []⟩,
   ⟨0x60, 0x4, 4, 0x0, 0xFFFFFFFF, 0x0, 0x0, 0x0, []⟩]

/-- Registers of the CAP pages (R316). -/
def rows_cap : List RegRow :=
  [⟨0x40, 0x4, 1, 0x1, 0x107, 0x0, 0x0, 0x0, []⟩,
   ⟨0x48, 0x4, 1, 0x50, 0xFF, 0x0, 0x0, 0x0, [⟨7, 0, 8, 250⟩]⟩,
   ⟨0x54, 0x4, 1, 0x0, 0xFFF, 0x0, 0x0, 0x0, []⟩,
   ⟨0x100, 0x40, 4, 0x0, 0x0, 0x3373F31, 0x0, 0x0, []⟩,
   ⟨0x104, 0x40, 4, 0x0, 0x0, 0xFFF1FFF, 0x0, 0x0, [⟨12, 0, 1, 8191⟩, ⟨27, 16, 1, 4095⟩]⟩,
   ⟨0x108, 0x40, 4, 0x0, 0x0, 0xFFFF, 0x0, 0x0, []⟩,
   ⟨0x10C, 0x40, 4, 0x0, 0x0, 0xFFFFFFFF, 0x0, 0x0, []⟩,
   ⟨0x110, 0x40, 4, 0x0, 0x0, 0xFFFFFFF0, 0x0, 0x0, []⟩,
   ⟨0x114, 0x40, 4, 0x0, 0x0, 0xFFFFFFF0, 0x0, 0x0, []⟩,
   ⟨0x118, 0x40, 4, 0x0, 0x0, 0xFFFFFFF0, 0x0, 0x0, []⟩,
   ⟨0x11C, 0x40, 4, 0x0, 0x0, 0xFFFFFFF0, 0x0, 0x0, []⟩,
   ⟨0x120, 0x40, 4, 0x0, 0x0, 0xFFFFFFF0, 0x0, 0x0, []⟩,
   ⟨0x124, 0x40, 4, 0x0, 0x0, 0xFFFFFFF0, 0x0, 0x0, []⟩,
   ⟨0x128, 0x40, 4, 0x0, 0x0, 0xFFFFFFF0, 0x0, 0x0, []⟩,
   ⟨0x12C, 0x40, 4, 0x0, 0x0, 0xFFFFFFF0, 0x0, 0x0, []⟩]

/-- Registers of the ISP page (R317). -/
def rows_isp : List RegRow :=
  [⟨0x40, 0x4, 1, 0x0, 0x300, 0x0, 0x0, 0x0, []⟩,
   ⟨0x48, 0x4, 1, 0x0, 0xFFFFFFFF, 0x0, 0x0, 0x0, []⟩,
   ⟨0x50, 0x4, 2, 0x0, 0xFFFFFFFF, 0x0, 0x0, 0x0, []⟩,
   ⟨0x60, 0x4, 1, 0x0, 0xFFFF, 0x0, 0x0, 0x0, []⟩,
   ⟨0x64, 0x4, 1, 0x0, 0xF, 0x0, 0x0, 0x0, []⟩,
   ⟨0x68, 0x4, 2, 0x0, 0xFFFFFFFF, 0x0, 0x0, 0x0, []⟩,
   ⟨0x70, 0x4, 2, 0x0, 0xFFFFFF, 0x0, 0x0, 0x0, []⟩,
   ⟨0x78, 0x4, 1, 0x0, 0xFFFFFFFF, 0x0, 0x0, 0x0, []⟩,
   ⟨0x7C, 0x4, 1, 0x0, 0x3, 0x0, 0x0, 0x0, []⟩,
   ⟨0x100, 0xC, 32, 0x0, 0x0, 0xFFFF, 0x0, 0x0, []⟩,
   ⟨0x104, 0xC, 32, 0x0, 0x0, 0xFFFFFF, 0x0, 0x0, []⟩,
   ⟨0x108, 0xC, 32, 0x0, 0x0, 0xFFFFF, 0x0, 0x0, []⟩,
   ⟨0x280, 0x4, 1, 0x1, 0x0, 0xFFFFFFFF, 0x0, 0x0, [⟨31, 0, 1, 16⟩]⟩,
   ⟨0x284, 0x4, 2, 0x0, 0x0, 0xFFFFFFFF, 0x0, 0x0, []⟩,
   ⟨0x28C, 0x4, 1, 0x0, 0x0, 0x3, 0x0, 0x0, []⟩,
   ⟨0x290, 0x4, 2, 0x0, 0x0, 0xFFFFFFFF, 0x0, 0x0, []⟩,
   ⟨0x298, 0x4, 2, 0x0, 0x0, 0xFFFFFF, 0x0, 0x0, []⟩,
   ⟨0x2A0, 0x4, 1, 0x0, 0x0, 0xFFFFFF, 0x0, 0x0, []⟩,
   ⟨0x2A4, 0x4, 1, 0x0, 0x0, 0xFFFFFFFF, 0x0, 0x0, [⟨31, 0, 0, 512⟩]⟩,
   ⟨0x2A8, 0x4, 1, 0x0, 0x0, 0xFFFFFF, 0x0, 0x0, []⟩,
   ⟨0x2C0, 0x4, 16, 0x0, 0x0, 0xFFFFFFFF, 0x0, 0x0, []⟩,
   ⟨0x300, 0x4, 1, 0x0, 0x0, 0xFFFFFFFF, 0x0, 0x0, []⟩,
   ⟨0x304, 0x4, 1, 0x0, 0x0, 0x1FFF1FFF, 0x0, 0x0, [⟨12, 0, 0, 4096⟩, ⟨28, 16, 0, 4096⟩]⟩,
   ⟨0x308, 0x4, 1, 0x0, 0x0, 0x1FFF, 0x0, 0x0, [⟨12, 0, 0, 4096⟩]⟩,
   ⟨0x340, 0x10, 3, 0x1000, 0x0, 0xFFFF, 0x0, 0x0, []⟩,
   ⟨0x340, 0x4, 9, 0x0, 0x0, 0xFFFF, 0x0, 0x0, []⟩,
   ⟨0x364, 0x4, 3, 0x0, 0x0, 0xFFFFFF, 0x0, 0x0, []⟩,
   ⟨0x380, 0x10, 3, 0x1000, 0x0, 0xFFFF, 0x0, 0x0, []⟩,
   ⟨0x380, 0x4, 9, 0x0, 0x0, 0xFFFF, 0x0, 0x0, []⟩,
   ⟨0x3A4, 0x4, 3, 0x0, 0x0, 0xFFFFFF, 0x0, 0x0, []⟩,
   ⟨0x3C0, 0x4, 1, 0x0, 0x0, 0xFFFFFFFF, 0x0, 0x0, []⟩,
   ⟨0x3C4, 0x10, 3, 0x1000, 0x0, 0xFFFF, 0x0, 0x0, []⟩,
   ⟨0x3C4, 0x4, 9, 0x0, 0x0, 0xFFFF, 0x0, 0x0, []⟩,
   ⟨0x3E8, 0x4, 3, 0x0, 0x0, 0xFFFFFFFF, 0x0, 0x0, []⟩]

/-- Registers of the ISP1 page (R317). -/
def rows_isp1 : List RegRow :=
  [⟨0x400, 0x4, 512, 0x0, 0x0, 0xFFF1FFF, 0x0, 0x0, []⟩]

/-- Registers of the ISP2 page (R317). -/
def rows_isp2 : List RegRow :=
  [⟨0x400, 0x4, 722, 0x0, 0x0, 0xFFFFFFFF, 0x0, 0x0, []⟩,
   ⟨0xF48, 0x4, 1, 0x0, 0x0, 0xFFFF, 0x0, 0x0, []⟩]

/-- Registers of the ISP3 page (R317). -/
def rows_isp3 : List RegRow :=
  [⟨0x100, 0x4, 72, 0x0, 0x0, 0xFFFFFFFF, 0x0, 0x0, []⟩,
   ⟨0x400, 0x4, 512, 0x0, 0x0, 0xFFF0FFF, 0x0, 0x0, []⟩,
   ⟨0xC00, 0x4, 1, 0x0, 0x0, 0xFFF, 0x0, 0x0, []⟩,
   ⟨0xD00, 0x4, 128, 0x0, 0x0, 0x3FF03FF, 0x0, 0x0, []⟩]

/-- Registers of the SCN page (R344). -/
def rows_scn : List RegRow :=
  [⟨0x40, 0x4, 1, 0x2000, 0x3730, 0x0, 0x0, 0x0, [⟨13, 12, 0, 2⟩]⟩,
   ⟨0x48, 0x4, 1, 0x1, 0x31, 0x0, 0x0, 0x0, []⟩,
   ⟨0x4C, 0x4, 1, 0x2000, 0x10FF3FF, 0x0, 0x0, 0x0, [⟨15, 12, 0, 8⟩]⟩,
   ⟨0x50, 0x4, 1, 0x0, 0x1FFF1FFF, 0x0, 0x0, 0x0, []⟩,
   ⟨0x54, 0x4, 1, 0x0, 0xFFF0FFF, 0x0, 0x0, 0x0, []⟩,
   ⟨0x58, 0x4, 1, 0x10, 0xFFFF, 0x0, 0x0, 0x0, []⟩,
   ⟨0x5C, 0x4, 1, 0x80000, 0xF011F, 0x0, 0x0, 0x0, [⟨19, 16, 0, 8⟩]⟩,
   ⟨0x60, 0x4, 1, 0x3E8, 0x7FF, 0x0, 0x0, 0x0, [⟨10, 0, 0, 2000⟩]⟩,
   ⟨0x64, 0x4, 1, 0x0, 0xFFFFFFFF, 0x0, 0x0, 0x0, []⟩,
   ⟨0x68, 0x4, 1, 0x9, 0x1FF0F, 0x0, 0x0, 0x0, [⟨16, 8, 1, 256⟩]⟩,
   ⟨0x84, 0x4, 1, 0x0, 0xFFFFFFFF, 0x0, 0x0, 0x0, []⟩,
   ⟨0x88, 0x4, 1, 0x0, 0xFFFFFFFF, 0x0, 0x0, 0x0, []⟩,
   ⟨0x8C, 0x4, 1, 0x0, 0xFFF1FFF, 0x0, 0x0, 0x0, []⟩,
   ⟨0x90, 0x4, 1, 0x0, 0xFFFF0003, 0x0, 0x0, 0x0, []⟩,
   ⟨0xA0, 0x4, 8, 0x1000100, 0xFFFFFFFF, 0x0, 0x0, 0x0, []⟩]

/-- Registers of the SILL page (R345). -/
def rows_sill : List RegRow :=
  [⟨0x48, 0x4, 1, 0x0, 0x3FF, 0x0, 0x0, 0x0, [⟨9, 0, 0, 1000⟩]⟩,
   ⟨0x4C, 0x4, 1, 0x0, 0xFFFFFFFF, 0x0, 0x0, 0x0, []⟩,
   ⟨0x50, 0x4, 1, 0x0, 0x1FFFFF, 0x0, 0x0, 0x0, [⟨20, 0, 0, 2000000⟩]⟩,
   ⟨0x100, 0x8, 16, 0x1, 0xFFF07FF, 0x0, 0x0, 0x0, [⟨10, 0, 1, 2000⟩]⟩,
   ⟨0x104, 0x8, 16, 0x0, 0x3FF, 0x0, 0x0, 0x0, [⟨9, 0, 0, 1000⟩]⟩]

/-- Registers of the SEC page (R382). -/
def rows_sec : List RegRow :=
  [⟨0x44, 0x4, 1, 0xFF, 0x0, 0x0, 0x0, 0x0, []⟩,
   ⟨0x4C, 0x4, 1, 0x0, 0x7, 0x0, 0x0, 0x0, []⟩,
   ⟨0x54, 0x4, 1, 0x0, 0x0, 0x0, 0xFFFFFFFF, 0x0, []⟩,
   ⟨0x58, 0x4, 1, 0x14, 0x0, 0x0, 0xFFFF, 0x0, [⟨15, 0, 1, 65535⟩]⟩]

/-- Registers of the SECK page (R381). -/
def rows_seck : List RegRow :=
  [⟨0x44, 0x4, 8, 0x0, 0xFFFFFFFF, 0x0, 0x0, 0x0, []⟩]

/-- Registers of the SVC page (R383). -/
def rows_svc : List RegRow :=
  [⟨0x44, 0x4, 1, 0x2, 0x0, 0x0, 0x0, 0x0, []⟩,
   ⟨0x48, 0x4, 1, 0x0, 0x1FF, 0x0, 0x0, 0x0, [⟨8, 0, 1, 448⟩]⟩,
   ⟨0x400, 0x4, 112, 0x0, 0xFFFFFFFF, 0x0, 0x0, 0x0, []⟩]

/-- Registers of the SECIN page (R384). -/
def rows_secin : List RegRow := []

/-- Registers of the DP pages (R413). -/
def rows_dp : List RegRow :=
  [⟨0x40, 0x4, 1, 0x0, 0x0, 0x33333, 0x0, 0x0, [⟨1, 0, 0, 2⟩, ⟨9, 8, 0, 2⟩]⟩,
   ⟨0x4C, 0x4, 1, 0x0, 0x0, 0xFFFFFFF, 0x0, 0x0, []⟩,
   ⟨0x50, 0x4, 1, 0x0, 0x0, 0x1FFF1FFF, 0x0, 0x0, []⟩,
   ⟨0x54, 0x4, 1, 0x0, 0x0, 0x1FFF1FFF, 0x0, 0x0, []⟩,
   ⟨0x58, 0x4, 1, 0x0, 0x0, 0xFFF0FFF, 0x0, 0x0, []⟩,
   ⟨0x5C, 0x4, 1, 0x0, 0x0, 0xFFF0FFF, 0x0, 0x0, []⟩,
   ⟨0x60, 0x4, 1, 0x0, 0x0, 0x3FFFFFFF, 0x0, 0x0, []⟩,
   ⟨0x64, 0x4, 1, 0xE4, 0x0, 0xFF, 0x0, 0x0, []⟩,
   ⟨0x6C, 0x4, 1, 0x14, 0x0, 0xFF, 0x0, 0x0, [⟨7, 0, 1, 255⟩]⟩,
   ⟨0x100, 0x20, 4, 0xFF0000, 0x0, 0x3FF01F1, 0x0, 0x0, [⟨25, 24, 0, 2⟩]⟩,
   ⟨0x104, 0x20, 4, 0x0, 0x0, 0xFFFFFFFF, 0x0, 0x0, []⟩,
   ⟨0x108, 0x20, 4, 0x0, 0x0, 0xFFFFFFFF, 0x0, 0x0, []⟩,
   ⟨0x10C, 0x20, 4, 0x0, 0x0, 0xFFFFFFFF, 0x0, 0x0, []⟩,
   ⟨0x110, 0x20, 4, 0x0, 0x0, 0xFFF1FFF, 0x0, 0x0, []⟩,
   ⟨0x114, 0x20, 4, 0x0, 0x0, 0xFFF1FFF, 0x0, 0x0, []⟩,
   ⟨0x118, 0x20, 4, 0x0, 0x0, 0xFFF1FFF, 0x0, 0x0, []⟩,
   ⟨0x200, 0x8, 32, 0x0, 0x0, 0xFFF1FFF, 0x0, 0x0, []⟩,
   ⟨0x204, 0x8, 32, 0x0, 0x0, 0xB00000FF, 0x0, 0x0, []⟩,
   ⟨0x400, 0x4, 128, 0x0, 0x0, 0x3FF03FF, 0x0, 0x0, []⟩,
   ⟨0x600, 0x4, 128, 0x0, 0x0, 0x3FF03FF, 0x0, 0x0, []⟩]

/-- Registers of the TTG page (R414). -/
def rows_ttg : List RegRow :=
  [⟨0x48, 0x4, 1, 0x3C101000, 0x0, 0x0, 0xFF3F3FFF, 0x0, [⟨1, 0, 0, 2⟩, ⟨3, 2, 0, 2⟩, ⟨13, 8, 1, 63⟩, ⟨21, 16, 1, 63⟩, ⟨31, 24, 1, 255⟩]⟩,
   ⟨0x600, 0x4, 32, 0xFF, 0x0, 0x0, 0xFF, 0x0, []⟩,
   ⟨0x680, 0x4, 32, 0xFF, 0x0, 0x0, 0xFF, 0x0, []⟩]

/-- Registers of the ICV page (R415). -/
def rows_icv : List RegRow := []

/-- Registers of the LD page (R448). -/
def rows_ld : List RegRow :=
  [⟨0x40, 0x4, 1, 0x8073F, 0x0, 0xF3F3F, 0x0, 0x0, [⟨19, 16, 0, 14⟩]⟩,
   ⟨0x48, 0x4, 1, 0x80000C0, 0x0, 0x0, 0xFFF00FF, 0x0, []⟩,
   ⟨0x4C, 0x4, 1, 0x10000000, 0x0, 0x1FFF001F, 0x0, 0x0, [⟨4, 0, 0, 23⟩, ⟨28, 16, 0, 4096⟩]⟩,
   ⟨0x50, 0x4, 8, 0x10000000, 0x0, 0x1FFF0FFF, 0x0, 0x0, []⟩,
   ⟨0x80, 0x4, 24, 0x0, 0x0, 0xFFF00FF, 0x0, 0x0, []⟩,
   ⟨0xE8, 0x4, 1, 0x0, 0x0, 0x0, 0x0, 0xFFFFFF, []⟩]

/-- Registers of the MX page (R449). -/
def rows_mx : List RegRow :=
  [⟨0x40, 0x4, 1, 0x1F02F70, 0x0, 0x1F1FF71, 0x0, 0x0, [⟨16, 12, 1, 16⟩]⟩,
   ⟨0x44, 0x4, 1, 0x13880, 0x0, 0x3FFFF, 0x0, 0x0, []⟩,
   ⟨0x48, 0x4, 1, 0xE0, 0x0, 0xFFFF, 0x0, 0x0, [⟨15, 0, 16, 65535⟩]⟩,
   ⟨0x4C, 0x4, 1, 0x0, 0x0, 0xF, 0x0, 0x0, []⟩,
   ⟨0x100, 0x4, 128, 0x0, 0x0, 0xFFF, 0x0, 0x0, []⟩]

/-- Registers of the BLD page (R450). -/
def rows_bld : List RegRow :=
  [⟨0x40, 0x4, 1, 0x0, 0x0, 0xF3F010F, 0x0, 0x0, [⟨21, 16, 8, 48⟩]⟩,
   ⟨0x48, 0x4, 1, 0x0, 0x0, 0x1FFF, 0x0, 0x0, []⟩,
   ⟨0x4C, 0x4, 1, 0x0, 0x0, 0x3FF, 0x0, 0x0, []⟩,
   ⟨0x50, 0x4, 1, 0x19, 0x0, 0xFF, 0x0, 0x0, [⟨7, 0, 1, 255⟩]⟩,
   ⟨0x54, 0x4, 1, 0x0, 0x0, 0xFFFFFF, 0x0, 0x0, []⟩,
   ⟨0x58, 0x4, 1, 0x0, 0x0, 0xF, 0x0, 0x0, []⟩,
   ⟨0x100, 0x4, 12, 0x0, 0x0, 0xFFFFFFFF, 0x0, 0x0, []⟩]

/-- Registers of the CAL page (R451). -/
def rows_cal : List RegRow :=
  [⟨0x400, 0x4, 256, 0x400, 0x0, 0x0, 0x0, 0x0, []⟩,
   ⟨0x800, 0x4, 256, 0x400, 0x0, 0x0, 0x0, 0x0, []⟩]

/-- Registers of the FG page (R452). -/
def rows_fg : List RegRow :=
  [⟨0x80, 0x4, 16, 0x10000000, 0x0, 0x1FFF0001, 0x0, 0x0, [⟨28, 16, 0, 4096⟩]⟩,
   ⟨0xC0, 0x4, 16, 0x0, 0x0, 0x0, 0x33, 0x0, [⟨1, 0, 0, 2⟩, ⟨5, 4, 0, 2⟩]⟩,
   ⟨0x100, 0x4, 20, 0x0, 0x0, 0x0, 0xFFFFFFFF, 0x0, []⟩]

/-- Registers of the LACE page (R453). -/
def rows_lace : List RegRow :=
  [⟨0x40, 0x4, 1, 0x11830050, 0x0, 0x3FF7FFFF, 0x0, 0x0, [⟨27, 20, 17, 255⟩, ⟨29, 28, 1, 3⟩]⟩,
   ⟨0x48, 0x4, 1, 0x0, 0xFF013F, 0x0, 0x0, 0x0, []⟩,
   ⟨0x4C, 0x4, 1, 0x0, 0xFFFFFFFF, 0x0, 0x0, 0x0, []⟩,
   ⟨0x68, 0x4, 1, 0x0, 0xFF, 0x0, 0x0, 0x0, []⟩,
   ⟨0x100, 0x4, 8, 0x0, 0x0, 0x0, 0xFFFFFFFF, 0x0, []⟩]

/-- Registers of the LANE pages (R480). -/
def rows_lane : List RegRow :=
  [⟨0x40, 0x4, 1, 0x1E0, 0x0, 0x37F7, 0x0, 0x0, [⟨10, 4, 10, 40⟩]⟩,
   ⟨0x60, 0x4, 1, 0x0, 0x0, 0xFFFF000F, 0x0, 0x0, []⟩,
   ⟨0x80, 0x4, 1, 0x280000, 0x3FFEFC, 0x0, 0x0, 0x0, []⟩,
   ⟨0xC0, 0x4, 1, 0x2, 0x0, 0x0, 0x1F, 0x0, [⟨4, 2, 0, 4⟩]⟩,
   ⟨0x100, 0x4, 32, 0x4080408, 0x0, 0x0, 0xFFFFFFFF, 0x0, []⟩]

/-- Registers of the LINK pages (R481). -/
def rows_link : List RegRow :=
  [⟨0x40, 0x4, 1, 0x3000420, 0x0, 0x300FF3F, 0x0, 0x0, [⟨5, 0, 1, 32⟩, ⟨15, 8, 1, 255⟩, ⟨25, 24, 1, 3⟩]⟩,
   ⟨0x48, 0x4, 1, 0x0, 0xFFFFF800, 0x0, 0x0, 0x0, []⟩]

/-- Registers of the PANE pages (R482). -/
def rows_pane : List RegRow :=
  [⟨0x40, 0x4, 1, 0x14, 0x0, 0x337F, 0x0, 0x0, [⟨6, 0, 1, 64⟩, ⟨9, 8, 0, 2⟩]⟩,
   ⟨0x60, 0x4, 4, 0x0, 0x0, 0xFFFFFFF0, 0x0, 0x0, []⟩,
   ⟨0x70, 0x4, 1, 0x0, 0x0, 0xFFFFFFF0, 0x0, 0x0, []⟩]

/-- Registers of the CAN pages (R500). -/
def rows_can : List RegRow :=
  [⟨0x40, 0x4, 1, 0x1, 0x0, 0x3F, 0x0, 0x0, []⟩,
   ⟨0x44, 0x4, 1, 0xF3E0000, 0x0, 0x7F7FFFFF, 0x0, 0x0, []⟩,
   ⟨0x48, 0x4, 1, 0x0, 0x0, 0xFF7FFFFF, 0x0, 0x0, [⟨15, 8, 0, 31⟩]⟩,
   ⟨0x4C, 0x4, 1, 0x0, 0x0, 0x7F, 0x0, 0x0, []⟩,
   ⟨0x60, 0x8, 16, 0x0, 0x0, 0xBFFFFFFF, 0x0, 0x0, []⟩,
   ⟨0x64, 0x8, 16, 0x0, 0x0, 0x1FFFFFFF, 0x0, 0x0, []⟩,
   ⟨0x100, 0x50, 16, 0x0, 0xFFFFFFFF, 0x0, 0x0, 0x0, []⟩,
   ⟨0x104, 0x50, 16, 0x0, 0xF, 0x0, 0x0, 0x0, []⟩,
   ⟨0x900, 0x4, 1, 0x0, 0x0, 0xF, 0x0, 0x0, []⟩,
   ⟨0x904, 0x4, 1, 0x0, 0x0, 0x3FFFFFFF, 0x0, 0x0, []⟩,
   ⟨0x908, 0x4, 1, 0x0, 0x0, 0x1FFFFFFF, 0x0, 0x0, []⟩,
   ⟨0x90C, 0x4, 1, 0x0, 0x0, 0xF, 0x0, 0x0, [⟨3, 0, 0, 8⟩]⟩,
   ⟨0x910, 0x4, 1, 0x0, 0x0, 0xFFFFFFFF, 0x0, 0x0, []⟩,
   ⟨0x914, 0x4, 1, 0x0, 0x0, 0xFFFFFFFF, 0x0, 0x0, []⟩,
   ⟨0x608, 0x4, 1, 0x0, 0x0, 0x0, 0x0, 0xFFFF, []⟩,
   ⟨0x108, 0x50, 16, 0x0, 0xFFFFFFFF, 0x0, 0x0, 0x0, []⟩,
   ⟨0x10C, 0x50, 16, 0x0, 0xFFFFFFFF, 0x0, 0x0, 0x0, []⟩,
   ⟨0x110, 0x50, 16, 0x0, 0xFFFFFFFF, 0x0, 0x0, 0x0, []⟩,
   ⟨0x114, 0x50, 16, 0x0, 0xFFFFFFFF, 0x0, 0x0, 0x0, []⟩,
   ⟨0x118, 0x50, 16, 0x0, 0xFFFFFFFF, 0x0, 0x0, 0x0, []⟩,
   ⟨0x11C, 0x50, 16, 0x0, 0xFFFFFFFF, 0x0, 0x0, 0x0, []⟩,
   ⟨0x120, 0x50, 16, 0x0, 0xFFFFFFFF, 0x0, 0x0, 0x0, []⟩,
   ⟨0x124, 0x50, 16, 0x0, 0xFFFFFFFF, 0x0, 0x0, 0x0, []⟩,
   ⟨0x128, 0x50, 16, 0x0, 0xFFFFFFFF, 0x0, 0x0, 0x0, []⟩] ++
  [⟨0x12C, 0x50, 16, 0x0, 0xFFFFFFFF, 0x0, 0x0, 0x0, []⟩,
   ⟨0x130, 0x50, 16, 0x0, 0xFFFFFFFF, 0x0, 0x0, 0x0, []⟩,
   ⟨0x134, 0x50, 16, 0x0, 0xFFFFFFFF, 0x0, 0x0, 0x0, []⟩,
   ⟨0x138, 0x50, 16, 0x0, 0xFFFFFFFF, 0x0, 0x0, 0x0, []⟩,
   ⟨0x13C, 0x50, 16, 0x0, 0xFFFFFFFF, 0x0, 0x0, 0x0, []⟩,
   ⟨0x140, 0x50, 16, 0x0, 0xFFFFFFFF, 0x0, 0x0, 0x0, []⟩,
   ⟨0x144, 0x50, 16, 0x0, 0xFFFFFFFF, 0x0, 0x0, 0x0, []⟩]

/-- Registers of the LIN page (R501). -/
def rows_lin : List RegRow :=
  [⟨0x40, 0x4, 1, 0x4B0000, 0x0, 0xFFFFFF03, 0x0, 0x0, [⟨31, 8, 1000, 20000⟩]⟩,
   ⟨0x80, 0x10, 16, 0x0, 0x0, 0x3F3F, 0x0, 0x0, [⟨11, 8, 1, 8⟩]⟩,
   ⟨0x84, 0x10, 16, 0x0, 0xFFFFFFFF, 0x0, 0x0, 0x0, []⟩,
   ⟨0x88, 0x10, 16, 0x0, 0xFFFFFFFF, 0x0, 0x0, 0x0, []⟩,
   ⟨0x200, 0x4, 32, 0x0, 0x0, 0xFF0F, 0x0, 0x0, []⟩]

/-- Registers of the ADC page (R502). -/
def rows_adc : List RegRow :=
  [⟨0x40, 0x4, 1, 0x0, 0x0, 0xFFFF3F01, 0x0, 0x0, [⟨13, 8, 0, 31⟩]⟩,
   ⟨0x48, 0x4, 1, 0x0, 0x0, 0x1F, 0x0, 0x0, []⟩,
   ⟨0x80, 0x4, 32, 0x0, 0x0, 0x1F, 0x0, 0x0, [⟨4, 0, 0, 23⟩]⟩,
   ⟨0x180, 0x4, 24, 0xFFF0000, 0x0, 0x8FFF0FFF, 0x0, 0x0, []⟩]

/-- Registers of the I2C pages (R503). -/
def rows_i2c : List RegRow :=
  [⟨0x40, 0x4, 1, 0x0, 0x0, 0xFF03FF0F, 0x0, 0x0, [⟨3, 2, 0, 2⟩]⟩,
   ⟨0x44, 0x4, 1, 0x0, 0x0, 0xFFFFFF, 0x0, 0x0, []⟩]

/-- Registers of the SPI pages (R504). -/
def rows_spi : List RegRow :=
  [⟨0x40, 0x4, 1, 0x0, 0x0, 0xFF1FF1FF, 0x0, 0x0, [⟨8, 4, 3, 31⟩, ⟨31, 24, 1, 255⟩]⟩]

/-- Registers of the XSPI page (R505). -/
def rows_xspi : List RegRow :=
  [⟨0x40, 0x4, 1, 0x0, 0x0, 0xFF01, 0x0, 0x0, [⟨15, 8, 2, 255⟩]⟩,
   ⟨0x44, 0x4, 1, 0x8000B, 0x0, 0x1FFFFF, 0x0, 0x0, []⟩,
   ⟨0x4C, 0x4, 1, 0x0, 0x1FFFFF, 0x0, 0x0, 0x0, []⟩,
   ⟨0x50, 0x4, 1, 0x0, 0xFFFFFFFF, 0x0, 0x0, 0x0, []⟩,
   ⟨0x54, 0x4, 1, 0x5, 0x7FFFF, 0x0, 0x0, 0x0, []⟩,
   ⟨0x400, 0x4, 64, 0x0, 0xFFFFFFFF, 0x0, 0x0, 0x0, []⟩]

/-- Registers of the GPIO page (R506). -/
def rows_gpio : List RegRow :=
  [⟨0x40, 0x4, 1, 0x0, 0xFFFFFFFF, 0x0, 0x0, 0x0, []⟩,
   ⟨0x44, 0x4, 1, 0x0, 0xFFFFFFFF, 0x0, 0x0, 0x0, []⟩,
   ⟨0x54, 0x4, 2, 0x0, 0xFFFFFFFF, 0x0, 0x0, 0x0, []⟩,
   ⟨0x5C, 0x4, 2, 0x0, 0xFFFFFFFF, 0x0, 0x0, 0x0, []⟩,
   ⟨0x64, 0x4, 1, 0x0, 0x0, 0x0, 0x0, 0xFFFFFFFF, []⟩,
   ⟨0x100, 0x4, 1, 0x0, 0x0, 0x0, 0xFF0F, 0x0, []⟩,
   ⟨0x104, 0x4, 1, 0x1010101, 0x0, 0x0, 0xFFFFFFFF, 0x0, [⟨7, 0, 1, 255⟩, ⟨15, 8, 1, 255⟩, ⟨23, 16, 1, 255⟩, ⟨31, 24, 1, 255⟩]⟩]

/-- Registers of the DRAM page (R532). -/
def rows_dram : List RegRow :=
  [⟨0x44, 0x4, 1, 0x2800, 0xFF01, 0x0, 0x0, 0x0, [⟨15, 8, 1, 100⟩]⟩]

/-- The registers of a block. -/
def blkRows : Blk → List RegRow
  | .ltb => rows_ltb
  | .evr => rows_evr
  | .ten => rows_ten
  | .adm => rows_adm
  | .pwr => rows_pwr
  | .rst => rows_rst
  | .wdg => rows_wdg
  | .sys => rows_sys
  | .clk => rows_clk
  | .router => rows_router
  | .ni => rows_ni
  | .prb => rows_prb
  | .stat => rows_stat
  | .awl => rows_awl
  | .core => rows_core
  | .grv => rows_grv
  | .gctx => rows_gctx
  | .ald => rows_ald
  | .cap => rows_cap
  | .isp => rows_isp
  | .isp1 => rows_isp1
  | .isp2 => rows_isp2
  | .isp3 => rows_isp3
  | .scn => rows_scn
  | .sill => rows_sill
  | .sec => rows_sec
  | .seck => rows_seck
  | .svc => rows_svc
  | .secin => rows_secin
  | .dp => rows_dp
  | .ttg => rows_ttg
  | .icv => rows_icv
  | .ld => rows_ld
  | .mx => rows_mx
  | .bld => rows_bld
  | .cal => rows_cal
  | .fg => rows_fg
  | .lace => rows_lace
  | .lane => rows_lane
  | .link => rows_link
  | .pane => rows_pane
  | .can => rows_can
  | .lin => rows_lin
  | .adc => rows_adc
  | .i2c => rows_i2c
  | .spi => rows_spi
  | .xspi => rows_xspi
  | .gpio => rows_gpio
  | .dram => rows_dram

/-- The row of the register at offset `o`, if the page holds one. -/
def findRow (b : Blk) (o : Nat) : Option RegRow := (blkRows b).find? fun r => r.hits o

end Sys2Proof.Machine
end

