-- ==== Sys2Proof/Machine/Sparse.lean ====
section
/-! DEFINITION. Machine/Sparse.lean: finite maps over addresses in one canonical form.
A map lists (address, value) pairs with strictly rising addresses and lists no pair equal to what an unlisted address
reads as; memory, the registers and the array tiles are held so. -/

namespace Sys2Proof.Machine

/-- The value at `k`: the listed one, or `d k` where `k` is not listed. -/
def Sparse.get {β : Type} (d : Nat → β) : List (Nat × β) → Nat → β
  | [], k => d k
  | (a, v) :: t, k => if a = k then v else Sparse.get d t k

/-- The pairs of every address but `k`. -/
def Sparse.del {β : Type} (k : Nat) : List (Nat × β) → List (Nat × β)
  | [] => []
  | (a, w) :: t => if a = k then Sparse.del k t else (a, w) :: Sparse.del k t

/-- Put a pair before the first higher address. -/
def Sparse.ins {β : Type} (k : Nat) (v : β) : List (Nat × β) → List (Nat × β)
  | [] => [(k, v)]
  | (a, w) :: t => if k < a then (k, v) :: (a, w) :: t else (a, w) :: Sparse.ins k v t

/-- Store `v` at `k`, keeping the canonical form. -/
def Sparse.put {β : Type} [DecidableEq β] (d : Nat → β) (k : Nat) (v : β) (m : List (Nat × β)) : List (Nat × β) :=
  if v = d k then Sparse.del k m else Sparse.ins k v (Sparse.del k m)

/-- The pairs whose address meets `p`. -/
def Sparse.keep {β : Type} (p : Nat → Bool) (m : List (Nat × β)) : List (Nat × β) :=
  m.filter fun e => p e.1

/-- Every listed address is above `lo`, the addresses rise strictly, and no listed value is the one an unlisted
address reads as. -/
def Sparse.wfFrom {β : Type} [DecidableEq β] (d : Nat → β) : Nat → List (Nat × β) → Bool
  | _, [] => true
  | lo, (a, v) :: t => decide (lo ≤ a) && !decide (v = d a) && Sparse.wfFrom d (a + 1) t

/-- The canonical form. -/
def Sparse.wf {β : Type} [DecidableEq β] (d : Nat → β) (m : List (Nat × β)) : Bool := Sparse.wfFrom d 0 m

end Sys2Proof.Machine
end

