-- ==== Sys2Proof/Machine/Types.lean ====
section
/-! DEFINITION. Machine/Types.lean: the data types of the blocks' states that are no register. -/

namespace Sys2Proof.Machine

/-- The statuses an access or a request is answered with (06 R133). -/
inductive Sts where
  | ok | refused | decode | owner | window | wakeDenied | domainOff | timeout | dataErr | staleSeq
  deriving DecidableEq, Repr

/-- The encoding of a status (06 R133). -/
def Sts.code : Sts → Nat
  | .ok => 0 | .refused => 1 | .decode => 2 | .owner => 3 | .window => 4 | .wakeDenied => 5 | .domainOff => 6
  | .timeout => 7 | .dataErr => 8 | .staleSeq => 9

/-- The states of a power domain (01 R30). -/
inductive PState where
  | run | doze | rest | off
  deriving DecidableEq, Repr

/-- The code of a domain state in PWR_DOMd and PG_STAT (19 R529, 03 R75). -/
def PState.code : PState → Nat
  | .run => 0 | .doze => 1 | .rest => 2 | .off => 3

/-- The domain state of a code. -/
def PState.ofCode (n : Nat) : PState :=
  if n = 0 then .run else if n = 1 then .doze else if n = 2 then .rest else .off

/-- One access to a register page: who sends it, to where, of which size, and what it writes (03 R72, R82). -/
structure Acc where
  tnt : Nat
  ni : Nat
  pg : Nat
  off : Nat
  size : Nat
  write : Bool
  val : Word
  deriving DecidableEq, Repr

/-- What the sender of the last access or request got back (06 R133). -/
structure Resp where
  sts : Sts
  data : Word
  bytes : List Byte
  dem : Bool
  late : Bool
  deriving DecidableEq, Repr

/-- The Seam between the logic die and the power die (01 R20, R21); direction `up` is from logic to power. -/
structure Seam where
  failUp : Nat
  failDown : Nat
  goodUp : Nat
  goodDown : Nat
  hold : Bool
  refreshing : Bool
  deriving DecidableEq, Repr

/-- The clock sources (01 R27, R29, R566). `stopped` says that the clock monitor stopped every PLL and firmware has not
restarted them. -/
structure Clocks where
  xtal : Bool
  stopped : Bool
  sysPll : Bool
  dramPll : Bool
  lanePll : Bool
  ppll0 : Bool
  ppll1 : Bool
  deriving DecidableEq, Repr

/-- A line event on its way from the table to its target (02 R64). -/
structure LineEv where
  entry : Nat
  typ : Nat
  target : Nat
  arg : Nat
  deriving DecidableEq, Repr

/-- An instant a tracker-based entry waits for (02 R68). -/
structure TrkInst where
  entry : Nat
  frame : Nat
  line : Nat
  phase : Nat
  deriving DecidableEq, Repr

/-- A line tracker's measurement (02 R67): lines seen in the camera frame, the position of the measurement's first line
start, and the instants pending. -/
structure Tracker where
  lines : Nat
  startFrm : Nat
  startPh : Nat
  complete : Bool
  insts : List TrkInst
  deriving DecidableEq, Repr

/-- The Line Time Base beside its registers (02 R38, R46 to R68): the position (`cyc` cycles into its line), the period that
scales PHASE, generated line starts in a row, whether a camera master is between its frame end and frame start, line starts
and line length of the virtual timing, whether MASTER was committed since the last frame boundary, the MASTER a pending change
waits for, the last 64 periods, the staged LET pairs, the entries fired in this frame, the events on their way, and the trackers. -/
structure Ltb where
  frame : Word
  line : Nat
  cyc : Nat
  pPrev : Nat
  gen : Nat
  blankFill : Bool
  virtK : Nat
  virtV : Nat
  mcommit : Bool
  mreq : Nat
  pers : List Nat
  staged : List (Nat × Word × Word)
  fired : List Nat
  evs : List LineEv
  trk0 : Tracker
  trk1 : Tracker
  deriving DecidableEq, Repr

/-- The tenant table's state beside its registers (04 R98, R104, R107, R109). -/
structure Ten where
  locked : Bool
  lockFail : Bool
  checking : Bool
  recs : List (Word × Word)
  vovf : Bool
  quar : BitVec 16
  deriving DecidableEq, Repr

/-- A power domain: its state, the transition in progress, whether a packet or an interrupt woke it (19 R518, R521), and a
request that waits for the wake in progress (R520). -/
structure Dom where
  st : PState
  tgt : Option PState
  after : Option PState
  woken : Bool
  deriving DecidableEq, Repr

/-- A staged claim: its four words (05 R114). -/
structure ClaimW where
  w0 : Word
  w1 : Word
  w2 : Word
  w3 : Word
  deriving DecidableEq, Repr

/-- A committed claim: its words, tenant and source (05 R113), and the link directions it books, as its route read at its evaluation
(R119). -/
structure Claim where
  tnt : Nat
  src : Nat
  c : ClaimW
  links : List Nat
  deriving DecidableEq, Repr

/-- A queued commit: a tenant's set from one source (an empty set is a withdrawal), or the withdrawal of every claim of the
tenants of a mask (05 R116, R124). -/
inductive Commit where
  | set (tnt src : Nat) (cl : List ClaimW)
  | mask (m : Nat)
  deriving DecidableEq, Repr

/-- What the capacities were last computed from (05 R117, R126): L as a fraction of a second, VT_ACT, the lane rates and each pipe's
HT. -/
structure CapIn where
  l : Nat × Nat
  vt : Nat
  rates : List Nat
  hts : List Nat
  deriving DecidableEq, Repr

/-- The Admission Unit (05 R112 to R126). `wait` holds commits whose source has one queued already; `com` is the committed set as the
accepted commits left it, `eff` the set in effect, and `effSrc` the sources whose accepted set is not in effect yet; `lastOk`,
`lastRef` and `seqs` are kept per tenant's port; `mxRes` tells the MX page how its last submission ended, and `aldRes` the
loader, with the source; `cap` is what the capacities come from, `mxCap` PER and the sub-periods of the accepted matrix
geometry and `mxNew` those of the one submitted; `capRd` says that the capacity registers show an instance. -/
structure Adm where
  staged : List (Nat × ClaimW)
  queue : List Commit
  wait : List Commit
  eval : Option Commit
  com : List Claim
  eff : List Claim
  effPend : Bool
  effSrc : List Nat
  ovr : Bool
  lastOk : BitVec 16
  lastRef : BitVec 16
  seqs : List Nat
  mxRes : Option Bool
  aldRes : Option (Nat × Bool)
  cap : CapIn
  mxCap : Nat × Nat
  mxNew : Nat × Nat
  capRd : Bool
  deriving DecidableEq, Repr

/-- The Admission Unit after reset: the reference line time, VT_ACT, lane rates and HT of the registers' reset values (R112, R117). -/
def Adm.zero : Adm :=
  { staged := [], queue := [], wait := [], eval := none, com := [], eff := [], effPend := false, effSrc := [], ovr := false,
    lastOk := 0, lastRef := 0, seqs := List.replicate 16 0, mxRes := none, aldRes := none,
    cap := ⟨(0x4571C7, 204800000000), 750, [30, 30, 30, 30], [0, 0]⟩, mxCap := (80000, 32), mxNew := (80000, 32), capRd := false }

/-- The header unit of a packet (06 R130). -/
structure Hdr where
  cmd : Nat
  tnt : Nat
  cls : Nat
  once : Bool
  dem : Bool
  seq : Nat
  len : Nat
  src : Nat
  nc : Nat
  rt : Nat
  tid : Nat
  sts : Nat
  late : Bool
  dl : Nat
  size : Nat
  addr : Nat
  deriving DecidableEq, Repr

/-- A packet: its header, the bytes from ADDR on that its data units carry, and the data units that carry POISON, numbered from
1 (06 R128, R131, R152). -/
structure Pkt where
  h : Hdr
  data : List Byte
  pois : List Nat
  deriving DecidableEq, Repr

/-- One unit on a link with its sideband (06 R128). -/
structure LinkUnit where
  head : Bool
  tail : Bool
  vc : Nat
  par : BitVec 4
  poison : Bool
  bits : BitVec 128
  deriving DecidableEq, Repr

/-- Where a packet in flight stands: at an input port of a router (its next code being number `k` of its route), or at the
end of an ejection link. -/
inductive Place where
  | router (idx port k : Nat)
  | ni (n : Nat)
  deriving DecidableEq, Repr

/-- A packet in flight (06 R128, R129): where its header unit stands; whether it has crossed the link that leads there (probes and
Awl see it as it crosses); whether the router has taken the header, which then waits for its output; how many of its units stand in
the buffer at the end of each link it has come over, the last one first; and how many its sender still holds. -/
structure Flight where
  at_ : Place
  pkt : Pkt
  crossed : Bool
  ready : Bool
  units : List (Nat × Nat)
  src : Nat
  deriving DecidableEq, Repr

/-- The arbiter of one router output for the response or the request channels (06 R143): the output's link direction, the channel,
the input port the Rated channel served last, the tenant whose turn it is on the Spare channel, and each tenant's deficit there. -/
structure Arb where
  out : Nat
  resp : Bool
  last : Nat
  turn : Nat
  deficit : List (Nat × Int)
  deriving DecidableEq, Repr

/-- An outstanding request of an initiator NI (06 R145, R151): the packet as sent, when it was accepted and last sent, the
attempts made, the block request it is part of, whether its address is SE, and whether its credit has lapsed (R146). -/
structure Outst where
  pkt : Pkt
  route : Nat
  acc : Nat
  sent : Nat
  attempts : Nat
  grp : Nat
  se : Bool
  lapsed : Bool
  deriving DecidableEq, Repr

/-- A block's request, split by the NI into parts (06 R131): for each part its address, status, flags and data. -/
structure BlkPart where
  addr : Nat
  size : Nat
  done : Option (Sts × Bool × Bool × List Byte)
  deriving DecidableEq, Repr

structure BlkReq where
  id : Nat
  acc : Nat
  cmd : Nat
  parts : List BlkPart
  deriving DecidableEq, Repr

/-- One entry of the route latch (06 R137): slot use stamp, key, index, codes and STALE. -/
structure LatchEnt where
  use : Nat
  serving : List Nat
  cls : Nat
  idx : Nat
  rte : Word
  stale : Bool
  deriving DecidableEq, Repr

/-- The duplicate window of one source at a target NI (06 R150): H, the map of H − 63 to H (bit d is sequence H − d), and the
stored statuses in the same order. -/
structure OnceWin where
  h : Nat
  map : BitVec 64
  sts : List Nat
  deriving DecidableEq, Repr

/-- Credit of a route and direction in units: route index, whether it is the response direction, credit (06 R141). -/
structure Credit where
  key : Nat
  rev : Bool
  cr : Nat
  deriving DecidableEq, Repr

/-- The live statistics of an initiator NI (06 R155). -/
structure StatCnt where
  bytes : Nat
  pkts : Nat
  hist : List Nat
  maxLat : Nat
  dem : Nat
  ref : Nat
  late : Nat
  tmo : Nat
  retry : Nat
  deriving DecidableEq, Repr

def StatCnt.zero : StatCnt := ⟨0, 0, [0, 0, 0, 0, 0, 0, 0, 0], 0, 0, 0, 0, 0, 0⟩

/-- A network interface (06 R134 to R151): outstanding requests, block requests, the route latch, Line credits per route and
direction, Rated credit per tenant, the once window per source, the requests its bridge holds and since when, responses held for a
sleeping initiator (R148), and the live statistics. -/
structure NiSt where
  out : List Outst
  blk : List BlkReq
  latch : List (Option LatchEnt)
  line : List Credit
  rated : List Credit
  once : List (Nat × OnceWin)
  held : List Pkt
  wakeAt : Option Nat
  rheld : List Pkt
  stat : StatCnt
  deriving DecidableEq, Repr

def NiSt.zero : NiSt := ⟨[], [], [none, none, none, none], [], [], [], [], none, [], StatCnt.zero⟩

/-- A trace record: eight words (06 R154). -/
structure TrcRec where
  ws : List Word
  deriving DecidableEq, Repr

/-- The mesh beside its registers: the packets in flight, the arbiters of the router outputs, the NIs, the DRAM credit per tenant,
the units sent per router output since the last frame boundary, the trace queue and buffer, and the frames since the last
statistics copy. -/
structure Welt where
  flight : List Flight
  arbs : List Arb
  nis : List NiSt
  dramCr : List Credit
  util : List (Nat × Nat)
  trcQ : List TrcRec
  trcBuf : List TrcRec
  trcOvf : Nat
  stFrames : Nat
  grp : Nat
  deriving DecidableEq, Repr

/-! ### Rhoif-16 (07 to 09) -/

/-- The flags FLG holds; QA is live (07 R164). -/
structure Flg where
  z : Bool
  n : Bool
  v : Bool
  c : Bool
  av : Bool
  qe : BitVec 4
  deriving DecidableEq, Repr

/-- A queue request on its way: its first element address, words, whether it touches an SE window, the data once it is there,
whether a cancel has made it void, and whether it is a write (07 R180, R186). -/
structure QReq where
  addr : Nat
  words : Nat
  se : Bool
  data : Option (List Half)
  void : Bool
  wr : Bool
  deriving DecidableEq, Repr

/-- A decoupling queue (07 R179 to R186): the descriptor, the words buffered (read and not popped, or pushed and not issued),
the requests in order, the cycle of the last push, and the status. -/
structure Queue where
  addr : Nat
  stride : Half
  cnt : Nat
  dir : Bool
  w32 : Bool
  cls : Nat
  arm : Bool
  buf : List Half
  fly : List QReq
  pushed : Nat
  under : Bool
  ovr : Bool
  dirErr : Bool
  misal : Bool
  dem : Bool
  late : Bool
  sts : Nat
  disc : Nat
  deriving DecidableEq, Repr

def Queue.zero : Queue := ⟨0, 0, 0, false, false, 0, false, [], [], 0, false, false, false, false, false, false, 0, 0⟩

/-- A repeat in progress: repetitions still to run, the current one counted, and whether it is a REPI (07 R173, R174). -/
structure Rep where
  left : Nat
  int : Bool
  deriving DecidableEq, Repr

/-- A bundle stalled in decode by its wait, since when, and the cycles it waited before its domain last left Run (09 R226). -/
structure Waiting where
  syls : List Syl
  since : Nat
  ran : Nat
  deriving DecidableEq, Repr

/-- A Rhoif-16 core (07 R164 to R193). `rf` holds the registers of the 7-bit codes that are plain words; accumulators and
flags stand apart. `pair` and `squash` govern the next bundle, `rel` is the latched RELEASE, `irq` the lines held by line
events, `fresh` that no bundle has run since reset, `tick`, `ready` and `redir` time the interlocks (R168, R169). `fbuf` holds
the syllables fetched and not yet run (R163, R168), and `ext` the cycles each external access to X, to Y and to program memory
has waited (R163). -/
structure CoreSt where
  rf : List Half
  acc : List (BitVec 40)
  flg : Flg
  ipcHi : Bool
  pc : Nat
  rstk : List Nat
  rot : List Bool
  pair : Bool
  squash : Bool
  rep : Option Rep
  wait : Option Waiting
  rel : Bool
  irq : BitVec 16
  inReset : Bool
  run : Bool
  haltReq : Bool
  stepping : Bool
  fresh : Bool
  tick : Nat
  ready : List (Nat × Nat)
  redir : Bool
  fbuf : List (Nat × Word)
  ext : List (List Nat)
  qs : List Queue
  deriving DecidableEq, Repr

/-- A core as its release from reset leaves it, still held (07 R164): every register 0 but BX. -/
def CoreSt.zero : CoreSt :=
  { rf := (List.replicate 0x6C 0).set 0x56 15, acc := [0, 0, 0, 0], flg := ⟨false, false, false, false, false, 0⟩,
    ipcHi := false, pc := 0, rstk := [], rot := [false, false, false], pair := false, squash := false, rep := none,
    wait := none, rel := false, irq := 0, inReset := true, run := false, haltReq := false, stepping := false,
    fresh := true, tick := 0, ready := [], redir := false, fbuf := [], ext := [[], [], []], qs := [Queue.zero, Queue.zero, Queue.zero, Queue.zero] }

/-! ### Gralvo (10, 11) -/

/-- A context of the store: cell records, switch-box words, initial RF values by cell (row × 16 + column), the tile
mask and the flags of the image it was loaded from (10 R245, R249, R259; 11 R269). -/
structure GCtx where
  cells : List (Nat × BitVec 128)
  sw : List (Nat × BitVec 64)
  rfi : List (Nat × BitVec 128)
  tiles : Nat
  flags : Nat
  deriving DecidableEq, Repr

def GCtx.zero : GCtx := ⟨[], [], [], 0, 0⟩

/-- A port request: its context, first element, elements, whether it is an SE read, its data once answered, reissues made,
since when it stands refused, whether its activation is over, and the words of a write (10 R255 to R258, R262). -/
structure GReq where
  ctx : Nat
  first : Nat
  n : Nat
  se : Bool
  data : Option (List Half)
  tries : Nat
  refused : Option Nat
  old : Bool
  wd : List Half
  deriving DecidableEq, Repr

/-- A queue port in the running activation (10 R253 to R258): base address of the activation, the descriptor, elements issued,
words delivered or taken, words buffered, the requests, whether it stopped, whether it delivers no further tokens, and the
time of the last word. -/
structure GPort where
  base : Nat
  stride : Half
  cnt : Nat
  w32 : Bool
  layout : Bool
  cls : Nat
  arm : Bool
  issued : Nat
  moved : Nat
  buf : List Half
  fly : List GReq
  stopped : Bool
  mute : Bool
  last : Nat
  deriving DecidableEq, Repr

def GPort.zero : GPort := ⟨0, 0, 0, false, false, 0, false, 0, 0, [], [], false, false, 0⟩

/-- The array (10 R241 to R266): the store, the copy the cells run from, tokens on incoming tracks
((row × 16 + column) × 16 + side × 4 + track), output registers, accumulators, firings counted, copies a DUPN cell still owes,
register files, the memory tiles and how often they were lost, the ports, the overflow count, whether DONE may still request
the queue trigger, and the cycles of the activation: those counted and since when the array runs. -/
structure Grv where
  store : List GCtx
  act : GCtx
  tok : List (Nat × List Half)
  out : List (Nat × List Half)
  acc : List (Nat × BitVec 36)
  cnt : List (Nat × Nat)
  dup : List (Nat × List Half)
  rf : List (Nat × Half)
  tile : List (Nat × Half)
  tileLost : Nat
  ports : List GPort
  ovf : Nat
  trig : Bool
  cyc : Nat
  since : Option Nat
  deriving DecidableEq, Repr

def Grv.zero : Grv :=
  ⟨List.replicate 8 GCtx.zero, GCtx.zero, [], [], [], [], [], [], [], 0, List.replicate 8 GPort.zero, 0, false, 0, none⟩

/-- One part of a load: its context, the placed configuration, its port descriptors (ADDR, STRIDE and CNT, ASTEP, MODE), its
worst-case cycles and its claims (11 R278 to R283). -/
structure LPart where
  ctx : Nat
  cfg : GCtx
  ports : List (Word × Word × Word × Word)
  c : Nat
  claims : List ClaimW
  deriving DecidableEq, Repr

/-- The Array Loader (11 R285): phase (0 idle), load tenant, the image read, the variant with its parts, the part under
evaluation, and the register FRST. -/
structure Ald where
  phase : Nat
  tnt : Nat
  img : List Byte
  parts : List LPart
  part : Nat
  frst : Nat
  deriving DecidableEq, Repr

def Ald.zero : Ald := ⟨0, 0, [], [], 0, 0⟩

/-! ### Security island (14) -/

/-- A key slot: the attribute word of R351 and the value. -/
structure KSlot where
  attr : Word
  val : List Byte
  deriving DecidableEq, Repr

/-- An island command in progress, with its arguments (14 R381). -/
inductive KCmd where
  | hash (bits src len dst : Nat)
  | hmac (slot src len dst : Nat)
  | aes (slot mode iv src len dst : Nat) (dec : Bool)
  | sign (slot dg dst : Nat)
  | verify (slot dg sig : Nat)
  | ecdh (slot pub dst : Nat)
  | ksSet (slot : Nat) (attr : Word) (src : Nat)
  | ksWrap (slot dst : Nat)
  | ksUnwrap (src : Nat)
  | ksClear (slot : Nat)
  | ksFreeze
  | ksReadPub (slot dst : Nat)
  | otpRead (word dst : Nat)
  | otpProg (word : Nat) (v : Word) (supplyOk : Bool)
  | lcProd
  | lcEnd
  | imgCheck (img : List Byte)
  | arbAdvance (c : Nat)
  | mcInc (n : Nat)
  | timeSet (v : Word)
  | winSet (i : Nat) (v : Word)
  | winRaise (i : Nat) (v : Word)
  deriving DecidableEq, Repr

/-- Where a credential comes from: an intake slot, or the SEC_SVC page (14 R373). -/
inductive CredSrc where
  | slot (k : Nat)
  | svc
  deriving DecidableEq, Repr

/-- The claims of a credential and what its signature covers (14 R368 to R370). -/
structure Cred where
  kid : Nat
  vid : List Byte
  nbf : Nat
  dur : Nat
  ctr : Nat
  rights : Nat
  sigIn : List Byte
  sig : List Byte
  deriving DecidableEq, Repr

/-- A grant frame not yet sent: its bytes, queueings left, and since when it stands queued (14 R376, R377). -/
structure Grant where
  bytes : List Byte
  left : Nat
  since : Nat
  deriving DecidableEq, Repr

/-- A debug token under check (14 R365). -/
structure DbgTok where
  perm : Nat
  nonce : List Byte
  key : List Byte
  sig : List Byte
  deriving DecidableEq, Repr

/-- Who uses the crypto engine (14 R348): the Keeper's command, the access sequencer, the Array Loader, the check of an unlock.
The boot ROM's use is over before any other can ask. -/
inductive EngUse where
  | keeper
  | sequencer
  | loader
  | unlock
  deriving DecidableEq, Repr

/-- The island beside its registers (14 R346 to R384): key slots, OTP words and the ordinary ones programmed since the factory,
LOW of each counter, whether the retention store was lost since the last SEC start, the requests of the crypto engine in arrival
order, the command in progress, TRNG failures, the last version passed per class, the challenge, the
token under check, failed tokens, unlock and fault since the SEC reset, SIGREQ at the lock, the boot's state and since when the
unlock window runs, closed intake slots, the offsets of the intake region NI14 wrote last, credentials waiting in order, the one
under check with its bytes, and grants. -/
structure Sec where
  ks : List KSlot
  otp : List (Nat × Word)
  prog : List Nat
  low : List Nat
  retLost : Bool
  eng : List EngUse
  kop : Option KCmd
  trngUp : Bool
  trngFails : Nat
  passed : List (Nat × Nat)
  chal : Option (Nat × List Byte)
  tok : Option DbgTok
  dbgFails : Nat
  unlocked : Bool
  keeperDbg : Bool
  stopped : Bool
  sigAtLock : Bool
  booted : Bool
  winSince : Option Nat
  closed : List Nat
  foreign : List Nat
  queue : List (CredSrc × List Byte)
  chk : Option (CredSrc × List Byte)
  grants : List Grant
  deriving DecidableEq, Repr

def Sec.zero : Sec :=
  { ks := List.replicate 32 ⟨0, []⟩, otp := [], prog := [], low := [0, 0, 0, 0, 0, 0, 0, 0], retLost := false, eng := [], kop := none, trngUp := false,
    trngFails := 0, passed := [], chal := none, tok := none, dbgFails := 0, unlocked := false, keeperDbg := false,
    stopped := false, sigAtLock := false, booted := false, winSince := none, closed := [], foreign := [], queue := [], chk := none, grants := [] }

/-! ### Receivers and ISP (12) -/

/-- A closed frame whose padding and record await their responses: the values it ran with, its buffer, FRAME_ID and FLAGS
(12 R300). -/
structure CapClose where
  cfg : List Word
  buf : Nat
  id : Nat
  flags : Nat
  deriving DecidableEq, Repr

/-- A capture stream (12 R294 to R300): whether a frame is open or being dropped, the values it started with (STR_CTRL, SIZE,
PAD, STRIDE, BUF0 to 3, REC0 to 3), its buffer, the line statuses so far, the flags met, lines beyond HEIGHT, FRAME_ID and the
position at FS, whether a header was lost, the line of its last packet, frames dropped since the last record, the stream's own
count, the held buffers, the next buffer in ring order, the closed frames, and whether it discards until its next FS. -/
structure CapStr where
  op : Bool
  dropping : Bool
  cfg : List Word
  buf : Nat
  lines : List Nat
  flags : Nat
  extra : Nat
  id : Nat
  frm : Word
  lp : Nat
  hdrLoss : Bool
  lastFrm : Word
  lastLine : Nat
  dropped : Nat
  ctr : Nat
  held : List Nat
  next : Nat
  closing : List CapClose
  await : Bool
  deriving DecidableEq, Repr

def CapStr.zero : CapStr :=
  ⟨false, false, [], 0, [], 0, 0, 0, 0, 0, false, 0, 0, 0, 0, [], 0, [], false⟩

/-- A job in the queue: its descriptor, and for an automatic job the receiver, stream, buffer, IN0 and REC0 (12 R310). -/
structure IspJob where
  addr : Nat
  auto : Option (Nat × Nat × Nat)
  in0 : Nat
  rec0 : Nat
  deriving DecidableEq, Repr

/-- One entry of the frame-tagged queue, or the held groups: FN, MASK, and G1, G2, THR, BLD, DGAIN, BANK (12 R314). -/
structure TagEnt where
  fn : Nat
  mask : Nat
  v : List Word
  deriving DecidableEq, Repr

/-- The running job: descriptor words, the first four words of the statistics as the records gave them, the snapshot, the held
groups at its start, tag entries discarded at it, and TAGUSED (12 R309 to R315). -/
structure IspRun where
  job : IspJob
  d : List Nat
  recs : List Nat
  snap : List (Nat × Word)
  hold : TagEnt
  stale : Nat
  tagUsed : Bool
  deriving DecidableEq, Repr

structure Isp where
  queue : List IspJob
  run : Option IspRun
  tags : List TagEnt
  hold : TagEnt
  lastFn : Option Nat
  deriving DecidableEq, Repr

def TagEnt.zero : TagEnt := ⟨0, 0, [0, 0, 0, 0, 0, 0]⟩
def Isp.zero : Isp := ⟨[], none, [], TagEnt.zero, none⟩

/-! ### Scan engine (13) -/

/-- A pulse armed or firing: its start and end times, whether it fires, and whether a cancel came after it was armed
(13 R318, R325). -/
structure Pulse where
  start : Nat
  stop : Nat
  cur : Nat
  firing : Bool
  post : Bool
  deriving DecidableEq, Repr

/-- The illumination sequencer and the budget: G in nC, each tenant's bucket in 1/256 nC, the last tick, the charges of the
current and the previous frame, the pulse, which STROBE mode 2 arms next, and whether a pulse ended since the stream's last FS
(13 R319 to R326). -/
structure Sill where
  g : Nat
  b : List Nat
  tick : Nat
  tfrm : List Nat
  prevFrm : List Nat
  pulse : Option Pulse
  skip : Bool
  ended : Bool
  deriving DecidableEq, Repr

def Sill.zero : Sill := ⟨0, List.replicate 16 0, 0, List.replicate 16 0, List.replicate 16 0, none, false, false⟩

/-- The frame or job in progress (13 R327 to R329, R341): stream, buffer and stride, format, size, FRAME_ID, LTB stamps at FS,
whether it counts as illuminated, the next line to read, the line codes read, their capture statuses, whether readout ended,
its buffer and record, the held codes sighted in it, and the candidates whose records are not written yet. -/
structure ScnFrame where
  job : Bool
  rx : Nat
  st : Nat
  base : Nat
  stride : Nat
  fmt : Nat
  w : Nat
  h : Nat
  id : Nat
  frm : Word
  lp : Nat
  illum : Bool
  next : Nat
  lines : List (List Nat)
  stat : List Nat
  readDone : Bool
  buf : Nat
  recBase : Nat
  sight : List Nat
  cands : Option (List (Nat × Cand))
  deriving DecidableEq, Repr

/-- A held code: SYM, payload length and CRC-32, its slot where one was written, word 0x2C of the slot, and the tick of its
last sighting (13 R338). -/
structure Held where
  sym : Nat
  len : Nat
  crc : Nat
  slot : Option Nat
  w2c : Nat
  last : Nat
  deriving DecidableEq, Repr

/-- A record being forwarded: its RSEQ, its slot, the writes not yet answered, the retries used, since when a refused write
waits, and whether it failed (13 R340). -/
structure Fwd where
  rseq : Nat
  slot : Option Nat
  left : List (Nat × Word)
  tries : Nat
  wait : Option Nat
  deriving DecidableEq, Repr

structure Scn where
  frame : Option ScnFrame
  held : List Held
  recs : List Nat
  fwd : List Fwd
  rseq : Nat
  cancelAt : Option Nat
  deriving DecidableEq, Repr

def Scn.zero : Scn := ⟨none, [], [], [], 1, none⟩

/-! ### Displays and the Tell-tale Guard (15) -/

/-- What the ZP-20 returned for a frame: status, mask, CRC of the region table, and the CRC of each region (15 R406). -/
structure GReport where
  status : Nat
  mask : Nat
  tcrc : Nat
  crcs : List (Nat × Nat)
  deriving DecidableEq, Repr

/-- A frame the Guard awaits: FSEQ, per region its expected CRC and the pipe CRC, the CRC-32 of the region table as sent, and
the report accepted for it (15 R404, R407, R408). -/
structure GFrame where
  fseq : Nat
  regs : List (Nat × Nat × Nat)
  tcrc : Nat
  report : Option GReport
  deriving DecidableEq, Repr

/-- A display pipe (15 R385 to R398): the set latched last and whether the vault was READY then, the set that governs the frame
in progress, whether a set was accepted since enabling, whether frames are sent, the line, whether the next frame start is a
new mode, whether the pixel PLL must relock, UNDERRUN raised in this frame, the pixels of the line last started (R, G, B as
sent), the source rows held for the coming line, whether the line in progress has latched, when the last frame started, missed frames decided since and when, missed frames decided in all, and the frames awaited
by the Guard. -/
structure Dp where
  nxt : List (Nat × Word)
  nxtV : Bool
  cur : List (Nat × Word)
  curV : Bool
  acc : Bool
  run : Bool
  line : Nat
  mode : Bool
  relock : Bool
  undr : Bool
  out : List (List Nat)
  rows : List (Nat × List Byte)
  lat : Bool
  fs : Nat
  miss : Nat
  missAt : Nat
  blink : Nat
  await : List GFrame
  deriving DecidableEq, Repr

def Dp.zero : Dp := ⟨[], false, [], false, false, false, 0, false, false, false, [], [], false, 0, 0, 0, 0, []⟩

/-- The icon vault beside its registers: a format check is due, and whether it stayed SEALED since the image check under way
was accepted (15 R401). -/
structure Icv where
  chk : Bool
  held : Bool
  deriving DecidableEq, Repr

/-! ### Light drive and Lace (16) -/

/-- A pulse of the running sub-period: lamp code, start and length in ticks from the sub-period start, and DAC code. -/
structure LPulse where
  code : Nat
  from_ : Nat
  len : Nat
  e : Nat
  deriving DecidableEq, Repr

/-- A timing generator: when its period started, sub-periods begun, the derating factor its lamps took at the period start,
and the pulses of the running sub-period (16 R420, R434). -/
structure PwmT where
  start : Nat
  sub : Nat
  f : Nat
  pulses : List LPulse
  /-- A shed has ended and the lamps wait for the next period; periods left in which no fault is declared (19 R510). -/
  dark : Bool
  hush : Nat
  /-- A Seam hold froze the outputs, which follow the generator again from its next period after the refresh (01 R21). -/
  held : Bool
  deriving DecidableEq, Repr

/-- Why a Lace frame is sent (16 R446). -/
inductive LaceKind where
  | latch | allNone | sync | queued | poll
  deriving DecidableEq, Repr

/-- A Lace transaction: kind, address, read, register, data and tag. -/
structure LaceTx where
  kind : LaceKind
  addr : Nat
  read : Bool
  reg : Nat
  data : Nat
  tag : Nat
  deriving DecidableEq, Repr

/-- The transaction on the bus: its frame, the frames the last attempt put on the line, attempts begun, whether an attempt is
waiting for its response, and when its request ends (16 R443). -/
structure LaceBus where
  tx : LaceTx
  frame : List Byte
  line : List (List Byte)
  tries : Nat
  wait : Bool
  ends : Nat
  deriving DecidableEq, Repr

/-- Lace (16 R439 to R447): the queue, the response entries, eyelets that owe an ENABLE := 0, eyelets to be set online, polls
due, the latch frames still to send with their data, the bus, when it was last busy, the eyelets whose SEQ bit is 1, those that
need SEQSYNC before their next write, and when the last poll was due. -/
structure Lace where
  queue : List LaceTx
  resp : List (Word × Word)
  off : List Nat
  sync : List Nat
  polls : List Nat
  latch : Option (Nat × Nat)
  bus : Option LaceBus
  idle : Nat
  seq : List Nat
  need : List Nat
  pollAt : Nat
  deriving DecidableEq, Repr

def Lace.zero : Lace := ⟨[], [], [], [], [], none, none, 0, [], [], 0⟩

/-- A flag the power die latched in a Seam hold and sends in the refresh (01 R21): a lamp fault (open or short), a row switch's
overcurrent, a sink's low headroom, the boost's over-voltage. -/
inductive PdFlag where
  | lamp (c : Nat) (short : Bool)
  | row (r : Nat)
  | headroom (n : Nat)
  | ovp (v : Nat)
  deriving DecidableEq, Repr

/-- The strings and bypass switches of a Seam hold (01 R20, R21): each string's last state and current code, each zone's last
state, whether the refresh is over, and the scan and the phases since it at the refresh, from which a string's next period counts. -/
structure BlHold where
  strs : List (Bool × Nat)
  zones : List Bool
  past : Bool
  scan : Option (Word × Nat × Nat × Nat)
  ph : Nat
  deriving DecidableEq, Repr

/-- A pulse period of the strings: the scan it counts from and its number (16 R427). -/
structure BlPer where
  scan : Option (Word × Nat × Nat × Nat)
  k : Nat
  deriving DecidableEq, Repr

/-- A derating factor the strings keep up to the end of a pulse period (16 R434). -/
structure FHold where
  f : Nat
  per : BlPer
  deriving DecidableEq, Repr

/-- The light drive beside its registers (16): the timing generators of FG0 to FG15 and of the matrix, whether an evaluation of
the geometry runs, the geometry accepted and not yet active, whether its claim is in effect, rows off until the period ends, calibration entries pending, CLR
bits that wait for lamp faults, eyelets with a fault, the last zone scan (frame, line, phase, first band), the lamps the
power die drives in a hold, the strings of the last hold, the flags the power die has not sent yet, and the factor the strings
keep up to their next pulse period (R434), and the period in which a shed ended, which leaves them dark (19 R510). A pending
calibration entry is its index, its value and the time of its write (R431). -/
structure Light where
  pwm : List PwmT
  mxBusy : Bool
  mxNext : Option (Word × Word × Word)
  mxAcc : Option (Word × Word × Word)
  mxReady : Bool
  rowOff : Nat
  calPend : List (Nat × Word × Nat)
  clrPend : Nat
  eyeFault : List Nat
  scan : Option (Word × Nat × Nat × Nat)
  hold : List Nat
  holdAt : Nat
  bl : Option BlHold
  pend : List PdFlag
  fOld : Option FHold
  blDark : Option BlPer
  deriving DecidableEq, Repr

def PwmT.zero : PwmT := ⟨0, 0, 0, [], false, 0, false⟩

def Light.zero : Light := ⟨List.replicate 17 PwmT.zero, false, none, none, false, 0, [], 0, [], none, [], 0, none, [], none, none⟩

/-! ### Awl (20) -/

/-- A unit of a lane's symbol stream: the bytes of a packet from the first after SOP to the last CRC byte, with whether a
symbol error broke it; or the three bytes of a link-control set after LCS (17 R464, R469, R470; 20 R535). -/
inductive LUnit where
  | pkt (bytes : List Byte) (bad : Bool)
  | ctl (bytes : List Byte)
  deriving DecidableEq, Repr

/-- A unit an injector holds for reorder: a packet on its way over a link direction, or a lane's unit (20 R537). -/
inductive AwlHeld where
  | welt (dir : Nat) (f : Flight)
  | laneTx (n : Nat) (u : LUnit)
  | laneRx (n : Nat) (u : LUnit)
  deriving DecidableEq, Repr

/-- An injector beside its registers: matches since ARM, draws since ARM, actions since ARM, whether a PROBE_MARK with its
marker waits for a match, and the unit held with the time it was taken (20 R537, R538). -/
structure AwlInj where
  nth : Nat
  draws : Nat
  acts : Nat
  marked : Bool
  held : Option AwlHeld
  since : Nat
  deriving DecidableEq, Repr

def AwlInj.zero : AwlInj := ⟨0, 0, 0, false, none, 0⟩

/-! ### Serial lanes (17) -/

/-- The states of a lane (17 R459). -/
inductive LaneSt where
  | down | training | run | idle | dormant
  deriving DecidableEq, Repr

/-- LN_STAT.STATE (17 R459). -/
def LaneSt.code : LaneSt → Nat
  | .down => 0 | .training => 2 | .run => 3 | .idle => 4 | .dormant => 5

/-- Pixels of a host line that is not whole yet: line, first pixel, and the words to write (17 R468). -/
structure HostPart where
  y : Nat
  x : Nat
  px : List Byte
  deriving DecidableEq, Repr

/-- A host frame being received: whether it is dropped, its buffer, FSEQ, size, depth, the pixels received so far (line,
first pixel, pixels), and those of lines not whole, which are not written yet (17 R468). -/
structure HostFrame where
  drop : Bool
  buf : Nat
  fseq : Nat
  hact : Nat
  vact : Nat
  od : Nat
  got : List (Nat × Nat × Nat)
  part : List HostPart
  deriving DecidableEq, Repr

/-- A lane beside its registers (17 R456 to R468, R478, R479): its state, whether an exit is under way, ALIGNED, whether the far
end is in low power, lines left of a LANE_LP window, the checker's lock, bits inverted by INJ1, the eye scan, Pane Link packets
that wait for the lane, the units sent by the last command that sent any, the host frame, the held host buffers and the next
one in ring order. -/
structure Lane where
  st : LaneSt
  exiting : Bool
  aligned : Bool
  farLp : Bool
  win : Option Nat
  prbs : Bool
  inj : Nat
  esBusy : Bool
  esDone : Bool
  hold : List LUnit
  sent : List LUnit
  host : Option HostFrame
  held : List Nat
  next : Nat
  deriving DecidableEq, Repr

def Lane.zero : Lane := ⟨.down, false, false, false, none, false, 0, false, false, [], [], none, [], 0⟩

/-- A data packet kept for replay: LSEQ, KIND, units, when it was last sent, and replays made (17 R472). -/
structure LHeld where
  lseq : Nat
  kind : Nat
  units : List Byte
  sent : Nat
  tries : Nat
  deriving DecidableEq, Repr

/-- A data packet not yet sent: whether it is a response, its class and its units. -/
structure LWait where
  resp : Bool
  cls : Nat
  units : List Byte
  deriving DecidableEq, Repr

/-- An aperture request that waits for the far part: its origin, the packet as it goes out, and the mesh packet it answers
(17 R475). -/
structure LPend where
  src : Nat
  seq : Nat
  out : LWait
  net : Option Pkt
  deriving DecidableEq, Repr

/-- A far part's request issued on the mesh: its block request and its header (17 R476). -/
structure LIss where
  grp : Nat
  h : Hdr
  deriving DecidableEq, Repr

/-- A Welt Link (17 R469 to R477): UP, INIT and ACK of 0xFFF received, the expected sequence number, the value of E a NAK was
sent for, the next LSEQ, the replay buffer, LSEQs to replay, control sets and data packets to send, aperture requests pending,
far requests issued, the origin window, the origins of SE reads met, and acknowledgements that named nothing. -/
structure LinkSt where
  up : Bool
  init : Bool
  ack : Bool
  e : Nat
  nak : Option Nat
  nxt : Nat
  held : List LHeld
  again : List Nat
  ctl : List (List Byte)
  wait : List LWait
  pend : List LPend
  iss : List LIss
  once : List (Nat × OnceWin)
  seen : List (Nat × OnceWin)
  stray : Nat
  deriving DecidableEq, Repr

def LinkSt.zero : LinkSt := ⟨false, false, false, 0, none, 0, [], [], [], [], [], [], [], [], 0⟩

/-! ### Vehicle interfaces and converter (18) -/

/-- A CAN controller beside its registers (18 R484 to R488): error state (0 active, 1 passive, 2 bus-off), error counters, whether
bus-off recovery runs, pending buffers, the one being sent, the receive FIFO with stamps, and whether TB15 was loaded with the
grant that is first in line. -/
structure Can where
  mode : Nat
  txe : Nat
  rxe : Nat
  recov : Bool
  req : List Nat
  cur : Option Nat
  fifo : List (CanFrame × Word × Nat)
  grant : Bool
  deriving DecidableEq, Repr

def Can.zero : Can := ⟨0, 0, 0, false, [], none, [], false⟩

/-- LIN (18 R489): the schedule entry in progress and when it started, the slot whose frame is on the bus, and until when a wake
pulse runs. -/
structure Lin where
  entry : Option Nat
  at_ : Nat
  slot : Option Nat
  wake : Nat
  deriving DecidableEq, Repr

def Lin.zero : Lin := ⟨none, 0, none, 0⟩

/-- An I²C controller (18 R491): commands queued (0 START, 1 write, 2 read, 3 STOP; n; address), bytes of the write in progress
that are out, and the FIFOs. -/
structure I2c where
  cmds : List (Nat × Nat × Nat)
  out : Nat
  tx : List Byte
  rx : List Byte
  deriving DecidableEq, Repr

def I2c.zero : I2c := ⟨[], 0, [], []⟩

/-- An SPI controller (18 R492): the FIFOs and the frame sent last. -/
structure Spi where
  tx : List Word
  rx : List Word
  last : Word
  deriving DecidableEq, Repr

def Spi.zero : Spi := ⟨[], [], 0⟩

/-- XSPI (18 R493): the XS_CMD word of the command that runs, and whether the status poll still finds the flash busy. -/
structure Xspi where
  cmd : Option Word
  busy : Bool
  deriving DecidableEq, Repr

/-- The converter (18 R497, R499): whether a scan runs, its slot, the channels latched at its start, conversions still to mark
SETTLING, and when the last scan ended. -/
structure Adc where
  busy : Bool
  slot : Nat
  seq : List Nat
  settle : Nat
  ended : Nat
  deriving DecidableEq, Repr

def Adc.zero : Adc := ⟨false, 0, [], 0, 0⟩

/-! ### Power (19) -/

/-- What the ALWAYS domain, the supply monitors, the watchdog and the DRAM controller hold beside registers (19 R509 to R531): LOWBAT, SHED
and OV, each as the power die has it and (`lowL`, `shedL`, `ovL`) as the logic die was last told; the sleep request in progress and the sleep state the part is in (1 Deep Rest, 2 Rest with RTC, 3 Listen); whether a
brown-out put it there; the wake sources latched during an entry, each with its cause; the RTC and whether it runs and is valid; RST_CAUSE and
PWR_WCAUSE; the copies of WK_CTRL, WK_FILT and the CAN_SWK registers; when the wake sequence began and how long the wake
edge was before; the DRAM training set as its
CRC-32 and temperature code; the watchdog's last restart, the time it was loaded with and whether a kick pair is open; and the
lines left of the DRAM refresh window. -/
structure Pwr where
  low : Bool
  shed : Bool
  ov : Bool
  lowL : Bool
  shedL : Bool
  ovL : Bool
  entering : Option Nat
  asleep : Option Nat
  bor : Bool
  latched : List (Nat × Nat)
  rtc : Word
  rtcOn : Bool
  rtcv : Bool
  rst : Nat
  wcause : Nat
  wkCtrl : Word
  wkFilt : Word
  swk : List Word
  edge : Option (Nat × Nat)
  train : Option (Nat × Nat)
  wdAt : Nat
  wdLen : Nat
  wdOpen : Bool
  refWin : Option Nat
  deriving DecidableEq, Repr

/-- ALWAYS after a power-on reset (19 R512). -/
def Pwr.por : Pwr :=
  { low := false, shed := false, ov := false, lowL := false, shedL := false, ovL := false, entering := none, asleep := none, bor := false, latched := [], rtc := 0,
    rtcOn := false, rtcv := false, rst := 1, wcause := 0x80, wkCtrl := 0, wkFilt := 0x01010101, swk := [0, 0, 0, 0, 0, 0],
    edge := some (0, 0), train := none, wdAt := 0, wdLen := 1000, wdOpen := false, refWin := none }

end Sys2Proof.Machine
end

