-- ==== Sys2Proof/Machine/State.lean ====
section
/-! DEFINITION. Machine/State.lean: the state of the part, its reset, and the reasons a step can stop. -/

namespace Sys2Proof.Machine

structure State where
  grade : Grade
  /-- The Gralvo column the die's fuses disable (10 R242). -/
  fused : Option Nat
  /-- The registers, by page × 4096 + offset: the value last written or set by the hardware. -/
  regs : List (Nat × Word)
  /-- The active copies of RWS registers (03 R78). -/
  act : List (Nat × Word)
  /-- Pages with a soft reset in progress (03 R93). -/
  srst : List Nat
  /-- Accesses that wait at their page (03 R93, 04 R105, 06 R147), each with the mesh packet it came in, if any. -/
  waiting : List (Acc × Option Pkt)
  /-- Writes of TEN_CTRL.LOCK whose checks still run: their responses come with the outcome (04 R105, R106). -/
  lockWait : List (Acc × Option Pkt)
  /-- The W1C bits the hardware has set in the present clock cycle, as register key and bit (00 R14). -/
  fresh : List (Nat × Nat)
  resp : Resp
  seam : Seam
  clk : Clocks
  ltb : Ltb
  ten : Ten
  doms : List Dom
  adm : Adm
  welt : Welt
  /-- CORE0 to CORE3 and the Keeper. -/
  cores : List CoreSt
  grv : Grv
  ald : Ald
  sec : Sec
  /-- Streams 0 to 3 of CAP0 and of CAP1. -/
  caps : List (List CapStr)
  /-- Until when the trigger ball of CAP0 and of CAP1 stands at its active level. -/
  trig : List (Option Nat)
  isp : Isp
  sill : Sill
  scn : Scn
  /-- DP0 and DP1. -/
  dps : List Dp
  icv : Icv
  light : Light
  lace : Lace
  /-- AI0 to AI3. -/
  awl : List AwlInj
  /-- LANE0 to LANE3, and the Welt Link of each. -/
  lanes : List Lane
  links : List LinkSt
  /-- CAN0 and CAN1. -/
  cans : List Can
  lin : Lin
  i2cs : List I2c
  spis : List Spi
  xspi : Xspi
  adc : Adc
  /-- Levels outside drives on the GPIO pins, and the filtered levels of WAKE0 to WAKE3. -/
  pins : BitVec 32
  wake : BitVec 4
  pwr : Pwr
  /-- Memory: the listed bytes, and how often each region has lost its contents. -/
  mem : List Host.Cell
  epoch : List Nat
  /-- Cycles of the Welt clock since reset, those of them passed on the internal oscillator (01 R566), and the time since reset
  in units of 1.25 ns. -/
  now : Nat
  osc : Nat
  time : Nat
  freeCtr : Nat
  pending : List Instr
  deriving DecidableEq, Repr

/-- Why a command stops. No rule of the spec stops the block: every error it describes is an effect on State, so no command
raises a fault. -/
inductive Fault where
  deriving DecidableEq, Repr

/-- Why a command is refused. -/
inductive Refusal where
  /-- Raised by an arm of exec whose command has no meaning in the model; safe, for nothing is claimed of it. -/
  | notModelled (mnemonic : String)
  deriving DecidableEq, Repr

/-- The domains after reset: SEC and SYS in Run, every other in Off (19 R523). -/
def Dom.off : Dom := ⟨.off, none, none, false⟩
def Dom.run : Dom := ⟨.run, none, none, false⟩

/-- The part right after a power-on reset (19 R512, R523): every register at its reset value, ALWAYS cleared, SEC and SYS in
Run on the internal oscillator, every other domain in Off, the application cores held in reset, the Keeper at the start of the
boot ROM (07 R194). -/
def State.reset : State :=
  { grade := .zm816, fused := none, regs := [], act := [], srst := [], waiting := [], lockWait := [], fresh := [], resp := ⟨.ok, 0, [], false, false⟩,
    seam := ⟨0, 0, 0, 0, false, false⟩, clk := ⟨true, false, false, false, false, false, false⟩,
    ltb := ⟨0, 0, 0, 0x379, 0, false, 0, 0x4571C7, false, 4, [], [], [], [], ⟨0, 0, 0, false, []⟩, ⟨0, 0, 0, false, []⟩⟩,
    ten := ⟨false, false, false, [], false, 0⟩,
    doms := [Dom.run, Dom.run, Dom.off, Dom.off, Dom.off, Dom.off, Dom.off, Dom.off, Dom.off, Dom.off, Dom.off, Dom.off],
    adm := Adm.zero,
    welt := ⟨[], [], List.replicate 26 NiSt.zero, [], [], [], [], 0, 0, 0⟩,
    cores := [CoreSt.zero, CoreSt.zero, CoreSt.zero, CoreSt.zero, { CoreSt.zero with inReset := false, run := true, pc := 0x10000, redir := true }],
    grv := Grv.zero, ald := Ald.zero, sec := { Sec.zero with retLost := true },
    caps := [List.replicate 4 CapStr.zero, List.replicate 4 CapStr.zero], trig := [none, none], isp := Isp.zero,
    sill := Sill.zero, scn := Scn.zero, dps := [Dp.zero, Dp.zero], icv := ⟨false, false⟩, light := Light.zero,
    lace := Lace.zero, awl := List.replicate 4 AwlInj.zero, lanes := List.replicate 4 Lane.zero,
    links := List.replicate 4 LinkSt.zero, cans := [Can.zero, Can.zero], lin := Lin.zero, i2cs := List.replicate 3 I2c.zero,
    spis := [Spi.zero, Spi.zero], xspi := ⟨none, false⟩, adc := Adc.zero, pins := 0, wake := 0, pwr := Pwr.por, mem := [],
    epoch := List.replicate 10 0, now := 0, osc := 0, time := 0, freeCtr := 0, pending := [] }

end Sys2Proof.Machine
end

