-- ==== Sys2Proof/Machine/Ops.lean ====
section
/-! DEFINITION. Machine/Ops.lean: the named operations over registers, pages, events and errors. -/

namespace Sys2Proof.Machine

/-! ### Bit fields -/

/-- Bits `hi` to `lo` of a word, as a number. -/
def fldOf (v : Word) (hi lo : Nat) : Nat := (v.toNat >>> lo) % 2 ^ (hi + 1 - lo)

/-- The word `v` with bits `hi` to `lo` set to `x` (modulo the field's size). -/
def setFldOf (v : Word) (hi lo x : Nat) : Word :=
  let m : Word := BitVec.ofNat 32 ((2 ^ (hi + 1 - lo) - 1) <<< lo)
  (v &&& ~~~m) ||| (BitVec.ofNat 32 (x <<< lo) &&& m)

/-- The signed value of an `n`-bit field. -/
def sgn (n x : Nat) : Int := if x % 2 ^ n < 2 ^ (n - 1) then (x % 2 ^ n : Nat) else (x % 2 ^ n : Nat) - (2 ^ n : Nat)

def b2n (b : Bool) : Nat := if b then 1 else 0

/-! ### Page indices (03 R73; 10 R267; 12 R317; 13 R344; 14 R381 to R384) -/

abbrev pgSYS : Nat := 0x000
abbrev pgLTB : Nat := 0x001
abbrev pgADM : Nat := 0x002
abbrev pgTEN : Nat := 0x003
abbrev pgPWR : Nat := 0x004
abbrev pgCLK : Nat := 0x005
abbrev pgRST : Nat := 0x006
abbrev pgEVR : Nat := 0x007
abbrev pgWDG : Nat := 0x008
abbrev pgRouter (n : Nat) : Nat := 0x010 + n
abbrev pgNI (n : Nat) : Nat := 0x020 + n
abbrev pgPRB : Nat := 0x040
abbrev pgSTAT : Nat := 0x041
abbrev pgAWL : Nat := 0x042
abbrev pgCORE (c : Nat) : Nat := 0x050 + c
abbrev pgGRV : Nat := 0x060
abbrev pgGCTX (n : Nat) : Nat := 0x061 + n
abbrev pgALD : Nat := 0x069
abbrev pgCAP (n : Nat) : Nat := 0x070 + n
abbrev pgISP : Nat := 0x072
abbrev pgISP1 : Nat := 0x073
abbrev pgISP2 : Nat := 0x074
abbrev pgISP3 : Nat := 0x075
abbrev pgSCN : Nat := 0x080
abbrev pgSILL : Nat := 0x081
abbrev pgSEC : Nat := 0x090
abbrev pgSVC : Nat := 0x091
abbrev pgSECIN : Nat := 0x093
abbrev pgSECK : Nat := 0x094
abbrev pgDP (p : Nat) : Nat := 0x0A0 + p
abbrev pgTTG : Nat := 0x0A2
abbrev pgICV : Nat := 0x0A3
abbrev pgLD : Nat := 0x0B0
abbrev pgMX : Nat := 0x0B1
abbrev pgBLD : Nat := 0x0B2
abbrev pgCAL : Nat := 0x0B3
abbrev pgFG : Nat := 0x0B4
abbrev pgLACE : Nat := 0x0B5
abbrev pgLANE (n : Nat) : Nat := 0x0C0 + n
abbrev pgLINK (n : Nat) : Nat := 0x0C4 + n
abbrev pgPANE (n : Nat) : Nat := 0x0C8 + n
abbrev pgCAN (n : Nat) : Nat := 0x0D0 + n
abbrev pgLIN : Nat := 0x0D2
abbrev pgADC : Nat := 0x0D3
abbrev pgI2C (n : Nat) : Nat := 0x0D4 + n
abbrev pgSPI (n : Nat) : Nat := 0x0D7 + n
abbrev pgXSPI : Nat := 0x0D9
abbrev pgGPIO : Nat := 0x0DA
abbrev pgDRAM : Nat := 0x0DB

/-- Whether a page index is absent on the ZM-810 alone (03 R74, 01 R26). -/
def absent810 (p : Nat) : Bool :=
  p == 0x053 || p == 0x0C2 || p == 0x0C3 || p == 0x0C6 || p == 0x0C7 || p == 0x0CA || p == 0x0CB
    || p == 0x025 || p == 0x036

/-- The block whose registers a page index holds (03 R73), before the grade is asked. -/
def blkOf (p : Nat) : Option Blk :=
  if p = 0 then some .sys else if p = 1 then some .ltb else if p = 2 then some .adm else if p = 3 then some .ten
  else if p = 4 then some .pwr else if p = 5 then some .clk else if p = 6 then some .rst else if p = 7 then some .evr
  else if p = 8 then some .wdg
  else if p < 0x10 then none else if p < 0x20 then some .router
  else if p < 0x3A then some .ni else if p < 0x40 then none
  else if p = 0x40 then some .prb else if p = 0x41 then some .stat else if p = 0x42 then some .awl
  else if p < 0x50 then none else if p < 0x55 then some .core
  else if p < 0x60 then none else if p = 0x60 then some .grv else if p < 0x69 then some .gctx
  else if p = 0x69 then some .ald else if p < 0x70 then none
  else if p < 0x72 then some .cap else if p = 0x72 then some .isp else if p = 0x73 then some .isp1
  else if p = 0x74 then some .isp2 else if p = 0x75 then some .isp3
  else if p < 0x80 then none else if p = 0x80 then some .scn else if p = 0x81 then some .sill
  else if p < 0x90 then none else if p = 0x90 then some .sec else if p = 0x91 then some .svc
  else if p = 0x93 then some .secin else if p = 0x94 then some .seck
  else if p < 0xA0 then none else if p < 0xA2 then some .dp else if p = 0xA2 then some .ttg
  else if p = 0xA3 then some .icv else if p < 0xB0 then none
  else if p = 0xB0 then some .ld else if p = 0xB1 then some .mx else if p = 0xB2 then some .bld
  else if p = 0xB3 then some .cal else if p = 0xB4 then some .fg else if p = 0xB5 then some .lace
  else if p < 0xC0 then none else if p < 0xC4 then some .lane else if p < 0xC8 then some .link
  else if p < 0xCC then some .pane else if p < 0xD0 then none
  else if p < 0xD2 then some .can else if p = 0xD2 then some .lin else if p = 0xD3 then some .adc
  else if p < 0xD7 then some .i2c else if p < 0xD9 then some .spi else if p = 0xD9 then some .xspi
  else if p = 0xDA then some .gpio else if p = 0xDB then some .dram else none

/-- The block of a page that is present on the grade (03 R74). -/
def pageBlk (g : Grade) (p : Nat) : Option Blk :=
  if g = .zm810 ∧ absent810 p = true then none else blkOf p

/-- The family digit of a page's error codes (03 R85). -/
def pageFamily (p : Nat) : Nat :=
  if p < 0x10 then 0 else if p < 0x40 then 1 else if p < 0x50 then 2 else if p < 0x60 then 3 else if p < 0x70 then 4
  else if p < 0x80 then 5 else if p < 0x90 then 6 else if p < 0xA0 then 7 else if p < 0xB0 then 8
  else if p < 0xC0 then 9 else if p < 0xD0 then 0xA else if p < 0xDB then 0xB else 0xC

/-- The domain index of R518 that holds a page's block; the DRAM page is held in SYS (01 R23, R24). -/
def pageDom (p : Nat) : Nat :=
  if p < 0x60 then 1 else if p < 0x70 then 6 else if p < 0x80 then 7 else if p < 0x90 then 8 else if p < 0xA0 then 0
  else if p < 0xB0 then 9 else if p < 0xC0 then 1 else if p < 0xD0 then 10 else 1

/-- The domain whose state PG_STAT shows: that of the block behind the page. -/
def blockDom (p : Nat) : Nat :=
  if 0x050 ≤ p ∧ p < 0x054 then 2 + (p - 0x050) else if p = 0x054 then 0 else if p = 0x0DB then 11 else pageDom p

/-! ### Register storage -/

/-- The key of a register. -/
def rkey (p o : Nat) : Nat := p * 4096 + o

/-- What a register reads as right after reset (03 R92 and the tables of each block). -/
def resetVal (g : Grade) (k : Nat) : Word :=
  let p := k / 4096
  let o := k % 4096
  match pageBlk g p with
  | none => 0
  | some b =>
    if o < 0x40 then 0
    else if b = .ni ∧ 0x200 ≤ o ∧ o < 0x300 then BitVec.ofNat 32 (rteDefault g (p - 0x20) ((o - 0x200) / 4))
    else match findRow b o with
      | none => 0
      | some r => BitVec.ofNat 32 r.rst

/-- The register at offset `o` of page `p`: the value last written or set. -/
def State.r (s : State) (p o : Nat) : Word := Sparse.get (resetVal s.grade) s.regs (rkey p o)

/-- The active copy of an RWS register (03 R78). -/
def State.a (s : State) (p o : Nat) : Word := Sparse.get (resetVal s.grade) s.act (rkey p o)

/-- Bits `hi` to `lo` of a register. -/
def State.f (s : State) (p o hi lo : Nat) : Nat := fldOf (s.r p o) hi lo

/-- Bits `hi` to `lo` of the active copy of a register. -/
def State.af (s : State) (p o hi lo : Nat) : Nat := fldOf (s.a p o) hi lo

/-- Store a register. -/
def State.w (s : State) (p o : Nat) (v : Word) : State :=
  { s with regs := Sparse.put (resetVal s.grade) (rkey p o) v s.regs }

/-- Store bits `hi` to `lo` of a register. -/
def State.sf (s : State) (p o hi lo x : Nat) : State := s.w p o (setFldOf (s.r p o) hi lo x)

/-- Store an active copy. -/
def State.wa (s : State) (p o : Nat) (v : Word) : State :=
  { s with act := Sparse.put (resetVal s.grade) (rkey p o) v s.act }

/-- Count field `hi` to `lo` up by `n`, stopping at its largest value. -/
def State.cntUp (s : State) (p o hi lo n : Nat) : State :=
  s.sf p o hi lo (satAdd (2 ^ (hi + 1 - lo) - 1) (s.f p o hi lo) n)

/-- Count field `hi` to `lo` up by one, wrapping. -/
def State.cntWrap (s : State) (p o hi lo : Nat) : State := s.sf p o hi lo (s.f p o hi lo + 1)

/-! ### Events and errors -/

/-- The hardware has changed bit `b` of a register in this clock cycle. -/
def State.touch (s : State) (p o b : Nat) : State :=
  { s with fresh := if s.fresh.contains (rkey p o, b) then s.fresh else s.fresh ++ [(rkey p o, b)] }

/-- The hardware sets W1C bit `b` of a register: a clear in the same clock cycle leaves it 1 (00 R14). The cycle is the model's,
from one tick to the next (DESIGN CHOICE, log entry 98). -/
def State.setW1 (s : State) (p o b : Nat) : State := (s.sf p o b b 1).touch p o b

/-- The bits of a register that the hardware has changed in this clock cycle. -/
def State.freshBits (s : State) (p o : Nat) : Word :=
  s.fresh.foldl (fun m e => if e.1 = rkey p o then m ||| BitVec.ofNat 32 (2 ^ e.2) else m) 0

/-- A write of `v` to W1C bits `wc` of a register: what remains of `old` (00 R13, R14). -/
def State.clearW1 (s : State) (p o : Nat) (old v wc : Word) : Word := old &&& ~~~(v &&& wc &&& ~~~(s.freshBits p o))

/-- Raise event bit `b` of a page (03 R77). -/
def State.ev (s : State) (p b : Nat) : State := s.setW1 p 0x014 b

/-- Record an error in a page (03 R87). -/
def State.err (s : State) (p code info : Nat) : State :=
  let s := if s.f p 0x028 15 0 = 0 then s else s.sf p 0x028 30 30 1
  let s := s.sf p 0x028 15 0 code
  let s := s.cntUp p 0x028 23 16 1
  let s := s.w p 0x02C (BitVec.ofNat 32 info)
  s.ev p 31

/-- The common error codes of a page (20 R541). -/
def codeOf (p cls det : Nat) : Nat := cls * 0x1000 + pageFamily p * 0x100 + det

def State.errSize (s : State) (p o : Nat) : State := s.err p (codeOf p 2 1) o
def State.errLocked (s : State) (p o : Nat) : State := s.err p (codeOf p 2 2) o
def State.errValue (s : State) (p o : Nat) : State := s.err p (codeOf p 1 3) o
def State.errBusy (s : State) (p o : Nat) : State := s.err p (codeOf p 1 4) o
def State.errCap (s : State) (p o : Nat) : State := s.err p (codeOf p 5 5) o

/-! ### Tenants, owners and domains -/

/-- Whether a page has the fixed owner T0 (03 R82). -/
def fixedOwner (p : Nat) : Bool := decide (p ≤ 0x008) || p == 0x054 || (decide (0x094 ≤ p) && decide (p ≤ 0x09F))

/-- The owner of a page: T0 where fixed, else the tenant table's (03 R82, 04 R98). -/
def State.owner (s : State) (p : Nat) : Nat :=
  if fixedOwner p ∨ pageBlk s.grade p = none then 0 else s.f pgTEN (0x300 + 4 * (p / 8)) (4 * (p % 8) + 3) (4 * (p % 8))

/-- The state of domain `d` of R518. -/
def State.dom (s : State) (d : Nat) : PState := (s.doms.getD d ⟨.off, none, none, false⟩).st

def State.domRun (s : State) (d : Nat) : Bool := decide (s.dom d = .run)

/-- Change the record of domain `d`. -/
def State.updDom (s : State) (d : Nat) (f : Dom → Dom) : State := { s with doms := s.doms.modify d f }

/-- TEN_GRVt.CTX bits: a tenant holds context `x` if its bit names it; T0 holds what no other tenant holds (04 R98). -/
def State.bitHeldBy (s : State) (base bit t : Nat) : Bool := decide (s.f pgTEN (base + 0x20 * t) bit bit = 1)

def State.holder (s : State) (base bit : Nat) : Nat :=
  (((List.range 15).map (· + 1)).find? fun t => s.bitHeldBy base bit t).getD 0

/-- The tenant that holds Gralvo context `x`. -/
def State.ctxHolder (s : State) (x : Nat) : Nat := s.holder 0x108 x
/-- The tenant that holds function group `g`. -/
def State.fgHolder (s : State) (g : Nat) : Nat := s.holder 0x10C g

/-- The illumination share of tenant `t` in 1/256 (04 R98, 13 R322). -/
def State.illShare (s : State) (t : Nat) : Nat :=
  let others := ((List.range 15).map fun i => s.f pgTEN (0x108 + 0x20 * (i + 1)) 24 16).foldl (· + ·) 0
  if t = 0 then 256 - others else s.f pgTEN (0x108 + 0x20 * t) 24 16

/-- The tenant of application core `c` if the core is assigned (04 R98). -/
def State.coreTnt (s : State) (c : Nat) : Option Nat :=
  if s.f pgTEN 0x048 (8 * c + 4) (8 * c + 4) = 1 then some (s.f pgTEN 0x048 (8 * c + 3) (8 * c)) else none

/-- Whether application core `c` is present on the grade (00 R2). -/
def corePresent (g : Grade) (c : Nat) : Bool := decide (c < 4) && !(decide (g = .zm810) && c == 3)

/-- Whether lane `n` is present on the grade (00 R2). -/
def lanePresent (g : Grade) (n : Nat) : Bool := decide (n < 4) && !(decide (g = .zm810) && decide (2 ≤ n))

/-- Whether tenant `t` may wake domain `d` (04 R98, TEN_LWt.WAKE). -/
def State.mayWake (s : State) (t d : Nat) : Bool := s.bitHeldBy 0x10C (16 + d) t

/-- One violation (04 R107, R109): the count, the record unless it is a quarantine refusal, the event, and the quarantine
when the count reaches the limit. -/
def State.violation (s : State) (kind tnt ni det addr : Nat) (record : Bool) : State :=
  let s := s.cntUp pgTEN (0x060 + 4 * tnt) 15 0 1
  let s :=
    if record then
      if s.ten.recs.length < 8 then
        let a := BitVec.ofNat 32 (kind <<< 28 + tnt <<< 24 + ni <<< 16 + det)
        { s with ten := { s.ten with recs := s.ten.recs ++ [(a, BitVec.ofNat 32 addr)] } }
      else { s with ten := { s.ten with vovf := true } }
    else s
  let s := s.ev pgTEN 0
  let lim := s.f pgTEN (0x110 + 0x20 * tnt) 15 0
  if lim ≠ 0 ∧ lim ≤ s.f pgTEN (0x060 + 4 * tnt) 15 0 ∧ s.ten.quar.getLsbD tnt = false then
    let s := { s with ten := { s.ten with quar := s.ten.quar ||| BitVec.ofNat 16 (2 ^ tnt) } }
    s.ev pgTEN 1
  else s

/-! ### Answers and free values -/

def State.answer (s : State) (st : Sts) (d : Word) : State := { s with resp := ⟨st, d, [], false, false⟩ }

/-- Take the next free value: a word nothing constrains. -/
def State.freeW (s : State) : Word := Config.freeWord s.freeCtr
def State.tookFree (s : State) : State := { s with freeCtr := s.freeCtr + 1 }

/-! ### Clocks (01 R27, R566)
Every clock derived from SYSPLL runs from the oscillator while SYSPLL is not locked, one cycle per oscillator cycle. -/

/-- Half cycles of the Rhoif clock since reset. -/
def State.rhoNow (s : State) : Nat := s.now + s.osc
/-- Thirds of a cycle of the Gralvo clock since reset. -/
def State.grvNow (s : State) : Nat := 2 * s.now + s.osc
/-- Tenths of a cycle of the peripheral clock since reset. -/
def State.perNow (s : State) : Nat := s.now + 9 * s.osc

/-! ### Plain register writes -/

/-- The bits of the fields of `r` whose written value lies outside the stated range. -/
def badBits (r : RegRow) (v : Word) : Nat :=
  r.rng.foldl (fun m g => if fldOf v g.hi g.lo < g.min ∨ g.max < fldOf v g.hi g.lo
    then m ||| ((2 ^ (g.hi + 1 - g.lo) - 1) <<< g.lo) else m) 0

/-- Whether the RWL bits of a block are locked (03 R83). -/
def State.rwlLocked (s : State) : Bool := s.ten.locked

/-- A write to a register with no behaviour of its own: reserved offsets ignore it (00 R15); a field outside its range is
left and refused (03 R86); locked RWL bits are left and recorded (03 R83); RWS bits set PEND (03 R80); each 1 clears a W1C
bit (00 R13). `refused` names bits the block refuses beyond the ranges, `frozen` bits that ignore the write, and `info` is
the ERR_INFO of a value refusal. -/
def State.plainWrite (s : State) (p o : Nat) (v : Word) (refused frozen info : Nat) : State :=
  match pageBlk s.grade p with
  | none => s
  | some b =>
    match findRow b o with
    | none => s
    | some r =>
      let bad := badBits r v ||| refused
      let locked := s.rwlLocked && decide (r.lk ≠ 0)
      let m : Word := BitVec.ofNat 32 (r.rw ||| r.sh ||| (if locked then 0 else r.lk)) &&&
        ~~~(BitVec.ofNat 32 (bad ||| frozen))
      let old := s.r p o
      let new := s.clearW1 p o ((old &&& ~~~m) ||| (v &&& m)) v (BitVec.ofNat 32 r.wc)
      let s := s.w p o new
      let s := if r.sh = 0 then s else s.sf p 0x024 0 0 1
      let s := if locked then s.errLocked p o else s
      if bad = 0 ∨ (locked ∧ r.rw ||| r.sh = 0) then s else s.err p (codeOf p 1 3) info

/-- The write with nothing beyond the table's rules. -/
def State.plain (s : State) (p o : Nat) (v : Word) : State := s.plainWrite p o v 0 0 o

end Sys2Proof.Machine
end

