-- ==== Sys2Proof/Machine/Memory.lean ====
section
/-! DEFINITION. Machine/Memory.lean: the bytes of the physical address map (03 R70), in canonical form. -/

namespace Sys2Proof.Machine

/-- The memory rows of R70 that hold bytes: 0 boot ROM, 1 shared SRAM, 2 icon vault, 3 flash behind the xSPI window, 4 to 7
local memories of CORE0 to CORE3, 8 Keeper local memory, 9 DRAM. -/
def memRegion (a : Nat) : Option Nat :=
  if a < 0x40000 then some 0
  else if a < 0x10000000 then none
  else if a < 0x10300000 then some 1
  else if a < 0x10340000 then some 2
  else if a < 0x20000000 then none
  else if a < 0x30000000 then some 3
  else if a < 0x30400000 then some (4 + (a - 0x30000000) / 0x100000)
  else if a < 0x30500000 then some 8
  else if a < 0x80000000 then none
  else if a < 0xA0000000 then some 9
  else none

/-- Whether a byte of `n` from `a` lies in the part of a core's window that holds no memory (07 R161, R194). -/
def coreHole (a n : Nat) : Bool := decide (0x30000000 ≤ a ∧ a < 0x30500000 ∧ 0x40000 ≤ (a + n - 1) % 0x100000)

/-- What an unlisted byte reads as: erased flash 0xFF, every other byte 0x00 (DESIGN CHOICE and PRESUMED, log entry 7), and
a free value in a region whose contents were lost `epoch` times. The boot ROM's contents are the die's (log entry 8). -/
def memDefault (epoch : List Nat) (a : Nat) : Byte :=
  match memRegion a with
  | none => 0
  | some r =>
    if r = 0 then Config.freeByte 0 a
    else if epoch.getD r 0 = 0 then (if r = 3 then 0xFF else 0)
    else Config.freeByte (epoch.getD r 0) a

/-- Memory in its canonical form (abbreviates a decidable check). -/
abbrev Memory.wf (epoch : List Nat) (m : List Host.Cell) : Prop := Sparse.wf (memDefault epoch) m = true

/-- One byte of memory. -/
def State.rdByte (s : State) (a : Nat) : Byte := Sparse.get (memDefault s.epoch) s.mem a

/-- Store one byte of memory; addresses of no memory row hold nothing. -/
def State.wrByte (s : State) (a : Nat) (v : Byte) : State :=
  if memRegion a = none then s else { s with mem := Sparse.put (memDefault s.epoch) a v s.mem }

/-- `n` bytes from `a` on. -/
def State.rdBytes (s : State) (a : Nat) : Nat → List Byte
  | 0 => []
  | n + 1 => s.rdByte a :: s.rdBytes (a + 1) n

/-- Store bytes from `a` on. -/
def State.wrBytes (s : State) (a : Nat) : List Byte → State
  | [] => s
  | b :: t => (s.wrByte a b).wrBytes (a + 1) t

/-- Little-endian number of bytes. -/
def leNat : List Byte → Nat
  | [] => 0
  | b :: t => b.toNat + 256 * leNat t

/-- `n` bytes of a number, lowest first. -/
def leBytes : Nat → Nat → List Byte
  | 0, _ => []
  | n + 1, v => BitVec.ofNat 8 v :: leBytes n (v / 256)

def State.rd32 (s : State) (a : Nat) : Nat := leNat (s.rdBytes a 4)
def State.rd16 (s : State) (a : Nat) : Nat := leNat (s.rdBytes a 2)
def State.wr32 (s : State) (a v : Nat) : State := s.wrBytes a (leBytes 4 v)
def State.wr16 (s : State) (a v : Nat) : State := s.wrBytes a (leBytes 2 v)

/-- A region loses its contents: its bytes become free values (07 R161, 19 R516). -/
def State.loseRegion (s : State) (r : Nat) : State :=
  { s with mem := Sparse.keep (fun a => decide (memRegion a ≠ some r)) s.mem,
           epoch := s.epoch.modify r (· + 1) }

/-- The CRC-32 of R269 (11): polynomial 0x04C11DB7 reflected, initial value and final complement all ones. -/
def crcBit (c : Nat) : Nat := if c % 2 = 1 then (c / 2) ^^^ 0xEDB88320 else c / 2

def crcByte (c : Nat) (b : Byte) : Nat :=
  let c := c ^^^ b.toNat
  crcBit (crcBit (crcBit (crcBit (crcBit (crcBit (crcBit (crcBit c)))))))

def crc32 (bs : List Byte) : Nat := (bs.foldl crcByte 0xFFFFFFFF) ^^^ 0xFFFFFFFF

end Sys2Proof.Machine
end

