-- ==== Sys2Proof/Machine/Admission.lean ====
section
/-! DEFINITION. Machine/Admission.lean: the Admission Unit (05). -/

namespace Sys2Proof.Machine

/-! ### Line time and capacities (05 R117, R118) -/

/-- The line time of the master in force, as a fraction of a second. A slaved DP1 runs at DP0's line rate, whose registers then give
it (15 R386). A display master whose pipe names no pixel clock has no raster; the virtual line stands for it (log entry 20). -/
def State.lineTime (s : State) : Nat × Nat :=
  let m := s.f pgLTB 0x044 2 0
  let virt := (s.ltb.virtV, 256 * 800000000)
  if m = 0 ∨ m = 1 then
    let p := if m = 1 ∧ s.af (pgDP 1) 0x040 12 12 = 1 then 0 else m
    let f := s.af (pgDP p) 0x04C 27 0
    if f = 0 then virt else (s.af (pgDP p) 0x050 28 16, f)
  else if m = 2 ∨ m = 3 then (s.ltb.pers.foldl max 0, 800000000)
  else virt

def State.vtAct (s : State) : Nat := s.f pgLTB 0x054 11 0

/-- Usable Gralvo columns (10 R267, GRV_FUSE.UCOLS). -/
def State.usableCols (s : State) : Nat := (if s.grade = .zm816 then 12 else 8) - b2n s.fused.isSome

/-- Capacity of an instance as an exact fraction, and its reservable part in percent (05 R118), from the line time and HT of the last
recomputation (R126); the lane rate is the LANE page's at the evaluation. -/
def State.capacity (s : State) (res inst : Nat) : Nat × Nat × Nat :=
  let l := s.adm.cap.l
  if res = 0 then (12800000000 * l.1, l.2, 75)
  else if res = 1 then (800000000 * l.1, l.2, 80)
  else if res = 2 then (s.usableCols * 8 * 1600000000 * l.1, 3 * l.2, 100)
  else if res = 3 then (800000000 * l.1, l.2, 100)
  else if res = 4 then (16 * s.adm.cap.hts.getD inst 0, 1, 100)
  else if res = 5 then
    if inst < 4 then (s.af (pgLANE inst) 0x040 10 4 * 12500000 * l.1, l.2, 90)
    else (3 * s.adm.cap.hts.getD (inst - 4) 0, 1, 100)
  else if res = 6 then
    if s.f pgSILL 0x044 0 0 = 1 then (s.f pgSILL 0x048 9 0 * 1000000 * l.1 * s.vtAct, l.2, 100) else (0, 1, 100)
  else if res = 7 then (s.adm.mxCap.1 * 25, 2 * s.adm.mxCap.2, 100)
  else (0, 1, 100)

def State.reservable (s : State) (res inst : Nat) : Nat :=
  let c := s.capacity res inst
  c.1 * c.2.2 / (c.2.1 * 100)

/-- The tenant's ceiling on one instance, where the resource has one (05 R118; 13 R324 for ILL). -/
def State.ceiling (s : State) (res inst t : Nat) : Option Nat :=
  let c := s.capacity res inst
  let part (n : Nat) : Option Nat := some (n * c.1 * c.2.2 / (c.2.1 * 100 * 64))
  if res = 0 then part (s.f pgTEN (0x104 + 0x20 * t) 6 0)
  else if res = 1 then part (s.f pgTEN (0x104 + 0x20 * t) 14 8)
  else if res = 5 ∧ inst < 4 then part (s.f pgTEN (0x104 + 0x20 * t) 22 16)
  else if res = 6 then some (s.illShare t * c.1 / (c.2.1 * 256))
  else none

/-! ### Claims and bookings (05 R114, R115, R119, R120) -/

def ClaimW.res (c : ClaimW) : Nat := fldOf c.w0 31 28
def ClaimW.inst (c : ClaimW) : Nat := fldOf c.w0 23 16
def ClaimW.aux (c : ClaimW) : Nat := fldOf c.w0 15 8
def ClaimW.tag (c : ClaimW) : Nat := fldOf c.w0 7 0
def ClaimW.start (c : ClaimW) : Nat := fldOf c.w1 11 0
def ClaimW.end_ (c : ClaimW) : Nat := fldOf c.w1 27 16
def ClaimW.amount (c : ClaimW) : Nat := c.w2.toNat
def ClaimW.div (c : ClaimW) : Nat := fldOf c.w3 30 28
def ClaimW.fofs (c : ClaimW) : Nat := fldOf c.w3 27 24
def ClaimW.rev (c : ClaimW) : Bool := decide (fldOf c.w3 0 0 = 1)

def ceilDiv (a b : Nat) : Nat := (a + b - 1) / b

/-- A booking of `b` per line of the window, by claim number `ci` of the set; `once` marks the ILL bookings. -/
structure Booking where
  ci : Nat
  tnt : Nat
  res : Nat
  inst : Nat
  cl : ClaimW
  b : Nat
  deriving DecidableEq, Repr

/-- Window length (05 R115). -/
def winLen (vt : Nat) (c : ClaimW) : Nat := (c.end_ + vt - c.start) % vt + 1

/-- Whether a claim is active at line `l` and residue `r`; an ILL claim is booked once per active residue, on line 0. -/
def activeAt (vt : Nat) (c : ClaimW) (l r : Nat) : Bool :=
  let d := 2 ^ c.div
  if c.res = 6 then l == 0 && r % d == c.fofs
  else if c.start ≤ c.end_ then decide (c.start ≤ l) && decide (l ≤ c.end_) && r % d == c.fofs
  else (decide (c.start ≤ l) && decide (l < vt) && r % d == c.fofs) || (decide (l ≤ c.end_) && (r + 15) % 16 % d == c.fofs)

/-- The route entry of an NI as it reads now. -/
def State.rte (s : State) (n i : Nat) : Word := s.r (pgNI n) (0x200 + 4 * i)

/-- The link directions a LINK or DFETCH claim books, as its route reads now (R119). DESIGN CHOICE, log entry 102: an AUX of 64 to 255
counts modulo 64, V of the entry is not asked, and an entry that holds no valid route books no link. -/
def State.claimLinks (s : State) (c : ClaimW) : List Nat :=
  let dirs (n : Nat) (rev : Bool) : List Nat :=
    let e := s.rte n (c.aux % 64)
    linkDirs s.grade n (fldOf e 27 24) (fldOf e 23 0) rev
  if c.res = 1 then dirs c.inst c.rev else if c.res = 4 then dirs (if c.inst = 0 then 2 else 4) true else []

/-- Every booking one claim makes, coupled ones included. -/
def State.bookings (s : State) (ci : Nat) (k : Claim) : List Booking :=
  let c := k.c
  let vt := s.vtAct
  let per (amt : Nat) : Nat := if c.res = 6 then amt else ceilDiv amt (winLen vt c)
  let links (amt : Nat) : List Booking := k.links.map fun d => ⟨ci, k.tnt, 1, d, c, per amt⟩
  if c.res = 1 then links c.amount
  else if c.res = 4 then
    ⟨ci, k.tnt, 4, c.inst, c, per c.amount⟩ :: ⟨ci, k.tnt, 0, 0, c, per c.amount⟩ :: links (17 * ceilDiv c.amount 256)
  else if c.res = 7 then [⟨ci, k.tnt, 7, c.inst, c, c.amount⟩]
  else [⟨ci, k.tnt, c.res, c.inst, c, per c.amount⟩]

def sumN (l : List Nat) : Nat := l.foldl (· + ·) 0

/-- Sum of the bookings of an instance at a line and residue, of one tenant or of all. -/
def bookedAt (vt : Nat) (bs : List Booking) (res inst l r : Nat) (t : Option Nat) : Nat :=
  sumN ((bs.filter fun b => b.res == res && b.inst == inst && activeAt vt b.cl l r &&
    (match t with | none => true | some t => b.tnt == t)).map (·.b))

/-! ### The checks (05 R121, R122) -/

/-- A failed check: the fields of the report. -/
structure AdmRep where
  kind : Nat
  res : Nat
  inst : Nat
  tag : Nat
  resid : Nat
  first : Nat
  last : Nat
  short : Nat
  worst : Nat
  deriving DecidableEq, Repr

def fieldsBad (vt : Nat) (c : ClaimW) : Bool :=
  decide (8 ≤ c.res) || decide (4 < c.div) || decide (2 ^ c.div ≤ c.fofs) || decide (c.amount = 0) ||
    decide (vt ≤ c.start) || decide (vt ≤ c.end_)

/-- Whether the instance a claim names is present on the grade (00 R3, 05 R118). -/
def instPresent (g : Grade) (c : ClaimW) : Bool :=
  if c.res = 1 then niPresent g c.inst
  else if c.res = 2 then decide (c.inst < 8)
  else if c.res = 4 then decide (c.inst < 2)
  else if c.res = 5 then
    if c.inst < 4 then lanePresent g c.inst else c.inst == 4 || (c.inst == 5 && decide (g = .zm816))
  else decide (c.inst = 0)

/-- The first line where `bad` holds and the last line of the run it opens. -/
def failRun (bad : Nat → Bool) (vt : Nat) : Option (Nat × Nat) :=
  match (List.range vt).find? bad with
  | none => none
  | some l => some (l, l + ((List.range (vt - l)).takeWhile fun i => bad (l + i)).length - 1)

/-- The instances booked on a resource, ascending. -/
def instsOf (bs : List Booking) (res : Nat) : List Nat :=
  (List.range 128).filter fun i => bs.any fun b => b.res == res && b.inst == i

/-- The first failure of a limit on the bookings of (res, inst) of tenant `t`, over residues and lines. -/
def limitFail (vt : Nat) (bs : List Booking) (staged : List Nat) (kind res inst limit : Nat) (t : Option Nat) : Option AdmRep :=
  let amt (l r : Nat) : Nat := bookedAt vt bs res inst l r t
  let hit := (List.range 16).findSome? fun r =>
    (failRun (fun l => decide (limit < amt l r)) vt).map fun w => (r, w.1, w.2)
  hit.map fun (r, a, z) =>
    let worst := ((List.range (z + 1 - a)).map fun i => amt (a + i) r).foldl max 0
    let tag := ((bs.find? fun b => b.res == res && b.inst == inst && activeAt vt b.cl a r && staged.contains b.ci).map
      (·.cl.tag)).getD 0
    ⟨kind, res, inst, tag, r, a, z, worst - limit, worst⟩

/-- Steps 5 and 6: a GRV claim of a context its tenant does not hold, and two contexts booked on one line. -/
def State.grvFail (s : State) (cs : List Claim) (staged : List Nat) : Option AdmRep :=
  let vt := s.vtAct
  let ix := (List.range cs.length).zip cs
  match ix.find? fun (_, k) => k.c.res == 2 && !decide (s.ctxHolder k.c.inst = k.tnt) with
  | some (_, k) => some ⟨8, 2, k.c.inst, k.c.tag, 0, 0, 0, 0, 0⟩
  | none =>
    let g := ix.filter fun (_, k) => k.c.res == 2
    let clash (l r : Nat) : Bool :=
      g.any fun (_, k) => activeAt vt k.c l r && g.any fun (_, j) => activeAt vt j.c l r && !decide (j.c.inst = k.c.inst)
    let hit := (List.range 16).findSome? fun r => (failRun (fun l => clash l r) vt).map fun w => (r, w.1, w.2)
    hit.map fun (r, a, z) =>
      let inst := ((g.filter fun (_, k) => activeAt vt k.c a r).map (·.2.c.inst)).foldl min 255
      let tag := ((g.find? fun (i, k) => activeAt vt k.c a r && staged.contains i && k.c.inst == inst).map (·.2.c.tag)).getD 0
      ⟨7, 2, inst, tag, r, a, z, 0, 0⟩

/-- The first failure of a ceiling on an instance: over residues, then lines, then tenants (R122). -/
def State.ceilFail (s : State) (bs : List Booking) (staged : List Nat) (res inst : Nat) : Option AdmRep :=
  ((List.range 16).filterMap fun t => match s.ceiling res inst t with
    | none => none
    | some lim => limitFail s.vtAct bs staged 2 res inst lim (some t)).foldl (fun (m : Option AdmRep) r => match m with
    | none => some r
    | some q => if 4096 * r.resid + r.first < 4096 * q.resid + q.first then some r else some q) none

/-- Check a whole resulting set, of which claims `staged` (numbers in `cs`) are new; none where every condition of R121
holds. The fields of every claim are checked, the staged ones first. DESIGN CHOICE, log entry 103: RES, INST and TAG of a report of
kind 3 or 4 are 0. -/
def State.admCheck (s : State) (cs : List Claim) (staged : List Nat) (tnt : Nat) : Option AdmRep :=
  let vt := s.vtAct
  let all := (staged.filterMap fun i => cs[i]?) ++ cs
  match all.find? fun k => fieldsBad vt k.c with
  | some k => some ⟨5, k.c.res, k.c.inst, k.c.tag, 0, 0, 0, 0, 0⟩
  | none =>
  match all.find? fun k => !instPresent s.grade k.c with
  | some k => some ⟨6, k.c.res, k.c.inst, k.c.tag, 0, 0, 0, 0, 0⟩
  | none =>
  if 256 < cs.length then some ⟨4, 0, 0, 0, 0, 0, 0, cs.length - 256, 0⟩
  else
  let ovr := ((tnt :: List.range 16).find? fun t =>
    decide (s.f pgTEN (0x104 + 0x20 * t) 31 24 < (cs.filter fun k => k.tnt == t).length))
  match ovr with
  | some t => some ⟨3, 0, 0, 0, 0, 0, 0, (cs.filter fun k => k.tnt == t).length - s.f pgTEN (0x104 + 0x20 * t) 31 24, 0⟩
  | none =>
  match s.grvFail cs staged with
  | some r => some r
  | none =>
  let bs := ((List.range cs.length).zip cs).flatMap fun (i, k) => s.bookings i k
  let cap := (List.range 8).findSome? fun res => (instsOf bs res).findSome? fun inst =>
    if res = 7 then
      (bs.find? fun b => b.res == 7 && decide (s.reservable 7 0 < b.b)).map fun b =>
        ⟨1, 7, 0, b.cl.tag, 0, b.cl.start, b.cl.end_, b.b - s.reservable 7 0, b.b⟩
    else limitFail vt bs staged 1 res inst (s.reservable res inst) none
  match cap with
  | some r => some r
  | none => (List.range 8).findSome? fun res => (instsOf bs res).findSome? fun inst => s.ceilFail bs staged res inst

/-- Write the report of R122. -/
def State.admReport (s : State) (r : AdmRep) (tnt src : Nat) (overbook : Bool) : State :=
  let win := r.kind = 1 ∨ r.kind = 2 ∨ r.kind = 7
  let s := s.w pgADM 0x060 (BitVec.ofNat 32 (r.kind <<< 28 + r.res <<< 24 + r.inst <<< 16 + tnt <<< 12 + src <<< 8 + r.tag))
  let s := s.w pgADM 0x064 (BitVec.ofNat 32 ((b2n overbook) <<< 31 + (if win then r.resid <<< 24 + r.first <<< 12 + r.last else 0)))
  let s := s.w pgADM 0x068 (BitVec.ofNat 32 r.short)
  s.w pgADM 0x06C (BitVec.ofNat 32 r.worst)

/-! ### Commits (05 R116, R122 to R126) -/

/-- Whether two commits come from one source: a port, the MX page, or the loader for one context (R113). -/
def Commit.sameSrc : Commit → Commit → Bool
  | .set t src _, .set t' src' _ => src == src' && (src != 0 || t == t')
  | _, _ => false

/-- Add a commit to the queue, or to those that wait while their source has one queued (R123). -/
def Adm.enq (a : Adm) (c : Commit) : Adm :=
  if a.queue.any c.sameSrc then { a with wait := a.wait ++ [c] } else { a with queue := a.queue ++ [c] }

/-- The commits that waited for their source join the queue where it is free. -/
def Adm.refill (a : Adm) : Adm := a.wait.foldl Adm.enq { a with wait := [] }

/-- Queue a commit (R116, R123). -/
def State.admQueue (s : State) (c : Commit) : State := { s with adm := s.adm.enq c }

/-- Whether a commit of tenant `t`'s port is queued or under evaluation. -/
def State.admPending (s : State) (t : Nat) : Bool :=
  let mine (c : Commit) : Bool := match c with | .set t' 0 _ => t' == t | _ => false
  s.adm.queue.any mine || (s.adm.eval.map mine).getD false

/-- CPt_CMD (R116). Several command bits of one write act in bit order (log entry 21). -/
def State.cpCmd (s : State) (t : Nat) (v : Word) : State :=
  if fldOf v 2 0 = 0 then s
  else if s.admPending t then s.errBusy pgADM (0x410 + 0x40 * t)
  else
    let s :=
      if fldOf v 0 0 = 0 then s
      else if 64 ≤ (s.adm.staged.filter fun e => e.1 == t).length then s.errCap pgADM (0x410 + 0x40 * t)
      else
        let w (i : Nat) : Word := s.r pgADM (0x400 + 0x40 * t + 4 * i)
        { s with adm := { s.adm with staged := s.adm.staged ++ [(t, ⟨w 0, w 1, w 2, w 3⟩)] } }
    let s := if fldOf v 1 1 = 0 then s
      else { s with adm := { s.adm with staged := s.adm.staged.filter fun e => !(e.1 == t) } }
    if fldOf v 2 2 = 0 then s
    else s.admQueue (.set t 0 ((s.adm.staged.filter fun e => e.1 == t).map (·.2)))

/-- A write of a staging word of tenant `t`'s port, refused while a commit of the port is pending (R116). -/
def State.cpStage (s : State) (t o : Nat) (v : Word) : State :=
  if s.admPending t then s.errBusy pgADM o else s.plain pgADM o v

/-- The tenants named by a mask. -/
def named (m t : Nat) : Bool := (m >>> t) % 2 == 1

/-- Queue a withdrawal by mask: one already queued takes the new tenants too, for at most one is queued (R112, R124; DESIGN CHOICE,
log entry 104). -/
def Adm.enqMask (a : Adm) (m : Nat) : Adm :=
  if a.queue.any fun c => match c with | .mask _ => true | .set .. => false then
    { a with queue := a.queue.map fun c => match c with | .mask k => .mask (k ||| m) | c => c }
  else { a with queue := a.queue ++ [.mask m] }

/-- ADM_CTRL.WD_MASK (R124): discard the queued commits of the tenants named, then queue the withdrawal. LAST_REF is set in the port
of every tenant that had one; LAST_OK is cleared with it (log entry 42). -/
def State.wdMask (s : State) (m : Nat) : State :=
  if m = 0 then s else
  let all := s.adm.queue ++ s.adm.wait
  let gone := all.filterMap fun c => match c with
    | .set t _ _ => if named m t then some t else none
    | .mask _ => none
  let mxGone := all.any fun c => match c with | .set t 1 _ => named m t | _ => false
  let aldGone := all.findSome? fun c => match c with
    | .set t src cl => if named m t && decide (2 ≤ src) && !cl.isEmpty then some (src, false) else none
    | .mask _ => none
  let stay (c : Commit) : Bool := match c with
    | .set t _ _ => !named m t
    | .mask _ => true
  let refd := gone.foldl (fun a t => a ||| BitVec.ofNat 16 (2 ^ t)) s.adm.lastRef
  let oked := gone.foldl (fun a t => a &&& ~~~(BitVec.ofNat 16 (2 ^ t))) s.adm.lastOk
  let a := { s.adm with
    queue := s.adm.queue.filter stay, wait := s.adm.wait.filter stay, lastRef := refd, lastOk := oked,
    mxRes := (if mxGone then some false else s.adm.mxRes), aldRes := aldGone.or s.adm.aldRes }
  { s with adm := a.refill.enqMask m }

/-- The evaluation of the next queued commit starts (R123, R125). -/
def State.admStart (s : State) : State :=
  match s.adm.eval, s.adm.queue with
  | none, c :: q => if s.ten.checking then s else { s with adm := { s.adm with eval := some c, queue := q }.refill }
  | _, _ => s

/-- The committed set a commit leads to, and the numbers of its new claims. -/
def State.admResult (s : State) (tnt src : Nat) (cl : List ClaimW) : List Claim × List Nat :=
  let rest := s.adm.com.filter fun k => !(k.tnt == tnt && k.src == src)
  (rest ++ cl.map fun c => ⟨tnt, src, c, s.claimLinks c⟩, (List.range cl.length).map (· + rest.length))

/-- Record how a commit of (tnt, src) ended; the loader learns nothing of its own withdrawals. -/
def State.admEnd (s : State) (tnt src : Nat) (cl : List ClaimW) (ok : Bool) : State :=
  let bit : BitVec 16 := BitVec.ofNat 16 (2 ^ tnt)
  let s := { s with adm := { s.adm with eval := none } }
  if src = 0 then
    { s with adm := { s.adm with
      lastOk := (if ok then s.adm.lastOk ||| bit else s.adm.lastOk &&& ~~~bit),
      lastRef := (if ok then s.adm.lastRef &&& ~~~bit else s.adm.lastRef ||| bit),
      seqs := (if ok then s.adm.seqs.modify tnt (fun n => (n + 1) % 256) else s.adm.seqs) } }
  else if src = 1 then { s with adm := { s.adm with mxRes := some ok } }
  else if cl.isEmpty then s
  else { s with adm := { s.adm with aldRes := some (src, ok) } }

/-- Whether the committed set meets R121 at present capacities (R126). -/
def State.admFits (s : State) : Option AdmRep := s.admCheck s.adm.com [] 0

/-- The capacity of the matrix that commit `src` is judged by: a commit of the MX page brings its own geometry's (R118; 16 R424). -/
def State.withMxCap (s : State) (src : Nat) : State :=
  if src = 1 then { s with adm := { s.adm with mxCap := s.adm.mxNew } } else s

/-- A set is accepted: it is committed and takes effect at the next frame boundary. -/
def State.admAccept (s : State) (com : List Claim) (srcs : List Nat) : State :=
  let s := { s with adm := { s.adm with com := com, effPend := true, effSrc := s.adm.effSrc ++ srcs } }
  if s.adm.ovr && (s.admFits = none) then { s with adm := { s.adm with ovr := false } } else s

/-- The evaluation completes (R122 to R125). A withdrawal is not evaluated; it raises DONE too (DESIGN CHOICE, log entry 105). -/
def State.admDone (s : State) : State :=
  if s.ten.checking then s
  else match s.adm.eval with
    | none => s
    | some (.mask m) =>
      (({ s with adm := { s.adm with eval := none } }).admAccept (s.adm.com.filter fun k => !named m k.tnt) []).ev pgADM 0
    | some (.set tnt src cl) =>
      let r := s.admResult tnt src cl
      match (if cl.isEmpty then none else (s.withMxCap src).admCheck r.1 r.2 tnt) with
      | none => (((s.withMxCap src).admAccept r.1 [src]).admEnd tnt src cl true).ev pgADM 0
      | some rep =>
        let s := (s.admEnd tnt src cl false).admReport rep tnt src false
        let s := s.err pgADM 0x1030 (tnt + src <<< 4)
        (s.ev pgADM 0).ev pgADM 1

/-- At a frame boundary, an accepted set takes effect (R123). -/
def State.admEffect (s : State) : State :=
  if s.adm.effPend then ({ s with adm := { s.adm with eff := s.adm.com, effPend := false, effSrc := [] } }).ev pgADM 3 else s

/-- What the capacities depend on (R126): L, VT_ACT, the lane rates and each pipe's HT. -/
def State.capNow (s : State) : CapIn :=
  ⟨s.lineTime, s.vtAct, (List.range 4).map fun n => s.af (pgLANE n) 0x040 10 4, (List.range 2).map fun p => s.af (pgDP p) 0x050 28 16⟩

/-- At a frame boundary, the capacities are recomputed where one of their inputs has changed (R126). -/
def State.admRecompute (s : State) : State :=
  if s.adm.cap = s.capNow then s
  else
    let s := { s with adm := { s.adm with cap := s.capNow, capRd := true } }
    let s := s.w pgADM 0x048 (BitVec.ofNat 32 (s.lineTime.1 * 1000000000000 / s.lineTime.2))
    match s.admFits with
    | none => { s with adm := { s.adm with ovr := false } }
    | some rep =>
      let s := ({ s with adm := { s.adm with ovr := true } }).admReport rep 0 0 true
      (s.err pgADM 0x5031 0).ev pgADM 2

/-- The tenant a committed claim belongs to after the lock (04 R106, 05 R125): the owner of the first page of the block its
resource belongs to; DRAM and LINK claims keep their tenant. -/
def State.retagged (s : State) (k : Claim) : Claim :=
  let pg : Option Nat :=
    if k.c.res = 2 then some pgGRV else if k.c.res = 3 then some pgISP else if k.c.res = 4 then some (pgDP k.c.inst)
    else if k.c.res = 5 then some (if k.c.inst < 4 then pgLANE k.c.inst else pgDP (k.c.inst - 4))
    else if k.c.res = 6 then some pgSCN else if k.c.res = 7 then some pgMX else none
  match pg with
  | none => k
  | some p => { k with tnt := s.owner p, src := if k.src = 1 then 1 else 0 }

/-! ### Readout (05 R112 to R116) -/

/-- ADM_STAT. DESIGN CHOICE, log entry 105: BUSY stays 1 while an evaluation abandoned for the lock checks waits to start again. -/
def State.admStat (s : State) : Word :=
  BitVec.ofNat 32 (b2n s.adm.eval.isSome + b2n s.adm.ovr <<< 1 + s.adm.com.length <<< 4 + s.adm.queue.length <<< 16)

/-- CPt_STAT. -/
def State.cpStat (s : State) (t : Nat) : Word :=
  let n0 := (s.adm.com.filter fun k => k.tnt == t && k.src == 0).length
  BitVec.ofNat 32 ((s.adm.staged.filter fun e => e.1 == t).length + b2n (s.admPending t) <<< 8 +
    b2n (s.adm.lastOk.getLsbD t) <<< 9 + b2n (s.adm.lastRef.getLsbD t) <<< 10 + (s.adm.seqs.getD t 0) <<< 16 + (n0 % 256) <<< 24)

/-- A write of ADM_CAPSEL: the capacity registers show the instance from here on (R112; DEDUCED, log entry 106). -/
def State.capSelWrite (s : State) (v : Word) : State :=
  let s := s.plain pgADM 0x04C v
  { s with adm := { s.adm with capRd := true } }

/-- ADM_CAP, ADM_RSV and ADM_PEAK of the instance selected in ADM_CAPSEL. -/
def State.admCapRead (s : State) (o : Nat) : Word :=
  let res := s.f pgADM 0x04C 27 24
  let inst := s.f pgADM 0x04C 23 16
  let c := s.capacity res inst
  if s.adm.capRd = false then 0
  else if o = 0x050 then BitVec.ofNat 32 (c.1 / c.2.1)
  else if o = 0x054 then BitVec.ofNat 32 (s.reservable res inst)
  else
    let bs := ((List.range s.adm.com.length).zip s.adm.com).flatMap fun (i, k) => s.bookings i k
    BitVec.ofNat 32 (((List.range 16).flatMap fun r => (List.range s.vtAct).map fun l =>
      bookedAt s.vtAct bs res inst l r none).foldl max 0)

end Sys2Proof.Machine
end

