-- ==== Sys2Proof/Machine/Island.lean ====
section
/-! DEFINITION. Machine/Island.lean: key slots, OTP, the conditions of EVAL and the island fault (14 R346 to R358, R379). -/

namespace Sys2Proof.Machine

def State.updSec (s : State) (f : Sec → Sec) : State := { s with sec := f s.sec }

/-! ### Key slots (R350 to R353) -/

def State.kslot (s : State) (n : Nat) : KSlot := s.sec.ks.getD n ⟨0, []⟩
def State.setSlot (s : State) (n : Nat) (k : KSlot) : State :=
  (s.updSec fun x => { x with ks := x.ks.set n k }).w pgSEC (0x100 + 4 * n) k.attr

def KSlot.typ (k : KSlot) : Nat := fldOf k.attr 3 0
def KSlot.use (k : KSlot) (bit : Nat) : Bool := k.attr.getLsbD bit

/-- Zeroise every slot with ZER (R347, R366). -/
def State.zeroise (s : State) : State :=
  (List.range 32).foldl (fun s n => if (s.kslot n).use 21 then s.setSlot n ⟨0, []⟩ else s) s

/-! ### OTP (R354 to R356) -/

/-- A word as the factory leaves it: UID and HUK are the die's, the rest is clear. -/
def otpFactory (w : Nat) : Word := if w < 12 then Config.dieWord w else 0

def State.otp (s : State) (w : Nat) : Word := Sparse.get otpFactory s.sec.otp w
def State.setOtp (s : State) (w : Nat) (v : Word) : State := s.updSec fun x => { x with otp := Sparse.put otpFactory w v x.otp }

/-- Whether an ordinary word has been programmed. -/
def State.otpDone (s : State) (w : Nat) : Bool := decide (w < 12) || s.sec.prog.contains w

/-- Program an ordinary word, once (R354). -/
def State.burnOtp (s : State) (w : Nat) (v : Word) : State := (s.setOtp w v).updSec fun x => { x with prog := w :: x.prog }

/-- Whether an eight-word hash is programmed (R356). -/
def State.hashDone (s : State) (w : Nat) : Bool := (List.range 8).all fun i => s.otpDone (w + i)

/-- Physical bit `b` of the field that starts at word `w`. -/
def State.otpBit (s : State) (w b : Nat) : Bool := (s.otp (w + b / 32)).getLsbD (b % 32)

/-- Logical bit `k` of the thermometer field at word `w`: the majority of its three copies. -/
def State.thermo (s : State) (w k : Nat) : Bool :=
  let a := s.otpBit w (3 * k)
  let b := s.otpBit w (3 * k + 1)
  let c := s.otpBit w (3 * k + 2)
  (a && b) || (a && c) || (b && c)

/-- The count of a thermometer of `n` logical bits. -/
def State.thermoCount (s : State) (w n : Nat) : Nat := ((List.range n).filter fun k => s.thermo w k).length

/-- Program logical bit `k` of the thermometer at word `w`: its three copies. -/
def State.thermoSet (s : State) (w k : Nat) : State :=
  [3 * k, 3 * k + 1, 3 * k + 2].foldl (fun s b =>
    s.setOtp (w + b / 32) (s.otp (w + b / 32) ||| BitVec.ofNat 32 (2 ^ (b % 32)))) s

/-- The word of ARBc and of EPOCH. -/
def arbWord (c : Nat) : Nat := (0xA0 + 0x30 * c) / 4
abbrev epochWord : Nat := 0x160 / 4

/-- Words of OTP as bytes. -/
def State.otpBytes (s : State) (w n : Nat) : List Byte := (List.range n).flatMap fun i => leBytes 4 (s.otp (w + i)).toNat

/-- 0 DEV, 1 PROD, 2 END (R356). -/
def State.lifecycle (s : State) : Nat := if s.thermo (0x74 / 4) 1 then 2 else if s.thermo (0x74 / 4) 0 then 1 else 0

/-- The key of a boot or image check: KS1 as a P-256 public key with BOOT. -/
def State.ks1 (s : State) : Option (List Byte) :=
  let k := s.kslot 1
  if k.typ = 4 ∧ k.use 8 then some k.val else none

/-! ### The crypto engine (R348) -/

/-- A request to the engine, behind those made before it. -/
def State.engAsk (s : State) (u : EngUse) : State := s.updSec fun x => { x with eng := x.eng ++ [u] }

/-- Whether the engine serves this user: one operation at a time, in arrival order. -/
def State.engTurn (s : State) (u : EngUse) : Bool := s.sec.eng.head? == some u

/-- The user leaves the engine. -/
def State.engLeave (s : State) (u : EngUse) : State := s.updSec fun x => { x with eng := x.eng.filter fun y => y != u }

/-! ### EVAL (R379) -/

/-- The conditions of EVAL that are not met. -/
def State.evalWhy (s : State) : Nat :=
  b2n (decide (s.lifecycle ≠ 1)) + b2n s.sec.unlocked <<< 1 + b2n (!s.ten.locked) <<< 2 +
    b2n (decide (s.f pgSILL 0x044 0 0 = 0)) <<< 3 + b2n (decide (s.f pgSEC 0x040 2 2 = 0)) <<< 4 +
    b2n (decide (s.f pgSEC 0x040 3 3 = 1)) <<< 5 + b2n (!s.sec.sigAtLock) <<< 6 +
    b2n (decide (3 ≤ s.sec.trngFails) || decide (s.f pgSEC 0x040 5 5 = 1)) <<< 7

/-- Write SEC_EVWHY and EVAL; a fall of EVAL raises EVAL_LOST. -/
def State.evalUpd (s : State) : State :=
  let w := s.evalWhy
  let was := s.f pgSEC 0x040 0 0
  let s := (s.w pgSEC 0x044 (BitVec.ofNat 32 w)).sf pgSEC 0x040 0 0 (b2n (decide (w = 0)))
  if was = 1 ∧ w ≠ 0 then s.ev pgSEC 4 else s

/-- An island fault (R347). -/
def State.islandFault (s : State) : State :=
  let s := (s.zeroise.updSec fun x => { x with stopped := true }).sf pgSEC 0x040 3 3 1
  ((s.ev pgSEC 6).err pgSEC 0x6710 0).evalUpd

end Sys2Proof.Machine
end

