-- ==== Sys2Proof/Machine/Tenants.lean ====
section
/-! DEFINITION. Machine/Tenants.lean: the tenant table, its lock, violations (04), the event router (03 R88 to R90) and the
ownership of pages (03 R82). -/

namespace Sys2Proof.Machine

/-! ### Ownership (03 R82) -/

/-- Whether the page's owner rules let this access reach the page. -/
def State.pageAllows (s : State) (a : Acc) : Bool :=
  if 0x094 ≤ a.pg ∧ a.pg ≤ 0x09F then a.tnt == 0 && a.ni == 14
  else if a.tnt = 0 ∨ a.tnt = s.owner a.pg then true
  else if a.write then
    (a.pg == pgLTB && decide (0x400 ≤ a.off) && decide (a.off ≤ 0xBFF)) ||
      (a.pg == pgADM && decide (0x400 + 0x40 * a.tnt ≤ a.off) && decide (a.off < 0x440 + 0x40 * a.tnt)) ||
      (a.pg == pgEVR && decide (0x400 ≤ a.off) && decide (a.off ≤ 0x77F))
  else
    a.off == 0 || a.off == 4 || a.off == 8 ||
      a.pg == pgSYS || a.pg == pgTEN || a.pg == pgPWR || a.pg == pgLTB || a.pg == pgADM || a.pg == pgEVR

/-! ### Windows (04 R100 to R102) -/

/-- The row of R70 a byte lies in; the CORE3 window is none on the ZM-810 (03 R71). -/
def memRow (g : Grade) (a : Nat) : Option Nat := if g = .zm810 ∧ memRegion a = some 7 then none else memRegion a

/-- Rows a window may lie in: every memory row but the Keeper-only ones (04 R100). -/
def windowRow (r : Nat) : Bool := !(r == 0) && !(r == 8)

/-- The checks of R100 on a window of this base and size. Each core's local memory counts as a row of its own, though R70 and
R100 print the four on one line (DESIGN CHOICE, log entry 97). -/
def windowOk (g : Grade) (base size : Nat) : Bool :=
  decide (12 ≤ size) && decide (size ≤ 29) && base % 2 ^ size == 0 &&
    (match memRow g base, memRow g (base + 2 ^ size - 1) with
     | some a, some b => a == b && windowRow a
     | _, _ => false)

/-- Base, size and attributes of window `w` of tenant `t`. -/
def State.win (s : State) (t w : Nat) : Nat × Nat × Word :=
  let at_ := s.r pgTEN (0x404 + 0x40 * t + 8 * w)
  ((s.r pgTEN (0x400 + 0x40 * t + 8 * w)).toNat, fldOf at_ 4 0, at_)

/-- The enabled windows of a tenant that cover bytes `a` to `a + n − 1`. -/
def State.winsOver (s : State) (t a n : Nat) : List Word :=
  ((List.range 8).filterMap fun w =>
    let x := s.win t w
    if fldOf x.2.2 31 31 = 1 ∧ x.1 ≤ a ∧ a + n ≤ x.1 + 2 ^ x.2.1 then some x.2.2 else none)

/-- The window check (R101, R107): none where one window gives the right, else the violation kind. -/
def State.winCheck (s : State) (t a n : Nat) (write : Bool) : Option Nat :=
  let ws := s.winsOver t a n
  if t = 0 then none
  else if ws.isEmpty then some 1
  else if ws.any fun w => if write then fldOf w 9 9 == 1 else fldOf w 8 8 == 1 then none
  else some 2

/-- Whether any byte of the access lies in an SE window of any tenant (R102). -/
def State.touchesSE (s : State) (a n : Nat) : Bool :=
  ((List.range 15).map (· + 1)).any fun t => (List.range 8).any fun w =>
    let x := s.win t w
    fldOf x.2.2 31 31 == 1 && fldOf x.2.2 10 10 == 1 && decide (x.1 < a + n) && decide (a < x.1 + 2 ^ x.2.1)

/-! ### The tenant table's registers (04 R98 to R100) -/

/-- ERR_INFO of a value refusal in the tenant table (R98). -/
def tenInfo (o : Nat) : Nat :=
  let t := if 0x100 ≤ o ∧ o < 0x300 then (o - 0x100) / 0x20 else if 0x400 ≤ o ∧ o < 0x800 then (o - 0x400) / 0x40 else 0
  t + (o / 4) <<< 4

/-- TEN_WA (R100): a write with EN = 1 is checked against the base held; a refused one leaves the window disabled. -/
def State.tenWA (s : State) (o : Nat) (v : Word) : State :=
  if o < 0x440 ∨ 0x800 ≤ o then s
  else if s.ten.locked then s.errLocked pgTEN o
  else if fldOf v 31 31 = 1 then
    if windowOk s.grade (s.r pgTEN (o - 4)).toNat (fldOf v 4 0) then s.w pgTEN o (v &&& 0x8000071F)
    else (s.sf pgTEN o 31 31 0).err pgTEN 0x1003 (tenInfo o)
  else
    let keep := s.f pgTEN o 4 0
    let bad := fldOf v 4 0 < 12 ∨ 29 < fldOf v 4 0
    let s' := s.w pgTEN o (setFldOf (v &&& 0x8000071F) 4 0 (if bad then keep else fldOf v 4 0))
    if bad then s'.err pgTEN 0x1003 (tenInfo o) else s'

/-- TEN_WB (R100): a write while the window is enabled disables it. -/
def State.tenWB (s : State) (o : Nat) (v : Word) : State :=
  if o < 0x440 ∨ 0x800 ≤ o then s
  else if s.ten.locked then s.errLocked pgTEN o
  else (s.w pgTEN o (v &&& 0xFFFFF000)).sf pgTEN (o + 4) 31 31 0

/-- The nibbles of TEN_PGOWNk that ignore a write: fixed owners and indices with no page (R98). -/
def pgownFrozen (g : Grade) (k : Nat) : Nat :=
  sumN ((List.range 8).map fun j =>
    if fixedOwner (8 * k + j) ∨ pageBlk g (8 * k + j) = none then 0xF <<< (4 * j) else 0)

/-- Whether an offset of the TEN page belongs to the tenant table, which waits during the lock checks (R105). -/
def tenTable (o : Nat) : Bool := o == 0x048 || (decide (0x100 ≤ o) && decide (o < 0x800))

/-- A write of 1 to TEN_CTRL.LOCK (R104, R106). -/
def State.tenLock (s : State) : State :=
  if s.ten.locked then s.errLocked pgTEN 0x040
  else { s with ten := { s.ten with checking := true } }

/-- TEN_CTRL.POP (R98, R107). -/
def State.tenPop (s : State) : State :=
  { s with ten := { s.ten with recs := s.ten.recs.tail, vovf := false } }

/-- Writes to the TEN page. -/
def State.tenWrite (s : State) (o : Nat) (v : Word) : State :=
  if o = 0x040 then
    let s := if fldOf v 8 8 = 1 then s.tenPop else s
    if fldOf v 0 0 = 1 then s.tenLock else s
  else if 0x400 ≤ o ∧ o < 0x800 then (if o % 8 = 4 then s.tenWA o v else s.tenWB o v)
  else if o = 0x048 then s.plainWrite pgTEN o v 0 (if s.grade = .zm810 then 0xFF000000 else 0) (tenInfo o)
  else if 0x300 ≤ o ∧ o < 0x370 then s.plainWrite pgTEN o v 0 (pgownFrozen s.grade ((o - 0x300) / 4)) (tenInfo o)
  else s.plainWrite pgTEN o v 0 0 (tenInfo o)

/-- Reads of the TEN page that show state held outside the registers. -/
def State.tenRead (s : State) (o : Nat) : Word :=
  if o = 0x044 then
    BitVec.ofNat 32 (b2n s.ten.locked + b2n s.ten.lockFail <<< 1 + s.ten.recs.length <<< 8 + b2n s.ten.vovf <<< 12 +
      s.ten.quar.toNat <<< 16)
  else if o = 0x04C then ((s.ten.recs.head?).map (·.1)).getD 0
  else if o = 0x050 then ((s.ten.recs.head?).map (·.2)).getD 0
  else if 0x110 ≤ o ∧ o < 0x300 ∧ (o - 0x110) % 0x20 = 0 then
    setFldOf (s.r pgTEN o) 31 31 (b2n (s.ten.quar.getLsbD ((o - 0x110) / 0x20)))
  else s.r pgTEN o

/-! ### The lock (04 R104 to R106) -/

/-- The first item (context or group) with two holders among T1 to T15, and the higher-numbered of its first two. -/
def State.heldTwice (s : State) (base n : Nat) : Option (Nat × Nat) :=
  (List.range n).findSome? fun i =>
    match ((List.range 15).map (· + 1)).filter fun t => s.bitHeldBy base i t with
    | _ :: t :: _ => some (i, t)
    | _ => none

/-- The tenant whose share first brings the sum above 256. -/
def State.illExceeds (s : State) : Option Nat :=
  ((List.range 15).map (· + 1)).find? fun t =>
    decide (256 < sumN ((List.range t).map fun i => s.f pgTEN (0x108 + 0x20 * (i + 1)) 24 16))

/-- The first committed claim, re-tagged, whose tenant's MAX_CLAIMS or a ceiling fails. -/
def State.lockClaims (s : State) : Option (Nat × Nat) :=
  let cs := s.adm.com.map s.retagged
  let ix := (List.range cs.length).zip cs
  let bs := ix.flatMap fun (i, k) => s.bookings i k
  (ix.find? fun (i, k) =>
    decide (s.f pgTEN (0x104 + 0x20 * k.tnt) 31 24 < (cs.filter fun j => j.tnt == k.tnt).length) ||
      (s.bookings i k).any fun b => match s.ceiling b.res b.inst k.tnt with
        | none => false
        | some lim => (limitFail s.vtAct bs [] 2 b.res b.inst lim (some k.tnt)).isSome).map fun (i, k) => (i, k.tnt)

/-- The lock checks in their order (R104): the reason and the two ERR_INFO fields of the first failure. -/
def State.lockFailure (s : State) : Option (Nat × Nat × Nat) :=
  match s.heldTwice 0x108 8 with
  | some (i, t) => some (1, i, t)
  | none =>
  match s.heldTwice 0x10C 16 with
  | some (i, t) => some (2, i, t)
  | none =>
  match s.illExceeds with
  | some t => some (3, 0, t)
  | none =>
  match (List.range 4).find? fun c => corePresent s.grade c && s.coreTnt c == some 0 with
  | some c => some (4, c, 0)
  | none => s.lockClaims.map fun (i, t) => (5, i, t)

/-! ### The event router (03 R88 to R90) -/

/-- Whether core `c` counts as assigned to `owner`: present and assigned; T0 has every present core and the Keeper. -/
def State.assigned (s : State) (owner c : Nat) : Bool :=
  if c = 4 then owner == 0
  else corePresent s.grade c && (owner == 0 || s.coreTnt c == some owner)

/-- Whether a route of page `p` to CORE `c` is allowed: 5 to 7 name no core. -/
def State.routeAllowed (s : State) (p c : Nat) : Bool := decide (5 ≤ c) || s.assigned (s.owner p) c

/-- A write of EVR_ROUTEi by tenant `t` (R89). -/
def State.evrRouteWrite (s : State) (t i : Nat) (v : Word) : State :=
  if (t = 0 ∨ t = s.owner i) ∧ s.routeAllowed i (fldOf v 2 0) = true then
    s.w pgEVR (0x400 + 4 * i) (v &&& 0x1F7)
  else s.err pgEVR 0x1080 (i + t <<< 12)

/-- The check of every enabled route at the lock (R89). -/
def State.evrLockCheck (s : State) : State :=
  let bad := (List.range 224).filter fun i =>
    s.f pgEVR (0x400 + 4 * i) 8 8 == 1 && !s.routeAllowed i (s.f pgEVR (0x400 + 4 * i) 2 0)
  let s' := bad.foldl (fun s i => s.sf pgEVR (0x400 + 4 * i) 8 8 0) s
  match bad.head? with
  | none => s'
  | some i => s'.err pgEVR 0x1080 i

/-- EV_PEND of a page (03 R77). -/
def State.evPend (s : State) (p : Nat) : Word := s.r p 0x014 &&& s.r p 0x018

/-- The pages whose enabled route raises a line of core `c` (R90). -/
def State.routedPages (s : State) (c : Nat) : List Nat :=
  (List.range 224).filter fun i =>
    s.f pgEVR (0x400 + 4 * i) 8 8 == 1 && s.f pgEVR (0x400 + 4 * i) 2 0 == c && decide (s.evPend i ≠ 0)

/-- The interrupt lines of core `c` that pages hold high, one bit each (R88, R90). -/
def State.pageLines (s : State) (c : Nat) : BitVec 16 :=
  (s.routedPages c).foldl (fun a i => a ||| BitVec.ofNat 16 (2 ^ s.f pgEVR (0x400 + 4 * i) 7 4)) 0

/-- EVR_NEXTc and EVR_LINEc (R88). -/
def State.evrRead (s : State) (o : Nat) : Word :=
  if 0x040 ≤ o ∧ o < 0x054 then
    match (s.routedPages ((o - 0x040) / 4)).head? with
    | none => 0
    | some i => BitVec.ofNat 32 (1 <<< 31 + (s.f pgEVR (0x400 + 4 * i) 7 4) <<< 16 + i)
  else if 0x060 ≤ o ∧ o < 0x074 then BitVec.ofNat 32 (s.pageLines ((o - 0x060) / 4)).toNat
  else s.r pgEVR o

/-- The lock cycle (R105, R106) or the refusal (R104), without the waiting writes. -/
def State.lockOutcome (s : State) : State :=
  match s.lockFailure with
  | some (r, a, b) =>
    let s := { s with ten := { s.ten with checking := false, lockFail := true } }
    s.err pgTEN 0x1040 (r <<< 12 + a <<< 4 + b)
  | none =>
    let com := s.adm.com.map s.retagged
    let eff := s.adm.eff.map s.retagged
    let s := { s with ten := { s.ten with checking := false, locked := true, lockFail := false } }
    let s := { s with adm := { s.adm with com := com, eff := eff } }
    let s := s.updSec fun x => { x with sigAtLock := s.r pgALD 0x05C |>.getLsbD 0 }
    (s.ev pgTEN 2).evrLockCheck.evalUpd

end Sys2Proof.Machine
end

