-- ==== Sys2Proof/Machine/Operands.lean ====
section
/-! DEFINITION. Machine/Operands.lean: the registers and memory operands of a Rhoif-16 core (07 R161 to R164, R176; 08 R198,
R199; 09 R220). -/

namespace Sys2Proof.Machine

/-- Core `c`: 0 to 3 the application cores, 4 the Keeper. -/
def State.core (s : State) (c : Nat) : CoreSt := s.cores.getD c CoreSt.zero

def State.updCore (s : State) (c : Nat) (f : CoreSt → CoreSt) : State := { s with cores := s.cores.modify c f }

/-- The domain of a core (01 R30, R518): the Keeper's is SEC. -/
def coreDom (c : Nat) : Nat := if c = 4 then 0 else 2 + c

/-- The NI of a core (06 R134). -/
def coreNi (c : Nat) : Nat := if c = 4 then 14 else if c = 0 then 13 else if c = 1 then 19 else if c = 2 then 21 else 22

/-- The start of a core's local memory (07 R161, R194). -/
def coreBase (c : Nat) : Nat := 0x30000000 + 0x100000 * c

/-- The byte address of word `a` of X or Y (R161, R162: pointer bit 15 is ignored). -/
def wordAddr (c : Nat) (y : Bool) (a : Nat) : Nat := coreBase c + (if y then 0x10000 else 0) + 2 * (a % 0x8000)

/-- The byte address of a syllable: program memory, or the boot ROM of the Keeper (R161, R194). -/
def sylAddr (c pc : Nat) : Nat := if 0x10000 ≤ pc then 4 * (pc - 0x10000) else coreBase c + 0x20000 + 4 * pc

/-- The 32-bit syllable at `pc`. -/
def State.sylAt (s : State) (c pc : Nat) : Word := BitVec.ofNat 32 (s.rd32 (sylAddr c pc))

def State.xy (s : State) (c : Nat) (y : Bool) (a : Nat) : Half := BitVec.ofNat 16 (s.rd16 (wordAddr c y a))

/-- Whether a register code is not reserved (R164). -/
def codeOk (k : Nat) : Bool := decide (k < 0x6C) && k != 0x4B && k != 0x4F && k != 0x53

/-- Codes that are read only: naming one as a destination writes nothing (R198). -/
def codeRO (k : Nat) : Bool := k == 0x67 || k == 0x6B

/-- The place of a code: a V register's is its physical one (R175). -/
def physCode (k : CoreSt) (code : Nat) : Nat :=
  if 0x10 ≤ code ∧ code < 0x30 then 0x10 + (code - 0x10 + (k.rf.getD 0x57 0).toNat) % 32 else code

/-! ### Queues as FLG sees them (R164, R179) -/

def Queue.ew (q : Queue) : Nat := if q.w32 then 2 else 1

/-- Free slots of an out-queue within the elements still to be pushed (09 R224, R225). -/
def Queue.free (q : Queue) : Nat := min (32 - q.buf.length) (q.cnt * q.ew - q.buf.length)

/-- QA: an in-queue holds a word, or an out-queue has a free slot. -/
def Queue.avail (q : Queue) : Bool := if q.dir then q.arm && decide (0 < q.free) else !q.buf.isEmpty

def CoreSt.queue (k : CoreSt) (q : Nat) : Queue := k.qs.getD q Queue.zero
def CoreSt.updQ (k : CoreSt) (q : Nat) (f : Queue → Queue) : CoreSt := { k with qs := k.qs.modify q f }

/-- QA0 to QA3. -/
def CoreSt.qa (k : CoreSt) : Nat :=
  b2n (k.queue 0).avail + 2 * b2n (k.queue 1).avail + 4 * b2n (k.queue 2).avail + 8 * b2n (k.queue 3).avail

/-- FLG as a word (R164). -/
def CoreSt.flgWord (k : CoreSt) : Half :=
  BitVec.ofNat 16 (b2n k.flg.z + 2 * b2n k.flg.n + 4 * b2n k.flg.v + 8 * b2n k.flg.c + 16 * b2n k.flg.av +
    256 * k.qa + 4096 * k.flg.qe.toNat)

/-- IPEND: the lines held by line events, and the lines whose routes are high (R187). -/
def State.ipend (s : State) (c : Nat) : BitVec 16 := (s.core c).irq ||| s.pageLines c

def accOf (k : CoreSt) (n : Nat) : BitVec 40 := k.acc.getD n 0

/-- Read a register code (R164). -/
def State.rg (s : State) (c code : Nat) : Half :=
  let k := s.core c
  if code = 0x55 then k.flgWord
  else if code = 0x67 then s.ipend c
  else if 0x58 ≤ code ∧ code < 0x5C then (accOf k (code - 0x58)).setWidth 16
  else if 0x5C ≤ code ∧ code < 0x60 then (accOf k (code - 0x5C)).extractLsb' 16 16
  else if 0x60 ≤ code ∧ code < 0x64 then ((accOf k (code - 0x60)).extractLsb' 32 8).signExtend 16
  else k.rf.getD (physCode k code) 0

/-- Write a register code; `base` gives the rotation in force for the bundle (R164, R175, R198). -/
def CoreSt.wr (k base : CoreSt) (code : Nat) (v : Half) : CoreSt :=
  if codeRO code then k
  else if code = 0x55 then
    { k with flg := { z := v.getLsbD 0, n := v.getLsbD 1, v := v.getLsbD 2, c := v.getLsbD 3, av := v.getLsbD 4,
                      qe := k.flg.qe &&& v.extractLsb' 12 4 } }
  else if 0x58 ≤ code ∧ code < 0x5C then
    { k with acc := k.acc.modify (code - 0x58) fun a => (a.extractLsb' 16 24 ++ v) }
  else if 0x5C ≤ code ∧ code < 0x60 then
    { k with acc := k.acc.modify (code - 0x5C) fun a => (a.extractLsb' 32 8 ++ v ++ a.extractLsb' 0 16) }
  else if 0x60 ≤ code ∧ code < 0x64 then
    { k with acc := k.acc.modify (code - 0x60) fun a => (v.extractLsb' 0 8 ++ a.extractLsb' 0 32) }
  else
    let v := if code = 0x56 then v &&& 0xF else if code = 0x57 then v &&& 0x1F else if code = 0x66 then v &&& 3 else v
    { k with rf := k.rf.set (physCode base code) v }

/-! ### Pointers (R176, R199, R220) -/

/-- The index of a pointer: P0 to P3 address X, P4 to P7 address Y. -/
def ptrIx (y : Bool) (ptr : Nat) : Nat := ptr % 4 + (if y then 4 else 0)

/-- `v` corrected once for the circular buffer of pointer `i` (R176). -/
def State.circ (s : State) (c i : Nat) (v : Half) : Half :=
  if 4 ≤ i ∨ s.rg c (0x44 + i) = 0 then v
  else
    let cb := s.rg c (0x40 + i)
    let cl := s.rg c (0x44 + i)
    let v := if cb.toNat + cl.toNat ≤ v.toNat then v - cl else v
    if v.toNat < cb.toNat then v + cl else v

/-- The pointer after a modification by `m`. -/
def State.bump (s : State) (c i : Nat) (m : Half) : Half := s.circ c i (s.rg c (0x30 + i) + m)

/-- MOD of R199: the new pointer, or nothing. -/
def State.modPtr (s : State) (c i md : Nat) : List (Nat × Half) :=
  if md = 0 then [] else
    [(0x30 + i, s.bump c i (if md = 1 then 1 else if md = 2 then -1 else s.rg c (0x38 + i)))]

/-- AMOD of R220: the address used and the pointer written. -/
def State.ea (s : State) (c : Nat) (y : Bool) (ptr amod : Nat) : Nat × List (Nat × Half) :=
  let i := ptrIx y ptr
  let p := s.rg c (0x30 + i)
  let n := s.rg c (0x38 + i)
  if amod = 1 then (p.toNat, [(0x30 + i, s.bump c i 1)])
  else if amod = 2 then (p.toNat, [(0x30 + i, s.bump c i (-1))])
  else if amod = 3 then (p.toNat, [(0x30 + i, s.bump c i n)])
  else if amod = 4 then (p.toNat, [(0x30 + i, s.bump c i (-n))])
  else if amod = 5 then ((s.bump c i n).toNat, [])
  else (p.toNat, [])

/-- An operand of format M: its value and the pointer it writes (R197, R199). -/
def State.mop (s : State) (c : Nat) (y : Bool) : MOp → Half × List (Nat × Half)
  | .reg k => (s.rg c k, [])
  | .mem ptr md => (s.xy c y (s.rg c (0x30 + ptrIx y ptr)).toNat, s.modPtr c (ptrIx y ptr) md)

end Sys2Proof.Machine
end

