-- ==== Sys2Proof/Machine/Links.lean ====
section
/-! DEFINITION. Machine/Links.lean: units on links, their buffers and credits, and the arbitration of the router outputs (06 R128 to
R131, R143). A command takes no time, so the mesh moves, cycle by cycle, as far as it can: a header goes on once ROUTER_PACKET has
brought it before its router, and units wait where a buffer, a channel or an earlier packet makes them wait (log entry 19). -/

namespace Sys2Proof.Machine

/-! ### Units and their sideband (R128 to R131) -/

/-- Whether a packet is a response: RDATA or WACK (R132). -/
def Hdr.resp (h : Hdr) : Bool := h.cmd == 8 || h.cmd == 9

/-- The header unit's four words, lowest first (R130). -/
def Hdr.words (h : Hdr) : List Word :=
  [BitVec.ofNat 32 h.addr,
   BitVec.ofNat 32 (h.size + h.dl <<< 8 + (b2n h.late) <<< 23 + h.sts <<< 24 + h.tid <<< 28),
   BitVec.ofNat 32 (h.tid / 16 + h.rt <<< 2 + h.nc <<< 26 + h.src <<< 30),
   BitVec.ofNat 32 (h.src / 4 + h.len <<< 3 + h.seq <<< 8 + (b2n h.dem) <<< 20 + (b2n h.once) <<< 21 + h.cls <<< 22 +
     h.tnt <<< 24 + h.cmd <<< 28)]

/-- The bytes of data unit `k`, from 0: those of the aligned 16 bytes it covers, 0 outside the addressed range (R131). -/
def Pkt.dataUnit (p : Pkt) (k : Nat) : List Byte :=
  (List.range 16).map fun j =>
    let i := 16 * k + j
    if i < p.h.addr % 16 then 0 else p.data.getD (i - p.h.addr % 16) 0

/-- The 128 bits of unit `u`: the header unit, or data unit u − 1. -/
def Pkt.unitBits (p : Pkt) (u : Nat) : BitVec 128 :=
  BitVec.ofNat 128 (if u = 0 then (p.h.words.zipIdx.map fun e => e.1.toNat <<< (32 * e.2)).foldl (· + ·) 0
    else leNat (p.dataUnit (u - 1)))

/-- Even parity of `n` bits. -/
def evenPar (n : Nat) (x : Nat) : Bool := ((List.range n).filter fun i => x.testBit i).length % 2 == 1

/-- PAR of a unit, one bit for each 32 bits (R128). -/
def parOf (x : BitVec 128) : BitVec 4 :=
  BitVec.ofNat 4 (((List.range 4).map fun j => b2n (evenPar 32 (x.toNat >>> (32 * j) % 2 ^ 32)) <<< j).foldl (· + ·) 0)

/-- The virtual channel of a packet: 0 to 2 request Line, Rated, Spare; 3 to 5 response (R129). -/
def Pkt.vc (p : Pkt) : Nat := p.h.cls + (if p.h.resp then 3 else 0)

/-- Unit `u` of a packet as a link carries it (R128). -/
def Pkt.unit (p : Pkt) (u : Nat) : LinkUnit :=
  ⟨u == 0, u == p.h.len, p.vc, parOf (p.unitBits u), p.pois.contains u, p.unitBits u⟩

/-- Whether any data unit carries POISON. -/
abbrev Pkt.poison (p : Pkt) : Bool := !p.pois.isEmpty

/-! ### Places and links (05 R119) -/

/-- The link direction (INST of 05 R119) that leads to a place. -/
def Place.link (p : Place) : Nat :=
  match p with
  | .router r port _ =>
    if 4 ≤ port then 8 * r + port + 2
    else match meshHop (r % 4) (r / 4) port with
      | some (x, y) => 8 * (4 * y + x) + (port + 2) % 4
      | none => 0
  | .ni n => let pl := niPlace n; 8 * (4 * pl.2.1 + pl.1) + 4 + pl.2.2

/-- The input port of its router at which a link ends. -/
def inPort (d : Nat) : Nat := if 6 ≤ d % 8 then d % 8 - 2 else (d % 8 + 2) % 4

/-- Where a header at a place stands after output code `c`. -/
def nextPlace (g : Grade) (r k c : Nat) : Option Place :=
  if 6 ≤ c then none
  else if 4 ≤ c then (niAt g (r % 4) (r / 4) (c - 4)).map .ni
  else (meshHop (r % 4) (r / 4) c).map fun e => .router (4 * e.2 + e.1) ((c + 2) % 4) (k + 1)

/-- A packet whose units still stand before the link that leads to a place. -/
def Flight.start (at_ : Place) (p : Pkt) (crossed : Bool) : Flight := ⟨at_, p, crossed, false, [(at_.link, 0)], 1 + p.h.len⟩

/-- A packet that stands at a place with all its units at hand: as many as the buffer takes, the rest before the link. -/
def Flight.here (at_ : Place) (p : Pkt) (crossed : Bool) : Flight :=
  ⟨at_, p, crossed, false, [(at_.link, min 4 (1 + p.h.len))], 1 + p.h.len - min 4 (1 + p.h.len)⟩

/-- Units of a packet in the buffer at the end of link `d`. -/
def Flight.at (f : Flight) (d : Nat) : Nat := ((f.units.find? fun e => e.1 == d).map (·.2)).getD 0

/-- Units of a packet that have yet to cross link `d`, where its header has crossed it; else 0. -/
def Flight.behind (f : Flight) (d : Nat) : Nat :=
  match f.units.dropWhile fun e => e.1 != d with
  | [] => 0
  | e :: t => if e.2 = 0 ∧ f.units.head? = some e then 0 else (t.map (·.2)).foldl (· + ·) f.src

/-- Whether any unit of a packet stands in an input buffer of router `r`. -/
def Flight.inRouter (f : Flight) (r : Nat) : Bool :=
  f.units.any fun e => decide (0 < e.2) &&
    (if 6 ≤ e.1 % 8 then e.1 / 8 == r
     else if 4 ≤ e.1 % 8 then false
     else match meshHop (e.1 / 8 % 4) (e.1 / 8 / 4) (e.1 % 8) with
       | some (x, y) => 4 * y + x == r
       | none => false)

/-- Whether the header has come into the buffer of the place where it stands. -/
def Flight.entered (f : Flight) : Bool := decide (0 < (f.units.head?.map (·.2)).getD 0)

/-! ### Buffers and credits (R129) -/

/-- Credits of a virtual channel of a link: the free units of the four its far end holds. -/
def credit (fl : List Flight) (d vc : Nat) : Nat :=
  4 - (fl.map fun f => if f.pkt.vc = vc then f.at d else 0).foldl (· + ·) 0

/-- Whether a packet is on its way over a virtual channel of a link, from its head until its tail. -/
def taken (fl : List Flight) (d vc : Nat) : Bool := fl.any fun f => f.pkt.vc == vc && decide (0 < f.behind d)

/-- Whether the header of packet `i`, in the buffer at the end of `d`, has no unit of an earlier packet before it. -/
def frontAt (fl : List Flight) (i d vc : Nat) : Bool :=
  fl.zipIdx.all fun e => e.2 == i || e.1.pkt.vc != vc || e.1.at d == 0 || ((e.1.units.head?.map (·.1)) == some d && decide (i < e.2))

/-! ### Arbitration (R143) -/

/-- A unit that may move: its packet's number, the link it crosses and the one whose far buffer it leaves, and whether it is a
header. -/
structure Mv where
  i : Nat
  d : Nat
  inp : Nat
  head : Bool
  pkt : Pkt
  deriving DecidableEq, Repr

/-- The next units of packet `i` that a credit lets move on through routers. -/
def movesOf (fl : List Flight) (i : Nat) (f : Flight) : List Mv :=
  let vc := f.pkt.vc
  let bodies := (f.units.zip f.units.tail).filterMap fun e =>
    if 0 < e.2.2 ∧ 0 < credit fl e.1.1 vc then some (⟨i, e.1.1, e.2.1, false, f.pkt⟩ : Mv) else none
  match f.at_, f.units with
  | .router r _ k, (d0, n0) :: _ =>
    let d := 8 * r + rtCode f.pkt.h.rt k
    if f.ready = true ∧ 0 < n0 ∧ 0 < credit fl d vc ∧ taken fl d vc = false ∧ frontAt fl i d0 vc = true then
      ⟨i, d, d0, true, f.pkt⟩ :: bodies
    else bodies
  | _, _ => bodies

def allMoves (fl : List Flight) : List Mv := fl.zipIdx.flatMap fun e => movesOf fl e.2 e.1

/-- SPW of a tenant (04 R98). -/
def State.spw (s : State) (t : Nat) : Nat := s.f pgTEN (0x100 + 0x20 * t) 3 0

def arbOf (l : List Arb) (d : Nat) (resp : Bool) : Arb :=
  (l.find? fun a => a.out == d && a.resp == resp).getD ⟨d, resp, 5, 15, []⟩

def Arb.def (a : Arb) (t : Nat) : Int := ((a.deficit.find? fun e => e.1 == t).map (·.2)).getD 0

def Arb.setDef (a : Arb) (t : Nat) (v : Int) : Arb := { a with deficit := (t, v) :: a.deficit.filter fun e => e.1 != t }

/-- The turn goes on from tenant `t` over the tenants that wait: each gets SPW units beside the excess it carries, and the first
that then has any left sends. -/
def Arb.turns (spw : Nat → Nat) (wait : List Nat) : Nat → Nat → Arb → Option Arb
  | 0, _, _ => none
  | n + 1, t, a =>
    if wait.contains t then
      let v := min (a.def t) 0 + spw t
      let a := { a.setDef t v with turn := t }
      if 0 < v then some a else a.turns spw wait n ((t + 1) % 16)
    else a.turns spw wait n ((t + 1) % 16)

/-- The tenant that sends next on a Spare channel: the one whose turn it is while it has units left, else the next in the round. -/
def Arb.spare (spw : Nat → Nat) (wait : List Nat) (a : Arb) : Option Arb :=
  if wait.contains a.turn = true ∧ 0 < a.def a.turn then some a else a.turns spw wait 512 ((a.turn + 1) % 16)

/-- The first of a list by a strict order. -/
def firstBy {α : Type} (lt : α → α → Bool) : List α → Option α
  | [] => none
  | a :: t => match firstBy lt t with
    | none => some a
    | some b => if lt b a then some b else some a

/-- Whether line `a` is older than line `b`, modulo 4096. -/
def older (a b : Nat) : Bool := decide (a % 4096 ≠ b % 4096 ∧ (b + 4096 - a % 4096) % 4096 < 2048)

/-- The unit one channel of an output sends, of those that may move, and its arbiter then: a packet on its way over the channel goes
on; among headers, Line takes the oldest DL and then the lower input port, Rated goes round the inputs, Spare round the tenants. -/
def chanPick (spw : Nat → Nat) (arbs : List Arb) (d vc : Nat) (ms : List Mv) : Option (Mv × Arb) :=
  let a := arbOf arbs d (decide (3 ≤ vc))
  let low (x y : Mv) : Bool := decide (inPort x.inp < inPort y.inp)
  match ms.find? fun m => !m.head with
  | some m => some (m, a)
  | none =>
    if vc % 3 = 0 then
      (firstBy (fun x y => older x.pkt.h.dl y.pkt.h.dl || (x.pkt.h.dl % 4096 == y.pkt.h.dl % 4096 && low x y)) ms).map (·, a)
    else if vc % 3 = 1 then
      (firstBy (fun x y => decide ((inPort x.inp + 5 - a.last) % 6 < (inPort y.inp + 5 - a.last) % 6)) ms).map fun m =>
        (m, { a with last := inPort m.inp })
    else
      (a.spare spw (ms.map fun m => m.pkt.h.tnt)).bind fun b =>
        (firstBy low (ms.filter fun m => m.pkt.h.tnt == b.turn)).map fun m =>
          (m, b.setDef b.turn (b.def b.turn - (1 + m.pkt.h.len)))

/-- The channels in their order: Line response, Line request, Rated, Spare. -/
def chanOrder : List Nat := [3, 0, 4, 1, 5, 2]

/-- What an output sends, with the rank of its channel, of the units whose input is free. -/
def outPick (spw : Nat → Nat) (arbs : List Arb) (ms : List Mv) (d : Nat) : Option (Nat × Mv × Arb) :=
  (chanOrder.zipIdx).findSome? fun e =>
    (chanPick spw arbs d e.1 (ms.filter fun m => m.d == d && m.pkt.vc == e.1)).map fun r => (e.2, r.1, r.2)

/-- One round of a cycle's grants: each output not yet served names its unit; an input serves the highest rank, then the outputs in
their order. -/
def grantRound (spw : Nat → Nat) (arbs : List Arb) (ms : List Mv) : List (Mv × Arb) :=
  let ps := ((ms.map (·.d)).eraseDups).filterMap fun d => outPick spw arbs ms d
  (ps.filter fun p => ps.all fun q => q.2.1.inp != p.2.1.inp || decide (p.1 < q.1) || (p.1 == q.1 && decide (p.2.1.d ≤ q.2.1.d))).map
    (·.2)

/-- The grants of a cycle: outputs not served name another unit whose input is free, until none has one. -/
def grants (spw : Nat → Nat) (arbs : List Arb) : Nat → List Mv → List (Mv × Arb)
  | 0, _ => []
  | n + 1, ms =>
    match grantRound spw arbs ms with
    | [] => []
    | g => g ++ grants spw arbs n (ms.filter fun m => g.all fun e => e.1.inp != m.inp && e.1.d != m.d)

/-! ### A cycle of the mesh -/

/-- A unit leaves one buffer for the next. -/
def Flight.step (f : Flight) (g : Grade) (m : Mv) : Flight :=
  if m.head then
    match f.at_, f.units with
    | .router r _ k, (d0, n0) :: t =>
      { f with at_ := (nextPlace g r k (m.d % 8)).getD f.at_, crossed := false, ready := false, units := (m.d, 1) :: (d0, n0 - 1) :: t }
    | _, _ => f
  else { f with units := f.units.map fun e => if e.1 = m.d then (e.1, e.2 + 1) else if e.1 = m.inp then (e.1, e.2 - 1) else e }

/-- One unit counted on a router output (R156). -/
def utilUp (l : List (Nat × Nat)) (d : Nat) : List (Nat × Nat) :=
  if l.any fun e => e.1 == d then l.map fun e => if e.1 = d then (d, e.2 + 1) else e else l ++ [(d, 1)]

/-- The senders put units on their links while these have credits; a channel carries one packet at a time, the first first. -/
def feedOne (fl : List Flight) (i : Nat) : List Flight :=
  match fl[i]? with
  | none => fl
  | some f =>
    match f.units.getLast? with
    | none => fl
    | some (d, n) =>
      let fresh := decide (f.units.length = 1) && n == 0
      let waits := fl.zipIdx.any fun e => decide (e.2 < i) && e.1.pkt.vc == f.pkt.vc && e.1.units == [(d, 0)] && decide (0 < e.1.src)
      if f.src = 0 ∨ credit fl d f.pkt.vc = 0 ∨ (fresh && (taken fl d f.pkt.vc || waits)) = true then fl
      else fl.set i { f with src := f.src - 1, units := f.units.dropLast ++ [(d, n + 1)] }

def feedAll (fl : List Flight) : Nat → List Flight
  | 0 => fl
  | n + 1 => feedAll ((List.range fl.length).foldl feedOne fl) n

/-- Units the senders still hold enter the mesh as far as the first buffers have room. -/
def State.meshFeed (s : State) : State := { s with welt := { s.welt with flight := feedAll s.welt.flight 4 } }

/-- One cycle: the grants of every router output; none where nothing can move. A packet whose header moved comes last among those
in flight, so that packets of one buffer stand in the order in which they came. -/
def State.meshCycle (s : State) : Option State :=
  match grants s.spw s.welt.arbs 6 (allMoves s.welt.flight) with
  | [] => none
  | gs =>
    let fl := gs.foldl (fun l e => l.modify e.1.i fun f => f.step s.grade e.1) s.welt.flight
    let heads := (gs.filter fun e => e.1.head).map (·.1.i)
    let stay := (fl.zipIdx.filter fun e => !heads.contains e.2).map (·.1)
    let gone := (fl.zipIdx.filter fun e => heads.contains e.2).map (·.1)
    let arbs := gs.foldl (fun l e =>
      if e.1.head ∧ e.1.pkt.vc % 3 ≠ 0 then e.2 :: l.filter fun a => !(a.out == e.2.out && a.resp == e.2.resp) else l) s.welt.arbs
    some { s with welt := { s.welt with
      flight := stay ++ gone, arbs := arbs, util := gs.foldl (fun l e => utilUp l e.1.d) s.welt.util } }

/-- Cycles until nothing moves, at most `n`. -/
def State.meshCycles : Nat → State → State
  | 0, s => s
  | n + 1, s => match s.meshFeed.meshCycle with
    | none => s.meshFeed
    | some t => t.meshCycles n

/-- The mesh moves as far as it can: no packet has more units to move than its length times the links of its route. -/
def State.meshRun (s : State) : State :=
  if s.domRun 1 then s.meshCycles (s.welt.flight.map fun f => 9 * (1 + f.pkt.h.len)).sum else s

/-- A packet enters the mesh before the link to a place. -/
def State.addFlight (s : State) (f : Flight) : State := { s with welt := { s.welt with flight := s.welt.flight ++ [f] } }

/-- NIn puts a packet on its injection link. -/
def State.inject (s : State) (n : Nat) (p : Pkt) : State :=
  let pl := niPlace n
  s.addFlight (Flight.start (.router (4 * pl.2.1 + pl.1) (4 + pl.2.2) 0) p false)

end Sys2Proof.Machine
end

