-- ==== Sys2Proof/Machine/Welt.lean ====
section
/-! DEFINITION. Machine/Welt.lean: network interfaces, routes in use, credits, statistics, probes and the trace buffer (06). -/

namespace Sys2Proof.Machine

/-! ### Positions (02 R38, R47) -/

/-- The phase of the running line (R47, R48). -/
def State.phase (s : State) : Nat :=
  if s.ltb.pPrev = 0 then 255 else min 255 (256 * s.ltb.cyc / s.ltb.pPrev)

/-- LINE and PHASE as POS_LP shows them. -/
def State.posLP (s : State) : Nat := s.ltb.line <<< 8 + s.phase

/-! ### Network interfaces -/

def State.ni (s : State) (n : Nat) : NiSt := s.welt.nis.getD n NiSt.zero

def State.updNi (s : State) (n : Nat) (f : NiSt → NiSt) : State :=
  { s with welt := { s.welt with nis := s.welt.nis.modify n f } }

/-- The NI that serves a page index (03 R565). -/
def niOfPage (g : Grade) (p : Nat) : Option Nat :=
  if p < 0x10 then some 6 else if p < 0x50 then some 1 else if p < 0x60 then some 6 else if p < 0x70 then some 17
  else if p = 0x70 then some 8 else if p = 0x71 then some 9 else if p < 0x80 then some 10 else if p < 0x90 then some 16
  else if p < 0xA0 then some 14 else if p = 0xA0 then some 2 else if p = 0xA1 then some 4 else if p < 0xB0 then some 3
  else if p < 0xC0 then some 23
  else if p = 0xC2 ∨ p = 0xC3 ∨ p = 0xC6 ∨ p = 0xC7 ∨ p = 0xCA ∨ p = 0xCB then (if g = .zm816 then some 5 else some 0)
  else if p < 0xD0 then some 0 else if p = 0xD9 then some 7 else if p = 0xDB then some 11
  else if p < 0xE0 then some 15 else none

/-- Whether an address lies in the register region, and its page. -/
def regPage (a : Nat) : Option Nat := if 0x40000000 ≤ a ∧ a < 0x400E0000 then some ((a - 0x40000000) / 4096) else none

/-- The NIs that serve an address (06 R136). -/
def servingNis (g : Grade) (a : Nat) : List Nat :=
  match regPage a with
  | some p => (niOfPage g p).toList
  | none =>
    match memRow g a with
    | none => []
    | some r =>
      if r = 0 ∨ r = 8 then [14] else if r = 1 then [12] else if r = 2 then [3] else if r = 3 then [7]
      else if r = 4 then [13] else if r = 5 then [19] else if r = 6 then [21] else if r = 7 then [22] else [11, 20]

/-- Whether all `n` bytes from `a` lie in one row of R70 (03 R71). The windows of the four cores count as four rows, the register
pages as one (DESIGN CHOICE, log entry 97). -/
def oneRow (g : Grade) (a n : Nat) : Bool :=
  match regPage a with
  | some _ => (regPage (a + n - 1)).isSome
  | none => (memRow g a).isSome && memRow g a == memRow g (a + n - 1)

/-- The tenant an NI stamps now (04 R95). `sub` names the lane whose link the traffic arrived over (LNK0, LNK1), or 1 for the
Array Loader's reads, which carry the load tenant. -/
def State.stamp (s : State) (n sub : Nat) : Option Nat :=
  if n = 14 then some 0
  else if n = 13 then s.coreTnt 0 else if n = 19 then s.coreTnt 1 else if n = 21 then s.coreTnt 2
  else if n = 22 then s.coreTnt 3
  else if n = 17 ∧ sub = 1 then (if s.ald.phase = 0 then none else some s.ald.tnt)
  else if n = 17 ∨ n = 18 ∨ n = 24 ∨ n = 25 then
    (if s.f pgGRV 0x044 3 0 < 8 then some (s.ctxHolder (s.f pgGRV 0x044 3 0)) else none)
  else if n = 0 ∨ n = 5 then some (s.owner (pgLINK sub))
  else match (List.range 224).find? fun p => (pageBlk s.grade p).isSome && niOfPage s.grade p == some n with
    | some p => some (s.owner p)
    | none => none

/-- 16-byte blocks that `n` bytes from `a` touch (06 R131). -/
def blocks16 (a n : Nat) : Nat := (a + n - 1) / 16 - a / 16 + 1

/-- Split a request at 256-byte boundaries (06 R131). -/
def splitReq : Nat → Nat → Nat → List (Nat × Nat)
  | 0, _, _ => []
  | f + 1, a, n =>
    if n = 0 then []
    else
      let k := min n (256 - a % 256)
      (a, k) :: splitReq f (a + k) (n - k)

/-- The lowest route entry of NIn that is valid, allows the class and ends at a serving NI (06 R136). -/
def State.lowestRoute (s : State) (n : Nat) (serving : List Nat) (cls : Nat) : Option Nat :=
  (List.range 64).find? fun i =>
    let w := s.rte n i
    fldOf w 31 31 == 1 && fldOf w (28 + cls) (28 + cls) == 1 &&
      (match routeOf s.grade n (fldOf w 27 24) (fldOf w 23 0) with
       | some (_, _, _, _, t) => serving.contains t
       | none => false)

/-- The stamp of the latch's next use: above every use so far. -/
def nextUse (l : List (Option LatchEnt)) : Nat := 1 + (l.map fun e => (e.map (·.use)).getD 0).foldl max 0

/-- Route selection with the latch (06 R136, R137): the entry index and word, and the NI after it. -/
def State.selectRoute (s : State) (n : Nat) (serving : List Nat) (cls : Nat) : State × Option (Nat × Word) :=
  let ni := s.ni n
  let stampUse (i : Nat) : State := s.updNi n fun x => { x with
    latch := x.latch.modify i fun e => e.map fun e => { e with use := nextUse ni.latch } }
  match (List.range 4).find? fun i => match ni.latch.getD i none with
      | some e => e.serving == serving && e.cls == cls
      | none => false with
  | some i => (stampUse i, (ni.latch.getD i none).map fun e => (e.idx, e.rte))
  | none =>
    match s.lowestRoute n serving cls with
    | none => (s, none)
    | some i =>
      let e : LatchEnt := ⟨nextUse ni.latch, serving, cls, i, s.rte n i, false⟩
      let slot := ((List.range 4).find? fun k => (ni.latch.getD k none).isNone).getD
        (((List.range 4).foldl (fun b k =>
          let u (j : Nat) : Nat := ((ni.latch.getD j none).map (·.use)).getD 0
          if u k < u b then k else b) 0))
      (s.updNi n fun x => { x with latch := x.latch.set slot (some e) }, some (i, s.rte n i))

/-- Charge of a request in units and whether the charged direction is the response's (06 R140). -/
def chargeOf (cmd a n : Nat) : Nat × Bool := (1 + blocks16 a n, decide (cmd ≠ 2))

def creditOf (l : List Credit) (key : Nat) (rev : Bool) : Nat :=
  ((l.find? fun c => c.key == key && c.rev == rev).map (·.cr)).getD 0

def debit (l : List Credit) (key : Nat) (rev : Bool) (n : Nat) : List Credit :=
  l.map fun c => if c.key = key ∧ c.rev = rev then { c with cr := c.cr - n } else c

/-- Whether a request keeps its class (06 R142), and the NI after the debit. The Rated credit of an initiator is kept for each
tenant, whose allowance per initiator RATE is (04 R98; DEDUCED, log entry 109). -/
def State.classCheck (s : State) (n t cls route charge : Nat) (rev : Bool) : State × Bool :=
  if cls = 0 then
    if s.f pgTEN (0x100 + 0x20 * t) 8 8 = 1 ∧ charge ≤ creditOf (s.ni n).line route rev then
      (s.updNi n fun x => { x with line := debit x.line route rev charge }, true)
    else (s, false)
  else if cls = 1 then
    if charge ≤ creditOf (s.ni n).rated t false then
      (s.updNi n fun x => { x with rated := debit x.rated t false charge }, true)
    else (s, false)
  else (s, true)

def statBin (lat : Nat) : Nat :=
  if lat < 32 then 0 else if lat < 64 then 1 else if lat < 128 then 2 else if lat < 256 then 3
  else if lat < 512 then 4 else if lat < 1024 then 5 else if lat < 4096 then 6 else 7

/-- Saturating counters of the live statistics. -/
def sat32 (a b : Nat) : Nat := satAdd 0xFFFFFFFF a b
def sat16 (a b : Nat) : Nat := satAdd 0xFFFF a b

/-- Change the live statistics of an NI. -/
def State.updStat (s : State) (n : Nat) (f : StatCnt → StatCnt) : State := s.updNi n fun x => { x with stat := f x.stat }

/-- A final answer of a packet is counted (R155). -/
def State.statAnswer (s : State) (n : Nat) (st : Sts) (dem late : Bool) : State :=
  s.updStat n fun c => { c with
    dem := sat32 c.dem (b2n dem), late := sat32 c.late (b2n late),
    ref := sat32 c.ref (b2n (decide (st = .refused))), tmo := sat32 c.tmo (b2n (decide (st = .timeout))) }

/-- A block request that completes with a latency and a status is counted (R155). -/
def State.statRequest (s : State) (n lat : Nat) (st : Sts) (size : Nat) : State :=
  s.updStat n fun c => { c with
    pkts := sat32 c.pkts 1, maxLat := max c.maxLat (min lat 0xFFFFF),
    hist := c.hist.modify (statBin lat) (fun h => sat16 h 1),
    bytes := (if st = .ok then sat32 c.bytes size else c.bytes) }

/-- A part of a block request has its final answer; once all have, the request's one outcome reaches the block and the
statistics (06 R131, R155). -/
def State.partDone (s : State) (n grp a : Nat) (st : Sts) (dem late : Bool) (bytes : List Byte) : State :=
  let s := s.statAnswer n st dem late
  let s := s.updNi n fun x => { x with
    blk := x.blk.map fun b => if b.id = grp then { b with
      parts := b.parts.map fun p => if p.addr = a ∧ p.done = none then { p with done := some (st, dem, late, bytes) } else p } else b }
  match (s.ni n).blk.find? fun b => b.id == grp with
  | none => s
  | some b =>
    if b.parts.any fun p => p.done.isNone then s
    else
      let rs := b.parts.map fun p => (p, p.done.getD (.ok, false, false, []))
      let bad := rs.find? fun r => !decide (r.2.1 = Sts.ok)
      let st := (bad.map (·.2.1)).getD .ok
      let data := rs.flatMap fun r =>
        if b.cmd = 2 then [] else if r.2.1 = .ok then r.2.2.2.2 else List.replicate r.1.size 0
      let s := s.updNi n fun x => { x with blk := x.blk.filter fun c => !(c.id == grp) }
      let s := s.statRequest n (s.now - b.acc) st (sumN (b.parts.map (·.size)))
      { s with resp := ⟨st, BitVec.ofNat 32 (leNat (data.take 4)), data,
          rs.any fun r => r.2.2.1, rs.any fun r => r.2.2.2.1⟩ }

/-- Steps 1 to 5 of R139 for one part of a request of NI `n` stamped `t`: the status with which the NI ends it, or the route entry
taken and whether it keeps its class. RDATA and WACK are no block's commands and end here (R132). -/
def State.niJudge (s : State) (n t cmd cls a size : Nat) (rowsOk : Bool) : State × Except Sts (Nat × Word × Bool) :=
  let serving := servingNis s.grade a
  if rowsOk = false ∨ serving.isEmpty = true ∨ cmd = 8 ∨ cmd = 9 then (s, .error .decode)
  else
  let row := memRow s.grade a
  let keeperRow := row == some 0 || row == some 8
  if t ≠ 0 ∧ s.ten.quar.getLsbD t = true then (s.violation 1 t n 0 a false, .error .window)
  else if keeperRow && decide (n ≠ 14) then (s.violation 7 t n 0 a true, .error .owner)
  else if row = some 0 ∧ cmd = 2 then (s, .error .decode)
  else
  let wc := if row.isNone || keeperRow then none else s.winCheck t a size (decide (cmd = 2))
  match wc with
  | some k => (s.violation k t n 0 a true, .error .window)
  | none =>
  match s.selectRoute n serving cls with
  | (s, none) => (s, .error .decode)
  | (s, some (idx, w)) =>
    if s.f pgTEN (0x100 + 0x20 * t) 21 16 ≤ (s.ni n).out.length then (s, .error .refused)
    else
      let ch := chargeOf cmd a size
      let r := s.classCheck n t cls idx ch.1 ch.2
      (r.1, .ok (idx, w, r.2))

/-- Whether a request carries a once tag (R149). -/
def State.onceTag (s : State) (cmd a size : Nat) : Bool := decide (cmd = 2) && ((regPage a).isSome || s.touchesSE a size)

/-- The header of a new request through route word `w` (R130, R149). -/
def State.reqHdr (s : State) (n t cmd cls : Nat) (dem : Bool) (a size : Nat) (w : Word) (tid : Nat) : Hdr :=
  { cmd := cmd, tnt := t, cls := cls, once := s.onceTag cmd a size, dem := dem, seq := s.f (pgNI n) 0x060 11 0,
    len := if cmd = 2 then blocks16 a size else 0, src := n, nc := fldOf w 27 24, rt := fldOf w 23 0, tid := tid, sts := 0,
    late := false, dl := s.ltb.line, size := size - 1, addr := a }

/-- One part of a block request of tenant `t`: ended by the NI, or issued as a packet (R139 step 6, R149). -/
def State.issuePart (s : State) (n t cmd cls grp a size : Nat) (data : List Byte) (rowsOk : Bool) : State :=
  match s.niJudge n t cmd cls a size rowsOk with
  | (s, .error st) => s.partDone n grp a st false false []
  | (s, .ok (idx, w, kept)) =>
    let tid := ((List.range 64).find? fun i => !((s.ni n).out.any fun o => o.pkt.h.tid == i)).getD 63
    let p : Pkt := ⟨s.reqHdr n t cmd (if kept then cls else 2) (!kept) a size w tid, data, []⟩
    let s := s.cntWrap (pgNI n) 0x060 11 0
    (s.updNi n fun x => { x with out := x.out ++ [⟨p, idx, s.now, s.now, 0, grp, s.touchesSE a size, false⟩] }).inject n p

/-- A block hands a request to its NI (06 R139). A request of no bytes, or of a block no tenant is stamped for, does not arise.
A reserved command travels to its target, which answers DECODE (R132). -/
def State.weltRequest (s : State) (n sub cmd cls a : Nat) (size : Nat) (data : List Byte) : State :=
  match s.stamp n sub with
  | none => s
  | some t =>
    if size = 0 ∨ niPresent s.grade n = false ∨ 2 < cls ∨ 16 ≤ cmd then s
    else
      let parts := splitReq (size / 256 + 2) a size
      let grp := s.welt.grp
      let s := { s with welt := { s.welt with grp := grp + 1 } }
      let b : BlkReq := ⟨grp, s.now, cmd, parts.map fun p => ⟨p.1, p.2, none⟩⟩
      let s := s.updNi n fun x => { x with blk := x.blk ++ [b] }
      let ok := oneRow s.grade a size
      parts.foldl (fun s p => s.issuePart n t cmd cls grp p.1 p.2 ((data.drop (p.1 - a)).take p.2) ok) s

/-- The status of a code; a reserved code reads as DECODE. -/
def stsOf (c : Nat) : Sts :=
  ([Sts.ok, .refused, .decode, .owner, .window, .wakeDenied, .domainOff, .timeout, .dataErr, .staleSeq].find? fun x => x.code == c).getD .decode

/-- The NI accepts a response (06 R145, R146, R151). -/
def State.acceptResponse (s : State) (n : Nat) (p : Pkt) : State :=
  match (s.ni n).out.find? fun o => o.pkt.h.tid == p.h.tid && o.pkt.h.seq == p.h.seq with
  | none => s
  | some o =>
    let st : Sts := if p.poison then .dataErr else stsOf p.h.sts
    let s := if p.poison then s.ev (pgNI n) 5 else s
    let late := p.h.late || (p.h.cls == 0 && o.lapsed)
    let s := s.updNi n fun x => { x with out := x.out.filter fun q => !(q.pkt.h.tid == p.h.tid) }
    s.partDone n o.grp o.pkt.h.addr st p.h.dem late p.data

/-- Whether a request may be sent again: one with a once tag, and READ and FETCH of an address under no SE window (R151). -/
def Outst.again (o : Outst) : Bool := o.pkt.h.once || ((o.pkt.h.cmd == 0 || o.pkt.h.cmd == 1) && !o.se)

/-- NI_TMO has expired for the request with this TID (06 R151). -/
def State.responseTimeout (s : State) (n tid : Nat) : State :=
  match (s.ni n).out.find? fun o => o.pkt.h.tid == tid with
  | none => s
  | some o =>
    if s.now - o.sent < s.f (pgNI n) 0x048 23 0 then s
    else
      if o.again = true ∧ o.attempts < s.f (pgNI n) 0x04C 7 0 then
        let s := s.updNi n fun x => { x with
          out := x.out.map fun q => if q.pkt.h.tid = tid then { q with sent := s.now, attempts := q.attempts + 1 } else q }
        (s.updStat n fun c => { c with retry := sat32 c.retry 1 }).inject n o.pkt
      else
        let s := s.updNi n fun x => { x with out := x.out.filter fun q => !(q.pkt.h.tid == tid) }
        (s.ev (pgNI n) 2).partDone n o.grp o.pkt.h.addr .timeout false false []

/-! ### The route table (06 R135, R137) -/

/-- A write of RTEi of NIn. -/
def State.rteWrite (s : State) (n i : Nat) (v : Word) : State :=
  if fldOf v 31 31 = 1 ∧ (routeOf s.grade n (fldOf v 27 24) (fldOf v 23 0)).isNone = true then
    (s.err (pgNI n) 0x1110 i).ev (pgNI n) 1
  else if 9 ≤ fldOf v 27 24 then (s.err (pgNI n) 0x1110 i).ev (pgNI n) 1
  else
    let s := s.w (pgNI n) (0x200 + 4 * i) v
    let held := (s.ni n).latch.any fun e => match e with | some e => e.idx == i | none => false
    if held then
      (s.updNi n fun x => { x with
        latch := x.latch.map fun e => e.map fun e => if e.idx = i then { e with stale := true } else e }).ev (pgNI n) 0
    else s

/-- NI_CTRL: RLINV empties the latch, CLR clears the counters (R137, R157). -/
def State.niCtrl (s : State) (n : Nat) (v : Word) : State :=
  let s := if fldOf v 0 0 = 1 then s.updNi n fun x => { x with latch := [none, none, none, none] } else s
  if fldOf v 1 1 = 1 then ((s.w (pgNI n) 0x064 0).w (pgNI n) 0x068 0).w (pgNI n) 0x06C 0 else s

/-- Writes and reads of an NI page. -/
def State.niWrite (s : State) (n o : Nat) (v : Word) : State :=
  if o = 0x040 then s.niCtrl n v
  else if 0x200 ≤ o ∧ o < 0x300 then s.rteWrite n ((o - 0x200) / 4) v
  else s.plain (pgNI n) o v

def State.niRead (s : State) (n o : Nat) : Word :=
  if o = 0x044 then
    BitVec.ofNat 32 ((s.ni n).out.length +
      b2n ((s.ni n).latch.any fun e => match e with | some e => e.stale | none => false) <<< 8)
  else if 0x050 ≤ o ∧ o < 0x060 then
    match (s.ni n).latch.getD ((o - 0x050) / 4) none with
    | none => 0
    | some e => BitVec.ofNat 32 (1 <<< 31 + b2n e.stale <<< 30 + e.idx)
  else s.r (pgNI n) o

/-! ### Line starts and frame boundaries (06 R141, R155, R156) -/

/-- The bookings in effect at the current line and residue. -/
def State.bookNow (s : State) : List Booking :=
  let r := s.ltb.frame.toNat % 16
  (((List.range s.adm.eff.length).zip s.adm.eff).flatMap fun (i, k) => s.bookings i k).filter fun b =>
    activeAt s.vtAct b.cl s.ltb.line r

/-- What LINK and DFETCH claims book now for NIn, by route index and direction. -/
def State.routeBook (s : State) (n : Nat) : List Credit :=
  let r := s.ltb.frame.toNat % 16
  let mine := s.adm.eff.filterMap fun k =>
    if activeAt s.vtAct k.c s.ltb.line r = false then none
    else if k.c.res = 1 ∧ k.c.inst = n then some (k.c.aux % 64, k.c.rev, ceilDiv k.c.amount (winLen s.vtAct k.c))
    else if k.c.res = 4 ∧ n = (if k.c.inst = 0 then 2 else 4) then
      some (k.c.aux % 64, true, ceilDiv (17 * ceilDiv k.c.amount 256) (winLen s.vtAct k.c))
    else none
  let keys := (List.range 64).flatMap fun i => [(i, false), (i, true)]
  keys.filterMap fun (i, rev) =>
    let b := sumN ((mine.filter fun m => m.1 == i && m.2.1 == rev).map (·.2.2))
    if b = 0 then none else some ⟨i, rev, b⟩

/-- New credits at a line start: min(credit + b, 4 b) (R141). -/
def topUp (old book : List Credit) : List Credit :=
  book.map fun b => { b with cr := min (creditOf old b.key b.rev + b.cr) (4 * b.cr) }

/-- What each tenant's RATE adds to its Rated credit at an initiator: units of 16 bytes, 256 bytes per unit of RATE (R142; 04 R98). -/
def State.rateBook (s : State) : List Credit :=
  (List.range 16).filterMap fun t =>
    let r := s.f pgTEN (0x100 + 0x20 * t) 31 24
    if r = 0 then none else some ⟨t, false, 16 * r⟩

def State.lineCredits (s : State) : State :=
  let s := (List.range 26).foldl (fun s n =>
    let bk := s.routeBook n
    s.updNi n fun x => { x with
      line := topUp x.line bk,
      rated := topUp x.rated s.rateBook,
      out := x.out.map fun o =>
        if creditOf bk o.route (chargeOf o.pkt.h.cmd o.pkt.h.addr (o.pkt.h.size + 1)).2 = 0 then { o with lapsed := true } else o }) s
  let bs := s.bookNow
  let dram := (List.range 16).filterMap fun t =>
    let b := sumN ((bs.filter fun b => b.res == 0 && b.tnt == t).map (·.b))
    if b = 0 then none else some (⟨t, false, b⟩ : Credit)
  { s with welt := { s.welt with dramCr := topUp s.welt.dramCr dram } }

/-- The statistics snapshot of one NI (R155). -/
def State.statCopy (s : State) (n : Nat) : State :=
  let c := (s.ni n).stat
  let o (k : Nat) : Nat := 0x100 + 0x40 * n + k
  let h (i : Nat) : Nat := c.hist.getD (2 * i) 0 + (c.hist.getD (2 * i + 1) 0) <<< 16
  let wr (s : State) (k v : Nat) : State := s.w pgSTAT (o k) (BitVec.ofNat 32 v)
  let s := wr (wr (wr (wr (wr (wr s 0x00 c.bytes) 0x04 c.pkts) 0x08 (h 0)) 0x0C (h 1)) 0x10 (h 2)) 0x14 (h 3)
  let s := wr (wr (wr (wr (wr (wr s 0x18 c.maxLat) 0x1C c.dem) 0x20 c.ref) 0x24 c.late) 0x28 c.tmo) 0x2C c.retry
  s.updNi n fun x => { x with stat := StatCnt.zero }

def State.statFrame (s : State) : State :=
  let fr := s.welt.stFrames + 1
  if s.f pgSTAT 0x040 0 0 = 1 then { s with welt := { s.welt with stFrames := fr } }
  else
    let s := (List.range 26).foldl (fun s n => if niPresent s.grade n then s.statCopy n else s) s
    let s := (s.w pgSTAT 0x044 s.ltb.frame).w pgSTAT 0x048 (BitVec.ofNat 32 (min fr 0xFFFF))
    { s with welt := { s.welt with stFrames := 0 } }

/-- The router outputs' units of the frame that ended (R156). -/
def State.utilFrame (s : State) : State :=
  let s' := (List.range 16).foldl (fun s r => (List.range 6).foldl (fun s p =>
    let n := sumN ((s.welt.util.filter fun e => e.1 == 8 * r + p).map (·.2))
    s.w (pgRouter r) (0x060 + 4 * p) (BitVec.ofNat 32 (min n 0x1FFFFFF))) s) s
  { s' with welt := { s'.welt with util := [] } }

/-! ### Probes and the trace buffer (06 R153, R154, R158) -/

/-- Words 0 and 1 of a trace record: the position and the type. -/
def State.trcStamp (s : State) (typ : Nat) : List Word :=
  let since := s.ltb.cyc - ceilDiv (s.phase * s.ltb.pPrev) 256
  [s.ltb.frame, BitVec.ofNat 32 (s.ltb.line <<< 20 + s.phase <<< 12 + (min since 255) <<< 4 + typ)]


/-- Queue a trace record, or drop it where the queue is full (R154). -/
def State.trcPush (s : State) (r : TrcRec) : State :=
  if s.welt.trcQ.length < 8 then { s with welt := { s.welt with trcQ := s.welt.trcQ ++ [r] } }
  else (s.cntUp pgPRB 0x050 15 0 1 |> fun s => { s with welt := { s.welt with trcOvf := satAdd 0xFFFF s.welt.trcOvf 1 } })

/-- Whether a probe's filter matches a header (R153). -/
def State.probeHit (s : State) (m d : Nat) (h : Hdr) : Bool :=
  let c := s.r pgPRB (0x100 + 0x20 * m)
  let v := s.r pgPRB (0x104 + 0x20 * m)
  let en (b : Nat) : Bool := fldOf c b b == 1
  en 31 && fldOf c 22 16 == d &&
    (!en 0 || h.cmd == fldOf v 31 28) && (!en 1 || h.tnt == fldOf v 27 24) && (!en 2 || h.cls == fldOf v 21 20) &&
    (!en 3 || h.src == fldOf v 19 15) &&
    (!en 4 || (decide ((s.r pgPRB (0x108 + 0x20 * m)).toNat ≤ h.addr) && decide (h.addr ≤ (s.r pgPRB (0x10C + 0x20 * m)).toNat))) &&
    (!en 5 || b2n h.dem == fldOf v 14 14) && (!en 6 || h.sts == fldOf v 13 10) && (!en 7 || b2n h.once == fldOf v 9 9) &&
    (!en 8 || b2n h.late == fldOf v 8 8)

/-- The probes that watch link direction `d` see a packet's header (R153). -/
def State.probes (s : State) (d : Nat) (p : Pkt) : State :=
  (List.range 8).foldl (fun s m =>
    if s.probeHit m d p.h then
      let s := s.cntUp pgPRB (0x110 + 0x20 * m) 31 0 1
      let s := s.cntUp pgPRB (0x114 + 0x20 * m) 31 0 (1 + p.h.len)
      if s.f pgPRB (0x100 + 0x20 * m) 30 30 = 1 ∧ s.f pgPRB 0x040 0 0 = 1 then
        s.trcPush ⟨s.trcStamp 1 ++ [BitVec.ofNat 32 (m <<< 28 + d <<< 16)] ++ p.h.words ++
          [if p.h.len = 0 then 0 else (p.unit 1).bits.extractLsb' 0 32]⟩
      else s
    else s) s

/-- Put one record into the buffer (R154). -/
def State.trcStore (s : State) (r : TrcRec) : State :=
  if s.welt.trcBuf.length < 1024 then { s with welt := { s.welt with trcBuf := s.welt.trcBuf ++ [r] } }
  else if s.f pgPRB 0x040 1 1 = 1 then { s with welt := { s.welt with trcBuf := s.welt.trcBuf.tail ++ [r] } }
  else s

/-- One queued record is written; after a drop, first an overflow record (R154). -/
def State.trcWrite (s : State) : State :=
  if 0 < s.welt.trcOvf then
    let r : TrcRec := ⟨s.trcStamp 3 ++ [BitVec.ofNat 32 s.welt.trcOvf, 0, 0, 0, 0, 0]⟩
    { (s.trcStore r) with welt := { (s.trcStore r).welt with trcOvf := 0 } }
  else match s.welt.trcQ with
    | [] => s
    | r :: q => ({ s with welt := { s.welt with trcQ := q } }).trcStore r

/-- The word at TRC_RPTR; a read advances the pointer (R158). -/
def State.trcData (s : State) : Word :=
  let i := s.f pgPRB 0x048 14 2
  ((s.welt.trcBuf.flatMap (·.ws))[i]?).getD 0

/-- Writes to the PRB page. -/
def State.prbWrite (s : State) (o : Nat) (v : Word) : State :=
  if o = 0x040 then
    let s := s.plain pgPRB o v
    if fldOf v 8 8 = 1 then
      ({ s with welt := { s.welt with trcBuf := [], trcQ := [], trcOvf := 0 } }).w pgPRB 0x050 0
    else s
  else if 0x100 ≤ o ∧ o < 0x200 ∧ o % 0x20 = 0 then
    ((s.w pgPRB o (v &&& 0xC07F01FF)).w pgPRB (o + 0x10) 0).w pgPRB (o + 0x14) 0
  else s.plain pgPRB o v

def State.prbRead (s : State) (o : Nat) : Word :=
  if o = 0x044 then
    BitVec.ofNat 32 (s.welt.trcBuf.length +
      b2n (decide (1024 ≤ s.welt.trcBuf.length) && decide (s.f pgPRB 0x040 1 1 = 0)) <<< 16)
  else if o = 0x04C then s.trcData
  else s.r pgPRB o

/-- Writes to a router page: RT_CTRL.CLR (R156). -/
def State.routerWrite (s : State) (r o : Nat) (v : Word) : State :=
  if o = 0x04C ∧ fldOf v 0 0 = 1 then ((s.w (pgRouter r) 0x040 0).w (pgRouter r) 0x044 0).w (pgRouter r) 0x048 0 else s

/-! ### Responses and the once window (R130 to R132, R135, R150) -/

/-- The codes of the response's route: the request's path walked back to its source's local port. -/
def backCodes (g : Grade) (src nc rt : Nat) : List Nat :=
  match routeOf g src nc rt with
  | none => [4 + (niPlace src).2.2]
  | some (l, _) => (l.reverse.map fun h => (h.2.2 + 2) % 4) ++ [4 + (niPlace src).2.2]

/-- The response packet of a request. -/
def respPkt (g : Grade) (p : Pkt) (st : Sts) (dem late : Bool) (data : List Byte) : Pkt :=
  let h := p.h
  let cs := backCodes g h.src h.nc h.rt
  let d := if h.cmd = 2 ∨ st ≠ .ok then [] else data
  ⟨{ h with
      cmd := (if h.cmd = 2 then 9 else 8), once := false, dem := h.dem || dem, late := late, sts := st.code,
      len := (if h.cmd = 2 ∨ st ≠ .ok then 0 else blocks16 h.addr (h.size + 1)), nc := cs.length, rt := packCodes cs }, d, []⟩

/-- NIn sends the response of a request on the mesh. -/
def State.respond (s : State) (n : Nat) (p : Pkt) (st : Sts) (dem late : Bool) (data : List Byte) : State :=
  s.inject n (respPkt s.grade p st dem late data)

/-- What a once window says of a sequence. -/
inductive OnceRes where
  | fresh | dup (sts : Nat) | stale
  deriving DecidableEq, Repr

/-- Look a sequence up in the window of a source; a newer one moves the window (R150). -/
def onceLook (l : List (Nat × OnceWin)) (src q : Nat) : List (Nat × OnceWin) × OnceRes :=
  match l.find? fun e => e.1 == src with
  | none => (l ++ [(src, ⟨q, 0, []⟩)], .fresh)
  | some (_, w) =>
    let d := (w.h + 4096 - q % 4096) % 4096
    if 2048 ≤ d then
      let k := 4096 - d
      (l.map fun e => if e.1 = src then (src, ⟨q, w.map <<< k, (List.replicate k 0 ++ w.sts).take 64⟩) else e, .fresh)
    else if 64 ≤ d then (l, .stale)
    else if w.map.getLsbD d then (l, .dup (w.sts.getD d 0))
    else (l, .fresh)

/-- The block has answered a once-tagged request: its bit and status are kept (R150). -/
def onceMark (l : List (Nat × OnceWin)) (src q sts : Nat) : List (Nat × OnceWin) :=
  l.map fun e =>
    let d := (e.2.h + 4096 - q % 4096) % 4096
    if e.1 = src ∧ d < 64 then
      (src, { e.2 with map := e.2.map ||| BitVec.ofNat 64 (2 ^ d), sts := (e.2.sts ++ List.replicate (64 - e.2.sts.length) 0).set d sts })
    else e

/-! ### Bridges and the queue of a target NI (06 R144, R147; 19 R520) -/

/-- What a request or a wake is judged against: the state a transition leads to, else the state (19 R520). -/
def State.domEff (s : State) (d : Nat) : PState := let x := s.doms.getD d Dom.off; x.tgt.getD x.st

/-- A packet or an interrupt wakes a domain in, or entering, Doze or Rest (R520, R521). -/
def State.domWake (s : State) (d : Nat) : State :=
  let e := s.domEff d
  if e = .doze ∨ e = .rest then
    let auto := s.f pgPWR (0x080 + 4 * d) 8 8 == 1 && decide (1 ≤ s.f pgPWR (0x080 + 4 * d) 1 0) && decide (s.f pgPWR (0x080 + 4 * d) 1 0 ≤ 2)
    s.updDom d fun x => { x with tgt := some .run, woken := auto }
  else s

/-- What the bridge of domain `d` does with a request of tenant `t` (06 R147 step 4; 19 R520). -/
inductive Bridge where
  | pass | off | wake | deny
  deriving DecidableEq, Repr

/-- SYS blocks pass at once. A domain in Off, or on its way there or from there, answers DOMAIN_OFF. Doze and Rest, an entry into
them and a wake under way ask for the tenant's right. -/
def State.bridge (s : State) (d t : Nat) : Bridge :=
  if d = 1 then .pass
  else if s.dom d = .off ∨ s.domEff d = .off then .off
  else if s.domRun d ∧ s.domEff d = .run then .pass
  else if t = 0 ∨ s.mayWake t d then .wake else .deny

/-- The bridge of NIn asks domain `d` for a wake (R147); the wait runs from the first request it holds. -/
def State.askWake (s : State) (n d : Nat) : State :=
  let first := (s.ni n).wakeAt.isNone
  let s := (s.cntUp (pgNI n) 0x06C 15 0 (b2n first)).domWake d
  if first then s.updNi n fun x => { x with wakeAt := some s.now } else s

/-- The bridge of NIn turns a request of tenant `t` from NI `src` away: it may not wake domain `d` (R147). -/
def State.denyWake (s : State) (n d t src : Nat) : State :=
  ((s.cntUp (pgNI n) 0x06C 31 16 1).ev (pgNI n) 4).violation 5 t src d 0 true

/-- The domain of the block a request addresses. -/
def State.reqDom (s : State) (n a : Nat) : Nat :=
  match regPage a with
  | some p => if (pageBlk s.grade p).isSome then pageDom p else 1
  | none => niDom n

/-- Requests that occupy the entries of a target NI. -/
def State.heldAt (s : State) (n : Nat) : Nat :=
  (s.ni n).held.length + (s.waiting.filter fun e => e.2.isSome && niOfPage s.grade e.1.pg == some n).length

end Sys2Proof.Machine
end

