-- ==== Sys2Proof/Machine/Engine.lean ====
section
/-! DEFINITION. Machine/Engine.lean: memory traffic of the blocks whose table rows name no single request: the receivers, the
ISP, the scan engine, the pipes, the host lanes, the loader, the island. Their requests meet the steps of 06 R139 and R147 in
order and act at once, without a packet that the mesh could delay; only those to the register region travel as packets (DESIGN
CHOICE, log entry 32). -/

namespace Sys2Proof.Machine

/-- A write to the SEALED icon vault is refused, counted and recorded (15 R400). -/
def State.icvRefuse (s : State) : State := ((s.cntUp pgICV 0x04C 15 0 1).ev pgICV 2).err pgICV 0x2811 0

/-- While a flash command runs, and until the poll shows the flash ready, window reads are refused (18 R493). -/
def State.flashHeld (s : State) : Bool := s.xspi.cmd.isSome || s.xspi.busy

/-- The DRAM controller accepts a request (R142): a Line request its tenant's credit covers debits it by its bytes; any other Line
request is demoted to the Spare schedule. -/
def State.dramAccept (s : State) (h : Hdr) : State × Hdr :=
  if memRow s.grade h.addr ≠ some 9 ∨ h.cls ≠ 0 then (s, h)
  else if h.size + 1 ≤ creditOf s.welt.dramCr h.tnt false then
    ({ s with welt := { s.welt with dramCr := debit s.welt.dramCr h.tnt false (h.size + 1) } }, h)
  else (s, { h with cls := 2, dem := true })

/-- A request to the local memory of a running core waits while the core uses that memory (07 R163): 0 X, 1 Y, 2 program. Its
effect is at once (log entry 29). -/
def State.coreExt (s : State) (a : Nat) : State :=
  let c := (a - 0x30000000) / 0x100000
  let k := s.core c
  if a < 0x30000000 ∨ 0x30500000 ≤ a ∨ k.run = false ∨ k.wait.isSome = true then s
  else s.updCore c fun k => { k with ext := k.ext.modify (min 2 (a % 0x100000 / 0x10000)) (· ++ [0]) }

/-- The bytes of a memory request that its block serves (R142, R147 step 5): status, header after any demotion, data. -/
def State.memServe (s : State) (p : Pkt) : State × Sts × Hdr × List Byte :=
  let a := p.h.addr
  let n := p.h.size + 1
  let wr := decide (p.h.cmd = 2)
  let row := memRow s.grade a
  if oneRow s.grade a n = false ∨ coreHole a n = true ∨ (row = some 0 ∧ wr = true) ∨ (row = some 3 ∧ wr = true) then (s, .decode, p.h, [])
  else if row = some 3 ∧ s.flashHeld = true then (s.cntUp pgXSPI 0x058 31 16 1, .refused, p.h, [])
  else if row = some 2 ∧ wr = true ∧ s.f pgICV 0x044 0 0 = 1 then (s.icvRefuse, .refused, p.h, [])
  else
    let r := (s.coreExt a).dramAccept p.h
    if wr then (r.1.wrBytes a p.data, .ok, r.2, []) else (r.1, .ok, r.2, r.1.rdBytes a n)

/-- What a target NI makes of a request at once: the status it answers, the header after any demotion, and the data of a read. -/
abbrev EngAns := Sts × Hdr × List Byte

/-- The memory behind NI `m` serves a request, and the once window keeps its answer (06 R147 step 5, R150). -/
def State.engServe (s : State) (m : Nat) (p : Pkt) : State × EngAns :=
  let r := s.memServe p
  ((if p.h.once then r.1.updNi m fun x => { x with once := onceMark x.once p.h.src p.h.seq r.2.1.code } else r.1), r.2)

/-- Steps 3 to 5 of R147 at NI `m`. A request that wakes the domain is served at once (log entry 32). -/
def State.engAdmit (s : State) (m : Nat) (p : Pkt) : State × EngAns :=
  let say (s : State) (st : Sts) : State × EngAns := (s, st, p.h, [])
  let q := s.heldAt m
  if 16 ≤ q ∨ (p.h.cls ≠ 0 ∧ 12 ≤ q) then say ((s.cntUp (pgNI m) 0x068 15 0 1).ev (pgNI m) 6) .refused
  else
    let d := s.reqDom m p.h.addr
    match s.bridge d p.h.tnt with
    | .pass => s.engServe m p
    | .off => say s .domainOff
    | .deny => say (s.denyWake m d p.h.tnt p.h.src) .wakeDenied
    | .wake => (s.askWake m d).engServe m p

/-- Steps 1 to 5 of R147 at NI `m`, where the route of the request ends. -/
def State.engTarget (s : State) (m : Nat) (p : Pkt) : State × EngAns :=
  let say (s : State) (st : Sts) : State × EngAns := (s, st, p.h, [])
  if (servingNis s.grade p.h.addr).contains m = false ∨ 3 ≤ p.h.cmd then say s .decode
  else if p.h.once = false then s.engAdmit m p
  else
    let r := onceLook (s.ni m).once p.h.src p.h.seq
    let s := s.updNi m fun x => { x with once := r.1 }
    match r.2 with
    | .fresh => s.engAdmit m p
    | .dup st => say ((s.cntUp (pgNI m) 0x064 15 0 1).ev (pgNI m) 3) (stsOf st)
    | .stale => say (s.cntUp (pgNI m) 0x064 31 16 1) .staleSeq

/-- A request to the register region travels as a packet, for the target page to judge (04 R101, 03 R82); its block goes on. -/
def State.engSend (s : State) (n idx : Nat) (p : Pkt) (se : Bool) : State :=
  let grp := s.welt.grp
  let s := { s with welt := { s.welt with grp := grp + 1 } }
  (s.updNi n fun x => { x with out := x.out ++ [⟨p, idx, s.now, s.now, 0, grp, se, false⟩] }).inject n p

/-- One part of a request of NI `n` stamped `t` in class `cls`: the status it gets, DEM, and the data of a read; counted in the
statistics (06 R111, R139, R149, R155). -/
def State.engPart (s : State) (n t cmd cls a size : Nat) (data : List Byte) (rowsOk : Bool) : State × Sts × List Byte :=
  match s.niJudge n t cmd cls a size rowsOk with
  | (s, .error st) => (s.statAnswer n st false false, st, [])
  | (s, .ok (idx, w, kept)) =>
    let tid := ((List.range 64).find? fun i => !((s.ni n).out.any fun o => o.pkt.h.tid == i)).getD 63
    let p : Pkt := ⟨s.reqHdr n t cmd (if kept then cls else 2) (!kept) a size w tid, data, []⟩
    let s := s.cntWrap (pgNI n) 0x060 11 0
    if (regPage a).isSome then (s.engSend n idx p (s.touchesSE a size), .ok, List.replicate size 0)
    else
      let m := match routeOf s.grade n (fldOf w 27 24) (fldOf w 23 0) with | some (_, _, _, _, m) => m | none => 26
      let r := s.engTarget m p
      (r.1.statAnswer n r.2.1 r.2.2.1.dem false, r.2.1, r.2.2.2)

/-- A block's request stamped `t`, part by part (06 R131): the status of the lowest part that is not OK; the request is counted with
a latency of 0, for it takes no time here. -/
def State.engReqT (s : State) (t n cmd cls a size : Nat) (data : List Byte) : State × Sts :=
  if size = 0 then (s, .ok)
  else
    let ok := oneRow s.grade a size
    let r := (splitReq (size / 256 + 2) a size).foldl (fun r p =>
      let x := r.1.engPart n t cmd cls p.1 p.2 ((data.drop (p.1 - a)).take p.2) ok
      (x.1, if r.2 = .ok then x.2.1 else r.2)) (s, Sts.ok)
    (r.1.statRequest n 0 r.2 size, r.2)

/-- The same with the tenant the NI stamps. -/
def State.engReq (s : State) (n cmd cls a size : Nat) (data : List Byte) : State × Sts :=
  match s.stamp n 0 with
  | none => (s, .decode)
  | some t => s.engReqT t n cmd cls a size data

/-- A write of bytes. -/
def State.engWrite (s : State) (n cls a : Nat) (data : List Byte) : State × Sts := s.engReq n 2 cls a data.length data

/-- Whether a read of `size` bytes gets OK: its status, and the state with the violation where it does not. -/
def State.engRead (s : State) (n cls a size : Nat) : State × Sts := s.engReq n 0 cls a size []

/-- Reads in order up to the first that does not get OK: its status. -/
def State.engReads (s : State) (n cls : Nat) : List (Nat × Nat) → State × Sts
  | [] => (s, .ok)
  | e :: t =>
    let r := s.engRead n cls e.1 e.2
    if r.2 = .ok then r.1.engReads n cls t else r

/-- Writes in order up to the first that does not get OK: its status. -/
def State.engWrites (s : State) (n cls : Nat) : List (Nat × List Byte) → State × Sts
  | [] => (s, .ok)
  | e :: t =>
    let r := s.engWrite n cls e.1 e.2
    if r.2 = .ok then r.1.engWrites n cls t else r

/-- A read of `size` bytes from `a` stamped `t`, part by part: the first byte that does not get OK. -/
def State.engReadAt (s : State) (t n cls a size : Nat) : State × Option Nat :=
  let ok := oneRow s.grade a size
  let r := (splitReq (size / 256 + 2) a size).foldl (fun r p =>
    if r.2.isSome then r
    else
      let x := r.1.engPart n t 0 cls p.1 p.2 [] ok
      (x.1, if x.2.1 = .ok then none else some (p.1 - a, x.2.1))) (s, (none : Option (Nat × Sts)))
  (r.1.statRequest n 0 ((r.2.map (·.2)).getD .ok) size, r.2.map (·.1))

end Sys2Proof.Machine
end

