-- ==== Sys2Proof/Machine/IspPix.lean ====
section
/-! DEFINITION. Machine/IspPix.lean: pixel formats and the arithmetic of the ISP stages (12 R295, R301 to R308, R315). -/

namespace Sys2Proof.Machine

/-! ### Stored formats (R295): 0 RAW8, 1 RAW10, 2 RAW12, 3 RAW14, 4 RAW16, 5 U16 -/

/-- Pixels and bytes of a group, and the low bits kept at its end. -/
def pixGroup (fmt : Nat) : Nat × Nat × Nat :=
  if fmt = 0 then (1, 1, 0) else if fmt = 1 then (4, 5, 2) else if fmt = 2 then (2, 3, 4) else if fmt = 3 then (4, 7, 6) else (1, 2, 0)

/-- Whole pixels in `n` bytes (R300). -/
def pixCount (fmt n : Nat) : Nat := n / (pixGroup fmt).2.1 * (pixGroup fmt).1

/-- Bytes that `n` pixels take. -/
def pixBytes (fmt n : Nat) : Nat := (n + (pixGroup fmt).1 - 1) / (pixGroup fmt).1 * (pixGroup fmt).2.1

/-- Pixel `i` of a line. -/
def pixAt (fmt : Nat) (b : List Byte) (i : Nat) : Nat :=
  let at_ (k : Nat) : Nat := (b.getD k 0).toNat
  if fmt = 0 then at_ i
  else if 4 ≤ fmt then at_ (2 * i) + 256 * at_ (2 * i + 1)
  else
    let g := pixGroup fmt
    let o := i / g.1 * g.2.1
    let low := leNat ((b.drop (o + g.1)).take (g.2.1 - g.1))
    at_ (o + i % g.1) * 2 ^ g.2.2 + low / 2 ^ (g.2.2 * (i % g.1)) % 2 ^ g.2.2

def unpackLine (fmt n : Nat) (b : List Byte) : List Nat := (List.range n).map (pixAt fmt b)

/-- The bytes of one group of pixels. -/
def packGroup (fmt : Nat) (p : List Nat) : List Byte :=
  if fmt = 0 then p.map (BitVec.ofNat 8)
  else if 4 ≤ fmt then p.flatMap (leBytes 2)
  else
    let g := pixGroup fmt
    let low := (p.zip (List.range p.length)).foldl (fun a x => a + x.1 % 2 ^ g.2.2 * 2 ^ (g.2.2 * x.2)) 0
    p.map (fun x => BitVec.ofNat 8 (x / 2 ^ g.2.2)) ++ leBytes (g.2.1 - g.1) low

/-- The bytes of a line; a last group that is not whole takes the codes of `fill`. -/
def packLine (fmt : Nat) (p : List Nat) (fill : Nat → Nat) : List Byte :=
  let g := pixGroup fmt
  let n := (p.length + g.1 - 1) / g.1
  (List.range n).flatMap fun k => packGroup fmt ((List.range g.1).map fun j => (p[k * g.1 + j]?).getD (fill j))

/-! ### Images -/

/-- Rows of pixels. -/
abbrev Image := List (List Nat)

def imgAt (m : Image) (c r : Nat) : Nat := (m.getD r []).getD c 0

def imgMap (w h : Nat) (f : Nat → Nat → Nat) : Image := (List.range h).map fun r => (List.range w).map fun c => f c r

/-- The sum of `f` over an image. -/
def imgSum (w h : Nat) (f : Nat → Nat → Nat) : Nat :=
  (List.range h).foldl (fun a r => (List.range w).foldl (fun a c => a + f c r) a) 0

abbrev top24 : Nat := 0xFFFFFF

/-- Clamp to 0 … `m`: the value, and 1 where it was clamped. -/
def clampN (m : Nat) (x : Int) : Nat × Nat :=
  if x < 0 then (0, 1) else if (m : Int) < x then (m, 1) else (x.toNat, 0)

/-- The parameters of a job: a function from page and offset to the value of the snapshot, and the values the held groups
overwrite (R313, R314). -/
structure IspPar where
  p : Nat → Nat → Nat
  g1 : Nat
  g2 : Nat
  thr : Nat
  bld : Int
  dgain : Nat
  ccmBank : Nat
  linBank : Nat
  mosaic : Nat
  ox : Nat
  oy : Nat
  w : Nat
  h : Nat

def hw (x : Nat) : Int := sgn 16 x

/-- Half-word `i` of a table of packed 16-bit entries from `base` on. -/
def IspPar.half (q : IspPar) (pg base i : Nat) : Nat := q.p pg (base + 4 * (i / 2)) / 65536 ^ (i % 2) % 65536

/-! ### Stage 1, linearisation (R302): y, SAT, and the two counts -/

def IspPar.kneeX (q : IspPar) (k : Nat) : Nat := q.p pgISP (0x100 + 0xC0 * q.linBank + 12 * k) % 2 ^ 16
def IspPar.kneeY (q : IspPar) (k : Nat) : Nat := q.p pgISP (0x104 + 0xC0 * q.linBank + 12 * k) % 2 ^ 24
def IspPar.kneeS (q : IspPar) (k : Nat) : Nat := q.p pgISP (0x108 + 0xC0 * q.linBank + 12 * k) % 2 ^ 20

structure LinPix where
  y : Nat
  sat : Bool
  ovr : Nat
  clip : Nat
  deriving DecidableEq, Repr

def IspPar.lin (q : IspPar) (x0 : Nat) : LinPix :=
  let inmax := q.p pgISP 0x284
  let ovr := decide (inmax < x0)
  let x := if ovr then inmax else x0
  let sat := ovr || decide (q.p pgISP 0x288 ≤ x)
  let k := (((List.range (q.p pgISP 0x280)).filter fun k => decide (q.kneeX k ≤ x)).getLast?).getD 0
  let t := q.kneeY k + (x - q.kneeX k) * q.kneeS k / 256
  ⟨min t top24, sat, b2n ovr, b2n (decide (top24 < t))⟩

/-- The knees of reason 4 (R302, R311): X[0] is 0 and X rises. -/
def IspPar.kneesOk (q : IspPar) : Bool :=
  q.kneeX 0 == 0 && (List.range (q.p pgISP 0x280 - 1)).all fun k => decide (q.kneeX k < q.kneeX (k + 1))

/-! ### Stage 2, merge (R303) -/

/-- Weight of an exposure; BAND 0 has none stated, `free` stands for it. -/
def IspPar.wt (q : IspPar) (free : Nat) (a : LinPix) : Nat :=
  let band : Nat := q.p pgISP 0x29C % 2 ^ 24
  if a.sat = true then 0
  else if band = 0 then (free % 257 : Nat)
  else (clampN 256 (Int.fdiv (((q.thr : Int) - (a.y : Int)) * 256) (band : Int))).1

def IspPar.merge (q : IspPar) (free nexp : Nat) (a b c : LinPix) : Nat × Nat :=
  if nexp = 1 then (a.y, 0)
  else
    let t1 := b.y * q.g1 / 256
    let t2 := c.y * q.g2 / 256
    let v1 := min t1 top24
    let v2 := min t2 top24
    let w1 := q.wt free b
    let w0 := q.wt free a
    let m := if nexp = 2 then v1 else (v1 * w1 + v2 * (256 - w1)) / 256
    ((a.y * w0 + m * (256 - w0)) / 256, b2n (decide (top24 < t1)) + b2n (decide (nexp = 3 ∧ top24 < t2)))

/-! ### Mosaic positions and neighbours (R304, R306) -/

def IspPar.per (q : IspPar) : Nat := if q.mosaic = 3 then 4 else 2

/-- The plane of a CFA position: 0 R, 1 G or C, 2 B (G for RCCG), 3 I. -/
def planeOf (mosaic x y : Nat) : Nat :=
  if mosaic = 3 then
    if y % 2 = 0 then (if x % 2 = 1 then 1 else if x % 4 = y % 4 then 2 else 0)
    else if x % 2 = 0 then 1 else 3
  else if x % 2 = 0 ∧ y % 2 = 0 then 0 else if x % 2 = 1 ∧ y % 2 = 1 then 2 else 1

/-- The plane at pixel (c, r), which may lie outside the frame. -/
def IspPar.chan (q : IspPar) (c r : Int) : Nat :=
  planeOf q.mosaic ((c + q.ox).emod 4).toNat ((r + q.oy).emod 4).toNat

/-- The nearest index inside 0 … n − 1 with the same residue modulo p. -/
def nearIdx (p n : Nat) (i : Int) : Nat :=
  if i < 0 then (i.emod p).toNat
  else if i < n then i.toNat
  else n - 1 - ((n : Int) - 1 - i).emod p |>.toNat

def IspPar.px (q : IspPar) (m : Image) (c r : Int) : Nat := imgAt m (nearIdx q.per q.w c) (nearIdx q.per q.h r)

/-- Offsets by squared distance, nearest first, up to four columns and rows away. -/
def nearOffs : List (Int × Int) :=
  let span : List Int := [-4, -3, -2, -1, 0, 1, 2, 3, 4]
  ((List.range 33).drop 1).flatMap fun (d : Nat) => span.flatMap fun y => span.filterMap fun x =>
    if x * x + y * y = (d : Int) then some (x, y) else none

/-- The values of the nearest same-channel neighbours, up to eight. -/
def IspPar.peers (q : IspPar) (m : Image) (c r : Nat) : List Nat :=
  ((nearOffs.filter fun o => q.chan (c + o.1) (r + o.2) == q.chan c r).take 8).map fun o => q.px m (c + o.1) (r + o.2)

def maxL (l : List Nat) : Nat := l.foldl max 0
def minL (l : List Nat) : Nat := match l with | [] => 0 | a :: t => t.foldl min a

/-! ### Stage 3 (R305) -/

/-- Floor of the mean of the middle two of four values. -/
def midTwo (l : List Nat) : Nat := (l.foldl (· + ·) 0 - maxL l - minL l) / 2

def IspPar.dpc (q : IspPar) (m : Image) (c r : Nat) : Nat :=
  let v := imgAt m c r
  let ps := q.peers m c r
  let dt := q.p pgISP 0x2A0
  let listed := (List.range (q.p pgISP 0x2A4)).any fun e =>
    let w := q.p pgISP1 (0x400 + 4 * e)
    w % 8192 == c && w / 65536 % 4096 == r
  let dyn := !decide (dt = top24) && (decide (maxL ps + dt < v) || decide (v + dt < minL ps))
  if listed || dyn then midTwo (ps.take 4) else v

/-- Black level: value and clamp, at 0 or at the top of its 24 bits. -/
def IspPar.blc (q : IspPar) (m : Image) (c r : Nat) : Nat × Nat :=
  let x := (c + q.ox) % q.per
  let y := (r + q.oy) % q.per
  let d := (imgAt m c r : Int) - (q.p pgISP (0x2C0 + 4 * (4 * y + x)) : Int) - q.bld
  clampN top24 d

/-- A gain interpolated over a grid of (nx + 1) × (ny + 1) nodes, floor at each step. -/
def bilin (node : Nat → Nat → Nat) (nx ny w h c r : Nat) : Nat :=
  let dw := max 1 (w - 1)
  let dh := max 1 (h - 1)
  let i := c * nx / dw
  let fx := c * nx % dw
  let j := r * ny / dh
  let fy := r * ny % dh
  let row (j : Nat) : Nat := (node i j * (dw - fx) + node (min nx (i + 1)) j * fx) / dw
  (row j * (dh - fy) + row (min ny (j + 1)) * fy) / dh

/-- Channel index of the shading grid: R, G, B, I, and C of the clear mosaics. -/
def IspPar.lscChan (q : IspPar) (c r : Nat) : Nat :=
  let k := q.chan c r
  if k = 1 ∧ (q.mosaic = 1 ∨ q.mosaic = 2) then 4 else if q.mosaic = 2 ∧ k = 2 then 1 else k

def IspPar.lsc (q : IspPar) (m : Image) (c r : Nat) : Nat × Nat :=
  let g := bilin (fun i j => q.half pgISP2 0x400 (q.lscChan c r * 289 + 17 * j + i)) 16 16 q.w q.h c r
  clampN top24 ((imgAt m c r * g / 4096 * q.dgain / 256 : Nat) : Int)

/-! ### Stage 4, demosaic and infrared (R306) -/

/-- Floor of the mean of the samples of plane `k` at the smallest distance that has any. -/
def IspPar.interp (q : IspPar) (m : Image) (k c r : Nat) : Nat :=
  let ring (d : Int) : List Nat :=
    nearOffs.filterMap fun o =>
      if max o.1.natAbs o.2.natAbs = d.toNat ∧ q.chan (c + o.1) (r + o.2) = k then some (q.px m (c + o.1) (r + o.2)) else none
  let l := if (ring 1).isEmpty then ring 2 else ring 1
  if l.isEmpty then 0 else l.foldl (· + ·) 0 / l.length

def IspPar.plane (q : IspPar) (m : Image) (k c r : Nat) : Nat := if q.chan c r = k then imgAt m c r else q.interp m k c r

/-- KR, KG and KB. -/
def IspPar.kIr (q : IspPar) (k : Nat) : Nat :=
  if k = 0 then q.p pgISP 0x304 % 8192 else if k = 1 then q.p pgISP 0x304 / 65536 % 8192 else q.p pgISP 0x308 % 8192

/-- A colour plane less its part of the infrared, and the clamp. -/
def IspPar.irPix (q : IspPar) (m : Image) (k c r : Nat) : Nat × Nat :=
  if q.mosaic = 3 then
    let d : Int := (q.plane m k c r : Int) - ((q.kIr k * q.plane m 3 c r / 4096 : Nat) : Int)
    (d.toNat, b2n (decide (d < 0)))
  else (q.plane m k c r, 0)

/-! ### Stages 5 to 9 (R308) -/

def IspPar.ccm (q : IspPar) (v : List Nat) (i : Nat) : Nat × Nat :=
  let base := 0x340 + 0x40 * q.ccmBank
  let acc := (List.range 3).foldl (fun a j => a + hw (q.p pgISP (base + 4 * (3 * i + j)) % 65536) * (v.getD j 0 : Int)) 0
  clampN top24 (Int.fdiv acc 4096 + sgn 24 (q.p pgISP (base + 36 + 4 * i)))

def IspPar.ltm (q : IspPar) (c r v : Nat) : Nat × Nat :=
  let g := bilin (fun i j => q.half pgISP3 0x100 (16 * j + i)) 15 8 q.w q.h c r
  clampN top24 ((v * g / 256 : Nat) : Int)

/-- The luma code z of GAM. -/
def IspPar.gsh (q : IspPar) (v : Nat) : Nat := min (v / 2 ^ (q.p pgISP 0x3C0)) 65535

/-- The tone curve, and its clamps: of the code z, and of the output (R301, R308). -/
def IspPar.gam (q : IspPar) (v : Nat) : Nat × Nat :=
  let z := q.gsh v
  let cut := b2n (decide (65535 < v / 2 ^ (q.p pgISP 0x3C0)))
  let i := z / 64
  let l (k : Nat) : Int := (q.half pgISP3 0x400 k % 4096 : Nat)
  let o := clampN 4095 (l i + Int.fdiv ((l (i + 1) - l i) * ((z % 64 : Nat) : Int)) 64)
  (o.1, cut + o.2)

/-- CSC in 12 bits, then the output depth. -/
def IspPar.csc (q : IspPar) (od : Nat) (v : List Nat) (i : Nat) : Nat × Nat :=
  let acc := (List.range 3).foldl (fun a j => a + hw (q.p pgISP (0x3C4 + 4 * (3 * i + j)) % 65536) * (v.getD j 0 : Int)) 0
  let x := clampN 4095 (Int.fdiv acc 4096 + sgn 32 (q.p pgISP (0x3E8 + 4 * i)))
  (x.1 / 2 ^ (12 - od), x.2)

/-- One output sample of the scaler along a line of `n` samples to `out`; `dir` 0 horizontal, 1 vertical. -/
def IspPar.scl (q : IspPar) (dir n out od j : Nat) (at_ : Nat → Nat) : Nat × Nat :=
  let s := j * (n * 65536 / out)
  let ph := s / 2048 % 32
  let o := (List.range 4).foldl (fun (a : Int) (t : Nat) =>
    let k : Int := ((s / 65536 : Nat) : Int) + (t : Int) - 1
    let kk := if k < 0 then 0 else min (n - 1) k.toNat
    a + sgn 10 (q.half pgISP3 0xD00 (dir * 128 + 4 * ph + t)) * (at_ kk : Int)) 0
  clampN (2 ^ od - 1) (Int.fdiv o 256)

/-! ### The whole job (R301) -/

/-- Stage enables, exposures and output of a descriptor (R309). -/
structure IspDesc where
  ctl : Nat
  iw : Nat
  ih : Nat
  ow : Nat
  oh : Nat

def IspDesc.en (d : IspDesc) (b : Nat) : Bool := d.ctl.testBit b
def IspDesc.nexp (d : IspDesc) : Nat := if d.en 1 then d.ctl / 65536 % 4 + 1 else 1
def IspDesc.fmtIn (d : IspDesc) : Nat := d.ctl / 2 ^ 24 % 16
def IspDesc.fmtOut (d : IspDesc) : Nat := d.ctl / 2 ^ 28 % 16
def IspDesc.od (d : IspDesc) : Nat := if d.fmtOut = 1 ∨ d.fmtOut = 5 then 10 else 8
def IspDesc.sw (d : IspDesc) : Nat := if d.en 10 then d.ow else d.iw
def IspDesc.sh (d : IspDesc) : Nat := if d.en 10 then d.oh else d.ih

/-- What a job leaves: the rows of OUT0 and OUT1, the counts of R315 in the order of the statistics, and the planes the grid
and the histogram are taken from. -/
structure IspOut where
  out0 : List (List Byte)
  out1 : List (List Byte)
  lin : Nat × Nat
  merge : Nat
  black : Nat
  mid : Nat
  late : Nat
  stat : List Image

/-- A stage on one plane: values and clamps. -/
def stage (on : Bool) (w h : Nat) (f : Nat → Nat → Nat × Nat) (m : Image) : Image × Nat :=
  if on then (imgMap w h fun c r => (f c r).1, imgSum w h fun c r => (f c r).2) else (m, 0)

/-- The output rows of the formats 0 to 5 (R308); `x` fills the unused bits of the XRGB formats. -/
def packOut (fmt w h x : Nat) (pl : List Image) : List (List Byte) × List (List Byte) :=
  let p (k c r : Nat) : Nat := imgAt (pl.getD k []) c r
  let rows (f : Nat → List Byte) : List (List Byte) := (List.range h).map f
  let mean2 (k c r : Nat) : Nat := (p k c r + p k (min (w - 1) (c + 1)) r) / 2
  let mean4 (k c r : Nat) : Nat :=
    (p k c r + p k (min (w - 1) (c + 1)) r + p k c (min (h - 1) (r + 1)) + p k (min (w - 1) (c + 1)) (min (h - 1) (r + 1))) / 4
  if fmt = 0 then (rows fun r => (List.range w).flatMap fun c => leBytes 4 (p 2 c r + p 1 c r * 2 ^ 8 + p 0 c r * 2 ^ 16 + x % 256 * 2 ^ 24), [])
  else if fmt = 1 then
    (rows fun r => (List.range w).flatMap fun c => leBytes 4 (p 2 c r + p 1 c r * 2 ^ 10 + p 0 c r * 2 ^ 20 + x % 4 * 2 ^ 30), [])
  else if fmt = 2 then
    (rows fun r => (List.range ((w + 1) / 2)).flatMap fun k =>
      [BitVec.ofNat 8 (p 0 (2 * k) r), BitVec.ofNat 8 (mean2 1 (2 * k) r), BitVec.ofNat 8 (p 0 (min (w - 1) (2 * k + 1)) r),
       BitVec.ofNat 8 (mean2 2 (2 * k) r)], [])
  else if fmt = 3 then
    (rows fun r => (List.range w).map fun c => BitVec.ofNat 8 (p 0 c r),
     (List.range ((h + 1) / 2)).map fun r => (List.range ((w + 1) / 2)).flatMap fun c =>
       [BitVec.ofNat 8 (mean4 1 (2 * c) (2 * r)), BitVec.ofNat 8 (mean4 2 (2 * c) (2 * r))])
  else if fmt = 4 then (rows fun r => (List.range w).map fun c => BitVec.ofNat 8 (p 0 c r), [])
  else (rows fun r => (List.range w).flatMap fun c => leBytes 2 (p 0 c r), [])

/-- The rows of a plane of bits [23:8] in 16-bit words. -/
def rows16 (w h : Nat) (f : Nat → Nat → Nat) : List (List Byte) :=
  (List.range h).map fun r => (List.range w).flatMap fun c => leBytes 2 (f c r / 256)

/-- A job from its exposures as stored codes. `free` stands for a weight the spec does not state, `x` for the X bits. -/
def ispRun (q : IspPar) (d : IspDesc) (free x : Nat) (exps : List Image) : IspOut :=
  let w := d.iw
  let h := d.ih
  let linPx (e c r : Nat) : LinPix :=
    let v := imgAt (exps.getD e []) c r
    if d.en 0 then q.lin v else ⟨v, false, 0, 0⟩
  let n := d.nexp
  let ovr := imgSum w h fun c r => (List.range n).foldl (fun a e => a + (linPx e c r).ovr) 0
  let clip := imgSum w h fun c r => (List.range n).foldl (fun a e => a + (linPx e c r).clip) 0
  let mg (c r : Nat) : Nat × Nat := q.merge free n (linPx 0 c r) (linPx 1 c r) (linPx 2 c r)
  let m0 := imgMap w h fun c r => (mg c r).1
  let nMerge := imgSum w h fun c r => (mg c r).2
  let m1 := if d.en 2 then imgMap w h (q.dpc m0) else m0
  let bl := stage (d.en 3) w h (q.blc m1) m1
  let ls := stage (d.en 4) w h (q.lsc bl.1) bl.1
  if d.en 5 = false then
    { out0 := rows16 w h (imgAt ls.1), out1 := [], lin := (ovr, clip), merge := nMerge, black := bl.2, mid := ls.2, late := 0,
      stat := [] }
  else
    let dem := (List.range 3).map fun k => stage true w h (q.irPix ls.1 k) []
    let nIr := dem.foldl (fun a s => a + s.2) 0
    let at3 (l : List (Image × Nat)) (c r : Nat) : List Nat := l.map fun s => imgAt s.1 c r
    let cc := if d.en 6 then (List.range 3).map fun i => stage true w h (fun c r => q.ccm (at3 dem c r) i) [] else dem.map fun s => (s.1, 0)
    let lt := cc.map fun s => stage (d.en 7) w h (fun c r => q.ltm c r (imgAt s.1 c r)) s.1
    let ga := lt.map fun s =>
      if d.en 8 then stage true w h (fun c r => q.gam (imgAt s.1 c r)) [] else (imgMap w h fun c r => imgAt s.1 c r / 4096, 0)
    let cs := if d.en 9 then (List.range 3).map fun i => stage true w h (fun c r => q.csc d.od (at3 ga c r) i) []
      else ga.map fun s => (imgMap w h fun c r => imgAt s.1 c r / 2 ^ (12 - d.od), 0)
    let sh := cs.map fun s => if d.en 10 then stage true d.ow h (fun c r => q.scl 0 w d.ow d.od c fun k => imgAt s.1 k r) [] else (s.1, 0)
    let sv := sh.map fun s => if d.en 10 then stage true d.ow d.oh (fun c r => q.scl 1 h d.oh d.od r fun k => imgAt s.1 c k) [] else (s.1, 0)
    let sum (l : List (Image × Nat)) : Nat := l.foldl (fun a s => a + s.2) 0
    let po := packOut d.fmtOut d.sw d.sh x (sv.map Prod.fst)
    { out0 := po.1,
      out1 := if d.en 12 ∧ q.mosaic = 3 then rows16 w h (q.plane ls.1 3) else po.2,
      lin := (ovr, clip), merge := nMerge, black := bl.2 + nIr, mid := ls.2 + sum cc + sum lt,
      late := sum ga + sum cs + sum sh + sum sv, stat := cc.map Prod.fst }

/-! ### Statistics (R315) -/

/-- Words 0x040 on: block sums and pixel counts, then the histogram. -/
def statGrid (q : IspPar) (w h : Nat) (pl : List Image) : List Nat :=
  let p (k c r : Nat) : Nat := imgAt (pl.getD k []) c r
  let blk (b : Nat) : List Nat :=
    let inB (c r : Nat) : Bool := c * 16 / w == b % 16 && r * 9 / h == b / 16
    (List.range 3).map (fun k => imgSum w h fun c r => if inB c r then p k c r / 256 else 0) ++
      [imgSum w h fun c r => b2n (inB c r)]
  ((List.range 144).flatMap blk) ++
    (List.range 256).map fun i => imgSum w h fun c r => b2n (q.gsh ((p 0 c r + 2 * p 1 c r + p 2 c r) / 4) / 256 == i)

end Sys2Proof.Machine
end

