-- ==== Sys2Proof/Machine/Ltb.lean ====
section
/-! DEFINITION. Machine/Ltb.lean: the Line Event Table, the position and the trackers (02), up to what a frame boundary does
in other blocks. -/

namespace Sys2Proof.Machine

def State.updLtb (s : State) (f : Ltb → Ltb) : State := { s with ltb := f s.ltb }

abbrev letA (n : Nat) : Nat := 0x400 + 8 * n
abbrev letB (n : Nat) : Nat := 0x404 + 8 * n

/-! ### Staging (R59 to R62) -/

/-- Owner of entry `n` (R61). -/
def State.letOwner (s : State) (n : Nat) : Nat := s.f pgLTB (0x100 + 4 * (n / 8)) (4 * (n % 8) + 3) (4 * (n % 8))

/-- Condition 4 of R62: the target is absent or not the owner's. -/
def State.letForeign (s : State) (own : Nat) (a b : Word) : Bool :=
  let typ := fldOf a 27 24
  let tgt := fldOf b 23 16
  let arg := fldOf b 15 0
  let pageOk (p : Nat) : Bool := (pageBlk s.grade p).isSome && (own == 0 || s.owner p == own)
  if typ = 0 ∨ typ = 1 then !s.assigned own (tgt % 8) || decide (5 ≤ tgt % 8)
  else if typ = 3 then !pageOk (pgCAP (tgt % 2))
  else if typ = 5 then !decide (s.fgHolder (tgt % 16) = own)
  else if typ = 8 then (List.range 4).any fun n => (arg >>> n) % 2 == 1 && !lanePresent s.grade n
  else if typ = 9 then !pageOk tgt
  else false

/-- The first reason of R62 that refuses a pair written by tenant `t`. -/
def State.letReason (s : State) (t n : Nat) (a b : Word) : Option Nat :=
  let typ := fldOf a 27 24
  let base := fldOf a 29 28
  let own := s.letOwner n
  if 0xD ≤ typ then some 1
  else if base = 3 ∨ ((base = 1 ∨ base = 2) ∧ ¬(typ = 0 ∨ typ = 1 ∨ typ = 2 ∨ typ = 3 ∨ typ = 4)) then some 2
  else if 4 < fldOf b 30 28 ∨ 2 ^ fldOf b 30 28 ≤ fldOf b 27 24 then some 3
  else if s.letForeign own a b then some 4
  else if t ≠ own ∧ t ≠ 0 then some 5
  else none

/-- A write to LET_A holds the pending first word (R60). -/
def State.letAWrite (s : State) (n : Nat) (v : Word) : State := s.w pgLTB (letA n) (v &&& 0xFF0FFFFF)

/-- A write to LET_B checks the pair and stages it, or refuses it (R60, R62). -/
def State.letBWrite (s : State) (t n : Nat) (v : Word) : State :=
  let v := v &&& 0x7FFFFFFF
  let a := s.r pgLTB (letA n)
  match s.letReason t n a v with
  | some r => (s.err pgLTB 0x1020 (n + t <<< 8 + r <<< 12)).ev pgLTB 9
  | none =>
    let s := s.w pgLTB (letB n) v
    s.updLtb fun l => { l with staged := (l.staged.filter fun e => !(e.1 == n)) ++ [(n, a, v)] }

/-- Staged pairs take effect together (R60). -/
def State.letApply (s : State) : State :=
  let s' := s.ltb.staged.foldl (fun s e => (s.wa pgLTB (letA e.1) e.2.1).wa pgLTB (letB e.1) e.2.2) s
  s'.updLtb fun l => { l with staged := [] }

/-- Writes to the LTB page by tenant `t`. -/
def State.ltbWrite (s : State) (t o : Nat) (v : Word) : State :=
  if 0x400 ≤ o ∧ o < 0xC00 then
    (if o % 8 = 0 then s.letAWrite ((o - 0x400) / 8) v else s.letBWrite t ((o - 0x400) / 8) v)
  else
    let s := s.plain pgLTB o v
    if o = 0x040 ∧ fldOf v 12 12 = 1 then s.w pgLTB 0x070 0 else s

def State.ltbRead (s : State) (o : Nat) : Word :=
  if o = 0x048 then BitVec.ofNat 32 s.posLP
  else if o = 0x080 ∨ o = 0x090 then setFldOf (s.r pgLTB o) 1 1 (s.f pgLTB 0x044 (7 + (o - 0x080) / 0x10) (7 + (o - 0x080) / 0x10))
  else s.r pgLTB o

/-! ### Firing (R63 to R66) -/

/-- The domain of an event's target (R66). -/
def evDom (typ tgt : Nat) : Nat :=
  if typ = 0 ∨ typ = 1 then (if tgt % 8 = 4 then 0 else 2 + tgt % 8)
  else if typ = 2 then 6 else if typ = 3 then 7 else if typ = 4 then 8 else if typ = 7 then 11 else if typ = 8 then 10
  else if typ = 9 then blockDom tgt else 1

/-- The target and the argument of an event, with the bits its type does not use dropped (R64). -/
def evTgt (typ x : Nat) : Nat :=
  if typ ≤ 1 then x % 8 else if typ = 3 then x % 2 else if typ = 5 then x % 16 else if typ = 9 then x else if typ = 0xC then x % 32 else 0

def evArg (typ x : Nat) : Nat :=
  if typ = 0 then x % 16 else if typ = 2 then x % 8 else if typ = 3 then x % 256 else if typ = 4 ∨ typ = 0xB then x
  else if typ = 6 then x % 64 else if typ = 7 then x % 256 else if typ = 8 then x % 32 + x / 256 % 256 * 256
  else if typ = 0xC then x % 2 else 0

/-- Send the event of entry `n`, or record that its target is asleep (R66). -/
def State.letSend (s : State) (n : Nat) : State :=
  let a := s.a pgLTB (letA n)
  let b := s.a pgLTB (letB n)
  let e : LineEv := ⟨n, fldOf a 27 24, evTgt (fldOf a 27 24) (fldOf b 23 16), evArg (fldOf a 27 24) (fldOf b 15 0)⟩
  if s.domRun (evDom e.typ e.target) then s.updLtb fun l => { l with evs := l.evs ++ [e] }
  else
    let s := s.cntUp pgLTB 0x070 15 0 1
    (s.ev pgLTB 8).err pgLTB 0x3021 n

/-- An event reaches its target: it is no longer on its way. -/
def State.evArrive (s : State) (typ tgt arg : Nat) : State :=
  match s.ltb.evs.find? fun e => e.typ == typ && e.target == tgt && e.arg == arg with
  | none => s
  | some e => s.updLtb fun l => { l with evs := l.evs.erase e }

/-- Frame condition of an entry on the count `f` (R59). -/
def frameCond (b : Word) (f : Nat) : Bool := f % 2 ^ fldOf b 30 28 == fldOf b 27 24

/-- An enabled master-based entry that has not fired in this frame and whose frame condition holds. -/
def State.letLive (s : State) (n : Nat) : Bool :=
  let a := s.a pgLTB (letA n)
  fldOf a 31 31 == 1 && fldOf a 29 28 == 0 && frameCond (s.a pgLTB (letB n)) s.ltb.frame.toNat && !s.ltb.fired.contains n

def State.letFire (s : State) (n : Nat) : State :=
  (s.updLtb fun l => { l with fired := l.fired ++ [n] }).letSend n

/-- Entries enabled at all: only these can be due. -/
def State.letEnabled (s : State) : List Nat :=
  (List.range 256).filter fun n => fldOf (s.a pgLTB (letA n)) 31 31 == 1

/-- Entries of the running line whose instant is reached. -/
def State.letDue (s : State) : List Nat :=
  s.letEnabled.filter fun n =>
    s.letLive n && s.af pgLTB (letA n) 19 8 == s.ltb.line && decide (s.af pgLTB (letA n) 7 0 ≤ s.phase)

/-- The entry the dispatcher sends next: lowest phase, then lowest index (R65). -/
def State.letNext (s : State) : Option Nat :=
  s.letDue.foldl (fun b n => match b with
    | none => some n
    | some m => if s.af pgLTB (letA n) 7 0 < s.af pgLTB (letA m) 7 0 then some n else some m) none

/-- The entry fires where it is the dispatcher's next (R63, R65). -/
def State.letEntryFire (s : State) (n : Nat) : State := if s.letNext = some n then s.letFire n else s

/-- What the ending line still owes: every entry of it that has not fired, in ascending index (R49). -/
def State.catchUp (s : State) : State :=
  (s.letEnabled.filter fun n => s.letLive n && s.af pgLTB (letA n) 19 8 == s.ltb.line).foldl (fun s n => s.letFire n) s

/-- UNREACH: an enabled master-based entry at or above VT_ACT (R63). -/
def State.unreach (s : State) : State :=
  match s.letEnabled.find? fun n => s.af pgLTB (letA n) 29 28 == 0 && decide (s.vtAct ≤ s.af pgLTB (letA n) 19 8) with
  | none => s
  | some n => (s.ev pgLTB 7).err pgLTB 0x3022 n

/-- The entries in the part a re-anchor skips (R57): those already due fire, then those with SKIP = 1, in ascending index. -/
def State.skipFire (s : State) : State :=
  let l := s.ltb.line
  let p := s.phase
  let s := s.letDue.foldl (fun s n => s.letFire n) s
  (s.letEnabled.filter fun n =>
    let el := s.af pgLTB (letA n) 19 8
    s.letLive n && s.af pgLTB (letA n) 30 30 == 1 && decide (el < s.vtAct) &&
      (decide (l < el) || (el == l && decide (p < s.af pgLTB (letA n) 7 0)))).foldl (fun s n => s.letFire n) s

/-! ### LTB_STAT -/

abbrev State.actMaster (s : State) : Nat := s.f pgLTB 0x044 2 0
abbrev State.onOsc (s : State) : Bool := s.f pgLTB 0x044 3 3 == 1
abbrev State.coasting (s : State) : Bool := s.f pgLTB 0x044 4 4 == 1
abbrev State.lost (s : State) : Bool := s.f pgLTB 0x044 5 5 == 1
abbrev State.mpending (s : State) : Bool := s.f pgLTB 0x044 6 6 == 1

/-- Cycles of the Welt clock in one cycle of the LTB clock: 20 where SYSPLL has locked and the LTB still runs on the oscillator up
to its next line start (R41, 01 R566). -/
def State.tickLen (s : State) : Nat := if s.onOsc && s.clk.sysPll then 20 else 1

/-- Measure the line that ends (R47). DESIGN CHOICE, log entry 95: where the line is longer than 0xF_FFFF cycles PERIOD shows
0xF_FFFF, and P_prev keeps the whole count. -/
def State.measure (s : State) : State :=
  let p := s.ltb.cyc
  (s.w pgLTB 0x064 (BitVec.ofNat 32 (min p 0xFFFFF))).updLtb fun l => { l with pPrev := p, pers := (p :: l.pers).take 64 }

/-- The master change a frame boundary makes (R58; R52 for a lost master), and the virtual timing and VT_ACT from there. The
lines generated in a row keep their count (R52). DESIGN CHOICE, log entry 23: under a camera or virtual master a committed
VT_CFG becomes VT_ACT at a frame boundary alone. -/
def State.masterChange (s : State) : State :=
  let m := s.af pgLTB 0x040 2 0
  let restart (s : State) : State := s.updLtb fun l => { l with virtK := 0, gen := 0 }
  let s :=
    if s.lost ∧ s.ltb.mcommit = false then s
    else if m = 4 then
      if s.actMaster = 4 ∧ ¬s.mpending ∧ ¬s.lost then s
      else restart ((((s.sf pgLTB 0x044 2 0 4).sf pgLTB 0x044 4 4 0).sf pgLTB 0x044 5 5 0).sf pgLTB 0x044 6 6 0)
    else if m = s.actMaster ∧ ¬s.lost then s.sf pgLTB 0x044 6 6 0
    else ((s.sf pgLTB 0x044 6 6 1).sf pgLTB 0x044 5 5 0).updLtb fun l => { l with mreq := m }
  let v := s.af pgLTB 0x058 27 0
  let s := if v = s.ltb.virtV then s else s.updLtb fun l => { l with virtV := v, virtK := 0 }
  let s := s.updLtb fun l => { l with mcommit := false }
  if s.actMaster < 2 then s else s.w pgLTB 0x054 (BitVec.ofNat 32 (s.af pgLTB 0x050 11 0))

/-- Cycles from the last virtual line start to the next (R46). -/
def State.virtLen (s : State) : Nat :=
  if s.onOsc then s.f pgLTB 0x05C 11 0
  else (s.ltb.virtK + 1) * s.ltb.virtV / 256 - s.ltb.virtK * s.ltb.virtV / 256

/-- COAST_MAX as it acts (R69). -/
def State.coastMax (s : State) : Nat := max 1 (s.f pgLTB 0x060 11 0)

/-- The master is lost (R52): the virtual raster from the next line on. -/
def State.masterLost (s : State) : State :=
  if s.ltb.gen < s.coastMax ∨ (s.actMaster = 4 ∧ ¬s.mpending) then s
  else
    let s := (((s.sf pgLTB 0x044 2 0 4).sf pgLTB 0x044 4 4 0).sf pgLTB 0x044 5 5 1).sf pgLTB 0x044 6 6 0
    (s.ev pgLTB 3).updLtb fun l => { l with virtK := 0, gen := 0, blankFill := false, mcommit := false }

/-- The LTB's part of a crystal loss (R53): the line in progress is timed against OSC_LINE from here on, its cycles so far
taken as oscillator cycles of the same duration, 20 Welt cycles each (DEDUCED, log entry 36). -/
def State.ltbCrystalLoss (s : State) : State :=
  let s := if s.onOsc then s else s.updLtb fun l => { l with cyc := l.cyc / 20 }
  let s := s.updLtb fun l => { l with pPrev := s.f pgLTB 0x05C 11 0 }
  let s := ((((s.sf pgLTB 0x044 2 0 4).sf pgLTB 0x044 3 3 1).sf pgLTB 0x044 4 4 0).sf pgLTB 0x044 5 5 1).sf pgLTB 0x044 6 6 0
  ((s.ev pgLTB 6).ev pgLTB 3).updLtb fun l => { l with virtK := 0, gen := 0, blankFill := false, mcommit := false }

/-- The LTB changes clock at a line start (R41). -/
def State.ltbClockChange (s : State) : State :=
  if s.ltb.cyc = 0 ∧ s.onOsc = s.clk.sysPll then
    (s.sf pgLTB 0x044 3 3 (b2n !s.clk.sysPll)).updLtb fun l => { l with virtK := 0 }
  else s

/-- A read of POS_LP copies FRAME into POS_FRM (R40). -/
def State.posRead (s : State) : State := s.w pgLTB 0x04C s.ltb.frame

/-! ### Trackers (R67, R68) -/

def State.trk (s : State) (n : Nat) : Tracker := if n = 0 then s.ltb.trk0 else s.ltb.trk1

def State.updTrk (s : State) (n : Nat) (f : Tracker → Tracker) : State :=
  s.updLtb fun l => if n = 0 then { l with trk0 := f l.trk0 } else { l with trk1 := f l.trk1 }

/-- LOCK of tracker `n`, held in LTB_STAT and shown in TRKn_CTRL too (R69). -/
def State.trkLocked (s : State) (n : Nat) : Bool := s.f pgLTB 0x044 (7 + n) (7 + n) == 1

/-- The instant of a tracker-based entry from the position latched (R68). -/
def State.trkInstant (s : State) (n e : Nat) : TrkInst :=
  let a := s.a pgLTB (letA e)
  let ofs := (fldOf a 19 8 * 256 + fldOf a 7 0) * s.f pgLTB (0x08C + 0x10 * n) 23 0 / 65536 % 2 ^ 32
  let lp := s.f pgLTB (0x088 + 0x10 * n) 19 0
  let total := lp + ofs
  let vt := 256 * s.vtAct
  if vt = 0 then ⟨e, 0, 0, 0⟩
  else ⟨e, ((s.r pgLTB (0x084 + 0x10 * n)).toNat + total / vt) % 2 ^ 32, total % vt / 256, total % vt % 256⟩

/-- Whether an instant is reached. -/
def State.trkReached (s : State) (i : TrkInst) : Bool :=
  let fr := (s.ltb.frame.toNat + 2 ^ 32 - i.frame) % 2 ^ 32
  decide (0 < fr ∧ fr < 2 ^ 31) || (fr == 0 && decide (i.line * 256 + i.phase ≤ s.posLP))

/-- Whether an entry is enabled, based on tracker `n`, and its frame condition holds on CFCNT (R68). -/
def State.trkEntry (s : State) (n e : Nat) : Bool :=
  s.af pgLTB (letA e) 31 31 == 1 && s.af pgLTB (letA e) 29 28 == n + 1 &&
    frameCond (s.a pgLTB (letB e)) (s.f pgLTB (0x080 + 0x10 * n) 31 16)

/-- The instant of a tracker-based entry is reached (R68): it fires where LOCK is set and the entry still stands, and is over in
each case. DESIGN CHOICE, log entry 96: clearing EN of a tracker leaves its LOCK and the instants already computed. -/
def State.trkFire (s : State) (n e : Nat) : State :=
  match (s.trk n).insts.find? fun i => i.entry == e with
  | none => s
  | some i =>
    if s.trkReached i then
      let s := s.updTrk n fun t => { t with insts := t.insts.erase i }
      if s.trkLocked n = true ∧ s.trkEntry n e = true then s.letSend e else s
    else s

/-- Every instant already reached fires, in ascending entry index. -/
def State.trkFireDue (s : State) (n : Nat) : State :=
  (s.trk n).insts.foldl (fun s i => s.trkFire n i.entry) s

/-- Set a tracker's LOCK; a change raises its event. Instants reached before the change are judged under the old LOCK. -/
def State.trkLock (s : State) (n : Nat) (v : Bool) : State :=
  if s.trkLocked n = v then s
  else ((s.trkFireDue n).sf pgLTB 0x044 (7 + n) (7 + n) (b2n v)).ev pgLTB (10 + n)

/-- A camera frame start at tracker `n` (R67, R68). The instants are computed whatever LOCK is; LOCK is asked when they fire. -/
def State.trkFrameStart (s : State) (n : Nat) : State :=
  if s.f pgLTB (0x080 + 0x10 * n) 0 0 = 0 then s
  else
    let s := s.trkFireDue n
    let missed := !(s.trk n).insts.isEmpty
    let s := if missed then s.ev pgLTB 12 else s
    let s := s.w pgLTB (0x084 + 0x10 * n) s.ltb.frame
    let s := s.w pgLTB (0x088 + 0x10 * n) (BitVec.ofNat 32 s.posLP)
    let s := s.cntWrap pgLTB (0x080 + 0x10 * n) 31 16
    let s := if (s.trk n).complete then s else s.trkLock n false
    let es := s.letEnabled.filter fun e => s.trkEntry n e
    s.updTrk n fun t => { t with lines := 0, complete := false, insts := es.map fun e => s.trkInstant n e }

/-- A camera line start at tracker `n`: the period over the first 64 line starts (R67). DESIGN CHOICE, log entry 96: the 63
periods between them are divided with floor, and a value above 0xFF_FFFF is cut to it. -/
def State.trkLineStart (s : State) (n : Nat) : State :=
  if s.f pgLTB (0x080 + 0x10 * n) 0 0 = 0 ∨ 64 ≤ (s.trk n).lines then s
  else
    let k := (s.trk n).lines + 1
    let s := s.updTrk n fun t => { t with lines := k }
    if k = 1 then s.updTrk n fun t => { t with startFrm := s.ltb.frame.toNat, startPh := s.posLP }
    else if k < 64 then s
    else
      let fr := (s.ltb.frame.toNat + 2 ^ 32 - (s.trk n).startFrm) % 2 ^ 32
      let d := fr * s.vtAct * 256 + s.posLP - (s.trk n).startPh
      let s := s.w pgLTB (0x08C + 0x10 * n) (BitVec.ofNat 32 (min (d * 256 / 63) 0xFFFFFF))
      (s.updTrk n fun t => { t with complete := true }).trkLock n true

/-- A re-anchor of the master fires the instants already reached and cancels every other (R68). -/
def State.trkCancel (s : State) : State :=
  (List.range 2).foldl (fun s n => (s.trkFireDue n).updTrk n fun t => { t with insts := [] }) s

/-- The receiver stops: the tracker loses its lock (R67). -/
def State.trkStop (s : State) (n : Nat) : State :=
  (s.trkLock n false).updTrk n fun t => { t with lines := 0, complete := false, insts := [] }

end Sys2Proof.Machine
end

