-- ==== Sys2Proof/Machine/Capture.lean ====
section
/-! DEFINITION. Machine/Capture.lean: the receivers and their frame records, and the ISP's jobs and tag queue (12). -/

namespace Sys2Proof.Machine

/-! ### Streams -/

def State.str (s : State) (n k : Nat) : CapStr := (s.caps.getD n []).getD k CapStr.zero

def State.updStr (s : State) (n k : Nat) (f : CapStr → CapStr) : State :=
  { s with caps := s.caps.modify n fun l => l.modify k f }

/-- Offset of register `o` of stream `k`. -/
abbrev strOff (k o : Nat) : Nat := 0x100 + 0x40 * k + o

/-- The active values of STR_CTRL to STR_REC3 (R297). -/
def State.strAct (s : State) (n k : Nat) : List Word := (List.range 12).map fun i => s.a (pgCAP n) (strOff k (4 * i))

/-- The values that govern a stream now: those its frame started with, else the active ones. -/
def State.strCfg (s : State) (n k : Nat) : List Word := if (s.str n k).op then (s.str n k).cfg else s.strAct n k

def cfgW (c : List Word) (i hi lo : Nat) : Nat := fldOf (c.getD i 0) hi lo
def cfgEn (c : List Word) : Bool := cfgW c 0 0 0 == 1
def cfgVc (c : List Word) : Nat := cfgW c 0 5 4
def cfgDt (c : List Word) : Nat := cfgW c 0 13 8
def cfgNbuf (c : List Word) : Nat := cfgW c 0 25 24 + 1
def cfgWidth (c : List Word) : Nat := cfgW c 1 12 0
def cfgHeight (c : List Word) : Nat := cfgW c 1 27 16
def cfgBuf (c : List Word) (k : Nat) : Nat := (c.getD (4 + k) 0).toNat
def cfgRec (c : List Word) (k : Nat) : Nat := (c.getD (8 + k) 0).toNat

/-- The long-packet types received (R292). -/
def dtKnown (dt : Nat) : Bool := [0x2A, 0x2B, 0x2C, 0x2D, 0x2E, 0x1E, 0x12].contains dt

/-- The packed format of a data type. -/
def dtFmt (dt : Nat) : Nat :=
  if dt = 0x2B then 1 else if dt = 0x2C then 2 else if dt = 0x2D then 3 else if dt = 0x2E ∨ dt = 0x1E then 4 else 0

/-- The stored format (R295): YUV422 and embedded data as received. -/
def cfgFmt (c : List Word) : Nat :=
  if cfgW c 0 16 16 = 1 ∧ 0x2A ≤ cfgDt c ∧ cfgDt c ≤ 0x2E then 5 else dtFmt (cfgDt c)

/-- PAD in the stream's format (R300). -/
def cfgPad (c : List Word) : Nat :=
  let b := if cfgDt c = 0x2B then 10 else if cfgDt c = 0x2C then 12 else if cfgDt c = 0x2D then 14
    else if cfgDt c = 0x2E ∨ cfgDt c = 0x1E then 16 else 8
  cfgW c 2 15 0 % 2 ^ b

/-- A receiver's write through NI8 or NI9, in the class of the stream's STR_CTRL.CLS (R298). -/
def State.capWrite (s : State) (n : Nat) (c : List Word) (a : Nat) (b : List Byte) : State := (s.engWrite (8 + n) (cfgW c 0 21 20) a b).1

/-- Store the pixels and the status of line slot `y` of the open frame. -/
def State.slotWrite (s : State) (n k y : Nat) (pix : List Nat) (st : Nat) : State :=
  let x := s.str n k
  let fill := (s.freeW).toNat
  let whole := cfgWidth x.cfg % (pixGroup (cfgFmt x.cfg)).1 == 0
  let s' := s.capWrite n x.cfg (cfgBuf x.cfg x.buf + y * (x.cfg.getD 3 0).toNat) (packLine (cfgFmt x.cfg) pix fun _ => fill % 256)
  let s' := if whole then s' else s'.tookFree
  let s' := s'.capWrite n x.cfg (cfgRec x.cfg x.buf + 0x40 + y) [BitVec.ofNat 8 st]
  s'.updStr n k fun x => { x with lines := x.lines ++ [st] }

/-! ### Packets (R292 to R300) -/

/-- CAM in Run: the receiver receives (R298). -/
def State.camRun (s : State) : Bool := s.domRun 7

/-- A header that could not be corrected (R293). -/
def State.hdrLost (s : State) (n : Nat) : State :=
  let s := (s.cntUp (pgCAP n) 0x04C 7 0 1).ev (pgCAP n) 16
  (List.range 4).foldl (fun s k => if (s.str n k).op then s.updStr n k fun x => { x with hdrLoss := true, flags := x.flags ||| 0x40 } else s) s

/-- Note the line of a stream's last packet. -/
def State.strSeen (s : State) (n k : Nat) : State :=
  s.updStr n k fun x => { x with lastFrm := s.ltb.frame, lastLine := s.ltb.line }

/-- The 64 header bytes of a record (R299). -/
def recHeader (x : CapStr) (flags frm lp : Nat) (filled : Nat) : List Byte :=
  let n (b : Nat) : Nat := (x.lines.filter fun l => l.testBit b).length
  [x.id + x.buf * 2 ^ 16, x.frm.toNat, x.lp, frm, lp, flags, filled + x.extra % 65536 * 2 ^ 16, n 2 + n 3 * 2 ^ 16, n 0 + n 1 * 2 ^ 16,
    min 0xFFFF x.dropped, cfgWidth x.cfg + cfgHeight x.cfg * 2 ^ 16 + cfgW x.cfg 0 11 8 * 2 ^ 28, 0, 0, 0, 0, 0].flatMap (leBytes 4)

/-- Close the open frame: missing slots are padded, the flags and the header are written (R299, R300). `fe` is set where a
frame end closes it; `why` carries NO_FE or TIMEOUT. -/
def State.strClose (s : State) (n k : Nat) (fe : Bool) (why : Nat) : State :=
  let x := s.str n k
  let filled := x.lines.length
  let h := cfgHeight x.cfg
  let s := (List.range (h - filled)).foldl (fun s i =>
    s.slotWrite n k (filled + i) (List.replicate (cfgWidth x.cfg) (cfgPad x.cfg)) 0x10) s
  let x := s.str n k
  let bad := x.lines.any fun l => l != 0
  let flags := x.flags ||| why ||| (if filled < h then 2 else 0) ||| (if bad then 0x20 else 0) |||
    (if x.dropped = 0 then 0 else 0x80) ||| (if fe ∧ h ≤ filled ∧ bad = false then 1 else 0)
  let s := s.capWrite n x.cfg (cfgRec x.cfg x.buf) (recHeader x flags s.ltb.frame.toNat s.posLP filled)
  s.updStr n k fun x => { x with
    op := false, dropped := 0, hdrLoss := false,
    closing := x.closing ++ [⟨x.cfg, x.buf, x.id, flags⟩] }

/-- Whether the next buffer in ring order is free. -/
def CapStr.free (x : CapStr) (b : Nat) : Bool := !x.held.contains b && !x.closing.any fun c => c.buf == b

/-- A stream meets a frame start on its VC (R296, R297, R299). -/
def State.strStart (s : State) (n k num : Nat) : State :=
  let s := if (s.str n k).op then s.strClose n k false 8 else s
  let cfg := s.strAct n k
  let s := s.updStr n k fun x => { x with await := false, dropping := false, ctr := if x.ctr = 65535 then 1 else x.ctr + 1 }
  let x := s.str n k
  let b := x.next % cfgNbuf cfg
  if x.free b then
    (s.updStr n k fun x => { x with
      op := true, cfg := cfg, buf := b, lines := [], flags := 0, extra := 0, hdrLoss := false,
      id := if cfgW cfg 0 18 18 = 1 ∨ num % 65536 = 0 then x.ctr else num % 65536,
      frm := s.ltb.frame, lp := s.posLP, next := (b + 1) % cfgNbuf cfg }).strSeen n k
  else
    ((s.updStr n k fun x => { x with dropping := true, dropped := x.dropped + 1 }).cntUp (pgCAP n) (strOff k 0x38) 15 0 1).ev (pgCAP n) (4 * k + 2)

/-- Whether a stream takes frame packets of a VC: its frame's VC, or the active one. -/
def State.strOnVc (s : State) (n k vc : Nat) : Bool :=
  (cfgEn (s.strCfg n k) && cfgVc (s.strCfg n k) == vc) || (cfgEn (s.strAct n k) && cfgVc (s.strAct n k) == vc)

/-- A frame start on `vc` with frame number `num`; `hdr` 2 is an uncorrectable header. -/
def State.csiFrameStart (s : State) (n vc num hdr : Nat) : State :=
  if s.camRun = false ∨ 2 ≤ n then s
  else if hdr = 2 then s.hdrLost n
  else (List.range 4).foldl (fun s k =>
    if s.strOnVc n k vc then
      (if cfgEn (s.strAct n k) ∧ cfgVc (s.strAct n k) = vc then s.strStart n k num
       else if (s.str n k).op then s.strClose n k false 8 else s)
    else s) s

/-- A frame end on `vc` (R300): with no frame open on the VC it is counted ORPH. -/
def State.csiFrameEnd (s : State) (n vc hdr : Nat) : State :=
  if s.camRun = false ∨ 2 ≤ n then s
  else if hdr = 2 then s.hdrLost n
  else
    let s := if s.actMaster = 2 + n ∧ s.af pgLTB 0x040 5 4 = vc ∧ s.mpending = false then s.updLtb fun l => { l with blankFill := true } else s
    let ks := (List.range 4).filter fun k => s.strOnVc n k vc && (s.str n k).await == false
    let open_ := ks.filter fun k => (s.str n k).op
    let drop := ks.any fun k => (s.str n k).dropping
    let s := if ks.isEmpty ∨ ¬open_.isEmpty ∨ drop then s else s.cntUp (pgCAP n) 0x04C 31 24 1
    let s := ks.foldl (fun s k => s.updStr n k fun x => { x with dropping := false }) s
    open_.foldl (fun s k => s.strClose n k true 0) s

/-- The line FIFO in units of 64 bytes: 32 KiB, or 16 KiB on CAP1 (R291). -/
def fifoUnits (n : Nat) : Nat := if n = 0 then 512 else 256

/-- Line status and flags of a long packet: pixels counted, kept, and why. A byte that finds the FIFO full ends the line, the
bytes of a trailing incomplete group too (R298, R300). -/
def State.lineIn (s : State) (n k hdr : Nat) (payload : List Byte) (crcBad : Bool) (fifo : Option Nat) : State :=
  let x := s.str n k
  let w := cfgWidth x.cfg
  let fmt := dtFmt (cfgDt x.cfg)
  let cnt := pixCount fmt payload.length
  let got := match fifo with
    | none => cnt
    | some m => min cnt (pixCount fmt m)
  let keep := min got w
  let ovf := match fifo with
    | none => false
    | some m => decide (m < payload.length)
  let st := b2n (decide (cnt < w)) + 2 * b2n (decide (w < cnt)) + 4 * b2n (decide (hdr = 1)) + 8 * b2n crcBad + 0x20 * b2n ovf +
    0x40 * b2n x.hdrLoss
  let pix := unpackLine fmt keep payload ++ List.replicate (w - keep) (cfgPad x.cfg)
  let s := s.updStr n k fun x => { x with
    flags := x.flags ||| (if cnt = w then 0 else 0x200) ||| (if ovf then 0x100 else 0) }
  let s := if ovf then (s.cntUp (pgCAP n) 0x050 15 0 1).ev (pgCAP n) (4 * k + 3) else s
  s.slotWrite n k x.lines.length pix st

/-- A long packet (R292 to R294, R298, R300): word count `wc`, the payload received, whether its CRC is right, the bytes taken
before the FIFO was full, and the FIFO's fill in 64-byte units. -/
def State.csiLongPacket (s : State) (n vc dt hdr wc : Nat) (payload : List Byte) (crcOk : Bool) (fifo : Option Nat) (fill : Nat) : State :=
  if s.camRun = false ∨ 2 ≤ n then s
  else if hdr = 2 then s.hdrLost n
  else
    let top := min fill (fifoUnits n)
    let s := if s.f (pgCAP n) 0x050 31 16 < top then s.sf (pgCAP n) 0x050 31 16 top else s
    if dtKnown dt = false then (s.cntUp (pgCAP n) 0x04C 15 8 1).ev (pgCAP n) 18
    else match (List.range 4).find? fun k => cfgEn (s.strCfg n k) && cfgVc (s.strCfg n k) == vc && cfgDt (s.strCfg n k) == dt with
      | none => s.cntUp (pgCAP n) 0x04C 23 16 1
      | some k =>
        let x := s.str n k
        if x.await ∨ (x.dropping ∧ x.op = false) then s
        else if x.op = false then s.cntUp (pgCAP n) 0x04C 31 24 1
        else
          let s := s.strSeen n k
          let data := payload.take wc
          if cfgHeight x.cfg ≤ x.lines.length then s.updStr n k fun x => { x with extra := x.extra + 1, flags := x.flags ||| 4 }
          else s.lineIn n k hdr data (!crcOk || decide (data.length < wc)) fifo

/-- Master lines since a stream's last packet. -/
def State.strQuiet (s : State) (n k : Nat) : Nat :=
  let x := s.str n k
  (s.ltb.frame.toNat + 2 ^ 32 - x.lastFrm.toNat) % 2 ^ 32 * s.vtAct + s.ltb.line - x.lastLine

/-- CAP_FETMO expires (R300). -/
def State.frameEndTimeout (s : State) (n k : Nat) : State :=
  let t := s.f (pgCAP n) 0x054 11 0
  if s.camRun ∧ (s.str n k).op ∧ t ≠ 0 ∧ t ≤ s.strQuiet n k then (s.strClose n k false 0x10).ev (pgCAP n) 17 else s

/-! ### Buffers and registers of the receivers (R296, R316) -/

/-- Free buffers of a stream. -/
def State.strRel (s : State) (n k m : Nat) : State := s.updStr n k fun x => { x with held := x.held.filter fun b => !m.testBit b }

/-- CAP_CTRL.CLR. -/
def State.capClr (s : State) (n : Nat) : State :=
  (List.range 4).foldl (fun s k => s.w (pgCAP n) (strOff k 0x38) 0) ((s.w (pgCAP n) 0x04C 0).w (pgCAP n) 0x050 0)

def State.capRegWrite (s : State) (n o : Nat) (v : Word) : State :=
  let k := (o - 0x100) / 0x40
  if o = 0x040 then
    let lanes := fldOf v 2 0
    let ok := lanes = 1 ∨ lanes = 2 ∨ (lanes = 4 ∧ n = 0)
    let s := s.plainWrite (pgCAP n) o v (if ok then 0 else 7) 0 o
    if v.getLsbD 16 then s.capClr n else s
  else if 0x100 ≤ o ∧ o < 0x200 ∧ o % 0x40 = 0x30 then s.strRel n k (fldOf v 3 0)
  else if 0x100 ≤ o ∧ o < 0x200 ∧ o % 0x40 = 0x0C then
    s.plainWrite (pgCAP n) o v (if v.toNat % 16 = 0 then 0 else 0xFFFFFFFF) 0 o
  else s.plain (pgCAP n) o v

def State.capRead (s : State) (n o : Nat) : Word :=
  let k := (o - 0x100) / 0x40
  if o = 0x044 then
    BitVec.ofNat 32 ((List.range 4).foldl (fun a k => a + 2 ^ (4 + k) * b2n (s.str n k).op) (Config.capLanes n s.time).toNat)
  else if 0x100 ≤ o ∧ o < 0x200 ∧ o % 0x40 = 0x34 then
    let x := s.str n k
    BitVec.ofNat 32 (x.held.foldl (fun a b => a + 2 ^ b) 0 + x.buf * 16 + b2n x.op * 256 + (if x.op then x.lines.length else 0) % 4096 * 2 ^ 16)
  else s.r (pgCAP n) o

/-! ### Camera triggers (02 R64, 13 R320) -/

/-- A CAM_TRIG event: the ball stands active for ARG + 1 phases. -/
def State.camTrigger (s : State) (n arg : Nat) : State :=
  if s.camRun = false ∨ 2 ≤ n then s
  else { (s.evArrive 3 n (arg % 256)) with trig := s.trig.set n (some (s.now + (arg % 256 + 1) * s.ltb.pPrev / 256 * s.tickLen)) }

def State.camTriggerEnd (s : State) (n : Nat) : State :=
  match s.trig.getD n none with
  | none => s
  | some e => if e ≤ s.now then { s with trig := s.trig.set n none } else s

/-! ### ISP jobs (R309 to R314) -/

def State.updIsp (s : State) (f : Isp → Isp) : State := { s with isp := f s.isp }

/-- Queue a job, or refuse it where eight are queued (R310): whether it was taken. -/
def State.ispQueue (s : State) (j : IspJob) : State :=
  if 8 ≤ s.isp.queue.length then (s.errCap pgISP 0x040).ev pgISP 2
  else s.updIsp fun x => { x with queue := x.queue ++ [j] }

def State.ispSubmit (s : State) : State := s.ispQueue ⟨(s.r pgISP 0x048).toNat, none, 0, 0⟩

/-- FDONE: the front closed frame of a stream has all its responses (R296, R300, R310). -/
def State.capFdone (s : State) (n k : Nat) : State :=
  match (s.str n k).closing with
  | [] => s
  | c :: t =>
    if s.camRun = false then s
    else
      let s := s.updStr n k fun x => { x with closing := t, held := x.held ++ [c.buf] }
      let s := s.w (pgCAP n) (strOff k 0x3C) (BitVec.ofNat 32 (c.buf + c.id * 2 ^ 16))
      let s := s.ev (pgCAP n) (4 * k)
      let s := if c.flags = 1 then s else s.ev (pgCAP n) (4 * k + 1)
      if cfgW c.cfg 0 17 17 = 1 then
        s.ispQueue ⟨(s.r pgISP (0x050 + 4 * n)).toNat, some (n, k, c.buf), cfgBuf c.cfg c.buf, cfgRec c.cfg c.buf⟩
      else s

/-- TQ_PUSH (R314). -/
def State.tqPush (s : State) : State :=
  let fn := s.f pgISP 0x060 15 0
  let newer := match s.isp.lastFn with
    | none => true
    | some l => decide (1 ≤ (fn + 65536 - l) % 65536) && decide ((fn + 65536 - l) % 65536 ≤ 32767)
  if 4 ≤ s.isp.tags.length then s.errCap pgISP 0x040
  else if newer = false then s.errValue pgISP 0x040
  else
    let e : TagEnt := ⟨fn, s.f pgISP 0x064 3 0, (List.range 6).map fun i => s.r pgISP (0x068 + 4 * i)⟩
    s.updIsp fun x => { x with tags := x.tags ++ [e], lastFn := some fn }

def State.tqFlush (s : State) : State := s.updIsp fun x => { x with tags := [], hold := TagEnt.zero }

/-- The held groups overwritten by an entry's groups. -/
def TagEnt.ovr (h e : TagEnt) : TagEnt :=
  let bit (i : Nat) : Nat := if i < 3 then 0 else i - 2
  ⟨e.fn, h.mask ||| e.mask, (List.range 6).map fun i => if e.mask.testBit (bit i) then e.v.getD i 0 else h.v.getD i 0⟩

/-- The values of the snapshot. -/
def State.snapNow (s : State) : List (Nat × Word) := s.act.filter fun e => decide (rkey pgISP 0 ≤ e.1) && decide (e.1 < rkey (pgISP3 + 1) 0)

/-- The parameters of a job: the snapshot overwritten by the held groups (R313, R314). -/
def IspRun.par (g : Grade) (r : IspRun) : IspPar :=
  let p (pg o : Nat) : Nat := (Sparse.get (resetVal g) r.snap (rkey pg o)).toNat
  let hv (b i dflt : Nat) : Nat := if r.hold.mask.testBit b then (r.hold.v.getD i 0).toNat else dflt
  let ctl := r.d.getD 0 0
  let bank := hv 3 5 (p pgISP 0x28C)
  { p := p, g1 := hv 0 0 (p pgISP 0x290), g2 := hv 0 1 (p pgISP 0x294), thr := hv 0 2 (p pgISP 0x298) % 2 ^ 24,
    bld := sgn 24 (hv 1 3 (p pgISP 0x2A8)), dgain := hv 2 4 (p pgISP 0x300), ccmBank := bank % 2, linBank := bank / 2 % 2,
    mosaic := ctl / 2 ^ 20 % 4, ox := r.d.getD 17 0 % 4, oy := r.d.getD 17 0 / 4 % 4,
    w := r.d.getD 1 0 % 8192, h := r.d.getD 1 0 / 65536 % 4096 }

def IspRun.desc (r : IspRun) : IspDesc :=
  { ctl := r.d.getD 0 0, iw := r.d.getD 1 0 % 8192, ih := r.d.getD 1 0 / 65536 % 4096, ow := r.d.getD 14 0 % 8192,
    oh := r.d.getD 14 0 / 65536 % 4096 }

/-- The descriptor as a job uses it: an automatic one takes IN0 and REC0 from the frame and steps its outputs (R310). -/
def State.jobDesc (s : State) (j : IspJob) : List Nat :=
  let d := (List.range 20).map fun i => s.rd32 (j.addr + 4 * i)
  match j.auto with
  | none => d
  | some (_, _, b) =>
    let step := b * d.getD 16 0
    let add (l : List Nat) (i : Nat) : List Nat := l.set i ((l.getD i 0 + step) % 2 ^ 32)
    add (add (add ((d.set 3 j.in0).set 6 j.rec0) 9) 11) 13

/-- The first reason of R311 that refuses a job; `bad` is set where the descriptor's read did not get OK. -/
def State.jobReason (s : State) (r : IspRun) (bad : Bool) : Option Nat :=
  let d := r.desc
  let q := r.par s.grade
  let k (i : Nat) : Nat := r.d.getD i 0
  let nexp := d.ctl / 65536 % 4 + 1
  let up (a : Nat) : Nat := (a + 3) / 4
  let recs := (List.range 3).map fun i => k (6 + i)
  if bad then some 1
  else if d.iw < 16 ∨ 4096 < d.iw ∨ d.ih < 8 ∨ 4095 < d.ih ∨ d.iw % 2 = 1 ∨ d.ih % 2 = 1 ∨
      (q.mosaic = 3 ∧ (d.iw % 4 ≠ 0 ∨ d.ih % 4 ≠ 0)) ∨ 5 < d.fmtIn ∨ 6 < d.fmtOut ∨ 3 < nexp ∨
      (d.en 5 = false ∧ (d.fmtOut ≠ 6 ∨ (List.range 5).any (fun i => d.en (6 + i)) = true)) ∨ (d.en 5 = true ∧ d.fmtOut = 6) then some 2
  else if recs.any (fun a => a != 0 && (s.rd32 (a + 0x28) % 8192 != d.iw || s.rd32 (a + 0x28) / 65536 % 4096 != d.ih)) then some 3
  else if q.kneesOk = false then some 4
  else if d.en 10 = true ∧ (d.ow < up d.iw ∨ 2 * d.iw < d.ow ∨ d.oh < up d.ih ∨ 2 * d.ih < d.oh) then some 5
  else if ((d.fmtIn = 4 ∨ d.fmtIn = 5) ∧ ((k 2) % 2 = 1 ∨ ((List.range d.nexp).any fun i => k (3 + i) % 2 == 1) = true)) ∨
      k 9 % 16 ≠ 0 ∨ k 10 % 16 ≠ 0 ∨ ((d.fmtOut = 3 ∨ d.en 12 = true) ∧ (k 11 % 16 ≠ 0 ∨ k 12 % 16 ≠ 0)) ∨
      (d.en 11 = true ∧ k 13 % 16 ≠ 0) then some 6
  else none

/-- FRAME_ID of the record of exposure 0, or 0 without one. -/
def State.jobFrame (s : State) (d : List Nat) : Nat := if d.getD 6 0 = 0 then 0 else s.rd32 (d.getD 6 0) % 65536

/-- The first four words of the statistics, from the records (R315). -/
def State.jobRecs (s : State) (d : List Nat) : List Nat :=
  let rec0 := d.getD 6 0
  let others := (List.range 2).any fun i => d.getD (7 + i) 0 != 0 && s.rd32 (d.getD (7 + i) 0 + 0x14) % 1024 / 2 != 0
  let rw (a : Nat) : Nat := if rec0 = 0 then 0 else s.rd32 (rec0 + a)
  [s.jobFrame d, rw 0x14 % 65536 + 65536 * b2n others, rw 4, rw 8]

/-- ISP_CTRL.CLS, the class of the ISP's requests (R312). -/
abbrev State.ispCls (s : State) : Nat := s.f pgISP 0x040 9 8

/-- An ISP write through NI10 (R312). -/
def State.ispWrite (s : State) (a : Nat) (b : List Byte) : State := (s.engWrite 10 s.ispCls a b).1

/-- A job leaves the ISP with a STATUS; AUTOREL frees an automatic job's buffer (R311). -/
def State.jobEnd (s : State) (j : IspJob) (d : List Nat) (id : Nat) (err : Bool) (reason : Nat) : State :=
  let s := s.ispWrite (j.addr + 0x3C) (leBytes 4 ((if err then 2 else 1) + reason * 256 + id * 65536))
  let s := s.sf pgISP 0x044 31 24 reason
  let s := match j.auto with
    | some (n, k, b) => if (d.getD 0 0).testBit 13 then s.strRel n k (2 ^ b) else s
    | none => s
  if err then s.ev pgISP 1 else s

/-- The reads of the records a descriptor gives. -/
def recReads (d : List Nat) : List (Nat × Nat) :=
  (((List.range 3).map fun i => d.getD (6 + i) 0).filter (· != 0)).map fun a => (a, 64)

/-- Whether a tag entry is older than frame `f` (R314). -/
def TagEnt.older (f : Nat) (e : TagEnt) : Bool :=
  decide (1 ≤ (f + 65536 - e.fn) % 65536) && decide ((f + 65536 - e.fn) % 65536 ≤ 32767)

/-- The tag queue at the start of a job of frame `f` (R314): the entries left, the entries discarded as stale, and the head that
the job's frame matches. -/
def tagStep (f : Nat) (tags : List TagEnt) : List TagEnt × Nat × Option TagEnt :=
  let l := tags.filter fun e => !e.older f
  let n := (tags.filter fun e => e.older f).length
  match l with
  | e :: t => if e.fn = f then (t, n, some e) else (l, n, none)
  | [] => ([], n, none)

/-- The next job starts (R311, R313, R314); `st` is the status its descriptor's read got. The job is judged by the values it
would run with: the held groups with those of a matching tag entry; a refused job leaves queue and hold as they are. -/
def State.ispJobStart (s : State) (st : Nat) : State :=
  match s.isp.run, s.isp.queue with
  | none, j :: q =>
    if s.camRun = false then s
    else
      let s := s.updIsp fun x => { x with queue := q }
      let rd := s.engRead 10 s.ispCls j.addr 80
      let s := rd.1
      let bad := !decide (rd.2 = .ok) || decide (st ≠ 0)
      let d := if bad then List.replicate 20 0 else s.jobDesc j
      let t := if d.getD 6 0 = 0 then (s.isp.tags, 0, none) else tagStep (s.jobFrame d) s.isp.tags
      let hold := match t.2.2 with | some e => s.isp.hold.ovr e | none => s.isp.hold
      let r : IspRun := ⟨j, d, s.jobRecs d, s.snapNow, hold, t.2.1, t.2.2.isSome⟩
      let rs := if bad then (s, Sts.ok) else s.engReads 10 s.ispCls (recReads d)
      let s := rs.1
      match (if rs.2 = .ok then s.jobReason r bad else some (7 + 16 * rs.2.code)) with
      | some e => (s.err pgISP 0x1510 e).jobEnd j d (s.jobFrame d) true e
      | none =>
        let s := if t.2.1 = 0 then s else (s.cntUp pgISP 0x080 15 0 t.2.1).ev pgISP 3
        s.updIsp fun x => { x with tags := t.1, hold := hold, run := some r }
  | _, _ => s

/-- The statistics of a job (R315); without colour planes its grid has no stated values, `free` stands for each word. -/
def jobStats (g : Grade) (r : IspRun) (o : IspOut) (free : Nat → Nat) : List Byte :=
  let sat (x : Nat) : Nat := min x 0xFFFF
  let auto := match r.job.auto with
    | some (_, _, b) => 4 + b * 16
    | none => 0
  let head := r.recs ++ [b2n (r.d.getD 6 0 == 0) + 2 * b2n r.tagUsed + auto,
    sat o.lin.1 + sat o.lin.2 * 65536, sat o.merge + sat o.black * 65536, sat o.mid + sat o.late * 65536, sat r.stale, 0, 0, 0, 0, 0, 0, 0]
  let q := r.par g
  let grid := if o.stat.isEmpty then (List.range 832).map free else statGrid q r.desc.iw r.desc.ih o.stat
  (head ++ grid).flatMap (leBytes 4)

/-- Rows at a stride. -/
def ispRows (base stride : Nat) (rows : List (List Byte)) : List (Nat × List Byte) :=
  (rows.zip (List.range rows.length)).map fun x => (base + x.2 * stride, x.1)

/-- The lines a job reads, exposure by exposure. -/
def IspRun.reads (r : IspRun) : List (Nat × Nat) :=
  let k (i : Nat) : Nat := r.d.getD i 0
  (List.range r.desc.nexp).flatMap fun e => (List.range r.desc.ih).map fun y =>
    (k (3 + e) + y * k 2, pixBytes r.desc.fmtIn r.desc.iw)

/-- What a job writes: its output rows, then its statistics. -/
def State.ispOuts (s : State) (r : IspRun) : List (Nat × List Byte) :=
  let d := r.desc
  let k (i : Nat) : Nat := r.d.getD i 0
  let exps := (List.range d.nexp).map fun e => (List.range d.ih).map fun y =>
    unpackLine d.fmtIn d.iw (s.rdBytes (k (3 + e) + y * k 2) (pixBytes d.fmtIn d.iw))
  let o := ispRun (r.par s.grade) d (Config.freeWord s.freeCtr).toNat (Config.freeWord (s.freeCtr + 1)).toNat exps
  let base := s.freeCtr + 2
  ispRows (k 9) (k 10) o.out0 ++ ispRows (k 11) (k 12) o.out1 ++
    (if d.en 11 then [(k 13, jobStats s.grade r o fun i => (Config.freeWord (base + i)).toNat)] else [])

/-- The running job stops with an error: reason 7 with the Welt status, or 8 for an abort (R311, R317). -/
def State.ispStop (s : State) (reason : Nat) : State :=
  match s.isp.run with
  | none => s
  | some r => (s.updIsp fun x => { x with run := none }).jobEnd r.job r.d (r.recs.headD 0) true reason

/-- The running job ends; an access answered with a status other than OK stops it with reason 7 (R301 to R311, R315). -/
def State.ispJobDone (s : State) : State :=
  match s.isp.run with
  | none => s
  | some r =>
    if s.camRun = false then s
    else match s.engReads 10 s.ispCls r.reads with
    | (s, .ok) =>
      (match ({ s with freeCtr := s.freeCtr + 834 } : State).engWrites 10 s.ispCls (s.ispOuts r) with
      | (s, .ok) =>
        let s := (s.updIsp fun x => { x with run := none }).jobEnd r.job r.d (r.recs.headD 0) false 0
        (s.w pgISP 0x04C (BitVec.ofNat 32 r.job.addr)).ev pgISP 0
      | (s, st) => s.ispStop (7 + 16 * st.code))
    | (s, st) => s.ispStop (7 + 16 * st.code)

def State.ispXferError (s : State) (sts : Nat) : State := if sts % 16 = 0 then s else s.ispStop (7 + sts % 16 * 16)

def State.ispRegWrite (s : State) (o : Nat) (v : Word) : State :=
  if o = 0x040 then
    let s := s.plain pgISP o v
    let s := if v.getLsbD 0 then s.ispSubmit else s
    let s := if v.getLsbD 1 then s.ispStop 8 else s
    let s := if v.getLsbD 2 then s.tqPush else s
    if v.getLsbD 3 then s.tqFlush else s
  else s.plain pgISP o v

def State.ispRead (s : State) (o : Nat) : Word :=
  if o = 0x044 then
    BitVec.ofNat 32 (b2n s.isp.run.isSome + s.isp.queue.length * 2 ^ 8 + s.isp.tags.length * 2 ^ 16 + s.f pgISP 0x044 31 24 * 2 ^ 24)
  else s.r pgISP o

/-! ### Domain and reset -/

/-- CAM leaves Run: every stream discards until its next FS, and trackers and triggers stop (R298; 02 R67). -/
def State.camLeave (s : State) : State :=
  let s := (List.range 2).foldl (fun s n => (List.range 4).foldl (fun s k => s.updStr n k fun x => { x with await := true }) s) s
  (s.trkStop 0).trkStop 1

/-- Receiver `n` loses its state. -/
def State.capReset (s : State) (n : Nat) : State :=
  { s.trkStop n with caps := s.caps.set n (List.replicate 4 CapStr.zero), trig := s.trig.set n none }

def State.ispReset (s : State) : State := s.updIsp fun _ => Isp.zero

end Sys2Proof.Machine
end

