-- ==== Sys2Proof/Machine/Flags.lean ====
section
/-! DEFINITION. Machine/Flags.lean: the functions of R203 and the flag effects of one syllable (08 R201 to R214). -/

namespace Sys2Proof.Machine

/-- The implicit flag effects of a syllable: `none` leaves the flag (R201). -/
structure FlagEff where
  z : Option Bool
  n : Option Bool
  v : Option Bool
  c : Option Bool
  deriving DecidableEq, Repr

def FlagEff.none : FlagEff := ⟨.none, .none, .none, .none⟩

/-- Z and N of a 16-bit result. -/
def FlagEff.zn (r : Half) : FlagEff := ⟨some (r == 0), some r.msb, .none, .none⟩

/-- Z and N of an accumulator. -/
def FlagEff.zn40 (a : BitVec 40) : FlagEff := ⟨some (a == 0), some a.msb, .none, .none⟩

/-- `p` after the effects of one syllable; AV gathers every V written (R201). -/
def Flg.after (p : Flg) (e : FlagEff) : Flg :=
  { p with z := e.z.getD p.z, n := e.n.getD p.n, v := e.v.getD p.v, c := e.c.getD p.c, av := p.av || e.v.getD false }

/-- Redundant sign bits of a word (R203, R178): those of the bits below the sign that equal it, from the top. -/
def rsbFrom {w : Nat} (x : BitVec w) : Nat → Nat
  | 0 => 0
  | n + 1 => if x.getLsbD n = x.msb then 1 + rsbFrom x n else 0

def rsb16 (x : Half) : Nat := rsbFrom x 15
def rsb40 (a : BitVec 40) : Nat := rsbFrom a 39

/-- Clip to `n` bits signed. -/
def clip (n : Nat) (t : Int) : Int := min (max t (-(2 ^ (n - 1) : Nat))) ((2 ^ (n - 1) : Nat) - 1)

/-- Whether `t` lies outside `n` bits signed: ov40, ov16 and the sat of sat16 and sat32. -/
def ovf (n : Nat) (t : Int) : Bool := decide (t < -(2 ^ (n - 1) : Nat)) || decide (((2 ^ (n - 1) : Nat) : Int) - 1 < t)

/-- narrow() of R203. -/
def narrow (t : Int) : Half :=
  if ovf 32 t then (if 0 < t then 0x7FFF else 0x8000) else BitVec.ofInt 16 (t / 65536)

/-- floor(x · 2^k). -/
def shiftInt (x k : Int) : Int := if 0 ≤ k then x * (2 ^ k.toNat : Nat) else x / (2 ^ (-k).toNat : Nat)

end Sys2Proof.Machine
end

