-- ==== Sys2Proof/Machine/RhoifMac.lean ====
section
/-! DEFINITION. Machine/RhoifMac.lean: what the MAC and ALU syllables compute (08). -/

namespace Sys2Proof.Machine

/-- What a syllable writes, all of it computed from the state before its bundle (07 R162): registers by code, accumulators,
flags, detected counts, and a word of X or Y. -/
structure Eff where
  regs : List (Nat × Half)
  accs : List (Nat × BitVec 40)
  fl : FlagEff
  det : List Nat
  mem : Option (Bool × Nat × Half)
  deriving DecidableEq, Repr

def Eff.zero : Eff := ⟨[], [], FlagEff.none, [], .none⟩

/-! ### Multiplies (R205) -/

/-- The exact value a format-M instruction gives, from the accumulator and the operands. -/
def mulExact (k : MKind) (acc : Int) (a b : Half) : Int :=
  let sa := a.toInt
  let sb := b.toInt
  let ua : Int := a.toNat
  let ub : Int := b.toNat
  match k with
  | .mpy => sa * sb * 2
  | .mac => acc + sa * sb * 2
  | .msu => acc - sa * sb * 2
  | .macs => acc + sa * sb * 2
  | .msus => acc - sa * sb * 2
  | .mpyi => sa * sb
  | .maci => acc + sa * sb
  | .msui => acc - sa * sb
  | .mpyu => ua * ub
  | .macu => acc + ua * ub
  | .mpysu => sa * ub
  | .macsu => acc + sa * ub

/-- Whether a multiply is a saturating one, and whether it only multiplies. -/
def satK (k : MKind) : Bool := decide (k = .macs) || decide (k = .msus)
def mulK (k : MKind) : Bool := decide (k = .mpy) || decide (k = .mpyi) || decide (k = .mpyu) || decide (k = .mpysu)

/-- The accumulator written and V. -/
def mulResult (k : MKind) (acc : BitVec 40) (a b : Half) : BitVec 40 × Bool :=
  let t := mulExact k acc.toInt a b
  if satK k then (BitVec.ofInt 40 (clip 32 t), ovf 32 t)
  else (BitVec.ofInt 40 t, if mulK k then false else ovf 40 t)

/-- The effect of a format-M syllable. -/
def State.effM (s : State) (c : Nat) (k : MKind) (acd : Nat) (a b : MOp) : Eff :=
  let ma := s.mop c false a
  let mb := s.mop c true b
  let r := mulResult k (accOf (s.core c) acd) ma.1 mb.1
  { regs := ma.2 ++ mb.2, accs := [(acd, r.1)], fl := { FlagEff.zn40 r.1 with v := some r.2 }, det := [], mem := .none }

/-! ### Accumulator operations (R206 to R208) -/

/-- The shift count of format A: BX, or SH read as a signed field of six bits. -/
def State.shiftCnt (s : State) (c : Nat) (sbx : Bool) (sh : Nat) : Int :=
  if sbx then ((s.rg c 0x56).toNat : Int) else sgn 6 sh

/-- The exact value of an arithmetic accumulator operation. -/
def accExact (k : AKind) (d a : Int) (r : Half) (n : Int) : Int :=
  match k with
  | .aadd => d + a
  | .asub => d - a
  | .acmp => d - a
  | .aneg => -a
  | .aabs => if a < 0 then -a else a
  | .ash => shiftInt a n
  | .ashv => shiftInt a (min (max r.toInt (-40)) 40)
  | .asat => a
  | .aclr => 0
  | .amov => a
  | .ald => r.toInt * 65536
  | .aldw => r.toInt
  | .narr => shiftInt a n
  | .aexp => a

/-- The effect of a format-A syllable. -/
def State.effA (s : State) (c : Nat) (k : AKind) (acd acs r : Nat) (sbx : Bool) (sh : Nat) (det : Bool) : Eff :=
  let kst := s.core c
  let d := accOf kst acd
  let a := accOf kst acs
  let t := accExact k d.toInt a.toInt (s.rg c r) (s.shiftCnt c sbx sh)
  let w := BitVec.ofInt 40 t
  match k with
  | .aclr | .amov | .ald | .aldw => { Eff.zero with accs := [(acd, w)] }
  | .asat =>
    let w := BitVec.ofInt 40 (clip 32 t)
    { Eff.zero with accs := [(acd, w)], fl := { FlagEff.zn40 w with v := some (ovf 32 t) } }
  | .acmp =>
    { Eff.zero with
      fl := ⟨some (decide (t = 0)), some w.msb, some (ovf 40 t), some (decide (a.toNat ≤ d.toNat))⟩ }
  | .narr =>
    let v := narrow t
    { Eff.zero with regs := [(r, v)], fl := { FlagEff.zn v with v := some (ovf 32 t) },
                    det := if det then [rsb16 v] else [] }
  | .aexp => { Eff.zero with regs := [(r, BitVec.ofInt 16 ((rsb40 a : Int) - 8))] }
  | .aadd | .asub | .aneg | .aabs | .ash | .ashv =>
    { Eff.zero with accs := [(acd, w)], fl := { FlagEff.zn40 w with v := some (ovf 40 t) } }

/-! ### Register arithmetic, logic, shifts, moves and character instructions (R209 to R215) -/

/-- A result with its flags beside Z and N. -/
structure Alu where
  r : Half
  v : Option Bool
  c : Option Bool
  deriving DecidableEq, Repr

/-- Sum of two words and a carry in: result, V and C (R209). -/
def addWith (a b : Half) (cin : Nat) (exact : Int) : Alu :=
  let u := a.toNat + b.toNat + cin
  ⟨BitVec.ofNat 16 u, some (ovf 16 exact), some (decide (65536 ≤ u))⟩

def aluAdd (a b : Half) : Alu := addWith a b 0 (a.toInt + b.toInt)
def aluSub (a b : Half) : Alu := addWith a (~~~b) 1 (a.toInt - b.toInt)
def aluSat (t : Int) (c : Option Bool) : Alu := ⟨BitVec.ofInt 16 (clip 16 t), some (ovf 16 t), c⟩
def aluLogic (r : Half) : Alu := ⟨r, some false, .none⟩

/-- SHL, SHR, ASR and ROL by `n` (R211). -/
def aluShl (a : Half) (n : Nat) : Alu := ⟨a <<< n, some false, some (decide (1 ≤ n ∧ n ≤ 16) && a.getLsbD (16 - n))⟩
def aluShr (a : Half) (n : Nat) : Alu := ⟨a >>> n, some false, some (decide (1 ≤ n ∧ n ≤ 16) && a.getLsbD (n - 1))⟩
def aluAsr (a : Half) (n : Nat) : Alu :=
  ⟨a.sshiftRight n, some false, some (if 16 < n then a.msb else decide (1 ≤ n) && a.getLsbD (n - 1))⟩
def aluRol (a : Half) (n : Nat) : Alu :=
  let r := (a <<< (n % 16)) ||| (a >>> (16 - n % 16))
  ⟨r, some false, if n = 0 then .none else some (r.getLsbD 0)⟩

/-- Leading zero bits of a word. -/
def clz16 (a : Half) : Nat := if a.msb then 0 else if a = 0 then 16 else 1 + rsb16 a

/-- The result of a format-R instruction from `a`, `b` and the C before the bundle. -/
def aluR (k : RKind) (a b : Half) (cin : Bool) : Alu :=
  let ci := b2n cin
  match k with
  | .add => aluAdd a b
  | .adds => aluSat (a.toInt + b.toInt) (aluAdd a b).c
  | .adc => addWith a b ci (a.toInt + b.toInt + ci)
  | .sub | .cmp => aluSub a b
  | .subs => aluSat (a.toInt - b.toInt) (aluSub a b).c
  | .sbc => addWith a (~~~b) ci (a.toInt - b.toInt - (1 - (ci : Int)))
  | .neg => aluSub 0 a
  | .abs => ⟨if a.msb then -a else a, some (a == 0x8000), .none⟩
  | .min => ⟨if a.toInt ≤ b.toInt then a else b, .none, .none⟩
  | .max => ⟨if a.toInt ≤ b.toInt then b else a, .none, .none⟩
  | .and | .tst => aluLogic (a &&& b)
  | .or => aluLogic (a ||| b)
  | .xor => aluLogic (a ^^^ b)
  | .andn => aluLogic (a &&& ~~~b)
  | .shl => aluShl a (b.toNat % 32)
  | .shr => aluShr a (b.toNat % 32)
  | .asr => aluAsr a (b.toNat % 32)
  | .rol => aluRol a (b.toNat % 32)
  | .mov | .bxdet => ⟨a, .none, .none⟩
  | .clz => ⟨BitVec.ofNat 16 (clz16 a), .none, .none⟩
  | .cls => ⟨BitVec.ofNat 16 (rsb16 a), .none, .none⟩

/-- Instructions that write no register. -/
def noDestK (k : RKind) : Bool := decide (k = .cmp) || decide (k = .tst) || decide (k = .bxdet)

/-- The effect of a format-R syllable. -/
def State.effR (s : State) (c : Nat) (k : RKind) (d a b : Nat) (det : Bool) : Eff :=
  let va := s.rg c a
  let x := aluR k va (s.rg c b) (s.core c).flg.c
  match k with
  | .mov => { Eff.zero with regs := [(d, va)], det := if det then [rsb16 va] else [] }
  | .bxdet => { Eff.zero with det := [rsb16 va] }
  | _ => { Eff.zero with regs := if noDestK k then [] else [(d, x.r)], fl := { FlagEff.zn x.r with v := x.v, c := x.c } }

/-- The byte PERM selects (R215). -/
def permByte (sel : Nat) (a d : Half) : BitVec 8 :=
  match sel with
  | 0 => a.extractLsb' 0 8
  | 1 => a.extractLsb' 8 8
  | 2 => d.extractLsb' 0 8
  | 3 => d.extractLsb' 8 8
  | 4 => 0
  | 5 => 0xFF
  | 6 => if a.getLsbD 15 then 0xFF else 0
  | _ => if a.getLsbD 7 then 0xFF else 0

/-- The mask of `w` bits from `pos`. -/
def fieldMask (pos w : Nat) : Half := BitVec.ofNat 16 ((2 ^ w - 1) <<< pos)

/-- BFX and BFI (R214). -/
def bfWidth (imm : Nat) : Nat := min (imm / 2 % 16 + 1) (16 - imm / 32 % 16)
def bfx (a : Half) (imm : Nat) : Half :=
  let w := bfWidth imm
  let f := (a >>> (imm / 32 % 16)).toNat % 2 ^ w
  if imm % 2 = 1 then BitVec.ofInt 16 (sgn w f) else BitVec.ofNat 16 f
def bfi (d a : Half) (imm : Nat) : Half :=
  let pos := imm / 32 % 16
  let m := fieldMask pos (bfWidth imm)
  (d &&& ~~~m) ||| ((a <<< pos) &&& m)

/-- The result of a format-RI instruction from `a` and the old destination. -/
def aluI (k : IKind) (a d : Half) (imm : Nat) : Alu :=
  match k with
  | .perm => ⟨permByte (imm / 64 % 8) a d ++ permByte (imm / 8 % 8) a d, .none, .none⟩
  | .shli => aluShl a (imm % 32)
  | .shri => aluShr a (imm % 32)
  | .asri => aluAsr a (imm % 32)
  | .roli => aluRol a (imm % 32)
  | .asls => aluSat (a.toInt * (2 ^ (imm % 32) : Nat)) .none
  | .addi => aluAdd a (BitVec.ofInt 16 (sgn 9 imm))
  | .bfx => ⟨bfx a imm, .none, .none⟩
  | .bfi => ⟨bfi d a imm, .none, .none⟩

/-- The effect of a format-RI syllable. -/
def State.effI (s : State) (c : Nat) (k : IKind) (d a imm : Nat) : Eff :=
  let x := aluI k (s.rg c a) (s.rg c d) imm
  { Eff.zero with regs := [(d, x.r)], fl := { FlagEff.zn x.r with v := x.v, c := x.c } }

end Sys2Proof.Machine
end

