-- ==== Sys2Proof/Machine/RhoifAgu.lean ====
section
/-! DEFINITION. Machine/RhoifAgu.lean: the AGU syllables and the decoupling queues (07 R179 to R186; 09 R220 to R227). -/

namespace Sys2Proof.Machine

/-! ### Loads, stores, pointers and moves (R222) -/

def State.effLd (s : State) (c reg : Nat) (y : Bool) (ptr amod : Nat) : Eff :=
  let e := s.ea c y ptr amod
  { Eff.zero with regs := (reg, s.xy c y e.1) :: e.2 }

def State.effSt (s : State) (c reg : Nat) (y : Bool) (ptr amod : Nat) (det : Bool) : Eff :=
  let e := s.ea c y ptr amod
  let v := s.rg c reg
  { Eff.zero with regs := e.2, mem := some (y, e.1, v), det := if det then [rsb16 v] else [] }

def State.effLdxy (s : State) (c dx dy px mx py my : Nat) : Eff :=
  let a := s.mop c false (.mem px mx)
  let b := s.mop c true (.mem py my)
  { Eff.zero with regs := (dx, a.1) :: (dy, b.1) :: (a.2 ++ b.2) }

def State.effPmod (s : State) (c : Nat) (y : Bool) (ptr amod : Nat) : Eff :=
  { Eff.zero with regs := (s.ea c y ptr amod).2 }

def State.effPaddi (s : State) (c pr : Nat) (simm : Half) : Eff :=
  { Eff.zero with regs := [(0x30 + pr % 8, s.bump c (pr % 8) simm)] }

/-- The value a pop returns (R184): the oldest word of an in-queue, or 0. -/
def Queue.front (q : Queue) : Half := if q.dir then 0 else q.buf.headD 0

def State.popVal (s : State) (c q : Nat) : Half := ((s.core c).queue q).front

/-! ### Queue state (R184 to R186) -/

def CoreSt.setQe (k : CoreSt) (q : Nat) : CoreSt := { k with flg := { k.flg with qe := k.flg.qe ||| BitVec.ofNat 4 (2 ^ q) } }
def CoreSt.clrQe (k : CoreSt) (q : Nat) : CoreSt := { k with flg := { k.flg with qe := k.flg.qe &&& ~~~(BitVec.ofNat 4 (2 ^ q)) } }

/-- A pop acts on the queue (R184). -/
def CoreSt.popQ (k : CoreSt) (q : Nat) : CoreSt :=
  let x := k.queue q
  if x.dir then (k.setQe q).updQ q fun x => { x with dirErr := true }
  else if x.buf.isEmpty then (k.setQe q).updQ q fun x => { x with under := true }
  else k.updQ q fun x => { x with buf := x.buf.tail }

/-- A push acts on the queue (R184). -/
def CoreSt.pushQ (k : CoreSt) (q : Nat) (v : Half) (now : Nat) : CoreSt :=
  let x := k.queue q
  if x.dir = false then (k.setQe q).updQ q fun x => { x with dirErr := true }
  else if x.avail = false then (k.setQe q).updQ q fun x => { x with ovr := true }
  else k.updQ q fun x => { x with buf := x.buf ++ [v], pushed := now }

/-- Cancel a queue (R186). -/
def Queue.cancel (x : Queue) : Queue :=
  { x with arm := false, buf := [], disc := (if x.dir then satAdd 255 x.disc x.buf.length else x.disc),
           fly := x.fly.map fun r => { r with void := true } }

/-- QSET (R223): cancel, write the descriptor and clear the status. -/
def Queue.setup (x : Queue) (dir w32 : Bool) (cls : Nat) (stride : Half) (cnt addr : Nat) : Queue :=
  let x := ({ x with disc := 0 } : Queue).cancel
  { x with addr := addr, stride := stride, cnt := cnt, dir := dir, w32 := w32, cls := cls, arm := true,
           under := false, ovr := false, dirErr := false, misal := false, dem := false, late := false, sts := 0 }

/-- A queue stops on an error: QE, the status, Q_ERR and ARM := 0 (R185). -/
def State.qStop (s : State) (c q : Nat) (sts : Nat) : State :=
  let s := s.updCore c fun k => (k.setQe q).updQ q fun x => { x with arm := false, sts := sts }
  (s.ev (pgCORE c) 2).err (pgCORE c) 0x4311 (q + sts <<< 4)

/-- A misaligned element stops its queue (R179). -/
def State.qMisal (s : State) (c q : Nat) : State :=
  (s.updCore c fun k => k.updQ q fun x => { x with misal := true }).qStop c q ((s.core c).queue q).sts

/-! ### Issuing (R180 to R182) -/

/-- The tenant of a core (04 R94, R95). -/
def State.tntOfCore (s : State) (c : Nat) : Option Nat := if c = 4 then some 0 else s.coreTnt c

/-- Whether the core may have one more request outstanding (R180). -/
def State.qRoom (s : State) (c : Nat) : Bool :=
  match s.tntOfCore c with
  | none => false
  | some t => decide (((s.core c).qs.map fun q => (q.fly.filter fun r => r.data.isNone).length).foldl (· + ·) 0 < s.f pgTEN (0x100 + 0x20 * t) 21 16)

/-- Bytes of an element, and whether elements follow one another. -/
def Queue.eb (q : Queue) : Nat := 2 * q.ew
def Queue.contig (q : Queue) : Bool := q.stride == BitVec.ofNat 16 q.eb

/-- Elements of at most `n` from ADDR on that lie under no SE window. -/
def State.qClear (s : State) (q : Queue) (n : Nat) : Nat :=
  ((List.range n).takeWhile fun i => !s.touchesSE (q.addr + i * q.eb) q.eb).length

/-- ADDR and CNT after `m` elements are issued. -/
def Queue.advance (q : Queue) (m : Nat) : Queue :=
  { q with addr := (BitVec.ofInt 32 ((q.addr : Int) + m * q.stride.toInt)).toNat, cnt := q.cnt - m }

/-- Words of bytes, lowest byte first. -/
def halves : Nat → List Byte → List Half
  | 0, _ => []
  | n + 1, b => BitVec.ofNat 16 (leNat (b.take 2)) :: halves n (b.drop 2)

/-- Words an in-queue still owes for its requests. -/
def Queue.owed (q : Queue) : Nat := ((q.fly.filter fun r => !r.void).map (·.words)).foldl (· + ·) 0

/-- Whether the waiting bundle of the core waits on queue `q`. -/
def waitsOn (q : Nat) (y : Syl) : Bool :=
  match y.op with
  | .qwait p _ => p == q
  | .qpop _ p w _ => w && p == q
  | .qpopm p w _ _ _ => w && p == q
  | _ => false

/-- Whether the core waits on queue `q` for an element. -/
def State.waitingOn (s : State) (c q : Nat) : Bool :=
  match (s.core c).wait with
  | none => false
  | some w => w.syls.any (waitsOn q)

/-- An in-queue issues its next read (R180, R181). -/
def State.queueReadIssue (s : State) (c q : Nat) : State :=
  let x := (s.core c).queue q
  let room := 32 - (x.buf.length + x.owed)
  if s.domRun (coreDom c) = false ∨ x.arm = false ∨ x.dir = true ∨ x.cnt = 0 ∨ room < x.ew ∨ s.qRoom c = false ∨
      (x.fly.any fun r => r.se && !r.void) then s
  else if x.addr % x.eb ≠ 0 then s.qMisal c q
  else
    let se := s.touchesSE x.addr x.eb
    if se ∧ ¬(s.waitingOn c q = true ∧ x.buf.isEmpty = true ∧ x.owed = 0) then s
    else
      let top := if x.contig then min (min (64 / x.eb) ((256 - x.addr % 256) / x.eb)) (min x.cnt (room / x.ew)) else 1
      let m := if se then 1 else s.qClear x top
      let s := s.updCore c fun k => k.updQ q fun x =>
        { x.advance m with fly := x.fly ++ [⟨x.addr, m * x.ew, se, none, false, false⟩] }
      s.weltRequest (coreNi c) 0 0 x.cls x.addr (m * x.eb) []

/-- Elements an out-queue may issue now as one write, `flush` sending an incomplete merge (R182). A misaligned element counts
as one, so that the attempt to issue it stops the queue (R179). -/
def State.qWritable (s : State) (x : Queue) (flush : Bool) : Nat :=
  let e := min (x.buf.length / x.ew) x.cnt
  if x.dir = false ∨ x.arm = false ∨ e = 0 then 0
  else if x.addr % x.eb ≠ 0 then 1
  else if s.touchesSE x.addr x.eb then (if x.fly.isEmpty then 1 else 0)
  else if x.contig then
    let full := (64 - x.addr % 64) / x.eb
    let top := min e full
    let m := s.qClear x top
    if m = full ∨ m = x.cnt ∨ m < top ∨ flush then m else 0
  else 1

/-- The bytes of words. -/
def halfBytes (w : List Half) : List Byte := w.flatMap fun v => leBytes 2 v.toNat

/-- An out-queue issues what it may (R182), at most `n` writes. -/
def State.qDrain : Nat → State → Nat → Nat → Bool → State
  | 0, s, _, _, _ => s
  | n + 1, s, c, q, flush =>
    let x := (s.core c).queue q
    let m := s.qWritable x flush
    if m = 0 ∨ s.qRoom c = false ∨ s.domRun (coreDom c) = false then s
    else if x.addr % x.eb ≠ 0 then s.qMisal c q
    else
      let w := x.buf.take (m * x.ew)
      let s' := s.updCore c fun k => k.updQ q fun x =>
        { x.advance m with buf := x.buf.drop (m * x.ew), fly := x.fly ++ [⟨x.addr, m * x.ew, s.touchesSE x.addr x.eb, none, false, true⟩] }
      (s'.weltRequest (coreNi c) 0 2 x.cls x.addr (m * x.eb) (halfBytes w)).qDrain n c q flush

/-- Whether a QSYNC of the waiting bundle flushes queue `q`. -/
def State.syncing (s : State) (c q : Nat) : Bool :=
  match (s.core c).wait with
  | none => false
  | some w => w.syls.any fun y => y.op == .qsync q

/-- 16 cycles of the core without a push, 32 of the line time base (R182). -/
def State.queueMergeTimeout (s : State) (c q : Nat) : State :=
  if s.rhoNow < ((s.core c).queue q).pushed + 32 then s else s.qDrain 1 c q true

/-- Data of the answered requests at the front moves into the buffer in element order (R180). -/
def settle : List QReq → List Half × List QReq
  | [] => ([], [])
  | r :: t =>
    if r.void then ((settle t).1, r :: (settle t).2)
    else match r.data with
      | some d => (d ++ (settle t).1, (settle t).2)
      | none => ([], r :: t)

/-- A response to request number `i` of queue `q` arrives (R185). A cancel discards the responses to reads alone (R186): the
outcome of a write issued before it still stands. -/
def State.queueResponse (s : State) (c q i sts : Nat) (dem late : Bool) (data : List Byte) : State :=
  let x := (s.core c).queue q
  match x.fly[i]? with
  | none => s
  | some r =>
    let drain (s : State) : State :=
      (List.range 4).foldl (fun s p => s.qDrain 32 c p (s.syncing c p)) s
    if r.data.isSome then s
    else if r.void && !r.wr then drain (s.updCore c fun k => k.updQ q fun x => { x with fly := x.fly.eraseIdx i })
    else
      let d := if sts = 0 then halves r.words data else List.replicate r.words 0
      let s := s.updCore c fun k => k.updQ q fun x =>
        if r.wr then { x with fly := x.fly.eraseIdx i }
        else
          let f := settle (x.fly.set i { r with data := some d })
          { x with buf := x.buf ++ f.1, fly := f.2 }
      let s := if sts = 0 then s.updCore c fun k => k.updQ q fun x => { x with dem := x.dem || dem, late := x.late || late }
        else s.qStop c q sts
      drain s

/-! ### Waits (R184, R225, R226) -/

/-- Whether the wait of one syllable is over; `true` where it waits for nothing. -/
def State.waitOver (s : State) (c : Nat) (y : Syl) : Bool :=
  let have_ (q k : Nat) : Bool :=
    let x := (s.core c).queue q
    if x.dir then x.arm && decide (k ≤ x.free) else decide (k ≤ x.buf.length)
  match y.op with
  | .qwait q k => have_ q (k + 1)
  | .qpop _ q w _ => !w || have_ q 1
  | .qpush _ q w => !w || have_ q 1
  | .qpopm q w _ _ _ => !w || have_ q 1
  | .qpushm q w _ _ _ => !w || have_ q 1
  | .qsync q =>
    let x := (s.core c).queue q
    x.fly.isEmpty && (!x.dir || !x.arm || decide (min (x.buf.length / x.ew) x.cnt = 0))
  | .waite => (s.core c).rel
  | _ => true

/-- Whether a syllable is a queue wait (R184). -/
def isQueueWait (y : Syl) : Bool :=
  match y.op with
  | .qwait .. => true
  | .qsync _ => true
  | .qpop _ _ w _ => w
  | .qpush _ _ w => w
  | .qpopm _ w _ _ _ => w
  | .qpushm _ w _ _ _ => w
  | _ => false

end Sys2Proof.Machine
end

