-- ==== Sys2Proof/Machine/Rhoif.lean ====
section
/-! DEFINITION. Machine/Rhoif.lean: bundles, control syllables, interrupts, faults and the control page of a Rhoif-16 core
(07 R165 to R175, R187 to R194; 08 R200 to R202; 09 R226 to R240). -/

namespace Sys2Proof.Machine

/-! ### Operands a syllable names -/

def mopSrc : MOp → List Nat
  | .reg k => [k]
  | .mem .. => []

/-- Register codes a syllable uses as sources (R198). -/
def srcsOf (y : Syl) : List Nat :=
  match y.op with
  | .m _ _ a b => mopSrc a ++ mopSrc b
  | .a k _ _ r _ _ _ => (match k with | .ashv | .ald | .aldw => [r] | _ => [])
  | .r k _ a b _ =>
    (match k with | .neg | .abs | .mov | .clz | .cls | .bxdet => [a] | _ => [a, b])
  | .i k d a _ => (match k with | .perm | .bfi => [a, d] | _ => [a])
  | .st reg .. => [reg]
  | .qset _ _ _ _ sreg creg _ => [sreg, creg]
  | .qpush reg .. => [reg]
  | .skr _ r _ => [r]
  | .brr r _ => [r]
  | .callr r _ => [r]
  | .doLoop _ creg _ _ => creg.toList
  | .rep creg _ => creg.toList
  | .repi creg _ => creg.toList
  | _ => []

/-- Register codes a syllable names as destinations in its own fields, read-only ones among them. -/
def namedDests (y : Syl) : List Nat :=
  match y.op with
  | .a k _ _ r _ _ _ => (match k with | .narr | .aexp => [r] | _ => [])
  | .r k d _ _ _ => if noDestK k then [] else [d]
  | .i _ d _ _ => [d]
  | .movi d _ => [d]
  | .ld reg .. => [reg]
  | .ldxy dx dy .. => [dx, dy]
  | .qpop reg .. => [reg]
  | .limx d d2 _ => d :: d2.toList
  | _ => []

def accDest (n : Nat) : List Nat := [0x58 + n, 0x5C + n, 0x60 + n]

def mopDest (y : Bool) : MOp → List Nat
  | .mem ptr md => if md = 0 then [] else [0x30 + ptrIx y ptr]
  | .reg _ => []

def amodDest (y : Bool) (ptr amod : Nat) : List Nat := if 1 ≤ amod ∧ amod ≤ 4 then [0x30 + ptrIx y ptr] else []

/-- Every destination of a syllable under the same-destination rule (R167, R198 to R202, R232 to R237). -/
def destsOf (llv : Nat) (y : Syl) : List Nat :=
  (namedDests y).filter (fun k => !codeRO k) ++
  match y.op with
  | .m _ acd a b => accDest acd ++ mopDest false a ++ mopDest true b
  | .a k acd _ _ _ _ _ => (match k with | .acmp | .narr | .aexp => [] | _ => accDest acd)
  | .bxclr => [0x56]
  | .ld _ y ptr amod => amodDest y ptr amod
  | .st _ y ptr amod _ => amodDest y ptr amod
  | .ldxy _ _ px mx py my => mopDest false (.mem px mx) ++ mopDest true (.mem py my)
  | .pmod y ptr amod => amodDest y ptr amod
  | .paddi pr _ => [0x30 + pr]
  | .qpopm _ _ y ptr amod => amodDest y ptr amod
  | .qpushm _ _ y ptr amod => amodDest y ptr amod
  | .doLoop .. => [0x48 + llv, 0x4C + llv, 0x50 + llv, 0x6B]
  | .lbrk _ => [0x6B]
  | .rep .. => [0x54]
  | .repi .. => [0x54]
  | .rrc .. => [0x57]
  | .ei => [0x66]
  | .di => [0x66]
  | .ihold => [0x66]
  | _ => []

/-- Accesses a syllable makes to X and to Y (R162). -/
def accessesOf (y : Syl) : Nat × Nat :=
  let one (y : Bool) : Nat × Nat := if y then (0, 1) else (1, 0)
  match y.op with
  | .m _ _ a b => (match a with | .mem .. => 1 | _ => 0, match b with | .mem .. => 1 | _ => 0)
  | .ld _ y .. => one y
  | .st _ y .. => one y
  | .ldxy .. => (1, 1)
  | .qpopm _ _ y .. => one y
  | .qpushm _ _ y .. => one y
  | _ => (0, 0)

/-! ### Illegal bundles (R167, R240) -/

/-- Whether the fields of a syllable are legal in themselves; two equal destinations of LDXY or LIMX are not, read-only codes
included (09 R222, R236). -/
def sylOk (y : Syl) : Bool :=
  (srcsOf y ++ namedDests y).all codeOk &&
  match y.op with
  | .reserved => false
  | .ld _ _ _ amod => decide (amod ≤ 5)
  | .st _ _ _ amod _ => decide (amod ≤ 5)
  | .pmod _ _ amod => decide (amod ≤ 4)
  | .qpopm _ _ _ _ amod => decide (amod ≤ 5)
  | .qpushm _ _ _ _ amod => decide (amod ≤ 5)
  | .qset _ _ _ cls .. => decide (cls ≤ 2)
  | .skf cond _ => decide (cond ≤ 0x14)
  | .lbrk lv => decide (1 ≤ lv)
  | .ldxy dx dy .. => dx != dy
  | .limx d d2 _ => d2 != some d
  | _ => true

/-- Whether a slot holds a syllable of its own kind. -/
def slotOk (y : Syl) : Bool :=
  match y.op with
  | .nop | .reserved => true
  | .m .. | .a .. | .i .. | .bxclr => y.slot == .mac0 || y.slot == .mac1
  | .r k .. => y.slot == .mac0 || y.slot == .mac1 || (y.slot == .agu && k == .mov)
  | .movi .. => y.slot == .mac0 || y.slot == .mac1 || y.slot == .agu
  | .ld .. | .st .. | .ldxy .. | .pmod .. | .paddi .. | .qset .. | .qstop .. | .qpop .. | .qpush .. | .qpopm .. | .qpushm ..
  | .qwait .. | .qsync .. => y.slot == .agu
  | .skf .. | .skr .. | .br .. | .brr .. | .call .. | .callr .. | .ret | .rti | .doLoop .. | .lbrk .. | .rep .. | .repi ..
  | .rrc .. | .limx .. | .ei | .di | .ihold | .waite | .halt => y.slot == .ctl

/-- Slots rise strictly: no slot out of order, none repeated. -/
def slotsRise : List Syl → Bool
  | a :: b :: t => decide (a.slot.num < b.slot.num) && slotsRise (b :: t)
  | _ => true

def noDup : List Nat → Bool
  | [] => true
  | a :: t => !t.contains a && noDup t

/-- Length of a bundle in syllables, extensions counted. -/
def bundleLen (b : List Syl) : Nat := (b.map Syl.size).foldl (· + ·) 0

/-- The last PC of the region a PC lies in (R167, R194). -/
def regionEnd (c pc : Nat) : Nat := if c = 4 ∧ 0x10000 ≤ pc then 0x1FFFF else 0x7FFF

/-- Whether a PC is one the core can execute (R191 PCRNG, R194). -/
def pcOk (c pc : Nat) : Bool := decide (pc ≤ 0x7FFF) || (decide (c = 4) && decide (0x10000 ≤ pc) && decide (pc ≤ 0x1FFFF))

/-- ILLB (R167, R240). -/
def illegal (c pc llv : Nat) (b : List Syl) : Bool :=
  !(slotsRise b && b.all sylOk && b.all slotOk && decide (bundleLen b ≤ 4) &&
    decide ((b.filter fun y => y.size == 2).length ≤ 1) && noDup (b.flatMap (destsOf llv)) &&
    decide (pc + bundleLen b ≤ regionEnd c pc + 1))

/-- Branches, calls and returns (R231). -/
def isBranch (y : Syl) : Bool :=
  match y.op with
  | .br _ => true
  | .brr .. => true
  | .call _ => true
  | .callr .. => true
  | .ret => true
  | .rti => true
  | _ => false

def isLoopRep (y : Syl) : Bool :=
  match y.op with
  | .doLoop .. => true
  | .rep .. => true
  | .repi .. => true
  | _ => false

def isSkip (y : Syl) : Bool :=
  match y.op with
  | .skf .. => true
  | .skr .. => true
  | _ => false

/-- What a repeated bundle must not hold (R173, R235). -/
def badRep (y : Syl) : Bool :=
  isBranch y || isLoopRep y || isSkip y || isQueueWait y || y.op == .waite || y.op == .halt || (namedDests y).contains 0x54

abbrev CoreSt.llv (k : CoreSt) : Nat := (k.rf.getD 0x6B 0).toNat

/-- Whether `pc` is the LE of an open level (R172). -/
def openLe (k : CoreSt) (pc : Nat) : Bool :=
  (List.range k.llv).any fun l => (k.rf.getD (0x4C + l) 0).toNat == pc % 65536

/-- Faults on decoding a bundle, in the order ILLB, REPF, LOOPF: R191's code. -/
def decodeFault (k : CoreSt) (c : Nat) (b : List Syl) : Option Nat :=
  if pcOk c k.pc = false then some 6
  else if illegal c k.pc k.llv b then some 1
  else if k.rep.isSome ∧ b.any badRep = true then some 3
  else if openLe k k.pc ∧ b.any (fun y => isBranch y || isLoopRep y) = true then some 2
  else none

/-- The count of a DO, REP or REPI. -/
def State.countOf (s : State) (c : Nat) (creg : Option Nat) (cimm : Nat) : Nat :=
  match creg with
  | some r => (s.rg c r).toNat
  | none => cimm

/-- The target of a register branch. -/
def State.regTgt (s : State) (c r : Nat) (h : Bool) : Nat := b2n h * 65536 + (s.rg c r).toNat

/-- Faults on issuing a syllable, before its bundle has any effect (R171, R231 to R235). -/
def State.issueFault (s : State) (c nxt : Nat) (y : Syl) : Option Nat :=
  let k := s.core c
  let tgt (t : Nat) : Option Nat := if pcOk c t then none else some 6
  match y.op with
  | .br t => tgt t
  | .brr r h => tgt (s.regTgt c r h)
  | .call t => if 8 ≤ k.rstk.length then some 4 else tgt t
  | .callr r h => if 8 ≤ k.rstk.length then some 4 else tgt (s.regTgt c r h)
  | .ret => if k.rstk.isEmpty then some 5 else tgt (k.rstk.headD 0)
  | .rti => if (s.rg c 0x66).getLsbD 1 then tgt ((s.rg c 0x68).toNat + b2n k.ipcHi * 65536) else some 8
  | .doLoop _ _ _ ofs => if 3 ≤ k.llv ∨ regionEnd c nxt < nxt + ofs then some 2 else none
  | .lbrk lv => if k.llv < lv then some 2 else none
  | .rep creg cimm => if 4095 < s.countOf c creg cimm then some 3 else none
  | .repi creg cimm => if 4095 < s.countOf c creg cimm then some 3 else none
  | _ => none

/-! ### Effects of one bundle -/

/-- What a syllable computes from the state before its bundle. -/
def State.sylEff (s : State) (c : Nat) (y : Syl) : Eff :=
  match y.op with
  | .m k acd a b => s.effM c k acd a b
  | .a k acd acs r sbx sh det => s.effA c k acd acs r sbx sh det
  | .r k d a b det => s.effR c k d a b det
  | .i k d a imm => s.effI c k d a imm
  | .movi d imm => { Eff.zero with regs := [(d, imm)] }
  | .bxclr => { Eff.zero with regs := [(0x56, 15)] }
  | .ld reg y ptr amod => s.effLd c reg y ptr amod
  | .st reg y ptr amod det => s.effSt c reg y ptr amod det
  | .ldxy dx dy px mx py my => s.effLdxy c dx dy px mx py my
  | .pmod y ptr amod => s.effPmod c y ptr amod
  | .paddi pr simm => s.effPaddi c pr simm
  | .qpop reg q _ det =>
    { Eff.zero with regs := [(reg, s.popVal c q)], det := if det then [rsb16 (s.popVal c q)] else [] }
  | .qpopm q _ y ptr amod => { Eff.zero with regs := (s.ea c y ptr amod).2, mem := some (y, (s.ea c y ptr amod).1, s.popVal c q) }
  | .qpushm _ _ y ptr amod => s.effPmod c y ptr amod
  | .rrc set n => { Eff.zero with regs := [(0x57, if set then BitVec.ofNat 16 n else s.rg c 0x57 - BitVec.ofNat 16 n)] }
  | .limx d d2 ext =>
    { Eff.zero with regs := (d, ext.extractLsb' 0 16) :: (match d2 with | some e => [(e, ext.extractLsb' 16 16)] | none => []) }
  | .ei => { Eff.zero with regs := [(0x66, 1)] }
  | .di => { Eff.zero with regs := [(0x66, 0)] }
  | .ihold => { Eff.zero with regs := [(0x66, 3)] }
  | .rep creg cimm => { Eff.zero with regs := [(0x54, BitVec.ofNat 16 (s.countOf c creg cimm))] }
  | .repi creg cimm => { Eff.zero with regs := [(0x54, BitVec.ofNat 16 (s.countOf c creg cimm))] }
  | _ => Eff.zero

/-- The register part of a bundle: accumulators, registers, flags in slot order unless FLG is written (R201), and BX with
every detection after the explicit write (R202). -/
def applyEffs (k : CoreSt) (es : List Eff) : CoreSt :=
  let regs := es.flatMap Eff.regs
  let k' := { k with acc := (es.flatMap Eff.accs).foldl (fun l (e : Nat × BitVec 40) => l.set e.1 e.2) k.acc }
  let k' := if regs.any fun e => e.1 == 0x55 then k'
    else { k' with flg := (es.map Eff.fl).foldl Flg.after k'.flg }
  let k' := regs.foldl (fun x e => x.wr k e.1 e.2) k'
  let bx := (es.flatMap Eff.det).foldl min (k'.rf.getD 0x56 0).toNat
  { k' with rf := k'.rf.set 0x56 (BitVec.ofNat 16 bx) }

/-- The store of a bundle. -/
def State.applyMem (s : State) (c : Nat) (es : List Eff) : State :=
  (es.filterMap Eff.mem).foldl (fun s m => s.wr16 (wordAddr c m.1 m.2.1) m.2.2.toNat) s

/-- A core after a queue operation: an explicit write of FLG in the bundle discards the operation's effect on QE (08 R201). -/
def CoreSt.qeUnless (wrote : Bool) (k k' : CoreSt) : CoreSt := if wrote then { k' with flg := k.flg } else k'

/-- The queue operation of a syllable, its operands read in `s0` (R223, R224); `wrote`, whether its bundle writes FLG. -/
def State.queueOp (s s0 : State) (c : Nat) (wrote : Bool) (y : Syl) : State :=
  let act (g : CoreSt → CoreSt) : State := s.updCore c fun k => k.qeUnless wrote (g k)
  let push (q : Nat) (v : Half) : State := (act fun k => k.pushQ q v s.rhoNow).qDrain 32 c q false
  match y.op with
  | .qset q dir w32 cls sreg creg ext =>
    act fun k => (k.clrQe q).updQ q fun x => x.setup dir w32 cls (s0.rg c sreg) (s0.rg c creg).toNat ext.toNat
  | .qstop q => s.updCore c fun k => k.updQ q Queue.cancel
  | .qpop _ q _ _ => act fun k => k.popQ q
  | .qpopm q _ _ _ _ => act fun k => k.popQ q
  | .qpush reg q _ => push q (s0.rg c reg)
  | .qpushm q _ y ptr amod => push q (s0.xy c y (s0.ea c y ptr amod).1)
  | _ => s

/-! ### The fetch buffer (R163, R168) -/

/-- The syllable at `pc` as the core runs it: the one it has fetched, or the one in memory. -/
def State.fetched (s : State) (c pc : Nat) : Word :=
  match (s.core c).fbuf.find? fun e => e.1 == pc with
  | some e => e.2
  | none => s.sylAt c pc

/-- `n` fetch cycles after the syllables `buf`, from `pc` where there are none: each brings the rest of an aligned group of
four while the buffer of eight has room for a whole one. -/
def State.fetch (s : State) (c pc : Nat) : Nat → List (Nat × Word) → List (Nat × Word)
  | 0, buf => buf
  | n + 1, buf =>
    let a := match buf.getLast? with | some e => e.1 + 1 | none => pc
    if 4 < buf.length ∨ pcOk c a = false then buf
    else s.fetch c pc n (buf ++ (List.range (4 - a % 4)).map fun i => (a + i, s.sylAt c (a + i)))

/-- The buffer after the core has gone on to its PC in `n` cycles: a redirection empties it. -/
def State.refill (s : State) (c n : Nat) : State :=
  s.updCore c fun k => { k with
    fbuf := if k.redir then [] else s.fetch c k.pc n (k.fbuf.filter fun e => decide (k.pc ≤ e.1)) }

/-- Groups the core fetches while a bundle of `len` syllables takes `n` cycles. -/
def fetches (k : CoreSt) (len n : Nat) : Nat := min n ((8 - (k.fbuf.length - len)) / 4)

/-- Length of the bundle at `pc`, for a DO that opens no level (R232). -/
def State.lenAt (s : State) (c : Nat) : Nat → Nat → Nat
  | 0, _ => 0
  | f + 1, pc =>
    let w := s.fetched c pc
    let sl := fldOf w 30 29
    let op := fldOf w 28 23
    let n := if (sl = 2 ∧ op = 8) ∨ (sl = 3 ∧ op = 0xE) then 2 else 1
    if w.msb then n else n + s.lenAt c f (pc + n)

/-- Whether a condition of SKF holds (R229). -/
def skfHolds (f : Flg) (qa : Nat) (cond q : Nat) : Bool :=
  let qaq := (qa / 2 ^ q) % 2 == 1
  match cond with
  | 0x00 => f.z | 0x01 => !f.z | 0x02 => f.n | 0x03 => !f.n | 0x04 => f.v | 0x05 => !f.v | 0x06 => f.c | 0x07 => !f.c
  | 0x08 => f.n != f.v | 0x09 => f.n == f.v | 0x0A => !f.z && f.n == f.v | 0x0B => f.z || f.n != f.v
  | 0x0C => f.c && !f.z | 0x0D => !f.c || f.z | 0x0E => f.av | 0x0F => !f.av
  | 0x10 => qaq | 0x11 => !qaq | 0x12 => f.qe.getLsbD q | 0x13 => !f.qe.getLsbD q | 0x14 => true
  | _ => false

/-- Whether a condition of SKR holds (R229). -/
def skrHolds (rc : Nat) (v : Half) (bit : Nat) : Bool :=
  match rc with
  | 0 => v == 0
  | 1 => v != 0
  | 2 => v.msb
  | 3 => !v.msb
  | 4 => !v.msb && v != 0
  | 5 => v.msb || v == 0
  | 6 => !v.getLsbD bit
  | _ => v.getLsbD bit

/-- Set register codes of a core without the rules of explicit writes. -/
def CoreSt.put (k : CoreSt) (code : Nat) (v : Nat) : CoreSt := { k with rf := k.rf.set code (BitVec.ofNat 16 v) }

/-- RTI (R190): the flags, the REPI, INH and the PC, from IFLG, IRPC and IPC as `k0` holds them. -/
def CoreSt.rti (k k0 : CoreSt) : CoreSt :=
  let f := k0.rf.getD 0x69 0
  let n := (k0.rf.getD 0x6A 0).toNat
  { k with
    flg := { z := f.getLsbD 0, n := f.getLsbD 1, v := f.getLsbD 2, c := f.getLsbD 3, av := f.getLsbD 4, qe := f.extractLsb' 12 4 },
    rf := k.rf.set 0x66 (k.rf.getD 0x66 0 &&& 1),
    rep := if f.getLsbD 7 ∧ 0 < n then some ⟨n, true⟩ else none,
    pc := (k0.rf.getD 0x68 0).toNat + b2n k0.ipcHi * 65536 }

/-- The control part of a bundle, after its registers are written: the core with its next PC, and whether a branch was taken
(R229 to R238). `s0` is the state before the bundle and `s` the one after its writes; `nxt` the next bundle in line. -/
def State.ctlOp (s0 s : State) (c nxt : Nat) (y : Syl) : CoreSt × Bool :=
  let k := { s.core c with pc := nxt }
  match y.op with
  | .skf cond q => ({ k with pair := true, squash := skfHolds k.flg k.qa cond q }, false)
  | .skr rc r bit =>
    let v := if 0x10 ≤ r ∧ r < 0x30 then k.rf.getD (physCode (s0.core c) r) 0 else s.rg c r
    ({ k with pair := true, squash := skrHolds rc v bit }, false)
  | .br t => ({ k with pc := t }, true)
  | .brr r h => ({ k with pc := s0.regTgt c r h }, true)
  | .call t => ({ k with pc := t, rstk := nxt :: k.rstk }, true)
  | .callr r h => ({ k with pc := s0.regTgt c r h, rstk := nxt :: k.rstk }, true)
  | .ret => ({ k with pc := k.rstk.headD 0, rstk := k.rstk.tail }, true)
  | .rti => (k.rti (s0.core c), true)
  | .doLoop rt creg cimm ofs =>
    let n := s0.countOf c creg cimm
    let l := (s0.core c).llv
    if n = 0 then ({ k with pc := nxt + ofs + s.lenAt c 4 (nxt + ofs) }, true)
    else
      ({ (((k.put (0x48 + l) nxt).put (0x4C + l) (nxt + ofs)).put (0x50 + l) n).put 0x6B (l + 1) with rot := k.rot.set l rt }, false)
  | .lbrk lv =>
    let l := (s0.core c).llv
    ((List.range lv).foldl (fun k i => k.put (0x50 + (l - 1 - i)) 0) (k.put 0x6B (l - lv)), false)
  | .rep creg cimm => ({ k with rep := some ⟨s0.countOf c creg cimm, false⟩ }, false)
  | .repi creg cimm => ({ k with rep := some ⟨s0.countOf c creg cimm, true⟩ }, false)
  | .waite => ({ k with rel := false }, false)
  | _ => (k, false)

/-- The loop-back test of a completed bundle at `pc` (R171, R175, R232): at most the innermost level the bundle leaves open,
and none where the bundle's own DO has opened it (its body starts with the next bundle).
The test takes LS, LE and LC as `k0` held them before the bundle, for a write of the bundle takes effect for the next one
(08 R212); `wrote` lists the registers it names, and an LC among them keeps the value written. -/
def loopBack (k0 k : CoreSt) (pc : Nat) (wrote : List Nat) : CoreSt × Bool :=
  if k.llv = 0 ∨ k0.llv < k.llv then (k, false)
  else
    let l := k.llv - 1
    if (k0.rf.getD (0x4C + l) 0).toNat ≠ pc % 65536 then (k, false)
    else
      let lc := ((k0.rf.getD (0x50 + l) 0) - 1).toNat
      let k := if wrote.contains (0x50 + l) then k else k.put (0x50 + l) lc
      let k := if k.rot.getD l false then k.put 0x57 (((k.rf.getD 0x57 0).toNat + 31) % 32) else k
      if lc = 0 then (k.put 0x6B l, false)
      else ({ k with pc := pc / 65536 * 65536 + (k0.rf.getD (0x48 + l) 0).toNat }, true)

/-! ### Cycles (R162, R168, R169, R217, R239) -/

/-- Keys of the interlock times: register places, 0x100 + n for a MAC-slot result in ACCn, 0x110 + n for it forwarded, and
0x200 for the condition of a skip. -/
def readyAt (k : CoreSt) (key : Nat) : Nat := ((k.ready.find? fun e => e.1 == key).map (·.2)).getD 0

def setReady (k : CoreSt) (key t : Nat) : CoreSt := { k with ready := (key, t) :: k.ready.filter fun e => !(e.1 == key) }

/-- The key of a source code: an accumulator part waits for its accumulator or its own write. -/
def srcKeys (k : CoreSt) (code : Nat) : List Nat :=
  if 0x58 ≤ code ∧ code < 0x64 then [code, 0x100 + (code - 0x58) % 4]
  else physCode k code :: (if 0x10 ≤ code ∧ code < 0x30 then [0x57] else [])

/-- The parts of ACCn that a load, a NARR or an AEXP may still owe. -/
def accParts (n : Nat) : List Nat := [0x58 + n, 0x5C + n, 0x60 + n]

/-- What a pointer `i` is read with: the pointer itself, its offset register, and CB and CL where a modification may wrap
(R176). -/
def ptrKeys (i : Nat) (mods ofs : Bool) : List Nat :=
  (0x30 + i) :: (if ofs then [0x38 + i] else []) ++ (if mods && decide (i < 4) then [0x40 + i, 0x44 + i] else [])

def modKeys (b : Bool) (ptr md : Nat) : List Nat := ptrKeys (ptrIx b ptr) (md != 0) (md == 3)
def amodKeys (b : Bool) (ptr amod : Nat) : List Nat := ptrKeys (ptrIx b ptr) (amod != 0) (decide (3 ≤ amod))

/-- Registers a syllable reads without naming them as a source. -/
def implicitSrcs (y : Syl) : List Nat :=
  let mem (m : MOp) (b : Bool) : List Nat := match m with | .mem ptr md => modKeys b ptr md | _ => []
  match y.op with
  | .m k acd a b => (if mulK k then [] else (0x110 + acd) :: accParts acd) ++ mem a false ++ mem b true
  | .a k acd acs _ sbx _ _ =>
    (match k with | .aadd | .asub | .acmp => (0x100 + acd) :: accParts acd | _ => []) ++
    (match k with | .aclr | .ald | .aldw => [] | _ => (0x100 + acs) :: accParts acs) ++
    (match k with | .ash | .narr => if sbx then [0x56] else [] | _ => [])
  | .r k _ _ _ _ => (match k with | .adc | .sbc => [0x55] | _ => [])
  | .ld _ y ptr amod => amodKeys y ptr amod
  | .st _ y ptr amod _ => amodKeys y ptr amod
  | .ldxy _ _ px mx py my => modKeys false px mx ++ modKeys true py my
  | .pmod y ptr amod => amodKeys y ptr amod
  | .paddi pr _ => ptrKeys pr true false
  | .qpopm _ _ y ptr amod => amodKeys y ptr amod
  | .qpushm _ _ y ptr amod => amodKeys y ptr amod
  | .rti => [0x66, 0x68, 0x69, 0x6A]
  | .rrc set _ => if set then [] else [0x57]
  | _ => []

/-- Codes whose values a syllable's own bundle waits for: a skip leaves its register to the bundle it governs (R230). -/
def stallSrcs (y : Syl) : List Nat :=
  match y.op with
  | .skr .. => []
  | _ => srcsOf y

/-- Loop registers the loop-back test at the PC reads: LE of the innermost level, and at that bundle LS, LC and, where the
level rotates, RRB (R169, R171, R175). -/
def loopKeys (k : CoreSt) : List Nat :=
  if k.llv = 0 then []
  else
    let l := k.llv - 1
    (0x4C + l) :: (if (k.rf.getD (0x4C + l) 0).toNat = k.pc % 65536 then
      [0x48 + l, 0x50 + l] ++ (if k.rot.getD l false then [0x57] else []) else [])

/-- Cycles a bundle stalls for its sources; a governed bundle waits for the values its skip tests (R230). -/
def stallOf (k : CoreSt) (b : List Syl) : Nat :=
  let keys := b.flatMap (fun y => (stallSrcs y).flatMap (srcKeys k) ++ implicitSrcs y) ++ loopKeys k ++ (if k.pair then [0x200] else [])
  (keys.map fun x => readyAt k x - k.tick).foldl max 0

/-- Latencies of a bundle issued at `t` (R169, R204, R217, R239); `k0`, the core before it, names its V registers (R175). -/
def latOf (k0 k : CoreSt) (t : Nat) (b : List Syl) : CoreSt :=
  let acc (k : CoreSt) (n : Nat) : CoreSt := setReady (setReady k (0x100 + n) (t + 2)) (0x110 + n) (t + 1)
  let flag (k : CoreSt) (d : Nat) : CoreSt := setReady k 0x55 (max (readyAt k 0x55) (t + d))
  let two (k : CoreSt) (code : Nat) : CoreSt := if codeRO code then k else setReady k (physCode k0 code) (t + 2)
  b.foldl (fun k y =>
    match y.op with
    | .m _ acd _ _ => flag (acc k acd) 2
    | .a kd acd _ r _ _ det =>
      (match kd with
      | .acmp => flag k 2
      | .narr => flag (if det then setReady (two k r) 0x56 (t + 2) else two k r) 2
      | .aexp => two k r
      | .aclr | .amov | .ald | .aldw => acc k acd
      | _ => flag (acc k acd) 2)
    | .ld reg .. => two k reg
    | .ldxy dx dy .. => two (two k dx) dy
    | .r .. => flag k 1
    | .i .. => flag k 1
    | .skf .. => setReady k 0x200 (readyAt k 0x55)
    | .skr _ r _ => setReady k 0x200 (((srcKeys k0 r).map (readyAt k)).foldl max 0)
    | _ => k) k

/-- Accesses of a bundle to X and to Y (R162). -/
def bundleAcc (b : List Syl) : Nat × Nat :=
  ((b.map fun y => (accessesOf y).1).foldl (· + ·) 0, (b.map fun y => (accessesOf y).2).foldl (· + ·) 0)

/-- The fetch boundary after a redirection (R168). -/
def fetchExtra (k : CoreSt) (b : List Syl) : Nat := if k.redir ∧ k.pc % 4 + bundleLen b > 4 then 1 else 0

/-- Whether an external access that has waited 16 cycles takes a memory the bundle uses (R163). -/
def extStall (w : List Nat) (used : Nat) : Nat := if 0 < used ∧ 16 ≤ w.headD 0 then 1 else 0

/-- External accesses to one memory after `n` cycles of the core, of which it uses the memory in `used` (R163). -/
def extPass (w : List Nat) (used n : Nat) : List Nat :=
  ((if 16 ≤ w.headD 0 then w.tail else w).drop (n - used)).map (· + n)

/-- Memories a bundle uses while it takes `n` cycles: X, Y and program memory, by accesses. -/
def bundleUse (k : CoreSt) (b : List Syl) (n : Nat) : List Nat :=
  [(bundleAcc b).1, (bundleAcc b).2, fetches k (bundleLen b) n]

/-- Cycles a bundle adds at the memories: its accesses beyond the first to each, and external accesses that are due. -/
def memStall (k : CoreSt) (b : List Syl) : Nat :=
  ((bundleAcc b).1 - 1) + ((bundleAcc b).2 - 1) + ((k.ext.zip (bundleUse k b 1)).map fun e => extStall e.1 e.2).foldl (· + ·) 0

/-- Stall cycles of a bundle. A repetition stalls on memory conflicts only, at most 2 cycles (R173). -/
def bundleStall (k : CoreSt) (b : List Syl) : Nat :=
  (if k.rep.isSome then min 2 (memStall k b) else stallOf k b + memStall k b) + fetchExtra k b

/-- Count cycles run and stall cycles (R192). -/
def State.cycles (s : State) (c run stall : Nat) : State :=
  let s := s.w (pgCORE c) 0x054 (s.r (pgCORE c) 0x054 + BitVec.ofNat 32 run)
  s.w (pgCORE c) 0x058 (s.r (pgCORE c) 0x058 + BitVec.ofNat 32 stall)

/-- The cycles a wait has stalled the core so far (R226); a core cycle is two of the line time base. -/
def State.waitRan (s : State) (c : Nat) (w : Waiting) : Nat :=
  w.ran + (if s.domRun (coreDom c) then (s.rhoNow - w.since) / 2 else 0)

/-- The cycles of the wait in progress, or 0. -/
def State.waited (s : State) (c : Nat) : Nat := ((s.core c).wait.map (s.waitRan c)).getD 0

/-- A wait ends, by its condition, an interrupt, a halt or a fault: its cycles are stall cycles (R192, R226), and the memories
were free in them (R163). -/
def State.waitEnd (s : State) (c : Nat) : State :=
  match (s.core c).wait with
  | none => s
  | some w =>
    (s.updCore c fun k => { k with wait := none, tick := k.tick + s.waitRan c w, ext := [[], [], []] }).cycles c
      (s.waitRan c w) (s.waitRan c w)

/-- The domain of a waiting core leaves Run, or is in Run again: the clock of the wait stops and goes on. -/
def State.waitPause (s : State) (c : Nat) : State :=
  s.updCore c fun k => { k with wait := k.wait.map fun w => { w with ran := w.ran + (s.rhoNow - w.since) / 2 } }
def State.waitResume (s : State) (c : Nat) : State :=
  s.updCore c fun k => { k with wait := k.wait.map fun w => { w with since := s.rhoNow } }

/-! ### Halting and faults (R191, R192) -/

/-- A core stops; `ev` names the event raised. -/
def State.coreStop (s : State) (c ev : Nat) : State :=
  ((s.waitEnd c).updCore c fun k => { k with run := false, stepping := false, haltReq := false }).ev (pgCORE c) ev

/-- A fault of core `c` at `pc` (R191, R194). -/
def State.coreFault (s : State) (c cause pc : Nat) : State :=
  let s := s.w (pgCORE c) 0x04C (BitVec.ofNat 32 (cause <<< 28 + pc % 2 ^ 17))
  let s := s.coreStop c 0
  let s := s.err (pgCORE c) 0x4310 (cause + (pc / 65536 % 2) <<< 4 + (pc % 65536) <<< 16)
  if c = 4 then s.islandFault else s

/-- Whether the boundary before the next bundle is one a halt or an interrupt may use: not inside a skip pair or a REP
(R187, R192), nor before the squashed bundle of a REPI of no repetitions. -/
def interruptible (k : CoreSt) : Bool :=
  !k.pair && (match k.rep with | none => true | some r => r.int && decide (0 < r.left))

/-- At a boundary: a requested halt, or the end of a step, takes effect. -/
def State.boundary (s : State) (c : Nat) : State :=
  let k := s.core c
  if k.run ∧ k.haltReq ∧ interruptible k then s.coreStop c 1
  else if k.run ∧ k.stepping ∧ k.rep.isNone then s.coreStop c 1
  else s

/-! ### Issuing a bundle -/

/-- A bundle issues whole (R226): its effects, the next PC, repetition, loop-back and cycles. -/
def State.issueNow (s0 : State) (c : Nat) (b : List Syl) : State :=
  let k0 := s0.core c
  let pc := k0.pc
  let nxt := pc + bundleLen b
  match (b.filterMap fun y => s0.issueFault c nxt y).head? with
  | some cause => s0.coreFault c cause pc
  | none =>
    let es := b.map fun y => s0.sylEff c y
    let wrote := b.flatMap namedDests
    let flgWritten := wrote.contains 0x55
    let s := s0.updCore c fun k => applyEffs { k with pair := false, squash := false, wait := none, fresh := false } es
    let s := s.applyMem c es
    let s := b.foldl (fun s y => s.queueOp s0 c flgWritten y) s
    let ctl := b.find? fun y => y.slot == .ctl
    let r := match ctl with
      | some y => s0.ctlOp s c nxt y
      | none => ({ s.core c with pc := nxt }, false)
    let r := if flgWritten then ({ r.1 with flg := (s.core c).flg }, r.2) else r
    let stall := bundleStall k0 b
    let n := stall + 1 + (if r.2 then 2 else 0)
    let k1 := latOf k0 r.1 (k0.tick + stall) b
    let k1 := { k1 with tick := k0.tick + n, redir := r.2,
                        ext := (k0.ext.zip (bundleUse k0 b n)).map fun e => extPass e.1 e.2 n }
    let s := s.cycles c n stall
    let done (k : CoreSt) : CoreSt :=
      let l := loopBack k0 k pc wrote
      { l.1 with redir := l.2 || k.redir }
    let k2 := match k0.rep with
      | some rp =>
        if 1 < rp.left then { k1 with pc := pc, rep := some { rp with left := rp.left - 1 } }
        else done { k1 with rep := none }
      | none => if r.2 then k1 else done k1
    let s := (s.updCore c fun _ => k2).refill c n
    let s := if b.any (fun y => y.op == .halt) then (s.sf (pgCORE c) 0x040 0 0 0).coreStop c 1 else s
    s.boundary c

/-- A squashed bundle issues in one cycle and has no effect but the loop-back (R170, R230). -/
def State.issueSquashed (s : State) (c : Nat) (b : List Syl) : State :=
  let k0 := s.core c
  let stall := stallOf k0 [] + fetchExtra k0 b
  let k := { k0 with pair := false, squash := false, rep := none, fresh := false, pc := k0.pc + bundleLen b,
                     tick := k0.tick + stall + 1, redir := false, ext := k0.ext.map fun w => extPass w 0 (stall + 1) }
  let l := loopBack k0 k k0.pc []
  let s := s.cycles c (stall + 1) stall
  ((s.updCore c fun _ => { l.1 with redir := l.2 }).refill c (stall + 1)).boundary c

/-- The repetitions still to run after the current one, as RPC reads them (R235). -/
def State.repCount (s : State) (c : Nat) : State :=
  match (s.core c).rep with
  | none => s
  | some r => s.updCore c fun k => k.put 0x54 (r.left - 1)

/-- Core `c` issues the bundle `b` at its PC: faults on decoding, a squash, a wait, or the whole bundle. A core that does
not run, or that waits, issues nothing. -/
def State.issue (s : State) (c : Nat) (b : List Syl) : State :=
  let k := s.core c
  if 5 ≤ c ∨ k.run = false ∨ k.wait.isSome = true ∨ s.domRun (coreDom c) = false ∨ b.isEmpty = true then s
  else match decodeFault k c b with
  | some cause => s.coreFault c cause k.pc
  | none =>
    if k.squash ∨ k.rep = some ⟨0, true⟩ ∨ k.rep = some ⟨0, false⟩ then s.issueSquashed c b
    else
      let s := s.repCount c
      if b.all (s.waitOver c) then s.issueNow c b
      else
        let s := s.updCore c fun k => { k with wait := some ⟨b, s.rhoNow, 0⟩ }
        (List.range 4).foldl (fun s q => s.qDrain 32 c q (s.syncing c q)) s

/-- A row's instruction: the bundle of the syllables before it, itself, and those after it. -/
def State.issueRow (s : State) (c : Nat) (pre : List Syl) (y : Syl) (post : List Syl) : State := s.issue c (pre ++ y :: post)

/-- The wait of a stalled bundle is over (R226). -/
def State.waitBundleIssue (s : State) (c : Nat) : State :=
  match (s.core c).wait with
  | none => s
  | some w =>
    if w.syls.all (s.waitOver c) && s.domRun (coreDom c) then
      (s.waitEnd c).issueNow c w.syls
    else s

/-- A queue wait exceeds CR_QTMO (R184). -/
def State.queueWaitTimeout (s : State) (c : Nat) : State :=
  match (s.core c).wait with
  | none => s
  | some w =>
    let lim := s.f (pgCORE c) 0x050 23 0
    if lim = 0 ∨ s.waitRan c w ≤ lim ∨ w.syls.all (s.waitOver c) = true ∨ w.syls.any isQueueWait = false then s
    else s.coreFault c 7 (s.core c).pc

/-! ### Interrupts and line events (R187 to R193) -/

/-- An IRQ line event sets a line pending (R187). -/
def State.irqEvent (s : State) (c n : Nat) : State :=
  let s := s.evArrive 0 c n
  if (s.core c).inReset ∨ s.domRun (coreDom c) = false then s
  else s.updCore c fun k => { k with irq := k.irq ||| BitVec.ofNat 16 (2 ^ (n % 16)) }

/-- The highest line pending and enabled. -/
def State.irqTaken (s : State) (c : Nat) : Option Nat :=
  let p := s.ipend c &&& s.rg c 0x65
  (List.range 16).foldl (fun b n => if p.getLsbD n then some n else b) none

/-- Interrupt entry (R188, R189). -/
def State.interruptEntry (s : State) (c : Nat) : State :=
  let k := s.core c
  let ictl := s.rg c 0x66
  match s.irqTaken c with
  | none => s
  | some n =>
    if 5 ≤ c ∨ k.run = false ∨ k.stepping = true ∨ s.domRun (coreDom c) = false ∨ ictl.getLsbD 0 = false ∨
        ictl.getLsbD 1 = true ∨ interruptible k = false then s
    else
      let v := (s.rg c 0x64).toNat + 8 * n
      if pcOk c v = false then s.coreFault c 6 v
      else
        let s := s.waitEnd c
        let left := match k.rep with | some r => r.left | none => 0
        let f := (k.flgWord &&& 0xFF1F) ||| (if k.rep.isSome then 0x80 else 0)
        s.updCore c fun k =>
          let k := ((k.put 0x68 k.pc).put 0x69 f.toNat).put 0x6A left
          { (k.put 0x66 ((k.rf.getD 0x66 0).toNat + 2)) with
            ipcHi := decide (65536 ≤ k.pc), irq := k.irq &&& ~~~(BitVec.ofNat 16 (2 ^ n)), rep := none,
            pc := v, redir := true, fbuf := [] }

/-- A RELEASE event (R193). -/
def State.releaseEvent (s : State) (c : Nat) (arg : Nat) : State :=
  let s := s.evArrive 1 c arg
  if (s.core c).inReset ∨ s.domRun (coreDom c) = false then s
  else if (s.core c).rel then (s.cntUp (pgCORE c) 0x060 15 0 1).ev (pgCORE c) 3
  else s.updCore c fun k => { k with rel := true }

/-! ### Decoding syllables (08 R197, R204; 09 R219 to R228) -/

def decM (f : Nat → Nat → Nat) (k : MKind) : Op :=
  let a : MOp := if f 20 20 = 1 then .mem (f 19 18) (f 17 16) else .reg (f 19 13)
  let b : MOp := if f 12 12 = 1 then .mem (f 11 10) (f 9 8) else .reg (f 11 5)
  .m k (f 22 21) a b

/-- The operation of a MAC-slot syllable. -/
def decMac (f : Nat → Nat → Nat) : Op :=
  let a (k : AKind) : Op := .a k (f 22 21) (f 20 19) (f 18 12) (f 11 11 == 1) (f 10 5) (f 4 4 == 1)
  let r (k : RKind) : Op := .r k (f 22 16) (f 15 9) (f 8 2) (f 1 1 == 1)
  let i (k : IKind) : Op := .i k (f 22 16) (f 15 9) (f 8 0)
  match f 28 23 with
  | 0x00 => .nop
  | 0x01 => decM f .mpy | 0x02 => decM f .mac | 0x03 => decM f .msu | 0x04 => decM f .macs | 0x05 => decM f .msus
  | 0x06 => decM f .mpyi | 0x07 => decM f .maci | 0x08 => decM f .msui | 0x09 => decM f .mpyu | 0x0A => decM f .macu
  | 0x0B => decM f .mpysu | 0x0C => decM f .macsu
  | 0x0D => i .perm | 0x0E => .bxclr | 0x0F => r .bxdet
  | 0x10 => a .aclr | 0x11 => a .amov | 0x12 => a .aadd | 0x13 => a .asub | 0x14 => a .aneg | 0x15 => a .aabs
  | 0x16 => a .ash | 0x17 => a .ashv | 0x18 => a .asat | 0x19 => a .ald | 0x1A => a .aldw | 0x1B => a .acmp
  | 0x1C => a .narr | 0x1D => a .aexp
  | 0x20 => r .add | 0x21 => r .adds | 0x22 => r .adc | 0x23 => r .sub | 0x24 => r .subs | 0x25 => r .sbc | 0x26 => r .cmp
  | 0x27 => r .neg | 0x28 => r .abs | 0x29 => r .min | 0x2A => r .max | 0x2B => r .and | 0x2C => r .or | 0x2D => r .xor
  | 0x2E => r .andn | 0x2F => r .tst | 0x30 => r .shl | 0x31 => r .shr | 0x32 => r .asr | 0x33 => r .rol
  | 0x34 => i .shli | 0x35 => i .shri | 0x36 => i .asri | 0x37 => i .roli | 0x38 => i .asls | 0x39 => i .addi
  | 0x3A => .movi (f 22 16) (BitVec.ofNat 16 (f 15 0)) | 0x3B => r .mov | 0x3C => r .clz | 0x3D => r .cls
  | 0x3E => i .bfx | 0x3F => i .bfi
  | _ => .reserved

/-- The operation of an AGU syllable with its extension. -/
def decAgu (f : Nat → Nat → Nat) (ext : Word) : Op :=
  match f 28 23 with
  | 0x00 => .nop
  | 0x01 => .ld (f 22 16) (f 15 15 == 1) (f 14 13) (f 12 10)
  | 0x02 => .st (f 22 16) (f 15 15 == 1) (f 14 13) (f 12 10) (f 9 9 == 1)
  | 0x03 => .ldxy (f 22 16) (f 15 9) (f 8 7) (f 6 5) (f 4 3) (f 2 1)
  | 0x04 => .pmod (f 15 15 == 1) (f 14 13) (f 12 10)
  | 0x05 => .paddi (f 22 20) (BitVec.ofNat 16 (f 15 0))
  | 0x06 => .r .mov (f 22 16) (f 15 9) 0 false
  | 0x07 => .movi (f 22 16) (BitVec.ofNat 16 (f 15 0))
  | 0x08 => .qset (f 22 21) (f 20 20 == 1) (f 19 19 == 1) (f 18 17) (f 16 10) (f 9 3) ext
  | 0x09 => .qstop (f 22 21)
  | 0x0A => .qpop (f 22 16) (f 15 14) (f 13 13 == 1) (f 12 12 == 1)
  | 0x0B => .qpush (f 22 16) (f 15 14) (f 13 13 == 1)
  | 0x0C => .qpopm (f 22 21) (f 20 20 == 1) (f 15 15 == 1) (f 14 13) (f 12 10)
  | 0x0D => .qpushm (f 22 21) (f 20 20 == 1) (f 15 15 == 1) (f 14 13) (f 12 10)
  | 0x0E => .qwait (f 22 21) (f 3 0)
  | 0x0F => .qsync (f 22 21)
  | _ => .reserved

/-- The operation of a CTL syllable with its extension. -/
def decCtl (f : Nat → Nat → Nat) (ext : Word) : Op :=
  let creg : Option Nat := if f 21 21 = 1 then some (f 20 14) else none
  let creg2 : Option Nat := if f 22 22 = 1 then some (f 20 14) else none
  match f 28 23 with
  | 0x00 => .nop
  | 0x01 => .skf (f 22 18) (f 17 16)
  | 0x02 => .skr (f 22 20) (f 19 13) (f 12 9)
  | 0x03 => .br (f 16 0)
  | 0x04 => .brr (f 22 16) (f 15 15 == 1)
  | 0x05 => .call (f 16 0)
  | 0x06 => .callr (f 22 16) (f 15 15 == 1)
  | 0x07 => .ret
  | 0x08 => .rti
  | 0x09 => .doLoop (f 22 22 == 1) creg (if f 21 21 = 1 then 0 else f 20 11) (f 10 0)
  | 0x0A => .lbrk (f 1 0)
  | 0x0B => .rep creg2 (if f 22 22 = 1 then 0 else f 11 0)
  | 0x0C => .repi creg2 (if f 22 22 = 1 then 0 else f 11 0)
  | 0x0D => .rrc (f 5 5 == 1) (f 4 0)
  | 0x0E => .limx (f 22 16) (if f 8 8 = 1 then some (f 15 9) else none) ext
  | 0x0F => .ei
  | 0x10 => .di
  | 0x11 => .ihold
  | 0x12 => .waite
  | 0x13 => .halt
  | _ => .reserved

/-- The syllable of a word, `ext` being the word after it. -/
def decodeSyl (w ext : Word) : Syl :=
  let f := fun hi lo => fldOf w hi lo
  match f 30 29 with
  | 0 => ⟨.mac0, decMac f⟩
  | 1 => ⟨.mac1, decMac f⟩
  | 2 => ⟨.agu, decAgu f ext⟩
  | _ => ⟨.ctl, decCtl f ext⟩

/-- The bundle at `pc` as the core has fetched it, at most `n` syllables (R165, R166). -/
def State.bundleAt (s : State) (c : Nat) : Nat → Nat → List Syl
  | 0, _ => []
  | n + 1, pc =>
    let w := s.fetched c pc
    let y := decodeSyl w (s.fetched c (pc + 1))
    if w.msb then [y] else y :: s.bundleAt c n (pc + y.size)

/-- One bundle, or the whole of the REP it starts or continues (R192): at most `n` bundles. -/
def State.stepLoop : Nat → State → Nat → State
  | 0, s, _ => s
  | n + 1, s, c =>
    let k := s.core c
    if k.run = false ∨ k.wait.isSome = true then s
    else (s.issue c (s.bundleAt c 5 k.pc)).stepLoop n c

/-! ### The control page (R192) -/

/-- Whether a Keeper fault holds the Keeper halted until a reset of SEC (14 R347). -/
def State.keeperHeld (s : State) (c : Nat) : Bool := decide (c = 4) && s.f pgSEC 0x040 3 3 == 1

/-- Start a halted core from CR_ENTRY, or from the boot ROM the Keeper (R192, R194). -/
def State.coreStart (s : State) (c : Nat) : State :=
  if s.keeperHeld c then s
  else s.updCore c fun k => { k with
    pc := if c = 4 then 0x10000 else (s.f (pgCORE c) 0x048 15 0), run := true, haltReq := false, stepping := false,
    pair := false, squash := false, rep := none, wait := none, redir := true, fbuf := [] }

/-- Halt at the next interruptible boundary (R192). -/
def State.coreHaltReq (s : State) (c : Nat) : State :=
  if (s.core c).run then (s.updCore c fun k => { k with haltReq := true }).boundary c else s

/-- STEP (R192). -/
def State.coreStep (s : State) (c : Nat) : State :=
  let k := s.core c
  if k.run ∨ k.inReset ∨ s.keeperHeld c = true ∨ s.domRun (coreDom c) = false then s
  else
    let s := s.updCore c fun k => { k with run := true, stepping := true, pc := (if k.fresh then
      (if c = 4 then 0x10000 else s.f (pgCORE c) 0x048 15 0) else k.pc) }
    s.stepLoop 4100 c

/-- Writes to a control page. -/
def State.coreWrite (s : State) (c o : Nat) (v : Word) : State :=
  let p := pgCORE c
  if o = 0x040 then
    if v.getLsbD 0 then
      if c ≠ 4 ∧ 0x7FFF < s.f p 0x048 15 0 then s.errValue p o
      else
        let s := s.sf p 0x040 0 0 1
        if (s.core c).run ∨ (s.core c).inReset then
          (if (s.core c).run then s.updCore c fun k => { k with haltReq := false } else s)
        else s.coreStart c
    else
      let s := (s.sf p 0x040 0 0 0).coreHaltReq c
      if v.getLsbD 1 then s.coreStep c else s
  else if o = 0x048 ∧ c = 4 then s
  else if o = 0x060 then (if v.getLsbD 31 then s.sf p 0x060 15 0 0 else s)
  else s.plain p o v

/-- The status word of a queue (R192). -/
def Queue.statWord (q : Queue) : Word :=
  BitVec.ofNat 32 (q.buf.length + b2n q.under <<< 8 + b2n q.ovr <<< 9 + b2n q.dirErr <<< 10 + b2n q.misal <<< 11 +
    b2n q.dem <<< 12 + b2n q.late <<< 13 + q.sts <<< 16 + q.disc <<< 24)

/-- Reads of a control page. -/
def State.coreRead (s : State) (c o : Nat) : Word :=
  let k := s.core c
  let on := s.domRun (coreDom c)
  if o = 0x044 then
    let pc := if k.inReset ∨ k.fresh then (if c = 4 then 0x10000 else s.f (pgCORE c) 0x048 15 0) else k.pc
    BitVec.ofNat 32 (b2n k.run + b2n (!k.run) <<< 1 + b2n k.wait.isSome <<< 2 + b2n ((k.rf.getD 0x66 0).getLsbD 1) <<< 3 +
      (if k.run then 0 else (pc / 65536 % 2) <<< 8 + (pc % 65536) <<< 16))
  else if o = 0x048 ∧ c = 4 then 0x10000
  else if o = 0x054 ∨ o = 0x058 then s.r (pgCORE c) o + BitVec.ofNat 32 (s.waited c)
  else if o = 0x05C then (if on then BitVec.ofNat 32 (s.ipend c).toNat else 0)
  else if 0x080 ≤ o ∧ o < 0x0C0 then
    if on = false then 0
    else
      let q := k.queue ((o - 0x080) / 0x10)
      let x := o % 0x10
      if x = 0 then BitVec.ofNat 32 q.addr
      else if x = 4 then BitVec.ofNat 32 (q.stride.toNat <<< 16 + q.cnt)
      else if x = 8 then BitVec.ofNat 32 (b2n q.dir + b2n q.w32 <<< 1 + q.cls <<< 2 + b2n q.arm <<< 4)
      else q.statWord
  else s.r (pgCORE c) o

/-! ### Reset and release (R164, R192, R194; 19 R530) -/

/-- A core returns to reset: its registers, queues and control state as R164 gives them at release. -/
def State.coreReset (s : State) (c : Nat) : State := (s.waitEnd c).updCore c fun _ => CoreSt.zero

/-- A core leaves reset: at CR_ENTRY if RUN is 1, else halted; the Keeper always starts (R192, R194). -/
def State.coreRelease (s : State) (c : Nat) : State :=
  let s := s.updCore c fun k => { k with inReset := false }
  if c = 4 ∨ s.f (pgCORE c) 0x040 0 0 = 1 then s.coreStart c else s

end Sys2Proof.Machine
end

