-- ==== Sys2Proof/Machine/Gralvo.lean ====
section
/-! DEFINITION. Machine/Gralvo.lean: the array, its ports, contexts and pages (10). -/

namespace Sys2Proof.Machine

def State.updGrv (s : State) (f : Grv → Grv) : State := { s with grv := f s.grv }

abbrev State.actx (s : State) : Nat := s.f pgGRV 0x044 3 0
abbrev State.arrayOn (s : State) : Bool := s.domRun 6

def gcols (g : Grade) : Nat := if g = .zm816 then 12 else 8

/-- The key of cell (c,r). -/
def cellKey (c r : Nat) : Nat := r * 16 + c

/-- The key of incoming track `i` arriving from side `x` (0 north, 1 east, 2 south, 3 west). -/
def trackKey (cell x i : Nat) : Nat := cell * 16 + x * 4 + i

def mapGet {β : Type} (d : β) (m : List (Nat × β)) (k : Nat) : β := Sparse.get (fun _ => d) m k
def mapPut {β : Type} [DecidableEq β] (d : β) (k : Nat) (v : β) (m : List (Nat × β)) : List (Nat × β) :=
  Sparse.put (fun _ => d) k v m

/-! ### Ports at the edges (R253) -/

/-- First row and side of a port: 0 to 3 RP0 to RP3, 4 to 7 WP0 to WP3. -/
def portPlace (p : Nat) : Nat × Nat :=
  if p = 0 then (0, 3) else if p = 4 then (2, 3) else if p = 5 then (4, 3) else if p = 1 then (6, 3)
  else if p = 2 then (0, 1) else if p = 6 then (2, 1) else if p = 7 then (4, 1) else (6, 1)

/-- The NI of port `p`'s interface GRA(p mod 4) (R253, 06 R134). -/
def portNi (p : Nat) : Nat := if p % 4 = 0 then 17 else if p % 4 = 1 then 18 else if p % 4 = 2 then 24 else 25

def State.gport (s : State) (p : Nat) : GPort := s.grv.ports.getD p GPort.zero
def State.updPort (s : State) (p : Nat) (f : GPort → GPort) : State := s.updGrv fun g => { g with ports := g.ports.modify p f }

/-- Elements in words and bytes. -/
def GPort.ew (q : GPort) : Nat := if q.w32 then 2 else 1
def GPort.eb (q : GPort) : Nat := 2 * q.ew

/-- The row the next word of a port uses (R253). -/
def GPort.row (q : GPort) (p : Nat) : Nat := (portPlace p).1 + (if q.layout then q.moved % 2 else 0)

/-- The write port whose next word comes from row `r` at side `x`, if it can take one (R253, R257). -/
def State.wpAt (s : State) (x r : Nat) : Option Nat :=
  [4, 5, 6, 7].find? fun p =>
    let q := s.gport p
    (portPlace p).2 == x && q.row p == r && q.arm && !q.stopped && decide (q.moved < q.cnt * q.ew) &&
      decide (q.buf.length < 64) && s.f pgGRV 0x044 5 5 == 0

/-! ### Tokens (R247, R249, R250) -/

/-- Where a token goes that leaves box (c,r) toward side `d` on track `i`: an incoming track of a neighbour, or an edge. -/
inductive Hop where
  | track (key : Nat)
  | port (p : Nat)
  | blocked
  deriving DecidableEq, Repr

def State.hop (s : State) (cell d i : Nat) : Hop :=
  let c := cell % 16
  let r := cell / 16
  if d = 0 then (if r = 0 then .blocked else .track (trackKey (cellKey c (r - 1)) 2 i))
  else if d = 2 then (if r = 7 then .blocked else .track (trackKey (cellKey c (r + 1)) 0 i))
  else if d = 1 then
    (if c + 1 < gcols s.grade then .track (trackKey (cellKey (c + 1) r) 3 i)
     else if i = 0 then (match s.wpAt 1 r with | some p => .port p | none => .blocked) else .blocked)
  else
    (if 0 < c then .track (trackKey (cellKey (c - 1) r) 1 i)
     else if i = 0 then (match s.wpAt 3 r with | some p => .port p | none => .blocked) else .blocked)

def State.hopRoom (s : State) : Hop → Bool
  | .track k => decide ((mapGet [] s.grv.tok k).length < 2)
  | .port _ => true
  | .blocked => false

/-- The source code of outgoing track `i` toward `d` of a switch-box word. -/
def swCode (w : BitVec 64) (d i : Nat) : Nat := (w.toNat >>> (4 * (4 * d + i))) % 16

/-- The incoming track (side, index) a source code of outgoing track `i` names. -/
def codeTrack (code i : Nat) : Option (Nat × Nat) :=
  if code < 2 ∨ 14 ≤ code then none
  else if code < 6 then some (code - 2, i)
  else if code < 10 then some (code - 6, (i + 1) % 4)
  else some (code - 10, (i + 3) % 4)

def State.isFused (s : State) (cell : Nat) : Bool := s.fused == some (cell % 16)

/-- Outgoing tracks that take incoming track `i` from side `x` (R243, R249). -/
def State.trackSinks (s : State) (cell x i : Nat) : List (Nat × Nat) :=
  if s.isFused cell then (if x = 1 then [(3, i)] else if x = 3 then [(1, i)] else [])
  else
    let w := mapGet 0 s.grv.act.sw cell
    (List.range 16).filterMap fun n => if codeTrack (swCode w (n / 4) (n % 4)) (n % 4) = some (x, i) then some (n / 4, n % 4) else none

/-- Outgoing tracks that take the cell's output register. -/
def State.outSinks (s : State) (cell : Nat) : List (Nat × Nat) :=
  let w := mapGet 0 s.grv.act.sw cell
  (List.range 16).filterMap fun n => if swCode w (n / 4) (n % 4) = 1 then some (n / 4, n % 4) else none

/-- Put a token where a hop leads. -/
def State.putTok (s : State) (h : Hop) (v : Half) : State :=
  match h with
  | .track k => s.updGrv fun g => { g with tok := mapPut [] k (mapGet [] g.tok k ++ [v]) g.tok }
  | .port p => s.updPort p fun q => { q with buf := q.buf ++ [v], moved := q.moved + 1, last := s.grvNow }
  | .blocked => s

/-- Whether every sink has room, two sinks never being one place. -/
def State.sinksRoom (s : State) (cell : Nat) (l : List (Nat × Nat)) : Bool := l.all fun e => s.hopRoom (s.hop cell e.1 e.2)

def State.sendTo (s : State) (cell : Nat) (l : List (Nat × Nat)) (v : Half) : State :=
  l.foldl (fun t e => t.putTok (s.hop cell e.1 e.2) v) s

/-! ### Cell records (R244 to R248) -/

def recF (w : BitVec 128) (hi lo : Nat) : Nat := (w.toNat >>> lo) % 2 ^ (hi + 1 - lo)

def State.cellRec (s : State) (cell : Nat) : BitVec 128 := mapGet 0 s.grv.act.cells cell

/-- How many of the operands a, b and c a function uses. -/
def opArity (op : Nat) : Nat × Bool :=
  if op = 0x0F then (3, true)
  else if op = 0x01 ∨ op = 0x0E ∨ op = 0x15 ∨ op = 0x16 ∨ op = 0x19 then (1, true)
  else if 0x01 ≤ op ∧ op ≤ 0x18 then (2, true) else (0, false)

/-- The operand sources a record uses. -/
def opSrcs (w : BitVec 128) : List Nat := ([recF w 121 117, recF w 116 112, recF w 111 107]).take (opArity (recF w 127 122)).1

def State.cellUses (s : State) (cell x i : Nat) : Bool := (opSrcs (s.cellRec cell)).contains (4 * x + i)

/-- The value of an operand source. -/
def State.srcVal (s : State) (cell code : Nat) : Half :=
  if code < 16 then (mapGet [] s.grv.tok (cell * 16 + code)).headD 0
  else if code < 24 then mapGet 0 s.grv.rf (cell * 8 + (code - 16))
  else if code = 24 then BitVec.ofNat 16 (recF (s.cellRec cell) 106 91)
  else 0

/-- narrow() of R248, and whether it clipped. -/
def gNarrow (w : BitVec 128) (x : Int) : Half × Nat :=
  let t := x / (2 ^ recF w 90 86 : Nat)
  if recF w 85 85 = 1 then (BitVec.ofInt 16 (clip 16 t), b2n (ovf 16 t)) else (BitVec.ofInt 16 t, 0)

/-- The tile word default: contents are free after each time the domain leaves Off (R251; log entry 7). -/
def tileDefault (lost k : Nat) : Half :=
  Config.freeByte lost (0x200000000 + 2 * k) ++ Config.freeByte lost (0x200000001 + 2 * k)

/-- The tile of an edge cell: MT0 and MT2 serve the western half (R251). -/
def State.tileOf (s : State) (cell : Nat) : Nat :=
  (if cell / 16 = 0 then 0 else 2) + (if cell % 16 < gcols s.grade / 2 then 0 else 1)

/-- The result of one firing: a token, if any, the new accumulator, the new firing count, overflows, and a tile write. -/
structure Fire where
  o : Option Half
  acc : BitVec 36
  cnt : Nat
  ovf : Nat
  tw : Option (Nat × Half)
  deriving DecidableEq, Repr

/-- The accumulating functions: after ACN + 1 firings the narrowed sum leaves (R246, R248). -/
def accFire (w : BitVec 128) (acc : BitVec 36) (cnt : Nat) (add : Int) : Fire :=
  let t := acc.toInt + add
  let wrap := b2n (ovf 36 t)
  if recF w 84 73 ≤ cnt then
    let n := gNarrow w (BitVec.ofInt 36 t).toInt
    ⟨some n.1, 0, 0, wrap + n.2, none⟩
  else ⟨none, BitVec.ofInt 36 t, cnt + 1, wrap, none⟩

/-- A firing of function OP on its operands (R246); `tile` is the tile of the cell and `rd` the word a TRD reads. -/
def fireOp (w : BitVec 128) (a b c : Half) (acc : BitVec 36) (cnt : Nat) (tile : Nat) (rd : Half) : Fire :=
  let one (v : Half) : Fire := ⟨some v, acc, cnt, 0, none⟩
  let satd (t : Int) : Fire := ⟨some (BitVec.ofInt 16 (clip 16 t)), acc, cnt, b2n (ovf 16 t), none⟩
  let nar (t : Int) : Fire := ⟨some (gNarrow w t).1, acc, cnt, (gNarrow w t).2, none⟩
  match recF w 127 122 with
  | 0x01 => one a
  | 0x02 => one (a + b)
  | 0x03 => one (a - b)
  | 0x04 => satd (a.toInt + b.toInt)
  | 0x05 => satd (a.toInt - b.toInt)
  | 0x06 => one (a &&& b)
  | 0x07 => one (a ||| b)
  | 0x08 => one (a ^^^ b)
  | 0x09 => one (a <<< (b.toNat % 16))
  | 0x0A => one (a >>> (b.toNat % 16))
  | 0x0B => one (a.sshiftRight (b.toNat % 16))
  | 0x0C => one (if a.toInt ≤ b.toInt then a else b)
  | 0x0D => one (if a.toInt ≤ b.toInt then b else a)
  | 0x0E => satd (if a.toInt < 0 then -a.toInt else a.toInt)
  | 0x0F => one (if c ≠ 0 then a else b)
  | 0x10 => one (if a.toInt < b.toInt then 1 else 0)
  | 0x11 => nar (a.toInt * b.toInt)
  | 0x12 => nar ((a.toNat : Int) * b.toNat)
  | 0x13 => accFire w acc cnt (a.toInt * b.toInt)
  | 0x14 => accFire w acc cnt ((a.toNat : Int) * b.toNat)
  | 0x15 => accFire w acc cnt a.toInt
  | 0x16 => one rd
  | 0x17 => ⟨none, acc, cnt, 0, some (tile * 8192 + a.toNat % 8192, b)⟩
  | 0x18 => ⟨if b ≠ 0 then some a else none, acc, cnt, 0, none⟩
  | 0x19 => one a
  | _ => ⟨none, acc, cnt, 0, none⟩

/-- A result reaches the output register, and RF where RWE is set. -/
def State.emit (s : State) (cell : Nat) (v : Half) : State :=
  let w := s.cellRec cell
  s.updGrv fun g => { g with
    out := mapPut [] cell (mapGet [] g.out cell ++ [v]) g.out,
    rf := if recF w 72 72 = 1 then mapPut 0 (cell * 8 + recF w 71 69) v g.rf else g.rf }

/-! ### Movement (R247, R250) -/

/-- Send the oldest token of an output register, or the next copy a DUPN owes. -/
def State.moveOut (s : State) (cell : Nat) : State :=
  let s := match mapGet [] s.grv.dup cell with
    | [] => s
    | v :: t =>
      if (mapGet [] s.grv.out cell).length < 2 then (s.updGrv fun g => { g with dup := mapPut [] cell t g.dup }).emit cell v else s
  match mapGet [] s.grv.out cell with
  | [] => s
  | v :: t =>
    let l := s.outSinks cell
    if l.isEmpty ∨ s.sinksRoom cell l = false then s
    else (s.updGrv fun g => { g with out := mapPut [] cell t g.out }).sendTo cell l v

/-- Send the oldest token of an incoming track that no operand of its cell names. -/
def State.moveTrack (s : State) (key : Nat) : State :=
  let cell := key / 16
  let x := key % 16 / 4
  let i := key % 4
  match mapGet [] s.grv.tok key with
  | [] => s
  | v :: t =>
    let l := s.trackSinks cell x i
    if l.isEmpty ∨ (s.cellUses cell x i && !s.isFused cell) = true ∨ s.sinksRoom cell l = false then s
    else (s.updGrv fun g => { g with tok := mapPut [] key t g.tok }).sendTo cell l v

/-- A read port delivers its next word (R253, R255). -/
def State.moveIn (s : State) (p : Nat) : State :=
  let q := s.gport p
  let key := trackKey (cellKey (if (portPlace p).2 = 3 then 0 else gcols s.grade - 1) (q.row p)) (portPlace p).2 0
  match q.buf with
  | [] => s
  | v :: t =>
    if q.arm = false ∨ q.mute = true ∨ 2 ≤ (mapGet [] s.grv.tok key).length then s
    else (s.updPort p fun q => { q with buf := t, moved := q.moved + 1 }).putTok (.track key) v

/-- One array cycle of movement: each place that holds a token sends at most its oldest one a stage on. -/
def State.sweep (s : State) : State :=
  let s := (s.grv.tok.map (·.1)).foldl (fun s k => s.moveTrack k) s
  let s := ((s.grv.out.map (·.1)) ++ (s.grv.dup.map (·.1))).foldl (fun s c => s.moveOut c) s
  [0, 1, 2, 3].foldl (fun s p => s.moveIn p) s

/-! ### Issuing port requests (R255 to R258) -/

/-- A request of a port finds the port's GCTX page. -/
abbrev gpStat (p : Nat) : Nat := 0x070 + 0x20 * p

/-- A port stops (R258). -/
def State.portStop (s : State) (p ctx sts : Nat) : State :=
  let s := s.updPort p fun q => { q with stopped := true }
  ((s.sf (pgGCTX ctx) (gpStat p) 10 10 1).sf (pgGCTX ctx) (gpStat p) 15 12 sts).ev pgGRV 4

/-- A port stops on a misaligned element: as a read port it delivers no further tokens (R254, R258). -/
def State.portMisal (s : State) (p : Nat) : State :=
  (s.updPort p fun q => { q with mute := true }).portStop p s.actx (s.f (pgGCTX s.actx) (gpStat p) 15 12)

/-- The byte address of element `i` (R254). -/
def GPort.addr (q : GPort) (i : Nat) : Nat := (BitVec.ofInt 32 ((q.base : Int) + i * q.stride.toInt)).toNat

def GPort.contig (q : GPort) : Bool := q.stride == BitVec.ofNat 16 q.eb

/-- Whether port `p`'s interface may have one more request outstanding (R255). -/
def State.portRoom (s : State) (p : Nat) : Bool :=
  let n (p : Nat) : Nat := ((s.gport p).fly.filter fun r => r.data.isNone).length
  decide (n (p % 4) + n (p % 4 + 4) < s.f pgTEN (0x100 + 0x20 * s.ctxHolder s.actx) 21 16)

/-- Elements from `i` on, at most `n`, that lie under no SE window. -/
def State.portClear (s : State) (q : GPort) (i n : Nat) : Nat :=
  ((List.range n).takeWhile fun j => !s.touchesSE (q.addr (i + j)) q.eb).length

/-- Whether the ports of the running activation may act. -/
def State.portsRun (s : State) : Bool := decide (s.actx < 8) && s.arrayOn && s.f pgGRV 0x044 5 5 == 0

def GPort.inFly (q : GPort) : Nat := ((q.fly.filter fun r => !r.old).map fun r => r.n * q.ew).foldl (· + ·) 0

/-- A read port issues its next read (R255, R256). -/
def State.portReadIssue (s : State) (p : Nat) : State :=
  let q := s.gport p
  let left := q.cnt - q.issued
  let room := (64 - (q.buf.length + q.inFly)) / q.ew
  if 4 ≤ p ∨ s.portsRun = false ∨ q.arm = false ∨ q.stopped ∨ left = 0 ∨ room = 0 ∨ s.portRoom p = false ∨
      (q.fly.any fun r => r.se && !r.old) then s
  else if q.addr q.issued % q.eb ≠ 0 then s.portMisal p
  else
    let a := q.addr q.issued
    let se := s.touchesSE a q.eb
    let key := trackKey (cellKey (if (portPlace p).2 = 3 then 0 else gcols s.grade - 1) (q.row p)) (portPlace p).2 0
    if se ∧ ¬(q.buf.isEmpty = true ∧ q.inFly = 0 ∧ (mapGet [] s.grv.tok key).length < 2) then s
    else
      let top := if q.contig then min (min (64 / q.eb) ((256 - a % 256) / q.eb)) (min left room) else 1
      let m := if se then 1 else s.portClear q q.issued top
      let ctx := s.actx
      let s := s.updPort p fun q => { q with
        issued := q.issued + m, fly := q.fly ++ [⟨ctx, q.issued, m, se, none, 0, none, false, []⟩] }
      s.weltRequest (portNi p) 0 0 q.cls a (m * q.eb) []

/-- Elements a write port may issue now (R257); a misaligned one counts as one, for the port to stop on it (R254). -/
def State.portWritable (s : State) (q : GPort) (flush : Bool) : Nat :=
  let e := q.buf.length / q.ew
  let a := q.addr q.issued
  if q.arm = false ∨ q.stopped ∨ e = 0 then 0
  else if a % q.eb ≠ 0 then 1
  else if s.touchesSE a q.eb then (if q.fly.isEmpty then 1 else 0)
  else if q.contig then
    let full := (64 - a % 64) / q.eb
    let top := min e full
    let m := s.portClear q q.issued top
    if m = full ∨ m = q.cnt - q.issued ∨ m < top ∨ flush then m else 0
  else 1

/-- A write port issues what it may, at most `n` writes. -/
def State.portDrain : Nat → State → Nat → Bool → State
  | 0, s, _, _ => s
  | n + 1, s, p, flush =>
    let q := s.gport p
    let m := s.portWritable q flush
    if m = 0 ∨ s.portRoom p = false ∨ s.portsRun = false then s
    else if q.addr q.issued % q.eb ≠ 0 then s.portMisal p
    else
      let ctx := s.actx
      let s' := s.updPort p fun q => { q with
        issued := q.issued + m, buf := q.buf.drop (m * q.ew),
        fly := q.fly ++ [⟨ctx, q.issued, m, s.touchesSE (q.addr q.issued) q.eb, none, 0, none, false, q.buf.take (m * q.ew)⟩] }
      (s'.weltRequest (portNi p) 0 2 q.cls (q.addr q.issued) (m * q.eb) (halfBytes (q.buf.take (m * q.ew)))).portDrain n p flush

/-- One array cycle of movement, then the writes the words taken complete (R250, R257). -/
def State.trackAdvance (s : State) : State :=
  if s.portsRun then [4, 5, 6, 7].foldl (fun s p => s.portDrain 16 p false) s.sweep else s

/-- 16 array cycles without a word, 24 of the line time base (R257). -/
def State.portMergeTimeout (s : State) (p : Nat) : State :=
  if p < 4 ∨ s.grvNow < (s.gport p).last + 48 then s else s.portDrain 1 p true

/-- Answered reads at the front move into the buffer in element order (R255). -/
def portSettle : List GReq → List Half × List GReq
  | [] => ([], [])
  | r :: t =>
    if r.old then ((portSettle t).1, r :: (portSettle t).2)
    else match r.data with
      | some d => (d ++ (portSettle t).1, (portSettle t).2)
      | none => ([], r :: t)

/-- A response to request number `i` of port `p` (R256, R258, R262). A read port that stops still delivers, in element order,
what lies before the elements of the error and their zeros; nothing behind them. -/
def State.portResponse (s : State) (p i sts : Nat) (dem late : Bool) (data : List Byte) : State :=
  let q := s.gport p
  match q.fly[i]? with
  | none => s
  | some r =>
    let gone (s : State) : State := s.updPort p fun q => { q with fly := q.fly.eraseIdx i }
    let flags (s : State) : State :=
      let s := if dem ∧ sts = 0 then s.sf (pgGCTX r.ctx) (gpStat p) 8 8 1 else s
      if late ∧ sts = 0 then s.sf (pgGCTX r.ctx) (gpStat p) 9 9 1 else s
    if r.data.isSome ∨ r.refused.isSome then s
    else if r.old then
      let s := flags (gone s)
      if r.se ∧ p < 4 then (s.sf (pgGCTX r.ctx) (gpStat p) 11 11 1).ev pgGRV 5 else s
    else if sts = 1 ∧ r.tries < 4 then
      s.updPort p fun q => { q with fly := q.fly.set i { r with refused := some s.grvNow } }
    else
      let d := if sts = 0 then halves (r.n * q.ew) data else List.replicate (r.n * q.ew) 0
      let s := flags s
      let s :=
        if p < 4 ∧ (q.stopped = false ∨ (q.fly.drop (i + 1)).any (fun x => x.data.isSome) = true) then s.updPort p fun q =>
          let fly := if sts = 0 then q.fly else q.fly.take (i + 1) ++ (q.fly.drop (i + 1)).filter fun x => x.data.isNone
          let f := portSettle (fly.set i { r with data := some d })
          { q with buf := q.buf ++ f.1, fly := f.2 }
        else gone s
      if sts = 0 ∨ q.stopped then s else s.portStop p r.ctx sts

/-- 64 array cycles after REFUSED, 96 of the line time base, the port issues the request again, unless it has stopped (R258). -/
def State.portRetry (s : State) (p i : Nat) : State :=
  let q := s.gport p
  match q.fly[i]? with
  | none => s
  | some r =>
    match r.refused with
    | none => s
    | some t =>
      if s.grvNow < t + 192 ∨ r.old ∨ q.stopped ∨ s.portsRun = false then s
      else
        let s := s.cntUp (pgGCTX r.ctx) (gpStat p) 23 16 1
        let s := s.updPort p fun q => { q with fly := q.fly.set i { r with refused := none, tries := r.tries + 1 } }
        s.weltRequest (portNi p) 0 (if p < 4 then 0 else 2) q.cls (q.addr r.first) (r.n * q.eb)
          (if p < 4 then [] else halfBytes r.wd)

/-! ### Firing (R247) -/

/-- A cell fires if it can. -/
def State.cellFire (s : State) (c r : Nat) : State :=
  let cell := cellKey c r
  let w := s.cellRec cell
  let op := recF w 127 122
  let srcs := opSrcs w
  let trk := (srcs.filter fun k => decide (k < 16)).eraseDups
  let has := trk.all fun k => !(mapGet [] s.grv.tok (cell * 16 + k)).isEmpty
  let forks := trk.all fun k => s.sinksRoom cell (s.trackSinks cell (k / 4) (k % 4))
  if s.portsRun = false ∨ gcols s.grade ≤ c ∨ 8 ≤ r ∨ s.isFused cell = true ∨ (opArity op).2 = false ∨ 0x1A ≤ op ∨ has = false ∨
      forks = false ∨ 2 ≤ (mapGet [] s.grv.out cell).length ∨ (mapGet [] s.grv.dup cell).isEmpty = false then s
  else
    let v (n : Nat) : Half := s.srcVal cell (srcs.getD n 25)
    let tile := s.tileOf cell
    let rd := Sparse.get (tileDefault s.grv.tileLost) s.grv.tile (tile * 8192 + (v 0).toNat % 8192)
    let f := fireOp w (v 0) (v 1) (v 2) (mapGet 0 s.grv.acc cell) (mapGet 0 s.grv.cnt cell) tile rd
    let s := trk.foldl (fun s k =>
      let t := mapGet [] s.grv.tok (cell * 16 + k)
      (s.updGrv fun g => { g with tok := mapPut [] (cell * 16 + k) t.tail g.tok }).sendTo cell
        (s.trackSinks cell (k / 4) (k % 4)) (t.headD 0)) s
    let s := s.updGrv fun g => { g with
      acc := mapPut 0 cell f.acc g.acc, cnt := mapPut 0 cell f.cnt g.cnt, ovf := satAdd 0xFFFF g.ovf f.ovf,
      tile := (match f.tw with | some e => Sparse.put (tileDefault g.tileLost) e.1 e.2 g.tile | none => g.tile),
      dup := (if op = 0x19 then mapPut [] cell (List.replicate (recF w 84 73) (v 0)) g.dup else g.dup) }
    match f.o with
    | some o => s.emit cell o
    | none => s

/-! ### Contexts (R259 to R266) -/

/-- Array cycles of the activation so far: one lasts 1.5 cycles of the line time base. -/
def State.actCyc (s : State) : Nat :=
  let run := match s.grv.since with | some t => (s.grvNow - t) / 3 | none => 0
  min (s.grv.cyc + run) 0xFFFFFF

/-- What the end of an activation does to the array: tokens, ports and counts (R262). -/
def State.endActivation (s : State) : State :=
  let ctx := s.actx
  let toks := (s.grv.tok.map fun e => e.2.length).foldl (· + ·) 0 + (s.grv.out.map fun e => e.2.length).foldl (· + ·) 0
  let s := s.sf pgGRV 0x050 15 0 (min toks 0xFFFF)
  let armed := s.grv.ports.any fun q => q.arm
  let s := if ctx < 8 ∧ armed ∧ s.f pgGRV 0x044 4 4 = 0 then s.ev pgGRV 3 else s
  let s := [4, 5, 6, 7].foldl (fun s p =>
    let n := (s.gport p).buf.length
    (s.cntUp (pgGCTX (ctx % 8)) (gpStat p) 31 24 (if ctx < 8 then n else 0)).cntUp pgGRV 0x050 31 16 n) s
  let c := s.actCyc
  let s := if ctx < 8 then s.w pgGRV 0x04C (BitVec.ofNat 32 c) else s
  s.updGrv fun g => { g with
    tok := [], out := [], acc := [], cnt := [], dup := [], trig := false, cyc := 0, since := none,
    ports := g.ports.map fun q => { GPort.zero with
      fly := (q.fly.filter fun r => r.data.isNone && r.refused.isNone).map fun r => { r with old := true } } }

/-- The port descriptors of context `n` as committed, for activation index `k` (R254, R262). -/
def State.loadPort (s : State) (n k p : Nat) (fly : List GReq) : GPort :=
  let pg := pgGCTX n
  let o := 0x20 * p
  let wrap := max 1 (s.af pg (0x06C + o) 27 16)
  let base := (BitVec.ofInt 32 (((s.a pg (0x060 + o)).toNat : Int) + ((k % wrap : Nat) : Int) * sgn 24 (s.af pg (0x068 + o) 23 0))).toNat
  { GPort.zero with
    base := base, stride := BitVec.ofNat 16 (s.af pg (0x064 + o) 31 16), cnt := s.af pg (0x064 + o) 15 0,
    w32 := s.af pg (0x06C + o) 1 1 == 1, layout := s.af pg (0x06C + o) 2 2 == 1, cls := s.af pg (0x06C + o) 5 4,
    arm := s.af pg (0x06C + o) 0 0 == 1, fly := fly, last := s.grvNow }

/-- Initial RF values of a context. -/
def rfInit (c : GCtx) : List (Nat × Half) :=
  (c.rfi.flatMap fun e => (List.range 8).map fun i => (e.1 * 8 + i, e.2.extractLsb' (16 * i) 16)).filter fun e => !(e.2 == 0)

/-- The switch cycle (R260, R262). -/
def State.doSwitch (s : State) (n cause : Nat) : State :=
  let src := s.actx
  let ovf := s.grv.ovf
  let s := s.endActivation
  let s := s.w pgGRV 0x05C (BitVec.ofNat 32 (src + n <<< 4 + cause <<< 8 + ovf <<< 16))
  let k := s.f (pgGCTX n) 0x04C 11 0
  let s := s.sf (pgGCTX n) 0x04C 11 0 (k + 1)
  let s := (s.sf (pgGCTX n) 0x040 1 1 0).sf (pgGCTX n) 0x040 15 8 (s.f (pgGCTX n) 0x040 15 8 + 1)
  let s := (List.range 8).foldl (fun s p => s.w (pgGCTX n) (gpStat p) 0) s
  let c := s.grv.store.getD n GCtx.zero
  let ports := (List.range 8).map fun p => s.loadPort n k p (s.gport p).fly
  let prime := (c.cells.filter fun e => recF e.2 68 68 == 1 && !s.isFused e.1).map fun e => (e.1, [BitVec.ofNat 16 (recF e.2 106 91)])
  let s := s.updGrv fun g => { g with
    act := c, rf := rfInit c, ports := ports, out := prime, ovf := 0, trig := false, since := some s.grvNow }
  let s := s.w pgGRV 0x044 (setFldOf (setFldOf (setFldOf (s.r pgGRV 0x044) 3 0 n) 4 4 0) 5 5 0)
  let s := s.w pgGRV 0x054 (s.r pgGRV 0x054 + 1)
  s.ev pgGRV 0

/-- The reason a switch into `n` for tenant `t` is refused (R261). -/
def State.switchReason (s : State) (t n : Nat) : Option Nat :=
  let own := s.ctxHolder n
  if t ≠ own then some 1
  else if s.f (pgGCTX n) 0x040 0 0 = 0 then some 2
  else if s.owner (pgGCTX n) ≠ own then some 3
  else if (List.range 4).any fun m => ((s.grv.store.getD n GCtx.zero).tiles >>> m) % 2 == 1 &&
      !decide (s.f pgGRV 0x058 (4 * m + 3) (4 * m) = own) then some 4
  else if s.arrayOn = false then some 5
  else none

/-- A trigger for context `n` by tenant `t` (R260, R261); `lost` tells that a trigger of lower rank came in its cycle. A queue
trigger that DONE has asked for and that has not come yet is taken to come in the cycle of a line event or software trigger:
it loses and is dropped (DESIGN CHOICE, log entry 107). -/
def State.trigger (s : State) (t n cause : Nat) (lost : Bool) : State :=
  let s := if lost ∨ s.grv.trig = true then s.sf pgGRV 0x044 6 6 1 else s
  let s := s.updGrv fun g => { g with trig := false }
  match s.switchReason t n with
  | none => s.doSwitch n cause
  | some r =>
    let s := if r = 1 then s.violation 3 t 17 n 0 true else s
    let last := s.f pgGRV 0x05C 31 16
    let s := s.w pgGRV 0x05C (BitVec.ofNat 32 (s.actx + n <<< 4 + cause <<< 8 + r <<< 12 + last <<< 16))
    (s.ev pgGRV 6).err pgGRV 0x1410 (s.actx + n <<< 4 + cause <<< 8 + r <<< 12)

/-- A GRV_CTX line event of LET entry `e` (R260). -/
def State.ctxSwitchEvent (s : State) (e n : Nat) (lost : Bool) : State :=
  let s := s.evArrive 2 0 (n % 8)
  if s.arrayOn then s.trigger (s.letOwner e) (n % 8) 1 lost else s

/-- The queue trigger after DONE (R260, R264). -/
def State.queueTrigger (s : State) : State :=
  let c := s.actx
  if 8 ≤ c ∨ s.f pgGRV 0x044 4 4 = 0 ∨ s.grv.trig = false then s
  else
    let s := s.updGrv fun g => { g with trig := false }
    s.trigger (s.ctxHolder c) (s.f (pgGCTX c) 0x048 2 0) 3 false

/-- GRV_CTRL.IDLE (R260, R267). -/
def State.grvIdle (s : State) : State :=
  if 8 ≤ s.actx then s
  else
    let s := s.endActivation
    let s := s.updGrv fun g => { g with act := GCtx.zero, rf := [], ovf := 0 }
    s.w pgGRV 0x044 (setFldOf (setFldOf (setFldOf (s.r pgGRV 0x044) 3 0 8) 4 4 0) 5 5 0)

/-- GRV_CTRL (R267), the bits in their order. -/
def State.grvCtrl (s : State) (t : Nat) (v : Word) : State :=
  let s := if v.getLsbD 0 then s.grvIdle else s
  let s := if v.getLsbD 1 then ((s.w pgGRV 0x050 0).w pgGRV 0x054 0).sf pgGRV 0x044 6 6 0 else s
  if v.getLsbD 4 then s.trigger t (fldOf v 10 8) 2 false else s

/-- Whether a port has finished its activation (R264). -/
def GPort.finished (q : GPort) (p : Nat) : Bool :=
  !q.stopped && decide (q.cnt * q.ew ≤ q.moved) &&
    (decide (p < 4) || (q.buf.isEmpty && decide (q.issued = q.cnt) && !q.fly.any fun r => !r.old))

/-- DONE (R264). -/
def State.activationDone (s : State) : State :=
  let armed := (List.range 8).filter fun p => (s.gport p).arm
  if s.portsRun = false ∨ s.f pgGRV 0x044 4 4 = 1 ∨ armed.isEmpty = true ∨ (armed.all fun p => (s.gport p).finished p) = false then s
  else ((s.updGrv fun g => { g with trig := decide (s.f (pgGCTX s.actx) 0x048 3 3 = 1) }).sf pgGRV 0x044 4 4 1).ev pgGRV 1

/-- The watchdog of the activation (R265). -/
def State.activationWatchdog (s : State) : State :=
  let c := s.actx
  let lim := s.f (pgGCTX (c % 8)) 0x044 23 0
  if s.portsRun = false ∨ s.f pgGRV 0x044 4 4 = 1 ∨ lim = 0 ∨ s.actCyc < lim then s
  else
    let s := [4, 5, 6, 7].foldl (fun s p =>
      let n := (s.gport p).buf.length
      let s := (s.cntUp (pgGCTX c) (gpStat p) 31 24 n).cntUp pgGRV 0x050 31 16 n
      s.updPort p fun q => { q with buf := [] }) s
    ((s.sf pgGRV 0x044 5 5 1).ev pgGRV 2).err pgGRV 0x3411 c

/-- The frame boundary: GC_ACTIDX returns to 0 where FRST is set (R260). -/
def State.grvFrame (s : State) : State :=
  (List.range 8).foldl (fun s n => if s.f (pgGCTX n) 0x048 8 8 = 1 then s.sf (pgGCTX n) 0x04C 11 0 0 else s) s

/-- The ARRAY domain leaves Run or returns to it: the activation's cycles pause (R266). -/
def State.grvPause (s : State) : State :=
  let c := s.actCyc
  s.updGrv fun g => { g with cyc := c, since := none }

def State.grvResume (s : State) : State := if s.actx < 8 then s.updGrv fun g => { g with since := some s.grvNow } else s

/-- The ARRAY domain leaves Off: no context is valid, the array is idle, the tiles are lost (R251, R266). -/
def State.grvFromOff (s : State) : State :=
  let s := (List.range 8).foldl (fun s n => s.sf (pgGCTX n) 0x040 0 0 0) s
  let s := s.sf pgGRV 0x044 3 0 8
  s.updGrv fun g => { Grv.zero with store := g.store, tileLost := g.tileLost + 1, ports := g.ports.map fun q => { GPort.zero with
      fly := (q.fly.filter fun r => r.data.isNone && r.refused.isNone).map fun r => { r with old := true } } }

/-! ### Pages (R267, R268) -/

def State.grvWrite (s : State) (t o : Nat) (v : Word) : State := if o = 0x040 then s.grvCtrl t v else s.plain pgGRV o v

def State.grvRead (s : State) (o : Nat) : Word :=
  if o = 0x044 then
    setFldOf (s.r pgGRV 0x044) 7 7
      (b2n (s.grv.ports.any fun q => q.fly.any fun r => !r.old && r.data.isNone && r.refused.isNone))
  else if o = 0x048 then
    BitVec.ofNat 32 ((match s.fused with | some c => 2 ^ c | none => 0) + (b2n s.fused.isSome) <<< 16 + s.usableCols <<< 24)
  else if o = 0x04C then (if s.actx < 8 then BitVec.ofNat 32 s.actCyc else s.r pgGRV o)
  else s.r pgGRV o

def State.gctxWrite (s : State) (n o : Nat) (v : Word) : State :=
  if o = 0x04C then (if v.getLsbD 31 then s.sf (pgGCTX n) 0x04C 11 0 0 else s) else s.plain (pgGCTX n) o v

/-- GC_PpSTAT shows the words buffered of the running activation. -/
def State.gctxRead (s : State) (n o : Nat) : Word :=
  if 0x070 ≤ o ∧ (o - 0x070) % 0x20 = 0 ∧ o < 0x170 then
    setFldOf (s.r (pgGCTX n) o) 6 0 (if s.actx = n then (s.gport ((o - 0x070) / 0x20)).buf.length else 0)
  else s.r (pgGCTX n) o

end Sys2Proof.Machine
end

