-- ==== Sys2Proof/Machine/Loader.lean ====
section
/-! DEFINITION. Machine/Loader.lean: Last images and the Array Loader (11). -/

namespace Sys2Proof.Machine

/-! ### Reading an image (R269, R270) -/

abbrev Img := List Byte

def ib (m : Img) (i : Nat) : Nat := ((m.getD i 0)).toNat
def i16 (m : Img) (i : Nat) : Nat := ib m i + 256 * ib m (i + 1)
def i32 (m : Img) (i : Nat) : Nat := i16 m i + 65536 * i16 m (i + 2)

/-- An entry of the section table. -/
structure LSec where
  typ : Nat
  f : Nat
  part : Nat
  rsv : Nat
  ofs : Nat
  len : Nat
  crc : Nat
  deriving DecidableEq, Repr

def lsecAt (m : Img) (k : Nat) : LSec :=
  let o := 0x20 + 16 * k
  ⟨ib m o, ib m (o + 1), ib m (o + 2), ib m (o + 3), i32 m (o + 4), i32 m (o + 8), i32 m (o + 12)⟩

def lsecs (m : Img) : List LSec := (List.range (i16 m 0x0C)).map (lsecAt m)

def LSec.bytes (x : LSec) (m : Img) : List Byte := (m.drop x.ofs).take x.len

/-- The section of a type for a configuration, and its number. -/
def findSec (m : Img) (typ f part : Nat) : Option (Nat × LSec) :=
  (((List.range (i16 m 0x0C)).zip (lsecs m)).find? fun e => e.2.typ == typ && e.2.f == f && e.2.part == part)

/-- Bytes of a section, or none. -/
def secBytes (m : Img) (typ f part : Nat) : List Byte := ((findSec m typ f part).map fun e => e.2.bytes m).getD []

def foldable (m : Img) : Bool := ib m 6 % 2 == 1
def mirrorOk (m : Img) : Bool := ib m 6 / 2 % 2 == 1
def translateOk (m : Img) : Bool := ib m 6 / 4 % 2 == 1

/-- The variants present. -/
def variants (m : Img) : List Nat := [1, 2, 3, 4].filter fun f => (lsecs m).any fun x => x.f == f

/-- The configurations present. -/
def configs (m : Img) : List (Nat × Nat) := (variants m).flatMap fun f => (List.range f).map fun j => (f, j)

/-! ### A configuration in virtual terms (R272 to R274) -/

structure LCfg where
  wv : Nat
  hv : Nat
  vt : Nat
  ports : Nat
  cells : List (BitVec 128)
  sw : List (BitVec 64)
  rfi : List (BitVec 128)
  net : List (Nat × Nat × Nat × Nat)
  port : List (List Byte)
  deriving DecidableEq, Repr

/-- `n` records of `w` bytes. -/
def chunks : Nat → Nat → List Byte → List (List Byte)
  | 0, _, _ => []
  | n + 1, w, b => b.take w :: chunks n w (b.drop w)

def lcfg (m : Img) (f j : Nat) : LCfg :=
  let g := secBytes m 2 f j
  let n := ib g 0 * ib g 1
  let net := secBytes m 6 f j
  { wv := ib g 0, hv := ib g 1, vt := ib g 2, ports := ib g 3,
    cells := (chunks n 16 (secBytes m 3 f j)).map fun b => BitVec.ofNat 128 (leNat b),
    sw := (chunks n 8 (secBytes m 4 f j)).map fun b => BitVec.ofNat 64 (leNat b),
    rfi := (chunks n 16 (secBytes m 5 f j)).map fun b => BitVec.ofNat 128 (leNat b),
    net := (chunks (net.length / 4) 4 net).map fun b => (ib b 0, ib b 1, ib b 2, ib b 3),
    port := chunks 8 20 (secBytes m 7 f j) }

/-- A refusal: reason, item and section. -/
structure LRef where
  reason : Nat
  info : Nat
  sec : Nat
  f : Nat
  part : Nat
  deriving DecidableEq, Repr

def lref (reason info : Nat) : Option LRef := some ⟨reason, info, 0, 0, 0⟩
def lrefSec (reason sec : Nat) : Option LRef := some ⟨reason, sec, sec, 0, 0⟩

/-- First of the checks that refuses. -/
def firstRef (l : List (Option LRef)) : Option LRef := (l.filterMap id).head?

/-- Reason 1: the header and the table (R269). -/
def headRef (m : Img) (len : Nat) : Option LRef :=
  let n := i16 m 0x0C
  let rsv := ((List.range 12).map (· + 0x14)).find? fun i => decide (ib m i ≠ 0)
  if i32 m 0 ≠ 0x5453414C then lref 1 0
  else if i16 m 4 ≠ 0x0100 ∨ 16 ≤ i16 m 6 then lref 1 1
  else if i32 m 8 ≠ len then lref 1 2
  else if n = 0 ∨ 64 < n ∨ len < 0x20 + 16 * n then lref 1 3
  else if rsv.isSome then lref 1 (rsv.getD 0 / 4)
  else match ((List.range n).find? fun k =>
      let x := lsecAt m k
      decide (x.rsv ≠ 0) || decide (x.ofs % 4 ≠ 0) || decide (len < x.ofs + x.len)) with
    | some k => lref 1 ((0x20 + 16 * k) / 4)
    | none => none

/-- Reason 2: a section CRC. -/
def crcRef (m : Img) : Option LRef :=
  match (((List.range (i16 m 0x0C)).zip (lsecs m)).find? fun e => decide (crc32 (e.2.bytes m) ≠ e.2.crc)) with
  | some e => lrefSec 2 e.1
  | none => none

/-- Reason 4: stepping and grade; the model is of stepping B0. -/
def gradeRef (g : Grade) (m : Img) : Option LRef :=
  if 0xB0 < ib m 0x0E ∨ (ib m 0x0F / (if g = .zm816 then 1 else 2)) % 2 = 0 then lref 4 0 else none

/-- Whether an entry names a section a Last image may hold. -/
def secKnown (m : Img) (x : LSec) : Bool :=
  if x.typ = 1 ∨ x.typ = 8 ∨ x.typ = 0x0F then x.f == 0 && x.part == 0
  else decide (2 ≤ x.typ) && decide (x.typ ≤ 9) && decide (1 ≤ x.f) && decide (x.f ≤ 4) && decide (x.part < x.f) &&
    (x.f == 1 || foldable m)

/-- Reason 5: the sections present (R270, R271). SIG is last where no other section has a byte at or above its offset
(DEDUCED, log entry 108). -/
def shapeRef (m : Img) : Option LRef :=
  let es := (List.range (i16 m 0x0C)).zip (lsecs m)
  let unknown := es.find? fun e => !secKnown m e.2
  let dup := es.find? fun e => es.any fun d => decide (d.1 < e.1) && d.2.typ == e.2.typ && d.2.f == e.2.f && d.2.part == e.2.part
  let sigBad := es.find? fun e => e.2.typ == 0x0F &&
    es.any fun d => d.1 != e.1 && d.2.len != 0 && decide (e.2.ofs < d.2.ofs + d.2.len)
  let missing := [(1, 0, 0), (8, 0, 0)] ++ ((1, 0) :: configs m).flatMap fun fj => [2, 3, 4, 5, 6, 7].map fun t => (t, fj.1, fj.2)
  let miss := missing.any fun t => (findSec m t.1 t.2.1 t.2.2).isNone
  let res := secBytes m 1 0 0
  if unknown.isSome then lrefSec 5 ((unknown.map (·.1)).getD 0)
  else if dup.isSome then lrefSec 5 ((dup.map (·.1)).getD 0)
  else if sigBad.isSome then lrefSec 5 ((sigBad.map (·.1)).getD 0)
  else if miss then lrefSec 5 es.length
  else if res.length ≠ 8 ∨ (res.drop 3).any (fun b => b != 0) = true ∨ ib res 2 ≠ (variants m).foldl max 0 then
    lrefSec 5 (((findSec m 1 0 0).map (·.1)).getD 0)
  else none

/-- Reason 6: sizes of the per-configuration sections (R272). -/
def sizeRef (m : Img) (f j : Nat) : Option LRef :=
  let g := secBytes m 2 f j
  let n := ib g 0 * ib g 1
  let bad (t w : Nat) : Option LRef :=
    if (secBytes m t f j).length ≠ w then lrefSec 6 (((findSec m t f j).map (·.1)).getD 0) else none
  firstRef [
    if g.length ≠ 4 ∨ ib g 0 = 0 ∨ 16 < ib g 0 ∨ ib g 1 = 0 ∨ 16 < ib g 1 then lrefSec 6 (((findSec m 2 f j).map (·.1)).getD 0) else none,
    bad 3 (16 * n), bad 4 (8 * n), bad 5 (16 * n), bad 7 160,
    if (secBytes m 6 f j).length % 4 ≠ 0 then lrefSec 6 (((findSec m 6 f j).map (·.1)).getD 0) else none,
    if (secBytes m 9 f j).length % 12 ≠ 0 then lrefSec 6 (((findSec m 9 f j).map (·.1)).getD 0) else none]

/-- Virtual column and row of record `n`, and the item number of a cell. -/
def LCfg.col (c : LCfg) (n : Nat) : Nat := n % c.wv
def LCfg.row (c : LCfg) (n : Nat) : Nat := n / c.wv
def LCfg.item (c : LCfg) (n : Nat) : Nat := 16 * c.row n + c.col n

def LCfg.cell (c : LCfg) (n : Nat) : BitVec 128 := c.cells.getD n 0
def LCfg.swAt (c : LCfg) (n : Nat) : BitVec 64 := c.sw.getD n 0

/-- The codes of the 16 outgoing tracks. -/
def codesOf (w : BitVec 64) : List (Nat × Nat × Nat) := (List.range 16).map fun k => (k / 4, k % 4, swCode w (k / 4) (k % 4))

/-- Reason 7: reserved values of a cell or box record. -/
def recBad (w : BitVec 128) (b : BitVec 64) : Bool :=
  decide (0x1A ≤ recF w 127 122) || (opSrcs w).any (fun s => decide (26 ≤ s)) || decide (20 < recF w 90 86) ||
    decide (recF w 67 0 ≠ 0) || (codesOf b).any fun t => decide (14 ≤ t.2.2)

/-- Reason 8: a U-turn. -/
def uturn (b : BitVec 64) : Bool :=
  (codesOf b).any fun t => match codeTrack t.2.2 t.2.1 with | some x => x.1 == t.1 | none => false

/-- Incoming tracks of cell `n` that an operand or a switch code names. -/
def LCfg.named (c : LCfg) (n : Nat) : List (Nat × Nat) :=
  ((opSrcs (c.cell n)).filter fun s => decide (s < 16)).map (fun s => (s / 4, s % 4)) ++
    (codesOf (c.swAt n)).filterMap fun t => codeTrack t.2.2 t.2.1

/-- Outgoing tracks of cell `n` that a code drives. -/
def LCfg.driven (c : LCfg) (n : Nat) : List (Nat × Nat) :=
  (codesOf (c.swAt n)).filterMap fun t => if t.2.2 = 0 then none else some (t.1, t.2.1)

/-- Whether side `x` of cell `n` is the boundary of the virtual grid. -/
def LCfg.atEdge (c : LCfg) (n x : Nat) : Bool :=
  if x = 0 then c.row n == 0 else if x = 1 then c.col n + 1 == c.wv else if x = 2 then c.row n + 1 == c.hv else c.col n == 0

/-- The neighbour of cell `n` on side `x`. -/
def LCfg.nbr (c : LCfg) (n x : Nat) : Nat := if x = 0 then n - c.wv else if x = 1 then n + 1 else if x = 2 then n + c.wv else n - 1

def LCfg.mode (c : LCfg) (p : Nat) : Nat := ib (c.port.getD p []) 0

/-- Whether port `p` attaches at edge `x` and row `r` on track 0, reading in or writing out: each port attaches to two rows
(R253). -/
def portAt (p x r : Nat) (inward : Bool) : Bool :=
  decide (p < 8) && (portPlace p).2 == x && (r == (portPlace p).1 || r == (portPlace p).1 + 1) && decide (p < 4) == inward

def LCfg.netFor (c : LCfg) (x r t : Nat) (inward : Bool) : Bool :=
  t == 0 && c.net.any fun e => e.1 == x && e.2.1 == r && e.2.2.1 == 0 && portAt e.2.2.2 x r inward

/-- The ports a configuration uses: those GRID names and those a NET entry names (R271). -/
def LCfg.usedPorts (c : LCfg) : List Nat :=
  (List.range 8).filter fun p => c.ports / 2 ^ p % 2 == 1 || c.net.any fun e => e.2.2.2 == p

/-- Whether record `n` is a TRD or TWR cell. -/
def LCfg.tileCell (c : LCfg) (n : Nat) : Bool := recF (c.cell n) 127 122 == 0x16 || recF (c.cell n) 127 122 == 0x17

/-- The virtual cell LD_INFO names where a configuration names tile `t` wrongly: the first TRD or TWR cell along its edge. -/
def LCfg.tileItem (c : LCfg) (t : Nat) : Nat :=
  (((List.range (c.wv * c.hv)).find? fun n => c.tileCell n && c.row n == (if t < 2 then 0 else 7)).map c.item).getD 0

/-- Used boundary tracks of a cell: side, track, whether inward. -/
def LCfg.edgeUse (c : LCfg) (n : Nat) : List (Nat × Nat × Bool) :=
  ((c.named n).filter fun e => c.atEdge n e.1).map (fun e => (e.1, e.2, true)) ++
    ((c.driven n).filter fun e => c.atEdge n e.1).map fun e => (e.1, e.2, false)

/-- Reasons 7 to 11 of a configuration, cell by cell (R287). -/
def cellRef (c : LCfg) : Option LRef :=
  let ns := List.range (c.wv * c.hv)
  let at_ (reason : Nat) (p : Nat → Bool) : Option LRef :=
    match ns.find? p with | some n => lref reason (c.item n) | none => none
  firstRef [
    at_ 7 fun n => recBad (c.cell n) (c.swAt n),
    at_ 8 fun n => uturn (c.swAt n),
    at_ 9 fun n => (c.edgeUse n).any fun e => e.1 == 0 || e.1 == 2 || !c.netFor e.1 (c.row n) e.2.1 e.2.2,
    (match c.net.find? fun e =>
        let n := e.2.1 * c.wv + (if e.1 = 1 then c.wv - 1 else 0)
        !((e.1 == 1 || e.1 == 3) && decide (e.2.1 < c.hv) && (c.edgeUse n).any fun u => u.1 == e.1 && u.2.1 == e.2.2.1) with
      | some e => lref 9 (16 * e.2.1 + (if e.1 = 1 then c.wv - 1 else 0))
      | none => none),
    at_ 10 fun n => (c.named n).any fun e => !c.atEdge n e.1 && !(c.driven (c.nbr n e.1)).contains ((e.1 + 2) % 4, e.2),
    at_ 11 fun n => c.tileCell n &&
      !((c.row n == 0 && c.vt % 4 != 0) || (c.row n == 7 && c.vt / 4 % 4 != 0))]

/-- Reason 15: a port descriptor, or a port the configuration uses and RES does not declare (R271, R274; log entry 108). -/
def portRef (m : Img) (base : Nat → Nat) (c : LCfg) : Option LRef :=
  let res := ib (secBytes m 1 0 0) 1
  match (List.range 8).find? fun p =>
      let d := c.port.getD p []
      let md := ib d 0
      let eb := if md / 2 % 2 = 1 then 4 else 2
      let arm := md % 2 == 1
      md / 16 % 4 == 3 || decide (3 < ib d 1) || md / 8 % 2 == 1 || decide (64 ≤ md) || decide (4096 ≤ i16 d 2) ||
        (arm && i16 d 10 == 0) || (d.drop 16).any (fun b => b != 0) ||
        ib d 15 != (if 128 ≤ ib d 14 then 255 else 0) ||
        (arm && c.ports / 2 ^ p % 2 == 0) || (base (ib d 1) + i32 d 4) % eb != 0 || i16 d 8 % eb != 0 || i32 d 12 % eb != 0 with
  | some p => lref 15 p
  | none =>
    match c.usedPorts.find? fun p => res / 2 ^ p % 2 == 0 with
    | some p => lref 15 p
    | none => none

/-- The worst-case cycles of a configuration in SCHED (R275). -/
def schedC (m : Img) (f j : Nat) : Nat :=
  let s := secBytes m 8 0 0
  match (chunks ((s.length - 8) / 8) 8 (s.drop 8)).find? fun r => ib r 0 == f && ib r 1 == j with
  | some r => i32 r 4
  | none => 0

/-- Reason 16 as far as the image alone tells. -/
def schedRef (m : Img) : Option LRef :=
  let s := secBytes m 8 0 0
  if s.length < 8 ∨ s.length % 8 ≠ 0 ∨ 4 < ib s 4 ∨ 2 ^ ib s 4 ≤ ib s 5 ∨ 1 < ib s 6 ∨ ib s 7 ≠ 0 then lref 16 0
  else match (configs m).find? fun fj => schedC m fj.1 fj.2 == 0 || decide (2 ^ 24 ≤ schedC m fj.1 fj.2) with
    | some fj => some ⟨16, fj.2, 0, fj.1, fj.2⟩
    | none => none

/-- The entries of a DEAD section. -/
def deads (m : Img) (f j : Nat) : List (List Byte) := chunks ((secBytes m 9 f j).length / 12) 12 (secBytes m 9 f j)

/-- Reason 17 as far as the image alone tells (R276). -/
def deadRef (m : Img) (f j : Nat) : Option LRef :=
  let c := lcfg m f j
  let ds := deads m f j
  match (List.range ds.length).find? fun k =>
      let d := ds.getD k []
      decide (1 < ib d 0) || (ib d 0 == 1 && (decide (8 ≤ ib d 1) || c.mode (ib d 1) % 2 == 0)) with
  | some k => lref 17 k
  | none => none

/-- Reason 11: tiles a configuration names beyond RES (R271). -/
def tileRef (m : Img) (c : LCfg) : Option LRef :=
  match (List.range 8).find? fun k => c.vt / 2 ^ k % 2 == 1 && ib (secBytes m 1 0 0) 0 / 2 ^ k % 2 == 0 with
  | some k => lref 11 (c.tileItem k)
  | none => none

def tagCfg (f j : Nat) (r : Option LRef) : Option LRef := r.map fun x => { x with f := f, part := j }

/-- The refusal phase 1 gives an image, if any. -/
def State.imageRef (s : State) (m : Img) : Option LRef :=
  let len := s.f pgALD 0x04C 17 0
  match headRef m len with
  | some r => some r
  | none =>
    match firstRef [crcRef m, gradeRef s.grade m, shapeRef m] with
    | some r => some r
    | none =>
      firstRef ((configs m).flatMap (fun fj =>
        let c := lcfg m fj.1 fj.2
        [tagCfg fj.1 fj.2 (sizeRef m fj.1 fj.2), tagCfg fj.1 fj.2 (cellRef c), tagCfg fj.1 fj.2 (tileRef m c),
         tagCfg fj.1 fj.2 (portRef m (fun b => (s.r pgALD (0x060 + 4 * b)).toNat) c)]) ++
        [schedRef m] ++ (configs m).map fun fj => tagCfg fj.1 fj.2 (deadRef m fj.1 fj.2))

/-! ### Placement (R278 to R280) -/

/-- The usable physical columns from the west. -/
def State.ucols (s : State) : List Nat := (List.range (gcols s.grade)).filter fun c => !(s.fused == some c)

/-- The physical column of virtual column `c`. -/
def placeCol (u : List Nat) (x : Nat) (mir : Bool) (c : Nat) : Nat := if mir then u.getD (u.length - 1 - x - c) 0 else u.getD (x + c) 0

/-- The physical tile of a virtual tile, and the port of a virtual port (R279). -/
def mapTile (mir : Bool) (t : Nat) : Nat := if mir then (if t % 2 = 0 then t + 1 else t - 1) else t
def mapPort (mir : Bool) (p : Nat) : Nat :=
  if mir then (if p = 0 then 2 else if p = 2 then 0 else if p = 1 then 3 else if p = 3 then 1
    else if p = 4 then 6 else if p = 6 then 4 else if p = 5 then 7 else 5) else p

def mapTiles (mir : Bool) (m : Nat) : Nat := ((List.range 4).filter fun t => m / 2 ^ t % 2 == 1).foldl (fun a t => a + 2 ^ mapTile mir t) 0

/-- Whether the grid fits and the edges of the ports used allow a placement (R278). -/
def placeFits (u : List Nat) (c : LCfg) (x : Nat) (mir : Bool) : Bool :=
  let pc := placeCol u x mir
  decide (c.hv ≤ 8) && decide (c.wv ≤ u.length) && decide (x + c.wv ≤ u.length) &&
    c.usedPorts.all fun p =>
      let west := (portPlace (mapPort mir p)).2 == 3
      let lo := min (pc 0) (pc (c.wv - 1))
      let hi := max (pc 0) (pc (c.wv - 1))
      if west then lo == u.getD 0 0 else hi == u.getD (u.length - 1) 0

/-- The first TRD or TWR record that lands in the half of a tile outside the configuration's mapped tile mask (R279). -/
def tileMiss (g : Grade) (u : List Nat) (c : LCfg) (x : Nat) (mir : Bool) : Option Nat :=
  let pc := placeCol u x mir
  (List.range (c.wv * c.hv)).find? fun n => c.tileCell n &&
    (let t := (if c.row n = 0 then 0 else 2) + (if pc (c.col n) < gcols g / 2 then 0 else 1)
     (mapTiles mir c.vt) / 2 ^ t % 2 == 0)

/-- Whether a placement passes the checks of R278 and, but for the tiles' owner, R279. -/
def placeOk (g : Grade) (u : List Nat) (c : LCfg) (x : Nat) (mir : Bool) : Bool :=
  placeFits u c x mir && (tileMiss g u c x mir).isNone

/-- Whether the load tenant owns every tile of a placed configuration (R252). -/
def State.tilesOwned (s : State) (t mask : Nat) : Bool :=
  (List.range 4).all fun m => mask / 2 ^ m % 2 == 0 || s.f pgGRV 0x058 (4 * m + 3) (4 * m) == t

/-- The placements the loader tries, in their order (R280). -/
def State.tries (s : State) (m : Img) (c : LCfg) : List (Nat × Bool) :=
  let u := s.ucols
  if s.f pgALD 0x054 8 8 = 1 then
    let xs := (List.range (u.length + 1 - c.wv)).filter fun x => x == 0 || translateOk m
    xs.map (fun x => (x, false)) ++ (if mirrorOk m then xs.map (fun x => (x, true)) else [])
  else
    let x := s.f pgALD 0x054 3 0
    let mir := s.f pgALD 0x054 4 4 == 1
    if (mir && !mirrorOk m) ∨ (decide (x ≠ 0) && !translateOk m) then [] else [(x, mir)]

/-- The placement of one configuration: the first that passes; else whether one failed by its tiles' owner only. -/
def State.place (s : State) (m : Img) (t : Nat) (c : LCfg) : Option (Nat × Bool) × Bool :=
  let ok := (s.tries m c).filter fun e => placeOk s.grade s.ucols c e.1 e.2
  (ok.find? fun e => s.tilesOwned t (mapTiles e.2 c.vt), !ok.isEmpty)

/-- The virtual cell of a TRD or TWR that keeps a configuration from being placed: some placement tried fits but for it. -/
def State.placeMiss (s : State) (m : Img) (c : LCfg) : Option Nat :=
  let fit := (s.tries m c).filter fun e => placeFits s.ucols c e.1 e.2
  if fit.any fun e => placeOk s.grade s.ucols c e.1 e.2 then none
  else fit.head?.bind fun e => (tileMiss s.grade s.ucols c e.1 e.2).map c.item

/-- A cell record and a box word as the mirror rewrites them (R279). -/
def mirSrc (s : Nat) : Nat := if 4 ≤ s ∧ s < 8 then s + 8 else if 12 ≤ s ∧ s < 16 then s - 8 else s
def mirCell (w : BitVec 128) : BitVec 128 :=
  let f (lo : Nat) : Nat := mirSrc (recF w (lo + 4) lo) <<< lo
  let m : Nat := (2 ^ 15 - 1) <<< 107
  BitVec.ofNat 128 (w.toNat - (w.toNat &&& m) + f 117 + f 112 + f 107)
def mirCode (c : Nat) : Nat :=
  if c = 3 then 5 else if c = 5 then 3 else if c = 7 then 9 else if c = 9 then 7 else if c = 11 then 13 else if c = 13 then 11 else c
def mirSw (w : BitVec 64) : BitVec 64 :=
  BitVec.ofNat 64 (((List.range 16).map fun k =>
    let d := if k / 4 = 1 then 3 else if k / 4 = 3 then 1 else k / 4
    mirCode (swCode w d (k % 4)) <<< (4 * k)).foldl (· + ·) 0)

/-- The configuration as the store will hold it, with the image's flags (R278, R279; 10 R259). -/
def State.placed (s : State) (m : Img) (c : LCfg) (x : Nat) (mir : Bool) : GCtx :=
  let u := s.ucols
  let key (n : Nat) : Nat := cellKey (placeCol u x mir (c.col n)) (c.row n)
  let ns := List.range (c.wv * c.hv)
  let build {w : Nat} (f : Nat → BitVec w) : List (Nat × BitVec w) :=
    ns.foldl (fun m n => mapPut 0 (key n) (f n) m) []
  { cells := build fun n => if mir then mirCell (c.cell n) else c.cell n,
    sw := build fun n => if mir then mirSw (c.swAt n) else c.swAt n,
    rfi := build fun n => c.rfi.getD n 0,
    tiles := mapTiles mir c.vt, flags := i16 m 6 }

/-- The port registers of a placed configuration, in physical port order (R274, R279). -/
def State.placedPorts (s : State) (c : LCfg) (mir : Bool) : List (Word × Word × Word × Word) :=
  (List.range 8).map fun p =>
    let d := c.port.getD (mapPort mir p) []
    (BitVec.ofNat 32 ((s.r pgALD (0x060 + 4 * ib d 1)).toNat + i32 d 4), BitVec.ofNat 32 (i16 d 8 * 65536 + i16 d 10),
     BitVec.ofNat 32 (i32 d 12 % 2 ^ 24), BitVec.ofNat 32 (ib d 0 + i16 d 2 * 65536))

/-! ### Claims (R282, R283) -/

/-- The cycles part `j` is charged. -/
def charged (m : Img) (f j : Nat) : Nat := schedC m f j + (if j = 0 then 0 else 4)

/-- Lines of each part of variant `f` in a window of `w` lines. -/
def partLines (m : Img) (f w : Nat) : List Nat :=
  let t := ((List.range f).map (charged m f)).foldl (· + ·) 0
  let head := (List.range (f - 1)).map fun j => w * charged m f j / t
  head ++ [w - head.foldl (· + ·) 0]

/-- The route index R136 selects now for an address and class at an NI. -/
def State.routeNow (s : State) (n a cls : Nat) : Option Nat := s.lowestRoute n (servingNis s.grade a) cls

/-- A claim's words. -/
def mkClaim (res inst aux tag st en amount div fofs : Nat) (rev : Bool) : ClaimW :=
  ⟨BitVec.ofNat 32 (res <<< 28 + inst <<< 16 + aux <<< 8 + tag), BitVec.ofNat 32 (st + en <<< 16), BitVec.ofNat 32 amount,
   BitVec.ofNat 32 (div <<< 28 + fofs <<< 24 + b2n rev)⟩

/-- The claims of a part: array time, then the DEAD entries; the number of an entry without a route on failure. -/
def State.partClaims (s : State) (m : Img) (f j ctx st en : Nat) (mir : Bool) (ports : List (Word × Word × Word × Word)) :
    Except Nat (List ClaimW) :=
  let sc := secBytes m 8 0 0
  let div := ib sc 4
  let fofs := ib sc 5
  let grv := mkClaim 2 ctx 0 (0x80 + j) st en (8 * s.usableCols * charged m f j) div fofs false
  let ds := deads m f j
  let one (d : List Byte) : Option ClaimW :=
    if ib d 0 = 0 then some (mkClaim 0 0 0 (ib d 2) st en (i32 d 4) div fofs false)
    else
      let p := mapPort mir (ib d 1)
      let q := ports.getD p (0, 0, 0, 0)
      (s.routeNow (portNi p) q.1.toNat (fldOf q.2.2.2 5 4)).map fun r =>
        mkClaim 1 (portNi p) r (ib d 2) st en (i32 d 4) div fofs (decide (p < 4))
  match (List.range ds.length).find? fun k => (one (ds.getD k [])).isNone with
  | some k => .error k
  | none => .ok (grv :: ds.filterMap one)

/-! ### The course of a load (R285 to R287) -/

def State.updAld (s : State) (f : Ald → Ald) : State := { s with ald := f s.ald }

def State.setPhase (s : State) (p : Nat) : State :=
  (s.updAld fun a => { a with phase := p }).w pgALD 0x044
    (setFldOf (setFldOf (s.r pgALD 0x044) 6 4 p) 0 0 (b2n (decide (1 ≤ p ∧ p ≤ 6))))

/-- A load is refused (R287). Nothing is loaded: F, CTXS, X and MIRROR read 0 (log entry 108). -/
def State.loadRefuse (s : State) (r : LRef) : State :=
  let s := ((s.setPhase 0).sf pgALD 0x044 28 8 0).sf pgALD 0x044 2 2 1
  let res := r.reason + r.sec <<< 8 + r.f <<< 16 + r.part <<< 20
  let s := (s.w pgALD 0x070 (BitVec.ofNat 32 res)).w pgALD 0x074 (BitVec.ofNat 32 (r.info % 65536))
  let s := (s.updAld fun _ => Ald.zero).engLeave .loader
  (s.ev pgALD 1).err pgALD 0x1412 r.reason

def maskBits (m n : Nat) : List Nat := (List.range n).filter fun i => m / 2 ^ i % 2 == 1

/-- LD_CTRL.START by tenant `t` (R285). A mask with a context `t` does not hold is a violation of kind 3 of `t` (04 R103, R107; T0,
which names contexts of any one tenant, makes none: DESIGN CHOICE, log entry 101). -/
def State.ldStart (s : State) (t : Nat) : State :=
  if s.ald.phase ≠ 0 then s.errBusy pgALD 0x040
  else
    let s := ((s.sf pgALD 0x044 1 1 0).sf pgALD 0x044 2 2 0)
    let mask := s.f pgALD 0x050 7 0
    let cs := maskBits mask 8
    match cs with
    | [] => s.loadRefuse ⟨13, mask, 0, 0, 0⟩
    | c :: _ =>
      let lt := s.ctxHolder c
      if (cs.any fun d => !decide (s.ctxHolder d = lt)) ∨ ¬(t = lt ∨ t = 0) then
        (match cs.find? fun d => !decide (s.ctxHolder d = t) with
          | some d => if t = 0 then s else s.violation 3 t 17 d 0 true
          | none => s).loadRefuse ⟨13, mask, 0, 0, 0⟩
      else
        (s.updAld fun _ => { Ald.zero with tnt := lt }).setPhase 1

/-- LD_CTRL.ABORT (R286). -/
def State.ldAbort (s : State) : State :=
  if 1 ≤ s.ald.phase ∧ s.ald.phase ≤ 3 then s.loadRefuse ⟨20, 0, 0, 0, 0⟩
  else if 4 ≤ s.ald.phase ∧ s.ald.phase ≤ 6 then s.errBusy pgALD 0x040
  else s

/-- Choose variant and placement, split the window, form the claims; then commit part 0 (R278 to R284). -/
def State.loadPlace (s : State) : State :=
  let m := s.ald.img
  let t := s.ald.tnt
  let mask := s.f pgALD 0x050 7 0
  let fs := (variants m).filter fun f => f == 1 || foldable m
  let placedAll (f : Nat) : Bool := (List.range f).all fun j => (s.place m t (lcfg m f j)).1.isSome
  let s := s.setPhase 3
  match fs.find? placedAll with
  | none =>
    let tileBad := fs.any fun f => (List.range f).all fun j => (s.place m t (lcfg m f j)).2
    let miss := (fs.flatMap fun f => (List.range f).map fun j => (f, j)).findSome? fun fj =>
      (s.placeMiss m (lcfg m fj.1 fj.2)).map fun i => (fj, i)
    if tileBad then s.loadRefuse ⟨14, (maskBits mask 8).headD 0, 0, 1, 0⟩
    else match miss with
    | some (fj, i) => s.loadRefuse ⟨11, i, 0, fj.1, fj.2⟩
    | none => s.loadRefuse ⟨12, 1, 0, 1, 0⟩
  | some f =>
    let ctxs := (maskBits mask 8).take f
    if ctxs.length < f then s.loadRefuse ⟨13, mask, 0, f, 0⟩
    else match ctxs.find? fun c => !decide (s.owner (pgGCTX c) = t) with
    | some c => s.loadRefuse ⟨14, c, 0, f, 0⟩
    | none =>
      let vt := s.vtAct
      let sc := secBytes m 8 0 0
      let lofs := s.f pgALD 0x058 11 0
      if vt = 0 then s.loadRefuse ⟨16, 0, 0, f, 0⟩
      else
        let st := (i16 sc 0 + lofs) % vt
        let en := (i16 sc 2 + lofs) % vt
        let w := (en + vt - st) % vt + 1
        let lines := partLines m f w
        match (List.range f).find? fun j => lines.getD j 0 == 0 with
        | some j => s.loadRefuse ⟨16, j, 0, f, j⟩
        | none =>
          let parts := (List.range f).map fun j =>
            let c := lcfg m f j
            let pl := ((s.place m t c).1).getD (0, false)
            let ps := s.placedPorts c pl.2
            let a := (st + (lines.take j).foldl (· + ·) 0) % vt
            let b := (a + lines.getD j 0 - 1) % vt
            (pl, ctxs.getD j 0, s.placed m c pl.1 pl.2, ps, schedC m f j, s.partClaims m f j (ctxs.getD j 0) a b pl.2 ps)
          match (List.range f).find? fun j => match parts[j]? with
              | some (_, _, _, _, _, .error _) => true
              | _ => false with
          | some j =>
            let k := match parts[j]? with | some (_, _, _, _, _, .error k) => k | _ => 0
            s.loadRefuse ⟨17, k, 0, f, j⟩
          | none =>
            let lps := parts.map fun (_, c, cfg, ps, cyc, cl) =>
              (⟨c, cfg, ps, cyc, (match cl with | .ok l => l | .error _ => [])⟩ : LPart)
            let p0 := (parts.head?.map (·.1)).getD (0, false)
            let s := s.updAld fun a => { a with parts := lps, part := 0, frst := ib sc 6 }
            let s := s.setPhase 4
            let s := s.w pgALD 0x044 (setFldOf (setFldOf (setFldOf (setFldOf (s.r pgALD 0x044) 10 8 f) 23 16
              (ctxs.foldl (fun a c => a + 2 ^ c) 0)) 27 24 p0.1) 28 28 (b2n p0.2))
            let s := { s with adm := { s.adm with aldRes := none } }
            match lps with
            | [] => s
            | p :: _ => s.admQueue (.set t (2 + p.ctx) p.claims)

/-- Phase 1 ends: the image is read, stamped with the load tenant and checked against its windows, or a read was answered with
a status other than OK at byte `ofs` (R285). -/
def State.loadReadDone (s : State) (sts ofs : Nat) : State :=
  if s.ald.phase ≠ 1 ∨ s.arrayOn = false then s
  else if sts ≠ 0 then s.loadRefuse ⟨19, ofs / 4, 0, 0, 0⟩
  else
    let a := (s.r pgALD 0x048).toNat
    let n := s.f pgALD 0x04C 17 0
    match s.engReadAt s.ald.tnt 17 2 a n with
    | (s, some k) => s.loadRefuse ⟨19, k / 4, 0, 0, 0⟩
    | (s, none) =>
    let m := s.rdBytes a n
    match s.imageRef m with
    | some r => s.loadRefuse r
    | none =>
      let s := s.updAld fun a => { a with img := m }
      if s.f pgALD 0x05C 0 0 = 1 then (s.setPhase 2).engAsk .loader else s.loadPlace

/-- Whether the image's signature verifies with the key slot of LD_POL (R277). -/
def State.sigOk (s : State) (m : Img) : Bool :=
  match findSec m 0x0F 0 0 with
  | none => false
  | some e =>
    let b := e.2.bytes m
    let k := s.kslot (s.f pgALD 0x05C 12 8)
    b.length == 72 && ib b 0 == 1 && k.typ == 4 && k.use 9 && Config.ecdsaVerify k.val (Config.sha 256 (m.take e.2.ofs)) (b.drop 8)

/-- Phase 2 ends (R277) once the crypto engine has served the loader (14 R348). -/
def State.loadVerifyDone (s : State) : State :=
  if s.ald.phase ≠ 2 ∨ s.arrayOn = false ∨ s.engTurn .loader = false then s
  else if s.sigOk s.ald.img then (s.engLeave .loader).loadPlace else s.loadRefuse ⟨3, 0, 0, 0, 0⟩

/-- The source a part commits as (R283). -/
abbrev LPart.src (p : LPart) : Nat := 2 + p.ctx

/-- Whether the evaluation of the set of the part under evaluation has ended, and how (R284): a result of another source, such
as an empty set of an earlier load, is none of this part's. -/
def State.partResult (s : State) : Option Bool :=
  match s.adm.aldRes, s.ald.parts[s.ald.part]? with
  | some (src, ok), some p => if src = p.src then some ok else none
  | _, _ => none

/-- Phase 4: the evaluation of a part has ended (R284). -/
def State.loadPartEvalDone (s : State) : State :=
  if s.ald.phase ≠ 4 ∨ s.arrayOn = false then s
  else match s.partResult with
  | none => s
  | some ok =>
    let s := { s with adm := { s.adm with aldRes := none } }
    let k := s.ald.part
    if ok then
      match s.ald.parts[k + 1]? with
      | some p => (s.updAld fun a => { a with part := k + 1 }).admQueue (.set s.ald.tnt (2 + p.ctx) p.claims)
      | none => s.setPhase 5
    else
      let t := s.ald.tnt
      let f := s.ald.parts.length
      let s := (s.ald.parts.take k).foldl (fun s p =>
        (s.admQueue (.set t (2 + p.ctx) [])).sf (pgGCTX p.ctx) 0x040 0 0 0) s
      s.loadRefuse ⟨18, k, 0, f, k⟩

/-- Phase 5: the last accepted set of the load has taken effect; phase 6 begins and VALID of the parts is clear. -/
def State.loadEffect (s : State) : State :=
  if s.ald.phase ≠ 5 ∨ s.arrayOn = false ∨ (s.ald.parts.any fun p => s.adm.effSrc.contains p.src) = true then s
  else (s.ald.parts.foldl (fun s p => s.sf (pgGCTX p.ctx) 0x040 0 0 0) s).setPhase 6

/-- The registers and the store of a part of a load (R281, R285). -/
def State.loadPart (s : State) (p : LPart) (next : Option Nat) : State :=
  let pg := pgGCTX p.ctx
  let s := s.updGrv fun g => { g with store := g.store.set p.ctx p.cfg }
  let s := if s.actx = p.ctx then (s.sf pg 0x040 1 1 1).ev pgGRV 7 else s
  let both (s : State) (o : Nat) (v : Word) : State := (s.w pg o v).wa pg o v
  let s := (List.range 8).foldl (fun s q =>
    let d := p.ports.getD q (0, 0, 0, 0)
    both (both (both (both s (0x060 + 0x20 * q) d.1) (0x064 + 0x20 * q) d.2.1) (0x068 + 0x20 * q) d.2.2.1) (0x06C + 0x20 * q) d.2.2.2) s
  let s := ((s.sf pg 0x024 2 0 0).cntWrap pg 0x024 23 16).ev pg 30
  let s := s.w pg 0x044 (BitVec.ofNat 32 (min (2 * p.c) 0xFFFFFF))
  let s := s.w pg 0x048 (BitVec.ofNat 32 (next.getD 0 + (b2n next.isSome) <<< 3 + s.ald.frst <<< 8))
  let s := s.sf pg 0x04C 11 0 0
  s.sf pg 0x040 0 0 1

/-- Phase 6 ends and with it the load: phase 7 sets OK and raises DONE, and the loader is idle (R285, R290). -/
def State.loadWriteDone (s : State) : State :=
  if s.ald.phase ≠ 6 ∨ s.arrayOn = false then s
  else
    let ps := s.ald.parts
    let s := (List.range ps.length).foldl (fun s j => match ps[j]? with
      | some p => s.loadPart p ((ps[j + 1]?).map (·.ctx))
      | none => s) s
    let s := ((s.setPhase 0).sf pgALD 0x044 1 1 1).ev pgALD 0
    (s.updAld fun _ => Ald.zero)

/-- ARRAY enters Off during a load (R290). -/
def State.ldOff (s : State) : State := if s.ald.phase = 0 then s else s.loadRefuse ⟨20, 0, 0, 0, 0⟩

/-- Writes to the ALD page by tenant `t` (R290). -/
def State.aldWrite (s : State) (t o : Nat) (v : Word) : State :=
  if o = 0x040 then
    let s := if v.getLsbD 0 then s.ldStart t else s
    if v.getLsbD 1 then s.ldAbort else s
  else if s.ald.phase ≠ 0 ∧ (o = 0x048 ∨ o = 0x04C ∨ o = 0x050 ∨ o = 0x054 ∨ o = 0x058 ∨ (0x060 ≤ o ∧ o < 0x070)) then s.errBusy pgALD o
  else s.plain pgALD o v

end Sys2Proof.Machine
end

