-- ==== Sys2Proof/Machine/SymRead.lean ====
section
/-! DEFINITION. Machine/SymRead.lean: how the scan engine tests, samples and decodes a symbol (13 R331 to R336). What these rules
leave to the standards they name and the model takes from them is PRESUMED (log entry 14). -/

namespace Sys2Proof.Machine

/-- A binarised window with its erased pixels: the dark pixels, the pixels whose modules are erasures, and the size. -/
structure BinWin where
  dark : List (List Bool)
  lost : List (List Bool)
  w : Nat
  h : Nat
  deriving DecidableEq, Repr

/-! ### Runs of the binarised image (R331) -/

def BinWin.has (d : BinWin) (x y : Int) : Bool :=
  decide (0 ≤ x) && decide (0 ≤ y) && decide (x < (d.w : Int)) && decide (y < (d.h : Int))

/-- A pixel of the window. -/
def BinWin.pix (d : BinWin) (x y : Int) : Bool := (d.dark.getD y.toNat []).getD x.toNat false

/-- The window with dark and light exchanged. -/
def BinWin.flip (d : BinWin) (inv : Bool) : BinWin := if inv then { d with dark := d.dark.map (List.map not) } else d

/-- The lengths of the runs met from (x, y) along a direction, the first of colour `c` with `n` pixels before it. -/
def BinWin.runsFrom (d : BinWin) (dx dy : Int) : Nat → Int → Int → Bool → Nat → List Nat
  | 0, _, _, _, n => [n]
  | fuel + 1, x, y, c, n =>
    if d.has x y = false then [n]
    else if d.pix x y = c then d.runsFrom dx dy fuel (x + dx) (y + dy) c (n + 1)
    else n :: d.runsFrom dx dy fuel (x + dx) (y + dy) (!c) 1

/-- The runs through a dark pixel along a direction, `k` on each side of its own. -/
def BinWin.runsAcross (d : BinWin) (dx dy : Int) (k : Nat) (x y : Int) : Option (List Nat) :=
  if d.has x y = false ∨ d.pix x y = false then none
  else
    let a := d.runsFrom dx dy (d.w + d.h) x y true 0
    let b := d.runsFrom (-dx) (-dy) (d.w + d.h) x y true 0
    if a.length ≤ k ∨ b.length ≤ k then none
    else some (((b.drop 1).take k).reverse ++ [a.headD 0 + b.headD 0 - 1] ++ (a.drop 1).take k)

/-- Whether runs stand in a ratio, each within half of one unit of their total. -/
def runsFit (ratio : List Nat) (runs : Option (List Nat)) : Bool :=
  match runs with
  | none => false
  | some l =>
    let total := l.foldl (· + ·) 0
    let units := ratio.foldl (· + ·) 0
    (l.zip ratio).all fun p => decide (2 * units * p.1 ≤ (2 * p.2 + 1) * total) && decide ((2 * p.2 - 1) * total ≤ 2 * units * p.1)

/-- A finder of QR around a place in 1/16 pixel: 1:1:3:1:1 along the row, the column and one diagonal. -/
def BinWin.finder (d : BinWin) (p : Int × Int) : Bool :=
  let fit (dx dy : Int) : Bool := runsFit [1, 1, 3, 1, 1] (d.runsAcross dx dy 2 (p.1 / 16) (p.2 / 16))
  fit 1 0 && fit 0 1 && (fit 1 1 || fit 1 (-1))

/-- A bullseye of Aztec: rings of equal width, 5 runs across the centre for compact and 7 for full. -/
def BinWin.bullseye (d : BinWin) (full : Bool) (p : Int × Int) : Bool :=
  let k := if full then 3 else 2
  let fit (dx dy : Int) : Bool := runsFit (List.replicate (2 * k + 1) 1) (d.runsAcross dx dy k (p.1 / 16) (p.2 / 16))
  fit 1 0 && fit 0 1

/-! ### Legs and the homography (R331, R333) -/

def vecTo (a b : Int × Int) : Int × Int := (b.1 - a.1, b.2 - a.2)
def dotV (a b : Int × Int) : Int := a.1 * b.1 + a.2 * b.2
def crossV (a b : Int × Int) : Int := a.1 * b.2 - a.2 * b.1

/-- Two legs of a length ratio of 0.5 to 2.0 that meet at 45° to 135°. -/
def legsOk (a b : Int × Int) : Bool :=
  decide (dotV a a ≤ 4 * dotV b b) && decide (dotV b b ≤ 4 * dotV a a) && decide (2 * (dotV a b * dotV a b) ≤ dotV a a * dotV b b)

/-- Two edges that meet at 30° to 150°. -/
def edgesOk (a b : Int × Int) : Bool := decide (4 * (dotV a b * dotV a b) ≤ 3 * (dotV a a * dotV b b))

/-- The pitch along a leg of `n` modules, in 1/16 pixel. -/
def legPitch (a : Int × Int) (n : Nat) : Nat := Nat.sqrt (dotV a a).toNat / max 1 n

/-- A homogeneous point of the plane. -/
structure Vec3 where
  a : Int
  b : Int
  c : Int
  deriving DecidableEq, Repr

def Vec3.dot (u v : Vec3) : Int := u.a * v.a + u.b * v.b + u.c * v.c
def Vec3.cross (u v : Vec3) : Vec3 := ⟨u.b * v.c - u.c * v.b, u.c * v.a - u.a * v.c, u.a * v.b - u.b * v.a⟩
def Vec3.times (k : Int) (u : Vec3) : Vec3 := ⟨k * u.a, k * u.b, k * u.c⟩
def Vec3.plus (u v : Vec3) : Vec3 := ⟨u.a + v.a, u.b + v.b, u.c + v.c⟩

/-- Three columns. -/
structure Mat3 where
  u : Vec3
  v : Vec3
  w : Vec3
  deriving DecidableEq, Repr

/-- The columns that take the projective base to the four points of a quadrilateral. -/
def quadBasis (q : List (Int × Int)) : Mat3 :=
  let pt (i : Nat) : Vec3 := let p := q.getD i (0, 0); ⟨p.1, p.2, 1⟩
  let z := pt 3
  ⟨.times (((pt 1).cross (pt 2)).dot z) (pt 0), .times (((pt 2).cross (pt 0)).dot z) (pt 1), .times (((pt 0).cross (pt 1)).dot z) (pt 2)⟩

/-- The image of a point under the homography that takes the quadrilateral `src` to `dst`. -/
def project (src dst : Mat3) (p : Int × Int) : Vec3 :=
  let m : Vec3 := ⟨p.1, p.2, 1⟩
  let r := (Vec3.times ((src.v.cross src.w).dot m) dst.u).plus
    ((Vec3.times ((src.w.cross src.u).dot m) dst.v).plus (Vec3.times ((src.u.cross src.v).dot m) dst.w))
  if r.c < 0 then .times (-1) r else r

/-- A module as the majority of the 3 × 3 pixels nearest its projected centre, indices clamped to the window; none for an erasure
(R333). -/
def BinWin.module (d : BinWin) (r : Vec3) : Option Bool :=
  let x := r.a / (16 * r.c)
  let y := r.b / (16 * r.c)
  if r.c = 0 ∨ d.has x y = false ∨ (d.lost.getD y.toNat []).getD x.toNat false = true then none
  else
    let near (k : Int) (n : Nat) : List Int := [max 0 (k - 1), k, min ((n : Int) - 1) (k + 1)]
    let px := (near y d.h).flatMap fun j => (near x d.w).map fun i => d.pix i j
    some (decide (5 ≤ (px.filter id).length))

/-- The modules of a symbol: `src` in half modules, `dst` in 1/16 pixel. -/
def BinWin.sample (d : BinWin) (src dst : List (Int × Int)) (cols rows : Nat) : List (List (Option Bool)) :=
  let a := quadBasis src
  let b := quadBasis dst
  (List.range rows).map fun r => (List.range cols).map fun c => d.module (project a b (2 * (c : Int) + 1, 2 * (r : Int) + 1))

abbrev Modules := List (List (Option Bool))

/-- A module of a sampled symbol. -/
def modAt (m : Modules) (r c : Nat) : Option Bool := (m.getD r []).getD c none

/-- A module that is dark, or an erasure. -/
def modIs (m : Modules) (b : Bool) (r c : Nat) : Bool := modAt m r c != some (!b)

/-! ### Reed–Solomon (R334, R335) -/

/-- A field of 2^m elements with its polynomial, and the power of the first root of its code. -/
structure GField where
  m : Nat
  poly : Nat
  b : Nat
  deriving DecidableEq, Repr

/-- Carry-less product with reduction, `n` bits of `y` left. -/
def GField.mulFrom (f : GField) : Nat → Nat → Nat → Nat
  | 0, _, _ => 0
  | n + 1, x, y =>
    let x2 := if 2 ^ f.m ≤ 2 * x then (2 * x) ^^^ f.poly else 2 * x
    (if y % 2 = 1 then x else 0) ^^^ f.mulFrom n x2 (y / 2)

def GField.mul (f : GField) (x y : Nat) : Nat := f.mulFrom f.m x y

def GField.pow (f : GField) (x : Nat) : Nat → Nat
  | 0 => 1
  | n + 1 => f.mul x (f.pow x n)

/-- x^(2^m - 2). -/
def GField.inv (f : GField) (x : Nat) : Nat :=
  ((List.range (f.m - 1)).foldl (fun (p : Nat × Nat) _ => let q := f.mul p.1 p.1; (q, f.mul p.2 q)) (x, 1)).2

/-- A polynomial's value, its lowest coefficient first. -/
def GField.eval (f : GField) (p : List Nat) (x : Nat) : Nat := p.foldr (fun a r => a ^^^ f.mul x r) 0

def polyAdd : List Nat → List Nat → List Nat
  | [], q => q
  | p, [] => p
  | a :: p, b :: q => (a ^^^ b) :: polyAdd p q

def GField.scale (f : GField) (k : Nat) (p : List Nat) : List Nat := p.map (f.mul k)

def GField.polyMul (f : GField) : List Nat → List Nat → List Nat
  | [], _ => []
  | a :: p, q => polyAdd (f.scale a q) (0 :: f.polyMul p q)

/-- The formal derivative. -/
def polyDeriv (p : List Nat) : List Nat := ((List.range p.length).zip p |>.drop 1).map fun x => if x.1 % 2 = 1 then x.2 else 0

/-- The syndromes of a word, its first codeword the highest power. -/
def GField.syndromes (f : GField) (word : List Nat) (check : Nat) : List Nat :=
  (List.range check).map fun i => f.eval word.reverse (f.pow 2 (f.b + i))

/-- The state of the search for the error locator: locator, correction and length. -/
structure BmSt where
  loc : List Nat
  cor : List Nat
  len : Nat
  deriving DecidableEq, Repr

/-- One step of the search, from `f` erasures at round `r`. -/
def GField.bmStep (g : GField) (syn : List Nat) (f r : Nat) (x : BmSt) : BmSt :=
  let d := (List.range r).foldl (fun a i => a ^^^ g.mul (x.loc.getD i 0) (syn.getD (r - 1 - i) 0)) 0
  let cor := 0 :: x.cor
  if d = 0 then { x with cor := cor }
  else if 2 * x.len + 1 ≤ r + f then ⟨polyAdd x.loc (g.scale d cor), g.scale (g.inv d) x.loc, r + f - x.len⟩
  else ⟨polyAdd x.loc (g.scale d cor), cor, x.len⟩

/-- A word of a block corrected with the erasures at the positions `er`, counted from the first codeword: the word and its
errors, where 2e + f does not exceed the check codewords (R335). -/
def GField.correct (g : GField) (word : List Nat) (check : Nat) (er : List Nat) : Option (List Nat × Nat) :=
  let n := word.length
  let f := er.length
  if check < f then none
  else
    let syn := g.syndromes word check
    if syn.all (· == 0) then some (word, 0)
    else
      let root (p : Nat) : Nat := g.pow 2 (n - 1 - p)
      let gamma := er.foldl (fun a p => g.polyMul a [1, root p]) [1]
      let x := (List.range (check - f)).foldl (fun x i => g.bmStep syn f (f + 1 + i) x) ⟨gamma, gamma, f⟩
      let bad := (List.range n).filter fun p => g.eval x.loc (g.inv (root p)) == 0
      let om := (g.polyMul syn x.loc).take check
      let dl := polyDeriv x.loc
      let size (p : Nat) : Nat :=
        let xi := g.inv (root p)
        let y := g.mul (g.eval om xi) (g.inv (g.eval dl xi))
        if g.b = 0 then g.mul (root p) y else y
      let fixed := (List.range n).zip word |>.map fun q => if bad.contains q.1 then q.2 ^^^ size q.1 else q.2
      let e := x.len - f
      if bad.length ≠ x.len ∨ check < 2 * e + f ∨ (g.syndromes fixed check).any (· != 0) then none else some (fixed, e)

/-- The field of a symbology's data: SYM and Aztec layers (R334; the polynomials of Aztec PRESUMED from its standard). -/
def symField (sym layers : Nat) : GField :=
  if sym = 1 then ⟨8, 0x11D, 0⟩
  else if sym = 2 then ⟨8, 0x12D, 1⟩
  else if layers ≤ 2 then ⟨6, 0x43, 1⟩
  else if layers ≤ 8 then ⟨8, 0x12D, 1⟩
  else ⟨10, 0x409, 1⟩

/-- The field of Aztec's mode message. -/
def modeField : GField := ⟨4, 0x13, 1⟩

/-- The value of a codeword's modules, none where one is an erasure. -/
def wordOf (m : Modules) (w : List (Nat × Nat × Bool)) : Option Nat :=
  w.foldl (fun a p =>
    match a, modAt m p.1 p.2.1 with
    | some v, some b => some (2 * v + b2n (b != p.2.2))
    | _, _ => none) (some 0)

/-- A block as read and corrected: its totals, and its data codewords where it corrects. The errors of a block that does not
correct are left open. -/
def readBlock (g : GField) (m : Modules) (k : SymBlock) : RsBlk × Option (List Nat) :=
  let ws := k.words.map (wordOf m)
  let er := (List.range ws.length).filter fun i => (ws.getD i none).isNone
  match g.correct (ws.map (Option.getD · 0)) k.check er with
  | some (w, e) => (⟨w.length, k.check, e, er.length⟩, some (w.take (w.length - k.check)))
  | none => (⟨ws.length, k.check, Config.lostErrors (ws.map (Option.getD · 0)), er.length⟩, none)

/-! ### Format and version of QR (R334) -/

/-- Bits that differ. -/
def bitDist (n a b : Nat) : Nat := ((List.range n).filter fun i => a / 2 ^ i % 2 != b / 2 ^ i % 2).length

/-- The remainder of `x`, of `n` bits more than the generator's degree, by a generator of degree `d`. -/
def bchRem (gen d : Nat) : Nat → Nat → Nat
  | 0, x => x
  | n + 1, x => bchRem gen d n (if x / 2 ^ (n + d) % 2 = 1 then x ^^^ (gen * 2 ^ n) else x)

/-- The format information of a level and mask, and the version information of a version. -/
def qrFormat (v : Nat) : Nat := (v * 2 ^ 10 + bchRem 0x537 10 5 (v * 2 ^ 10)) ^^^ 0x5412
def qrVersion (v : Nat) : Nat := v * 2 ^ 12 + bchRem 0x1F25 12 6 (v * 2 ^ 12)

/-- The value among `l` whose code of `n` bits lies within 3 bits of the one read. -/
def bchRead (code : Nat → Nat) (n : Nat) (l : List Nat) (x : Nat) : Option Nat := l.find? fun v => decide (bitDist n (code v) x ≤ 3)

/-- The value of modules, the most significant bit first; an erasure reads as 0. -/
def modsVal (m : Modules) (l : List (Nat × Nat)) : Nat := l.foldl (fun a p => 2 * a + b2n ((modAt m p.1 p.2).getD false)) 0

/-- The two places of the format information of a symbol of side `n`. -/
def formatPlaces (n : Nat) : List (List (Nat × Nat)) :=
  [[0, 1, 2, 3, 4, 5, 7, 8].map (fun c => (8, c)) ++ [7, 5, 4, 3, 2, 1, 0].map (fun r => (r, 8)),
   (List.range 7).map (fun i => (n - 1 - i, 8)) ++ (List.range 8).map (fun i => (8, n - 8 + i))]

/-- The two places of the version information. -/
def versionPlaces (n : Nat) : List (List (Nat × Nat)) :=
  [(List.range 18).map (fun i => (n - 11 + (17 - i) % 3, (17 - i) / 3)), (List.range 18).map (fun i => ((17 - i) / 3, n - 11 + (17 - i) % 3))]

/-- Level and mask of a QR symbol: the level 0 L to 3 H (R337). -/
def qrLevel (m : Modules) (n : Nat) : Option (Nat × Nat) :=
  ((formatPlaces n).findSome? fun l => bchRead qrFormat 15 (List.range 32) (modsVal m l)).map fun v =>
    ([1, 0, 3, 2].getD (v / 8) 0, v % 8)

/-- Whether the version information of a symbol of version `v` gives that version. -/
def qrVersionOk (m : Modules) (v : Nat) : Bool :=
  decide (v < 7) || (versionPlaces (17 + 4 * v)).any fun l => bchRead qrVersion 18 ((List.range 34).map (· + 7)) (modsVal m l) == some v

/-! ### Sizes (R334) -/

/-- The sizes of Data Matrix, rows by columns: square, then rectangular. -/
def dmSizes : List (Nat × Nat) :=
  [10, 12, 14, 16, 18, 20, 22, 24, 26, 32, 36, 40, 44, 48, 52, 64, 72, 80, 88, 96, 104, 120, 132, 144].map (fun n => (n, n)) ++
    [(8, 18), (8, 32), (12, 26), (12, 36), (16, 36), (16, 48)]

/-- The side of an Aztec symbol of `k` layers. -/
def aztecSide (full : Bool) (k : Nat) : Nat :=
  if full then 15 + 4 * k + 2 * ((6 + 2 * k) / 15) else 11 + 4 * k

/-- The version, Data Matrix size index or Aztec layers of a group by its size; none where R334 does not list it. -/
def groupVersion (g : SymGroup) : Option Nat :=
  if g.sym = 1 then (if g.cols = g.rows ∧ 21 ≤ g.cols ∧ g.cols ≤ 177 ∧ g.cols % 4 = 1 then some ((g.cols - 17) / 4) else none)
  else if g.sym = 2 then dmSizes.findIdx? (· == (g.rows, g.cols))
  else if g.cols ≠ g.rows then none
  else if g.sym = 3 then ((List.range 4).map (· + 1)).find? fun k => aztecSide false k == g.cols
  else if g.sym = 4 then ((List.range 22).map (· + 1)).find? fun k => aztecSide true k == g.cols
  else none

/-! ### Tests of a group (R331) -/

def groupPt (g : SymGroup) (i : Nat) : Int × Int := g.pts.getD i (0, 0)

/-- The fourth correspondence of QR: estimated from the finders for version 1, else the alignment pattern (R333). -/
def qrFourth (g : SymGroup) : Int × Int :=
  if g.cols = 21 then ((groupPt g 1).1 + (groupPt g 2).1 - (groupPt g 0).1, (groupPt g 1).2 + (groupPt g 2).2 - (groupPt g 0).2) else groupPt g 3

/-- The correspondences of a 2D group: in half modules and in 1/16 pixel (R333). -/
def groupCorr (g : SymGroup) : List (Int × Int) × List (Int × Int) :=
  let n : Int := 2 * g.cols
  let r : Int := 2 * g.rows
  if g.sym = 1 then
    let e := if g.cols = 21 then n - 7 else n - 13
    ([(7, 7), (n - 7, 7), (7, n - 7), (e, e)], [groupPt g 0, groupPt g 1, groupPt g 2, qrFourth g])
  else if g.sym = 2 then ([(1, r - 1), (n - 1, r - 1), (1, 1), (n - 1, 1)], [groupPt g 0, groupPt g 1, groupPt g 2, groupPt g 3])
  else
    let k : Int := if g.sym = 4 then 14 else 10
    let c : Int := g.cols
    ([(c - k, c - k), (c + k, c - k), (c + k, c + k), (c - k, c + k)], [groupPt g 0, groupPt g 1, groupPt g 2, groupPt g 3])

/-- The legs of a 2D group, and how many modules lie along them. -/
def groupLegs (g : SymGroup) : (Int × Int) × (Int × Int) × Nat × Nat :=
  if g.sym = 1 then (vecTo (groupPt g 0) (groupPt g 1), vecTo (groupPt g 0) (groupPt g 2), g.cols - 7, g.rows - 7)
  else if g.sym = 2 then (vecTo (groupPt g 0) (groupPt g 2), vecTo (groupPt g 0) (groupPt g 1), g.rows - 1, g.cols - 1)
  else
    let k := if g.sym = 4 then 14 else 10
    (vecTo (groupPt g 0) (groupPt g 1), vecTo (groupPt g 0) (groupPt g 3), k, k)

/-- The module pitch along the most foreshortened axis, in 1/16 pixel. -/
def groupPitch (g : SymGroup) : Nat :=
  let l := groupLegs g
  min (legPitch l.1 l.2.2.1) (legPitch l.2.1 l.2.2.2)

/-- The alignment pattern lies within ±4 modules of its predicted place (R333). -/
def alignOk (g : SymGroup) : Bool :=
  let n : Int := g.cols
  let a := vecTo (groupPt g 0) (groupPt g 1)
  let b := vecTo (groupPt g 0) (groupPt g 2)
  let off (u v p q : Int) : Int := (n - 7) * (q - p) - (n - 10) * (u + v)
  let near (k : Int) : Bool := decide (k * k ≤ 16 * max (dotV a a) (dotV b b))
  g.cols == 21 || near (off a.1 b.1 (groupPt g 0).1 (groupPt g 3).1) && near (off a.2 b.2 (groupPt g 0).2 (groupPt g 3).2)

/-- Solid edges and alternating timing of a Data Matrix symbol. -/
def dmEdges (m : Modules) (cols rows : Nat) : Bool :=
  (List.range rows).all (fun i => modIs m true i 0 && modIs m (decide (i % 2 = 1)) i (cols - 1)) &&
    (List.range cols).all (fun i => modIs m true (rows - 1) i && modIs m (decide (i % 2 = 0)) 0 i)

/-- Whether a 2D group passes the tests of R331: no mirrored symbol, and a pitch of at least 2.0 pixels. -/
def BinWin.passes (d : BinWin) (g : SymGroup) (m : Modules) : Bool :=
  let l := groupLegs g
  let fair := decide (0 < crossV l.1 l.2.1) && decide (32 ≤ groupPitch g)
  if g.sym = 1 then fair && legsOk l.1 l.2.1 && d.finder (groupPt g 0) && d.finder (groupPt g 1) && d.finder (groupPt g 2) && alignOk g
  else if g.sym = 2 then fair && edgesOk l.1 l.2.1 && dmEdges m g.cols g.rows
  else fair && d.bullseye (decide (g.sym = 4)) (groupPt g 4)

/-! ### Linear symbols (R331, R334, R336) -/

/-- 65,536 times the cosine of k · 11.25°, k at most 8. -/
def cosTab : List Int := [65536, 64277, 60547, 54491, 46341, 36410, 25080, 12785, 0]

/-- The direction of scan lines at angle index `k`. -/
def lineDir (k : Nat) : Int × Int :=
  if k ≤ 8 then (cosTab.getD k 0, cosTab.getD (8 - k) 0) else (-(cosTab.getD (16 - k) 0), cosTab.getD (k - 8) 0)

/-- The pixels along a scan line: the `i`-th line, 8 pixels from the next, at angle index `k` through the window. -/
def BinWin.lineOf (d : BinWin) (k : Nat) (i : Int) : List Bool :=
  let u := lineDir k
  let n := d.w + d.h
  (List.range (2 * n)).filterMap fun t =>
    let s : Int := (t : Int) - (n : Int)
    let x := ((d.w / 2 : Nat) : Int) + (s * u.1 - 8 * i * u.2) / 65536
    let y := ((d.h / 2 : Nat) : Int) + (s * u.2 + 8 * i * u.1) / 65536
    if d.has x y then some (d.pix x y) else none

/-- Half the quiet zones a linear symbol needs, before and after it, in twentieths of the narrow bar (PRESUMED from the
standards, in modules: Code 128 10 and 10, EAN-13 11 and 7, EAN-8 7 and 7, UPC-A 9 and 9, UPC-E 9 and 7). -/
def quietHalf (sym : Nat) : Nat × Nat :=
  if sym = 5 then (100, 100) else if sym = 6 then (110, 70) else if sym = 7 then (70, 70) else if sym = 8 then (90, 90) else (90, 70)

/-- The modulo-103 check of Code 128. -/
def check103 (v : List Nat) : Bool :=
  let data := v.dropLast
  decide (3 ≤ v.length) &&
    ((List.range data.length).zip data).foldl (fun a p => a + max 1 p.1 * p.2) 0 % 103 == v.getLastD 0

/-- The modulo-10 check of EAN and UPC: the last digit's weight is 1, the weights alternate with 3. -/
def check10 (v : List Nat) : Bool :=
  let r := v.reverse
  ((List.range r.length).zip r).foldl (fun a p => a + (if p.1 % 2 = 0 then p.2 else 3 * p.2)) 0 % 10 == 0

/-- The twelve digits a UPC-E symbol stands for. -/
def upcA (v : List Nat) : List Nat :=
  let n := v.take 1
  let d := (v.drop 1).take 6
  let c := v.drop 7
  let k := d.getD 5 0
  if k ≤ 2 then n ++ d.take 2 ++ [k, 0, 0, 0, 0] ++ (d.drop 2).take 3 ++ c
  else if k = 3 then n ++ d.take 3 ++ [0, 0, 0, 0, 0] ++ (d.drop 3).take 2 ++ c
  else if k = 4 then n ++ d.take 4 ++ [0, 0, 0, 0, 0] ++ (d.drop 4).take 1 ++ c
  else n ++ d.take 5 ++ [0, 0, 0, 0, k] ++ c

/-- Whether the check of a linear symbol holds, with its number of characters. -/
def linearOk (sym : Nat) (v : List Nat) : Bool :=
  if sym = 5 then check103 v
  else v.all (fun d => decide (d ≤ 9)) && (
    if sym = 6 then v.length == 13 && check10 v
    else if sym = 7 then v.length == 8 && check10 v
    else if sym = 8 then v.length == 12 && check10 v
    else v.length == 8 && check10 (upcA v))

/-- Where a Code 128 reader is: the code set (0 A, 1 B, 2 C), the set of one shifted character, and FNC4 (locked, next). -/
structure C128 where
  set : Nat
  shift : Bool
  lock : Bool
  next : Bool
  deriving DecidableEq, Repr

/-- One character value of Code 128: its bytes and what follows (PRESUMED from the standard's table). -/
def c128Step (x : C128) (first : Bool) (v : Nat) : List Byte × C128 :=
  let y := { x with shift := false }
  if v = 102 then ((if first then [] else [0x1D]), y)
  else if x.set = 2 then
    if v < 100 then ([BitVec.ofNat 8 (0x30 + v / 10), BitVec.ofNat 8 (0x30 + v % 10)], y) else ([], { y with set := if v = 100 then 1 else 0 })
  else
    let set := if x.shift then 1 - x.set else x.set
    if v < 96 then
      let c := if v < 64 ∨ set = 1 then v + 32 else v - 64
      ([BitVec.ofNat 8 (if x.lock != x.next then c + 128 else c)], { y with next := false })
    else if v = 98 then ([], { x with shift := true })
    else if v = 99 then ([], { y with set := 2 })
    else if v = 101 - x.set then (if x.next then ([], { y with lock := !x.lock, next := false }) else ([], { y with next := true }))
    else if v = 100 ∨ v = 101 then ([], { y with set := 101 - v })
    else ([], y)

/-- The bytes of the data characters of Code 128, `first` while none has come. -/
def c128Bytes : C128 → Bool → List Nat → List Byte
  | _, _, [] => []
  | x, first, v :: t => let r := c128Step x first v; r.1 ++ c128Bytes r.2 false t

/-- The payload of a linear symbol, and whether it is GS1: FNC1 in the first position of Code 128 (R336). -/
def linearPayload (sym : Nat) (v : List Nat) : List Byte × Bool :=
  if sym = 5 then
    let data := v.dropLast.drop 1
    (c128Bytes ⟨v.headD 103 - 103, false, false, false⟩ true data, data.head? == some 102)
  else (v.map fun d => BitVec.ofNat 8 (0x30 + d), false)

/-- A linear candidate: two parallel scan lines decode the same content, the narrow bar is at least 1.5 pixels, and half the
quiet zone is there (R331). -/
def BinWin.linearCand (d : BinWin) (g : SymGroup) (score : Nat) : Option Cand :=
  let a := Config.linearRead (d.lineOf g.line.1 g.line.2.1)
  let b := Config.linearRead (d.lineOf g.line.1 g.line.2.2)
  match a[g.read]? with
  | none => none
  | some x =>
    let q := quietHalf x.sym
    if x.sym ≠ g.sym ∨ 16 ≤ g.line.1 ∨ g.line.2.1 = g.line.2.2 ∨ x.narrow < 24 ∨ 20 * x.before < q.1 * x.narrow ∨ 20 * x.after < q.2 * x.narrow ∨
        (b.any fun y => y.sym == x.sym && y.values == x.values) = false then none
    else
      let p := linearPayload x.sym x.values
      some { sym := x.sym, score := score, modules := 0, blocks := [], checkOk := linearOk x.sym x.values, level := 0, version := 0, inv := g.inv,
             angle := g.angle, pitch := x.narrow, corners := g.corners, segs := [(none, p.1)], gs1 := p.2, append := 0 }

/-! ### Data of 2D symbols (R336) -/

/-- The 45 characters of alphanumeric mode (PRESUMED from the standard). -/
def alnumTab : List Nat :=
  (List.range 10).map (· + 0x30) ++ (List.range 26).map (· + 0x41) ++ [0x20, 0x24, 0x25, 0x2A, 0x2B, 0x2D, 0x2E, 0x2F, 0x3A]

/-- The two bytes of Shift JIS of a 13-bit Kanji value. -/
def kanjiBytes (v : Nat) : List Byte :=
  let x := v / 0xC0 * 256 + v % 0xC0
  let y := if x < 0x1F00 then x + 0x8140 else x + 0xC140
  [BitVec.ofNat 8 (y / 256), BitVec.ofNat 8 y]

/-- A segment as bytes, with the ECI designator it is (R336). -/
def segBytes : SymSeg → Option Nat × List Byte
  | .numeric l => (none, l.map fun d => BitVec.ofNat 8 (0x30 + d))
  | .alnum l => (none, l.map fun d => BitVec.ofNat 8 (alnumTab.getD d 0x20))
  | .bytes l => (none, l)
  | .kanji l => (none, l.flatMap kanjiBytes)
  | .text l => (none, l)
  | .eci n => (some n, [])

/-- The layers and data codewords of Aztec's mode message, where it corrects. -/
def aztecHead (sym side : Nat) (m : Modules) : Option (Nat × Nat) :=
  match (Config.aztecMode sym side).head? with
  | none => none
  | some k =>
    (readBlock modeField m k).2.map fun w =>
      let v := w.foldl (fun a x => 16 * a + x) 0
      if sym = 3 then (v / 64 + 1, v % 64 + 1) else (v / 2048 + 1, v % 2048 + 1)

/-- The blocks of a sampled symbol, with its level: none where its format, version or mode message does not decode (R334). -/
def symLayout (sym version side : Nat) (rows : Nat) (m : Modules) : Option (Nat × List SymBlock) :=
  if sym = 1 then
    match qrLevel m side with
    | some (l, k) => if qrVersionOk m version then some (l, Config.symBlocks 1 version side rows [l, k]) else none
    | none => none
  else if sym = 2 then some (0, Config.symBlocks 2 version side rows [])
  else
    match aztecHead sym side m with
    | some (l, n) => if l = version then some (0, Config.symBlocks sym version side rows [n]) else none
    | none => none

/-- A 2D candidate: its size is one of R334's, it passes R331's tests, and it is sampled and decoded. -/
def BinWin.matrixCand (d : BinWin) (g : SymGroup) (score : Nat) : Option Cand :=
  match groupVersion g with
  | none => none
  | some v =>
    let m := d.sample (groupCorr g).1 (groupCorr g).2 g.cols g.rows
    if d.passes g m = false then none
    else
      let lay := symLayout g.sym v g.cols g.rows m
      let read := (lay.map Prod.snd).getD [] |>.map (readBlock (symField g.sym v) m)
      let data := Config.symData g.sym v (read.filterMap Prod.snd)
      some { sym := g.sym, score := score, modules := g.cols * g.rows, blocks := read.map Prod.fst,
             checkOk := lay.isSome && read.all (fun r => r.2.isSome) && data.isSome, level := (lay.map Prod.fst).getD 0, version := v, inv := g.inv,
             angle := g.angle, pitch := groupPitch g, corners := g.corners, segs := (data.map fun x => x.segs.map segBytes).getD [],
             gs1 := (data.map SymData.gs1).getD false, append := (data.map SymData.append).getD 0 }

/-- The candidates of a window, in the order found (R331, R332): of the groups the locator comes upon, those that pass; the
inverted image counts only where it is tried. `contrast` is mx - mn of a tile. -/
def scanFind (d : BinWin) (enables : Nat) (inv : Bool) (contrast : Nat → Nat → Nat) : List Cand :=
  (Config.scanGroups d.dark enables inv).filterMap fun g =>
    if g.inv ∧ inv = false then none
    else
      let e := d.flip g.inv
      let score := contrast g.tile.1 g.tile.2
      if g.sym ≤ 4 then e.matrixCand g score else e.linearCand g score

end Sys2Proof.Machine
end

