-- ==== Sys2Proof/Machine/Scan.lean ====
section
/-! DEFINITION. Machine/Scan.lean: the illumination sequencer with its budget, and the scan engine (13). -/

namespace Sys2Proof.Machine

def State.updSill (s : State) (f : Sill → Sill) : State := { s with sill := f s.sill }
def State.updScn (s : State) (f : Scn → Scn) : State := { s with scn := f s.scn }

/-! ### The budget (R321 to R324) -/

abbrev State.ebLocked (s : State) : Bool := s.f pgSILL 0x044 0 0 == 1
abbrev State.skpf (s : State) : Bool := s.f pgSILL 0x044 3 3 == 1
def State.ebRate (s : State) : Nat := s.f pgSILL 0x048 9 0
def State.ebCap (s : State) : Nat := (s.r pgSILL 0x04C).toNat
def State.ebPmax (s : State) : Nat := s.f pgSILL 0x050 20 0

/-- EB_CTRL.LOCK by tenant `t` (R321, R322). -/
def State.ebLock (s : State) (t : Nat) : State :=
  if t ≠ 0 ∨ s.ebLocked then s.errLocked pgSILL 0x040
  else
    let s := (s.sf pgSILL 0x044 0 0 1).w pgSILL 0x060 0
    (s.updSill fun x => { x with
      g := s.ebCap, b := (List.range 16).map (fun t => s.illShare t * s.ebCap / 256 * 256), tick := s.time,
      tfrm := List.replicate 16 0, prevFrm := List.replicate 16 0 }).evalUpd

/-- The µs tick, 800 Welt cycles or 42 oscillator cycles, in units of 1.25 ns (R322). -/
def State.usTick (s : State) : Nat := if s.clk.sysPll then 800 else 840

/-- One µs of refill. -/
def State.budgetTick (s : State) : State :=
  if s.ebLocked = false ∨ s.time < s.sill.tick + s.usTick then s
  else s.updSill fun x => { x with
    tick := x.tick + s.usTick, g := min s.ebCap (x.g + s.ebRate),
    b := (List.range 16).map fun t => min (s.illShare t * s.ebCap) (x.b.getD t 0 + s.illShare t * s.ebRate) }

/-- The sum of a tenant's ILL claims active at the residue of frame `f` (R323). -/
def State.illClaims (s : State) (t f : Nat) : Nat :=
  sumN ((s.adm.eff.filter fun k => k.tnt == t && k.c.res == 6 && activeAt s.vtAct k.c 0 (f % 16)).map fun k => k.c.amount)

/-! ### Pulses (R318 to R320, R323, R325, R326) -/

/-- Whether SKP may be driven at all (R320). -/
def State.skpOn (s : State) : Bool := !s.pwr.shed && !s.pwr.ov && s.domRun 8 && s.clk.sysPll && !s.onOsc

/-- Whether RUN holds for a STROBE: a cancel accepted in the same cycle does not stop it (R325). -/
def State.runNow (s : State) : Bool := s.f pgSCN 0x040 0 0 == 1 || s.scn.cancelAt == some s.now

/-- SCN_CTRL.MODE. -/
def State.scnMode (s : State) : Nat := s.f pgSCN 0x040 5 4

/-- The outcome of R323 for a STROBE of tenant `t` with charge `e`, whose instant lies in frame `f`. -/
def State.strobeOutcome (s : State) (t arg e f : Nat) (frm : List Nat) : Nat :=
  if s.runNow = false ∨ s.skpOn = false ∨ s.skpf ∨ s.scnMode = 1 ∨ s.scnMode = 3 ∨ (s.scnMode = 2 ∧ s.sill.skip) ∨ 15 < arg ∨
      s.f pgSILL (0x104 + 8 * arg) 9 0 = 0 then 1
  else if s.sill.pulse.isSome then 2
  else if s.ebLocked = false then 3
  else if s.ebPmax < e then 4
  else if s.illClaims t f < frm.getD t 0 + e then 5
  else if s.sill.b.getD t 0 < 256 * e then 6
  else if s.sill.g < e then 7
  else 0

/-- A pulse starts (R318, R325). -/
def State.fire (s : State) : State :=
  match s.sill.pulse with
  | none => s
  | some p =>
    let s := s.updSill fun x => { x with pulse := some { p with firing := true } }
    let s := s.ev pgSILL 1
    if p.post then (s.cntUp pgSILL 0x05C 31 16 1).ev pgSILL 4 else s

/-- A STROBE event of entry `n` with ARG `arg` arrives, four cycles after its instant (R318, R323). -/
def State.strobeArm (s : State) (n arg : Nat) : State :=
  if s.domRun 8 = false then s
  else
    let s := s.evArrive 4 0 arg
    let t := s.letOwner n
    let late := s.ltb.line == 0 && decide (s.ltb.cyc < 4)
    let f := if late then s.ltb.frame.toNat + 2 ^ 32 - 1 else s.ltb.frame.toNat
    let sq := s.r pgSILL (0x100 + 8 * arg)
    let cur := s.f pgSILL (0x104 + 8 * arg) 9 0
    let e := cur * fldOf sq 10 0
    let o := s.strobeOutcome t arg e f (if late then s.sill.prevFrm else s.sill.tfrm)
    let s := s.w pgSILL 0x058 (BitVec.ofNat 32 (t + arg % 16 * 2 ^ 8 + o * 2 ^ 12))
    let s := if s.scnMode = 2 ∧ s.runNow then s.updSill fun x => { x with skip := !x.skip } else s
    if o = 0 then
      let due := s.now - 4 + fldOf sq 27 16 * s.ltb.pPrev / 256
      let start := max due s.now
      let add (l : List Nat) : List Nat := l.modify t (· + e)
      let s := s.updSill fun x => { x with
        g := x.g - e, b := x.b.modify t (· - 256 * e),
        tfrm := (if late then x.tfrm else add x.tfrm), prevFrm := (if late then add x.prevFrm else x.prevFrm),
        pulse := some ⟨start, start + fldOf sq 10 0 * 800, cur, false, decide (s.f pgSCN 0x040 0 0 = 0)⟩ }
      let s := (s.w pgSILL 0x060 (s.r pgSILL 0x060 + BitVec.ofNat 32 e)).ev pgSILL 0
      if due ≤ s.now then s.fire else s
    else if o < 3 then s
    else
      let s := (s.cntUp pgSILL 0x05C 15 0 1).ev pgSILL 2
      let s := s.err pgSILL 0x5610 (t + o <<< 4)
      if o = 5 ∨ o = 6 then s.violation 6 t 16 0 0 true else s

/-- An armed pulse reaches its start (R318). -/
def State.pulseStart (s : State) : State :=
  match s.sill.pulse with
  | some p => if p.firing = false ∧ p.start ≤ s.now ∧ s.skpOn then s.fire else s
  | none => s

/-- A firing pulse reaches its width. -/
def State.pulseEnd (s : State) : State :=
  match s.sill.pulse with
  | some p => if p.firing ∧ p.stop ≤ s.now then s.updSill fun x => { x with pulse := none, ended := true } else s
  | none => s

/-- SCAN leaves Run or the LTB moves to the oscillator: the pulse ends or is dropped (R320). -/
def State.skpStop (s : State) : State :=
  match s.sill.pulse with
  | some p => s.updSill fun x => { x with pulse := none, ended := x.ended || p.firing }
  | none => s

/-- A fault reported on SKP (R320; 16 R429). -/
def State.skpFault (s : State) : State := ((s.sf pgSILL 0x044 3 3 1).ev pgSILL 3).err pgSILL 0x8613 0

/-- A frame boundary: the charges of the frame start again at 0 (R323). -/
def State.sillFrame (s : State) : State := s.updSill fun x => { x with prevFrm := x.tfrm, tfrm := List.replicate 16 0 }

/-- Writes to the SILL page by tenant `t` (R321, R345). -/
def State.sillWrite (s : State) (t o : Nat) (v : Word) : State :=
  if o = 0x040 then
    let s := if v.getLsbD 0 then s.ebLock t else s
    if v.getLsbD 1 then s.sf pgSILL 0x044 3 3 0 else s
  else if o = 0x048 ∨ o = 0x04C ∨ o = 0x050 then
    (if t ≠ 0 ∨ s.ebLocked then s.errLocked pgSILL o else s.plain pgSILL o v)
  else s.plain pgSILL o v

def State.sillRead (s : State) (o : Nat) : Word :=
  if o = 0x044 then
    let p := s.sill.pulse
    setFldOf (setFldOf (s.r pgSILL o) 1 1 (b2n (p.any fun p => !p.firing))) 2 2 (b2n (p.any fun p => p.firing))
  else if o = 0x054 then BitVec.ofNat 32 s.sill.g
  else if 0x080 ≤ o ∧ o < 0x0C0 then BitVec.ofNat 32 (s.sill.b.getD ((o - 0x080) / 4) 0 / 256)
  else if 0x0C0 ≤ o ∧ o < 0x100 then BitVec.ofNat 32 (s.sill.tfrm.getD ((o - 0x0C0) / 4) 0)
  else s.r pgSILL o

/-! ### Pixel preparation and the binariser (R328 to R330) -/

/-- Window bounds. -/
def State.winX0 (s : State) : Nat := s.f pgSCN 0x050 12 0
def State.winX1 (s : State) : Nat := s.f pgSCN 0x050 28 16
def State.winY0 (s : State) : Nat := s.f pgSCN 0x054 11 0
def State.winY1 (s : State) : Nat := s.f pgSCN 0x054 27 16

/-- v of a pixel with code `x` at (c, r) (R328). -/
def State.scnV (s : State) (c r x : Nat) : Nat :=
  let pos := (c + s.f pgSCN 0x04C 17 16) % 4 + 4 * ((r + s.f pgSCN 0x04C 19 18) % 4)
  let pg := (s.r pgSCN (0x0A0 + 4 * (pos / 2))).toNat / 65536 ^ (pos % 2) % 65536
  min 255 ((x - s.f pgSCN 0x04C 9 0) * pg / 256 / 2 ^ s.f pgSCN 0x04C 15 12)

/-- Floor of the mean of the 3 × 3 neighbourhood, clamped to the window. -/
def prefilter (m : Image) (w h c r : Nat) : Nat :=
  let at_ (dx dy : Nat) : Nat := imgAt m (min (w - 1) (c + dx - 1)) (min (h - 1) (r + dy - 1))
  let xs (dy : Nat) : Nat := at_ (if c = 0 then 1 else 0) dy + at_ 1 dy + at_ 2 dy
  (xs (if r = 0 then 1 else 0) + xs 1 + xs 2) / 9

/-- The values v of the tile (i, j). -/
def tileVals (m : Image) (w h i j : Nat) : List Nat :=
  (List.range (min 16 (h - 16 * j))).flatMap fun y => (List.range (min 16 (w - 16 * i))).map fun x => imgAt m (16 * i + x) (16 * j + y)

/-- mx - mn of the tile (i, j) (R330). -/
def tileContrast (m : Image) (w h i j : Nat) : Nat := let vs := tileVals m w h i j; maxL vs - minL vs

/-- Threshold of the tile (i, j), or none where it is flat (R330). -/
def tileThr (m : Image) (w h cmin i j : Nat) : Option Nat :=
  if w ≤ 16 * i ∨ h ≤ 16 * j ∨ tileContrast m w h i j < cmin then none
  else let vs := tileVals m w h i j; some ((minL vs + maxL vs) / 2)

/-- Whether the pixel (c, r) of the window is dark (R330). -/
def darkAt (m : Image) (thr : Nat → Nat → Option Nat) (bofs : Int) (c r : Nat) : Bool :=
  let i := c / 16
  let j := r / 16
  let near (k : Nat) : List Nat := if k = 0 then [0, 1] else [k - 1, k, k + 1]
  let ts := (near j).flatMap fun y => (near i).filterMap fun x => thr x y
  if ts.isEmpty then false else decide ((imgAt m c r : Int) < ((ts.foldl (· + ·) 0 / ts.length : Nat) : Int) - bofs)

/-- The window's width and height. -/
def State.scnW (s : State) : Nat := s.winX1 + 1 - s.winX0
def State.scnH (s : State) : Nat := s.winY1 + 1 - s.winY0

/-- The values v of the window of a frame (R328). -/
def State.scnImage (s : State) (f : ScnFrame) : Image :=
  let v0 := imgMap s.scnW s.scnH fun c r => s.scnV (s.winX0 + c) (s.winY0 + r) (imgAt f.lines c r)
  if f.illum = false ∨ s.f pgSCN 0x04C 24 24 = 1 then imgMap s.scnW s.scnH (prefilter v0 s.scnW s.scnH) else v0

/-- The dark pixels of a window of values v (R330). -/
def State.binarise (s : State) (v : Image) : List (List Bool) :=
  let w := s.scnW
  let h := s.scnH
  let tw := (w + 15) / 16
  let tiles := (List.range ((h + 15) / 16)).map fun j => (List.range tw).map fun i => tileThr v w h (s.f pgSCN 0x058 7 0) i j
  let thr (i j : Nat) : Option Nat := ((tiles.getD j []).getD i none)
  (List.range h).map fun r => (List.range w).map fun c => darkAt v thr (sgn 8 (s.f pgSCN 0x058 15 8)) c r

/-- The pixels whose modules are erasures: those of a line slot whose capture status is not zero (R333). -/
def State.erased (s : State) (f : ScnFrame) : List (List Bool) := f.stat.map fun st => List.replicate s.scnW (st != 0)

/-- The candidates of a frame in the order found (R330 to R336). -/
def State.scnFound (s : State) (f : ScnFrame) : List Cand :=
  let v := s.scnImage f
  scanFind ⟨s.binarise v, s.erased f, s.scnW, s.scnH⟩ (s.f pgSCN 0x05C 4 0) (!f.illum || s.f pgSCN 0x05C 8 8 == 1)
    (tileContrast v s.scnW s.scnH)

/-! ### Candidates and decoding (R332, R333, R335, R336) -/

/-- The enable bit of a symbology (R334). -/
def symBit (sym : Nat) : Nat := if sym = 1 then 0 else if sym = 2 then 1 else if sym ≤ 4 then 2 else if sym = 5 then 3 else 4

/-- Whether candidate `i` is among the `n` best by score, the first found first (R332). -/
def candTaken (l : List Cand) (n i : Nat) : Bool :=
  let sc (k : Nat) : Nat := (l.map Cand.score).getD k 0
  decide (((List.range l.length).filter fun j => decide (sc i < sc j) || (sc i == sc j && decide (j < i))).length < n)

/-- The candidates within the limit of 65,536 modules, in order (R333). -/
def moduleCap : Nat → List (Nat × Cand) → List (Nat × Cand)
  | _, [] => []
  | left, c :: t => if c.2.modules ≤ left then c :: moduleCap (left - c.2.modules) t else moduleCap left t

/-- The Reed–Solomon margin of a block (R335), and whether the block corrects. -/
def blkOk (b : RsBlk) : Bool := decide (2 * b.e + b.f ≤ b.check) && decide (b.n ≤ 255)

def candDecodes (c : Cand) : Bool := c.checkOk && decide (c.blocks.length ≤ 81) && c.blocks.all blkOk

/-- The six ASCII digits of an ECI designator. -/
def sixDigits (n : Nat) : List Byte := [100000, 10000, 1000, 100, 10, 1].map fun d => BitVec.ofNat 8 (0x30 + n / d % 10)

def candEci (c : Cand) : Bool := c.segs.any fun g => g.1.isSome

/-- The payload (R336). -/
def candPayload (c : Cand) : List Byte :=
  c.segs.flatMap fun g =>
    (match g.1 with
     | some d => 0x5C :: sixDigits d
     | none => []) ++ (if candEci c then g.2.flatMap fun b => if b = 0x5C then [0x5C, 0x5C] else [b] else g.2)

/-! ### Records (R337 to R340) -/

def State.ringBase (s : State) : Nat := (s.r pgSCN 0x064).toNat
def State.ringSz (s : State) : Nat := s.f pgSCN 0x068 3 0
def State.nslot (s : State) : Nat := s.f pgSCN 0x068 16 8
def State.slotAddr (s : State) (k : Nat) : Nat := s.ringBase + k * 2 ^ s.ringSz

/-- SCN_CTRL.CLS, the class of the engine's traffic (R327). -/
abbrev State.scnCls (s : State) : Nat := s.f pgSCN 0x040 13 12

/-- The engine's writes through NI16. -/
def State.scnWrite16 (s : State) (a : Nat) (b : List Byte) : State := (s.engWrite 16 s.scnCls a b).1

/-- Rewrite word 0x2C of a slot. -/
def State.put2c (s : State) (slot : Option Nat) (v : Nat) : State :=
  match slot with
  | some k => s.scnWrite16 (s.slotAddr k + 0x2C) (leBytes 4 v)
  | none => s

/-- A held code closes (R338). -/
def State.heldEnd (s : State) (h : Held) (rewrite : Bool) : State :=
  let s := if rewrite then s.put2c h.slot (h.w2c &&& 0xFFF0FFFF ||| 0x30000) else s
  let s := match h.slot with
    | some k => s.sf pgSCN 0x080 7 0 k
    | none => s
  s.ev pgSCN 1

/-- The 1 ms tick of 800,000 cycles (R338). -/
def State.msTick (s : State) : Nat := s.now / 800000

/-- The sixteen header words of a record (R337); `o2c` is word 0x2C. -/
def State.recWords (s : State) (f : ScnFrame) (flags idx : Nat) (c : Cand) (o2c len crc : Nat) : List Nat :=
  let margin := minL (c.blocks.map fun b => b.check - 2 * b.e - b.f)
  [s.scn.rseq, f.id + flags * 2 ^ 16, f.frm.toNat, f.lp,
    c.sym % 16 + c.level % 4 * 2 ^ 8 + c.version % 256 * 2 ^ 16 + (b2n c.inv) * 2 ^ 24 + (b2n f.illum) * 2 ^ 25,
    c.angle % 512 + idx % 8 * 2 ^ 9 + c.pitch % 65536 * 2 ^ 16] ++
    ((List.range 4).map fun i => let p := c.corners.getD i (0, 0); p.1 % 65536 + p.2 % 65536 * 2 ^ 16) ++
    [sumN (c.blocks.map RsBlk.e) % 256 + sumN (c.blocks.map RsBlk.f) % 256 * 2 ^ 8 + c.blocks.length % 256 * 2 ^ 16 + margin % 256 * 2 ^ 24,
     o2c, len % 65536 + c.append % 256 * 2 ^ 20, crc, s.ltb.frame.toNat, s.posLP]

/-- FLAGS of the frame as the receiver has them now (R337). -/
def State.frameFlags (s : State) (f : ScnFrame) : Nat :=
  let x := s.str f.rx f.st
  if f.job then 0
  else if x.op ∧ x.buf = f.buf then x.flags ||| (if x.lines.any (fun l => l != 0) then 0x20 else 0)
  else s.rd32 (f.recBase + 0x14) % 1024

/-- Send the front write of the record being forwarded to the intake at NI14 (R340, R367). -/
def State.fwdSend (s : State) : State :=
  match s.scn.fwd with
  | ⟨_, _, (a, w) :: _, _, _⟩ :: _ => s.weltRequest 16 0 2 s.scnCls a 4 (leBytes 4 w.toNat)
  | _ => s

/-- A forwarding is queued; the first one starts at once. -/
def State.fwdAdd (s : State) (rseq : Nat) (slot : Option Nat) (hdr : List Nat) (payload : List Byte) : State :=
  let base := 0x40000000 + 0x1000 * pgSECIN + 0x800 + 0x200 * (rseq % 4)
  let p := payload.take 448
  let pw := (List.range ((p.length + 3) / 4)).map fun i => (base + 0x40 + 4 * i, BitVec.ofNat 32 (leNat ((p.drop (4 * i)).take 4)))
  let hwv := ((List.range 15).map (· + 1)).map fun i => (base + 4 * i, BitVec.ofNat 32 (hdr.getD i 0))
  let first := s.scn.fwd.isEmpty
  let s := s.updScn fun x => { x with fwd := x.fwd ++ [⟨rseq, slot, pw ++ hwv ++ [(base, BitVec.ofNat 32 (hdr.getD 0 0))], 0, none⟩] }
  if first then s.fwdSend else s

/-- A new record (R337, R339, R340): the slot it took and its word 0x2C. -/
def State.newRecord (s : State) (f : ScnFrame) (idx : Nat) (c : Cand) (payload : List Byte) (st : Nat) : State × Option Nat × Nat :=
  let flags := s.frameFlags f
  let wr := s.f pgSCN 0x06C 7 0
  let room := 2 ^ s.ringSz - 64
  let full := (wr + 1) % max 1 s.nslot == s.f pgSCN 0x070 7 0
  let fw := !f.job && s.f pgSCN 0x040 10 10 == 1 && st == 1 && decide (c.sym ≤ 4) && payload.head? == some 0xD2
  let o2c := st <<< 16 + (b2n (decide (room < payload.length))) <<< 20 + (b2n fw) <<< 21 + (b2n (candEci c)) <<< 24 + (b2n c.gs1) <<< 25
  let ws := s.recWords f flags idx c o2c payload.length (crc32 payload)
  let rseq := s.scn.rseq
  let s := s.updScn fun x => { x with rseq := if x.rseq = 2 ^ 32 - 1 then 1 else x.rseq + 1 }
  let s := s.sf pgSCN 0x044 11 8 (s.f pgSCN 0x044 11 8 + 1)
  if full then
    let s := (s.cntUp pgSCN 0x07C 15 0 1).ev pgSCN 3
    ((if fw then s.fwdAdd rseq none ws payload else s), none, o2c)
  else
    let s := match s.scn.held.find? fun h => h.slot == some wr with
      | some h => (s.updScn fun x => { x with held := x.held.filter fun (h : Held) => !(h.slot == some wr) }).heldEnd h false
      | none => s
    let s := s.updScn fun x => { x with fwd := x.fwd.map fun g => if g.slot = some wr then { g with slot := none } else g }
    let s := s.scnWrite16 (s.slotAddr wr + 64) (payload.take room)
    let s := s.scnWrite16 (s.slotAddr wr) (ws.flatMap (leBytes 4))
    let s := s.sf pgSCN 0x06C 7 0 ((wr + 1) % max 1 s.nslot)
    let s := s.updScn fun x => { x with recs := x.recs ++ [wr] }
    ((if fw then s.fwdAdd rseq (some wr) ws payload else s), some wr, o2c)

/-- A code as one number: symbology, payload length and CRC-32 (R338). -/
def codeKey (sym len crc : Nat) : Nat := (sym * 2 ^ 32 + len) * 2 ^ 32 + crc

/-- One decoded candidate of a frame (R338): the state and the codes sighted so far. -/
def State.sighting (s : State) (f : ScnFrame) (idx : Nat) (c : Cand) (seen : List (Nat × Nat × Nat)) : State :=
  let p := candPayload c
  let key := (c.sym, p.length, crc32 p)
  let hold := s.f pgSCN 0x060 10 0
  let same (h : Held) : Bool := h.sym == key.1 && h.len == key.2.1 && h.crc == key.2.2
  if seen.contains key then s
  else if hold = 0 then (s.newRecord f idx c p 1).1
  else match s.scn.held.findIdx? same with
    | some i =>
      if s.msTick - ((s.scn.held.map Held.last).getD i 0) < hold then
        s.updScn fun x => { x with frame := x.frame.map fun g => { g with sight := g.sight ++ [codeKey key.1 key.2.1 key.2.2] } }
      else
        let h := s.scn.held.find? same
        let s := (s.updScn fun x => { x with held := x.held.eraseIdx i })
        let s := match h with
          | some h => s.heldEnd h true
          | none => s
        let r := s.newRecord f idx c p 1
        r.1.updScn fun x => { x with held := x.held ++ [⟨key.1, key.2.1, key.2.2, r.2.1, r.2.2, s.msTick⟩] }
    | none =>
      let s :=
        if s.scn.held.length < 8 then s
        else
          let old := minL (s.scn.held.map Held.last)
          match s.scn.held.find? fun h => h.last == old with
          | some h => (s.updScn fun x => { x with held := x.held.erase h }).heldEnd h true
          | none => s
      let r := s.newRecord f idx c p 1
      r.1.updScn fun x => { x with held := x.held ++ [⟨key.1, key.2.1, key.2.2, r.2.1, r.2.2, s.msTick⟩] }

/-- The records of a frame's candidates, in order. -/
def State.results (s : State) (f : ScnFrame) : List (Nat × Cand) → List (Nat × Nat × Nat) → State
  | [], _ => s
  | (i, c) :: t, seen =>
    if candDecodes c then
      (s.sighting f i c seen).results f t ((c.sym, (candPayload c).length, crc32 (candPayload c)) :: seen)
    else
      let s := s.cntUp pgSCN 0x078 31 16 1
      let s := if s.f pgSCN 0x040 9 9 = 1 then (s.newRecord f i { c with segs := [], gs1 := false, append := 0 } [] 4).1 else s
      s.results f t seen

/-- The candidates taken of those found (R332 to R334): the rest are counted. -/
def State.takeCands (s : State) (found : List Cand) : State × List (Nat × Cand) :=
  let l := found.filter fun c => s.f pgSCN 0x05C 4 0 / 2 ^ symBit c.sym % 2 == 1
  let best := ((List.range l.length).zip l).filter fun p => candTaken l (min 8 (s.f pgSCN 0x05C 19 16)) p.1
  let kept := moduleCap 65536 best
  let lost := l.length - kept.length
  let s := s.sf pgSCN 0x044 7 4 kept.length
  let s := if lost = 0 then s else (s.cntUp pgSCN 0x078 15 0 lost).ev pgSCN 5
  (s, (List.range kept.length).zip (kept.map Prod.snd))

/-! ### Frames (R326, R327, R329, R341 to R343) -/

def State.scnRunning (s : State) : Bool := s.f pgSCN 0x040 0 0 == 1

/-- The stream's frame start reaches the engine (R326, R327). -/
def State.scnFs (s : State) (rx st : Nat) : State :=
  if s.domRun 8 = false ∨ s.f pgSCN 0x048 0 0 ≠ rx ∨ s.f pgSCN 0x048 5 4 ≠ st then s
  else
    let lit := decide (s.scnMode = 0) || (decide (s.scnMode = 2) && s.sill.ended)
    let s := s.updSill fun x => { x with ended := false }
    let x := s.str rx st
    if s.scnRunning = false ∨ x.op = false then s
    else if s.scn.frame.isSome then (s.cntUp pgSCN 0x074 31 16 1).ev pgSCN 6
    else
      let f : ScnFrame :=
        { job := false, rx := rx, st := st, base := cfgBuf x.cfg x.buf, stride := (x.cfg.getD 3 0).toNat, fmt := cfgFmt x.cfg,
          w := cfgWidth x.cfg, h := cfgHeight x.cfg, id := x.id, frm := x.frm, lp := x.lp, illum := lit, next := s.winY0, lines := [],
          stat := [], readDone := false, buf := x.buf, recBase := cfgRec x.cfg x.buf, sight := [], cands := none }
      let s := s.w pgSCN 0x044 (BitVec.ofNat 32 (x.id <<< 16))
      s.updScn fun y => { y with frame := some f }

/-- The format of a job frame (R344). -/
def jobFmt (n : Nat) : Nat := if n = 3 then 5 else n

/-- SUBMIT (R341). -/
def State.scnSubmit (s : State) : State :=
  if s.scnRunning ∨ s.scn.frame.isSome then s.errBusy pgSCN 0x040
  else
    let f : ScnFrame :=
      { job := true, rx := 0, st := 0, base := (s.r pgSCN 0x084).toNat, stride := (s.r pgSCN 0x088).toNat, fmt := jobFmt (s.f pgSCN 0x090 1 0),
        w := s.f pgSCN 0x08C 12 0, h := s.f pgSCN 0x08C 27 16, id := s.f pgSCN 0x090 31 16, frm := s.ltb.frame, lp := s.posLP,
        illum := decide (s.scnMode = 0), next := s.winY0, lines := [], stat := [], readDone := false, buf := 0, recBase := 0, sight := [],
        cands := none }
    (s.w pgSCN 0x044 (BitVec.ofNat 32 (f.id <<< 16))).updScn fun x => { x with frame := some f }

/-- The reason of R342 that refuses RUN := 1, or 0. -/
def State.runReason (s : State) : Nat :=
  let c := s.strAct (s.f pgSCN 0x048 0 0) (s.f pgSCN 0x048 5 4)
  let edge (e n : Nat) : Bool := e % 16 == 0 || e == n
  let fmtOk := cfgFmt c = 5 ∨ cfgDt c = 0x2A ∨ cfgDt c = 0x2B ∨ cfgDt c = 0x2C
  if ¬fmtOk then 1
  else if ¬(s.winX0 % 16 = 0 ∧ s.winY0 % 16 = 0 ∧ edge (s.winX1 + 1) (cfgWidth c) = true ∧ edge (s.winY1 + 1) (cfgHeight c) = true ∧
      s.winX0 ≤ s.winX1 ∧ s.winY0 ≤ s.winY1 ∧ s.winX1 < cfgWidth c ∧ s.winY1 < cfgHeight c) then 2
  else if s.ringSz < 8 ∨ 12 < s.ringSz ∨ s.nslot = 0 ∨ s.ringBase % 2 ^ s.ringSz ≠ 0 then 3
  else if s.f pgSCN 0x05C 4 0 = 0 ∨ s.f pgSCN 0x05C 19 16 = 0 then 4
  else if s.scnMode = 3 then 5
  else 0

/-- RUN := 1 (R342). -/
def State.scnRun (s : State) : State :=
  if s.scnRunning then s
  else if s.runReason = 0 then (s.sf pgSCN 0x040 0 0 1).updSill fun x => { x with skip := false }
  else s.err pgSCN 0x1611 s.runReason

/-- The frame or job stops at once (R342). -/
def State.scnStop (s : State) : State := s.updScn fun x => { x with frame := none }

/-- CANCEL (R325, R342). A STROBE of the same cycle is still armed where the cancel ends a scan. -/
def State.scnCancel (s : State) : State :=
  let was := s.scnRunning
  let s := (s.sf pgSCN 0x040 0 0 0).scnStop
  let hs := s.scn.held
  let s := hs.foldl (fun s h => s.heldEnd h true)
    (s.updScn fun x => { x with held := [], cancelAt := if was then some s.now else x.cancelAt })
  s.updSill fun x => { x with pulse := x.pulse.map fun p => if p.firing then p else { p with post := true } }

/-- Whether line slot `y` of the frame may be read: a live slot once the receiver has written it (R327). -/
def State.slotThere (s : State) (f : ScnFrame) (y : Nat) : Bool :=
  let x := s.str f.rx f.st
  f.job || !(x.op && x.buf == f.buf) || decide (y < x.lines.length)

/-- A read not answered OK (R342). -/
def State.scanXferErr (s : State) (sts : Nat) : State :=
  if s.scn.frame.isNone ∨ sts % 16 = 0 then s
  else ((s.scnStop.sf pgSCN 0x044 12 12 1).ev pgSCN 2).err pgSCN 0x4612 (sts % 16)

/-- The engine reads the next line slot of its window (R327 to R329, R342). -/
def State.scanLineRead (s : State) : State :=
  match s.scn.frame with
  | none => s
  | some f =>
    let y := f.next
    if s.domRun 8 = false ∨ s.winY1 < y ∨ s.slotThere f y = false then s
    else
      let n := pixBytes f.fmt (s.winX1 + 1)
      match s.engRead 16 s.scnCls (f.base + y * f.stride) n with
      | (s, .ok) =>
        let pix := unpackLine f.fmt (s.winX1 + 1) (s.rdBytes (f.base + y * f.stride) n)
        let st := if f.job then 0 else (s.rdByte (f.recBase + 0x40 + y)).toNat
        s.updScn fun x => { x with frame := some { f with next := y + 1, lines := f.lines ++ [pix.drop s.winX0], stat := f.stat ++ [st] } }
      | (s, e) => s.scanXferErr e.code

/-- Whether the live frame is closed. -/
def State.frameClosed (s : State) (f : ScnFrame) : Bool := f.job || !((s.str f.rx f.st).op && (s.str f.rx f.st).buf == f.buf)

/-- Write the records of the candidates waiting, or discard them where SKIPBAD drops the frame (R327). -/
def State.scnFlush (s : State) : State :=
  match s.scn.frame with
  | none => s
  | some f =>
    match f.cands with
    | none => s
    | some cs =>
      let skip := s.f pgSCN 0x040 8 8 == 1 && !f.job
      if skip && !s.frameClosed f then s
      else
        let s := s.updScn fun x => { x with frame := some { f with cands := none } }
        if skip && s.frameFlags f != 1 then s else s.results f cs []

/-- Readout ends: the window is located, sampled and decoded (R329 to R336). -/
def State.scanReadoutEnd (s : State) : State :=
  match s.scn.frame with
  | none => s
  | some f =>
    if s.domRun 8 = false ∨ f.readDone ∨ f.next ≤ s.winY1 then s
    else
      let r := s.takeCands (s.scnFound f)
      (r.1.updScn fun x => { x with frame := some { f with readDone := true, cands := some r.2 } }).scnFlush

/-- A slot has all its responses (R337). -/
def State.scanRecordDone (s : State) : State :=
  match s.scn.recs with
  | [] => s
  | _ :: t => (s.updScn fun x => { x with recs := t }).ev pgSCN 0

/-- Hold-off at the end of a frame: repeats of the held codes sighted (R338). -/
def State.holdRepeats (s : State) (f : ScnFrame) : State :=
  (List.range s.scn.held.length).foldl (fun s i =>
    match s.scn.held[i]? with
    | some h =>
      if f.sight.contains (codeKey h.sym h.len h.crc) then
        let v := (min 0xFFFF (h.w2c % 65536 + 1)) + (h.w2c / 2 ^ 20 * 2 ^ 20) + 0x20000
        (s.updScn fun x => { x with held := x.held.set i { h with w2c := v, last := s.msTick } }).put2c h.slot v
      else s
    | none => s) s

/-- The frame or job is finished (R338, R341, R343). -/
def State.scanFrameDone (s : State) : State :=
  match s.scn.frame with
  | none => s
  | some f =>
    if s.domRun 8 = false ∨ f.readDone = false ∨ (s.f pgSCN 0x040 8 8 = 1 ∧ s.frameClosed f = false) then s
    else
      let s := s.scnFlush
      let s := match s.scn.frame with
        | some f => s.holdRepeats f
        | none => s
      let s := s.scnStop
      if f.job then s.ev pgSCN 7 else (s.cntUp pgSCN 0x074 15 0 1).ev pgSCN 2

/-- A held code passes SCN_HOLD ms without a sighting (R338). -/
def State.holdExpire (s : State) (i : Nat) : State :=
  match s.scn.held[i]? with
  | none => s
  | some h =>
    if s.msTick - h.last < s.f pgSCN 0x060 10 0 then s
    else (s.updScn fun x => { x with held := x.held.eraseIdx i }).heldEnd h true

/-- The record at the front leaves the forwarder with FWD_OK or FWD_FAIL (R340). -/
def State.fwdEnd (s : State) (f : Fwd) (ok : Bool) : State :=
  let bit := if ok then 0x400000 else 0x800000
  let set (v : Nat) : Nat := v ||| bit
  let s := s.updScn fun x => { x with fwd := x.fwd.drop 1 }
  let s := match f.slot with
    | none => s
    | some k =>
      match s.scn.held.find? fun (h : Held) => h.slot == some k with
      | some h => (s.updScn fun x => { x with held := x.held.map fun g => if g = h then { g with w2c := set g.w2c } else g }).put2c (some k) (set h.w2c)
      | none => s.put2c (some k) (set (s.rd32 (s.slotAddr k + 0x2C)))
  let s := if ok then s else (s.cntUp pgSCN 0x07C 31 16 1).ev pgSCN 4
  s.fwdSend

/-- The forwarding write in progress is answered (R340). -/
def State.forwardResponse (s : State) (sts : Nat) : State :=
  match s.scn.fwd with
  | [] => s
  | f :: t =>
    if f.wait.isSome then s
    else if sts = 0 then
      if f.left.length ≤ 1 then s.fwdEnd f true
      else (s.updScn fun x => { x with fwd := { f with left := f.left.drop 1, tries := 0 } :: t }).fwdSend
    else if sts = 1 ∧ f.tries < 4 then s.updScn fun x => { x with fwd := { f with tries := f.tries + 1, wait := some s.now } :: t }
    else s.fwdEnd f false

/-- 64 cycles after a refusal the write is sent again (R340). -/
def State.forwardRetry (s : State) : State :=
  match s.scn.fwd with
  | [] => s
  | f :: t =>
    match f.wait with
    | none => s
    | some w => if s.now < w + 64 then s else (s.updScn fun x => { x with fwd := { f with wait := none } :: t }).fwdSend

/-! ### Registers and reset -/

def State.scnRegWrite (s : State) (o : Nat) (v : Word) : State :=
  if o = 0x040 then
    let s := s.plainWrite pgSCN o v (if s.scnRunning ∧ fldOf v 5 4 = 3 then 0x30 else 0) 0 o
    let s := if v.getLsbD 1 then s.scnCancel else if v.getLsbD 0 then s.scnRun else s.sf pgSCN 0x040 0 0 0
    if v.getLsbD 2 then s.scnSubmit else s
  else if o = 0x070 then
    (if s.nslot ≤ fldOf v 7 0 then s.errValue pgSCN o else s.w pgSCN o (v &&& 0xFF))
  else if s.scnRunning ∨ s.scn.frame.isSome then s.errBusy pgSCN o
  else s.plain pgSCN o v

def State.scnRead (s : State) (o : Nat) : Word :=
  if o = 0x044 then
    s.r pgSCN o ||| BitVec.ofNat 32 (b2n s.scn.frame.isSome + 2 * b2n s.scnRunning + 4 * b2n (s.scn.frame.any ScnFrame.job))
  else s.r pgSCN o

/-- A frame start with what it means to the scan engine (R299, R327). -/
def State.frameStartAll (s : State) (n vc num hdr : Nat) : State :=
  let s' := s.csiFrameStart n vc num hdr
  if s.camRun = false ∨ 2 ≤ n ∨ hdr = 2 then s'
  else (List.range 4).foldl (fun t k => if s.strOnVc n k vc then t.scnFs n k else t) s'

/-- The SCAN domain loses its state, or the SCN page is reset. -/
def State.scnReset (s : State) : State := s.updScn fun _ => Scn.zero

/-- A soft reset of SILL: the pulse is dropped; the lock and the buckets last until a reset of SYS (R321). -/
def State.sillReset (s : State) : State := s.skpStop

end Sys2Proof.Machine
end

