-- ==== Sys2Proof/Machine/Awl.lean ====
section
/-! DEFINITION. Machine/Awl.lean: the Awl fault injector (20 R533 to R540). -/

namespace Sys2Proof.Machine

def State.inj (s : State) (i : Nat) : AwlInj := s.awl.getD i AwlInj.zero
def State.updInj (s : State) (i : Nat) (f : AwlInj → AwlInj) : State := { s with awl := s.awl.modify i f }

/-- The offset of register `k` of injector `i` (R540). -/
def aiReg (i k : Nat) : Nat := 0x100 + 0x20 * i + 4 * k

def State.armed (s : State) (i : Nat) : Bool := decide (s.f pgAWL (aiReg i 0) 31 31 = 1)

/-- Awl is available: the unlock granted AWL (R533). -/
def State.awlAvail (s : State) : Bool := decide (s.f pgSEC 0x040 17 17 = 1)

/-- The fields of a point as AIi_MATCH places them, in the order of AIi_MASK (R540). -/
def awlFields (point : Nat) : List (Nat × Nat) :=
  if point = 0 then [(31, 28), (27, 24), (21, 20), (19, 15), (9, 9)]
  else if point = 3 then [(5, 0), (8, 8), (23, 16)] else [(7, 0)]

/-- Every enabled field equals its value (R536). -/
def State.awlMatch (s : State) (i point : Nat) (vals : List Nat) : Bool :=
  (((awlFields point).zip vals).zip (List.range 5)).all fun e =>
    decide (s.f pgAWL (aiReg i 2) e.2 e.2 = 0) || decide (s.f pgAWL (aiReg i 1) e.1.1.1 e.1.1.2 = e.1.2)

/-- The points an injector can watch exist on the grade (R535). -/
def awlPoint (g : Grade) (point sel : Nat) : Bool :=
  if point = 0 then
    let x := sel / 8 % 4
    let y := sel / 32
    let o := sel % 8
    if o < 4 then (meshHop x y o).isSome else (niAt g x y (o % 2)).isSome
  else if point = 3 then decide (sel < 2) else lanePresent g sel

/-- An injector takes one matching unit: whether its trigger fires (R538). -/
def State.awlTrig (s : State) (i : Nat) : State × Bool :=
  let trig := s.f pgAWL (aiReg i 0) 13 12
  let n := s.f pgAWL (aiReg i 3) 15 0
  let x := s.inj i
  if trig = 0 then (s, true)
  else if trig = 1 then (s.updInj i fun x => { x with nth := x.nth + 1 }, decide (n ≠ 0 ∧ (x.nth + 1) % n = 0))
  else if trig = 2 then
    (s.updInj i fun x => { x with draws := x.draws + 1 },
      decide (Config.awlDraw (s.f pgAWL (aiReg i 4) 15 0) x.draws % 65536 < n))
  else (s.updInj i fun x => { x with marked := false }, x.marked)

/-- An injector acts: ACT, its counts, and after COUNT actions DONE and the end of ARM (R538). -/
def State.awlAct (s : State) (i : Nat) : State :=
  let s := (s.cntUp pgAWL (aiReg i 7) 31 16 1).ev pgAWL 0
  let s := s.updInj i fun x => { x with acts := x.acts + 1 }
  let c := s.f pgAWL (aiReg i 3) 31 16
  if c ≠ 0 ∧ c ≤ (s.inj i).acts then (s.sf pgAWL (aiReg i 0) 31 31 0).ev pgAWL 1 else s

/-- A unit passes a point: the injectors see it in index order, and the first whose trigger fires acts (R539). An injector
that already holds a unit for reorder counts the match and lets the unit pass. -/
def State.awlUnit (s : State) (point sel : Nat) (vals : List Nat) : State × Option (Nat × Nat) :=
  (List.range 4).foldl (fun r i =>
    let s := r.1
    if s.armed i ∧ s.f pgAWL (aiReg i 0) 25 24 = point ∧ s.f pgAWL (aiReg i 0) 22 16 = sel ∧ s.awlMatch i point vals = true then
      let s := s.cntUp pgAWL (aiReg i 7) 15 0 1
      let (s, fire) := s.awlTrig i
      let mode := s.f pgAWL (aiReg i 0) 29 28
      if fire = true ∧ r.2 = none ∧ ¬(mode = 2 ∧ (s.inj i).held.isSome = true) then (s.awlAct i, some (i, mode)) else (s, r.2)
    else r) (s, none)

/-- Invert bit BIT of byte BYTE; a position beyond the unit leaves it as it is (R537). -/
def State.awlFlip (s : State) (i : Nat) (b : List Byte) : List Byte :=
  b.modify (s.f pgAWL (aiReg i 5) 15 4) fun x => x ^^^ BitVec.ofNat 8 (2 ^ s.f pgAWL (aiReg i 5) 2 0)

def State.awlFlipUnit (s : State) (i : Nat) : LUnit → LUnit
  | .pkt b bad => .pkt (s.awlFlip i b) bad
  | .ctl b => .ctl (s.awlFlip i b)

/-- The clock a held unit waits by: Welt cycles on a mesh link, time on a lane (R537). -/
def State.heldClock (s : State) : AwlHeld → Nat
  | .welt _ _ => s.now
  | .laneTx _ _ => s.time
  | .laneRx _ _ => s.time

/-- Keep a unit for reorder. -/
def State.awlHold (s : State) (i : Nat) (h : AwlHeld) : State :=
  s.updInj i fun x => { x with held := some h, since := s.heldClock h }

/-- The CODE of a lane's unit under a protocol (R536). -/
def laneCode (proto : Nat) : LUnit → Nat
  | .ctl b => 0x10 + (b.getD 1 0).toNat / 16
  | .pkt b _ => if proto = 3 then (b.getD 1 0).toNat / 16 else (b.getD 0 0).toNat

/-- Units an injector held at a lane's point and sends after a unit that passes it. -/
def State.awlAfter (s : State) (h : AwlHeld → Option LUnit) : State × List LUnit :=
  (List.range 4).foldl (fun r i => match (r.1.inj i).held.bind h with
    | some u => (r.1.updInj i fun x => { x with held := none }, r.2 ++ [u])
    | none => r) (s, [])

def heldTx (n : Nat) : AwlHeld → Option LUnit
  | .laneTx m u => if m = n then some u else none
  | _ => none

def heldRx (n : Nat) : AwlHeld → Option LUnit
  | .laneRx m u => if m = n then some u else none
  | _ => none

/-- A unit passes a lane's point; what leaves it, in order (R537). -/
def State.awlLane (s : State) (rx : Bool) (n proto : Nat) (u : LUnit) : State × List LUnit :=
  let sel := if rx then heldRx n else heldTx n
  match s.awlUnit (if rx then 2 else 1) n [laneCode proto u] with
  | (s, none) => let r := s.awlAfter sel; (r.1, u :: r.2)
  | (s, some (i, mode)) =>
    if mode = 2 then (s.awlHold i (if rx then .laneRx n u else .laneTx n u), [])
    else
      let out := if mode = 0 then [] else if mode = 1 then [s.awlFlipUnit i u] else [u, u]
      let r := s.awlAfter sel
      (r.1, out ++ r.2)

/-- What Awl makes of a Lace frame: the frame as it runs on the bus (none where it is removed), and whether it is sent a second
time (R537). `sel` is 1 for a frame the part receives. -/
def State.awlLace (s : State) (sel addr rd reg : Nat) (b : List Byte) : State × Option (List Byte) × Bool :=
  match s.awlUnit 3 sel [addr, rd, reg] with
  | (s, none) => (s, some b, false)
  | (s, some (i, mode)) =>
    if mode = 0 then (s, none, false) else if mode = 1 then (s, some (s.awlFlip i b), false)
    else (s, some b, decide (mode = 3))

/-! ### Registers (R538, R540) -/

/-- Why ARM := 1 is refused (R540). -/
def State.awlReason (s : State) (i : Nat) (v : Word) : Option Nat :=
  let point := fldOf v 25 24
  let mode := fldOf v 29 28
  if awlPoint s.grade point (fldOf v 22 16) = false then some 1
  else if point = 3 ∧ (mode = 2 ∨ (mode = 3 ∧ fldOf v 22 16 = 1)) then some 2
  else if (fldOf v 13 12 = 1 ∧ s.f pgAWL (aiReg i 3) 15 0 = 0) ∨ (fldOf v 13 12 = 2 ∧ s.f pgAWL (aiReg i 4) 15 0 = 0) then some 3
  else none

/-- A write of AIi_CTRL. Arming loads the LFSR and starts the counts of R538 afresh; the fields beside ARM are written either
way. -/
def State.awlCtrl (s : State) (i : Nat) (v : Word) : State :=
  let was := s.armed i
  let v' := v &&& 0xB37F3000
  if fldOf v 31 31 = 1 then
    match s.awlReason i v with
    | some r => (s.w pgAWL (aiReg i 0) (v' &&& 0x7FFFFFFF)).err pgAWL 0x1211 (i + r * 2 ^ 4)
    | none =>
      let s := s.w pgAWL (aiReg i 0) v'
      if was then s else s.updInj i fun x => { x with nth := 0, draws := 0, acts := 0, marked := false }
  else s.w pgAWL (aiReg i 0) v'

/-- AWL_CTRL.DISARM. -/
def State.awlDisarm (s : State) : State := (List.range 4).foldl (fun s i => s.sf pgAWL (aiReg i 0) 31 31 0) s

/-- AWL_CTRL.CLR. -/
def State.awlClr (s : State) : State := (List.range 4).foldl (fun s i => s.w pgAWL (aiReg i 7) 0) s

/-- A write of the AWL page. -/
def State.awlWrite (s : State) (o : Nat) (v : Word) : State :=
  if s.awlAvail = false then s.err pgAWL 0x7210 o
  else if o = 0x040 then
    let s := if fldOf v 0 0 = 1 then s.awlDisarm else s
    if fldOf v 1 1 = 1 then s.awlClr else s
  else if 0x100 ≤ o ∧ o < 0x180 ∧ (o - 0x100) % 0x20 = 0 then s.awlCtrl ((o - 0x100) / 0x20) v
  else s.plain pgAWL o v

def State.awlRead (s : State) (o : Nat) : Word :=
  if o = 0x044 then
    BitVec.ofNat 32 (b2n s.awlAvail + (List.range 4).foldl (fun a i => a + b2n (s.armed i) * 2 ^ (4 + i)) 0)
  else s.r pgAWL o

/-- A PROBE_MARK line event with a marker (R538). -/
def State.awlMark (s : State) (m : Nat) : State :=
  (List.range 4).foldl (fun s i =>
    if s.f pgAWL (aiReg i 4) 31 16 = m then s.updInj i fun x => { x with marked := true } else s) s

end Sys2Proof.Machine
end

