-- ==== Sys2Proof/Machine/Sec.lean ====
section
/-! DEFINITION. Machine/Sec.lean: island commands, TRNG, boot, debug unlock, credentials and grants (14). -/

namespace Sys2Proof.Machine

/-! ### Key slots and memory arguments (R350 to R352, R381) -/

/-- Whether bytes lie in the Keeper's local memory, which the island reaches without the network. -/
def keeperMem (g : Grade) (a n : Nat) : Bool := memRow g a == some 8 && memRow g (a + n - 1) == some 8

/-- Whether the island can read an argument: in Keeper memory, or by requests that carry T0 (R346, R381). -/
def State.argRead (s : State) (a n : Nat) : State × Bool :=
  if n = 0 ∨ keeperMem s.grade a n then (s, true)
  else
    let r := s.engReqT 0 14 0 2 a n []
    (r.1, decide (r.2 = .ok))

/-- The arguments are read in order; one that cannot be read ends the command with result 4. -/
def State.withArgs (s : State) (l : List (Nat × Nat)) (k : State → State × Nat) : State × Nat :=
  match l with
  | [] => k s
  | e :: q =>
    let r := s.argRead e.1 e.2
    if r.2 then r.1.withArgs q k else (r.1, 4)

/-- Exactly `n` bytes of a value. -/
def fitB (n : Nat) (l : List Byte) : List Byte := (l ++ List.replicate n 0).take n

/-- Bytes of a value of a TYPE. -/
def keyLen (typ : Nat) : Nat :=
  if typ = 1 then 16 else if typ = 2 ∨ typ = 3 ∨ typ = 5 then 32 else if typ = 4 then 64 else if typ = 7 then 48
  else if typ = 6 then 96 else 0

/-- Whether a TYPE fits a USE bit (R351). -/
def typeFits (typ bit : Nat) : Bool :=
  if bit = 8 ∨ bit = 9 ∨ bit = 10 ∨ bit = 12 then typ == 4
  else if bit = 11 then typ == 1
  else if bit = 13 then typ == 1 || typ == 2
  else if bit = 14 then typ == 1 || typ == 2 || typ == 3
  else typ == 2 || typ == 5 || typ == 7

/-- Whether an attribute word may be loaded into slot `n` by the Keeper's firmware (R350, R351). -/
def attrOk (n : Nat) (a : Word) : Bool :=
  let typ := fldOf a 3 0
  let use := fldOf a 15 8
  decide (1 ≤ typ) && decide (typ ≤ 7) &&
    (List.range 8).all (fun b => use / 2 ^ b % 2 == 0 || typeFits typ (8 + b)) &&
    (use == 1 || use == 4 || use == 8 || use == 16 || use &&& 0x1D == 0) &&
    (if n = 3 then typ == 1 && use == 8 else if 24 ≤ n then typ == 4 && use == 4 else decide (4 ≤ n))

/-- Load a slot: result code (R351, R353). -/
def State.loadSlot (s : State) (n : Nat) (a : Word) (v : List Byte) : State × Nat :=
  if 32 ≤ n then (s, 4)
  else if s.f pgSEC 0x040 2 2 = 1 ∨ (s.kslot n).use 20 then (s, 3)
  else if attrOk n a = false then (s, 1)
  else (s.setSlot n ⟨a &&& 0x3FFF0F, v⟩, 0)

/-! ### Commands of the Keeper (R348 to R363, R372, R381) -/

/-- Write a result to an argument address. -/
def State.putArg (s : State) (a : Nat) (b : List Byte) : State × Nat :=
  if keeperMem s.grade a b.length then (s.wrBytes a b, 0)
  else
    let r := s.engReqT 0 14 2 2 a b.length b
    (r.1, if r.2 = .ok then 0 else 4)

/-- A slot used by an operation: its result where it may not be. -/
def State.slotUse (s : State) (n : Nat) (types : List Nat) (bit : Nat) : Nat :=
  let k := s.kslot n
  if 32 ≤ n then 4 else if k.typ = 0 then 2 else if types.contains k.typ && k.use bit then 0 else 1

/-- Advance a thermometer up to a count (R354, R363). -/
def State.thermoTo (s : State) (w n : Nat) : State :=
  (List.range n).foldl (fun s k => if s.thermo w k then s else s.thermoSet w k) s

/-- Whether a word of OTP is one of a thermometer field: its first word and logical bits (R354). -/
def thermoField (w : Nat) : Option (Nat × Nat) :=
  if w = 0x1C then some (0x1C, 2) else if w = 0x1D then some (0x1D, 2)
  else if 0x28 ≤ w ∧ w < 0x58 then some (0x28 + 12 * ((w - 0x28) / 12), 128)
  else if 0x58 ≤ w ∧ w < 0x70 then some (0x58, 255) else none

/-- OTP_PROG (R354, R355): a word, or logical bit `v` of a thermometer field. -/
def State.otpProg (s : State) (w : Nat) (v : Word) (supplyOk : Bool) : State × Nat :=
  if 512 ≤ w then (s, 4)
  else if w < 12 then (s, 6)
  else if supplyOk = false then (s, 6)
  else match thermoField w with
    | some (b, n) => if n ≤ v.toNat then (s, 4) else if s.thermo b v.toNat then (s, 6) else (s.thermoSet b v.toNat, 0)
    | none => if s.otpDone w then (s, 6) else (s.burnOtp w v, 0)

/-- Program the next EPOCH bit and clear every LOW, or report exhaustion (R357). -/
def State.nextEpoch (s : State) : State × Nat :=
  let n := s.thermoCount epochWord 255
  if 255 ≤ n then (((s.sf pgSEC 0x040 5 5 1).err pgSEC 0x7712 0).evalUpd, 7)
  else
    let k := ((List.range 255).find? fun k => !s.thermo epochWord k).getD 0
    ((s.thermoSet epochWord k).updSec fun x => { x with low := List.replicate 8 0 }, 0)

/-- The value of MCn (R357). -/
def State.mcVal (s : State) (n : Nat) : Nat := (s.thermoCount epochWord 255) % 256 * 2 ^ 24 + s.sec.low.getD n 0

/-- MC_INC on MCn (R357). -/
def State.mcInc (s : State) (n : Nat) : State × Nat :=
  if 8 ≤ n then (s, 4)
  else if s.sec.low.getD n 0 + 1 < 2 ^ 24 then (s.updSec fun x => { x with low := x.low.modify n (· + 1) }, 0)
  else s.nextEpoch

/-- Window registers of issuer `i` (R372). -/
def State.winH (s : State) (i : Nat) : Nat := (s.r pgSEC (0x080 + 4 * i)).toNat
def State.winMap (s : State) (i : Nat) : Nat := s.f pgSEC (0x0A0 + 4 * i) 15 0
def State.setWin (s : State) (i h m : Nat) : State :=
  ((s.w pgSEC (0x080 + 4 * i) (BitVec.ofNat 32 h)).w pgSEC (0x0A0 + 4 * i) (BitVec.ofNat 32 (m % 65536))).sf pgSEC 0x040 (24 + i) (24 + i) 1

/-- What the counter window answers to counter `c`: the new window, or reason 8 or 9 (R372). -/
def ctrWindow (h m c : Nat) : Except Nat (Nat × Nat) :=
  if h < c then
    let sh := c - h
    .ok (c, if 17 ≤ sh then 0 else (m <<< sh ||| 1 <<< (sh - 1)) % 65536)
  else
    let d := h - c
    if 1 ≤ d ∧ d ≤ 16 ∧ (m >>> (d - 1)) % 2 = 0 then .ok (h, m ||| 1 <<< (d - 1))
    else if d = 0 ∨ (1 ≤ d ∧ d ≤ 16) then .error 8
    else .error 9

/-- A boot-image header checked but for its root and key, and for CLASS 0 where `cls` names none (R359, R360, R362). -/
def headBad (b : List Byte) (cls : Option Nat) : Bool :=
  let z (a n : Nat) : Bool := ((b.drop a).take n).all fun x => x == 0
  let c := ib b 6
  !(i32 b 0 == 0x3149425A && i16 b 4 == 0x0100 && decide (b.length ≥ 256) &&
    (match cls with | some k => c == k | none => decide (1 ≤ c) && decide (c ≤ 3)) &&
    decide (i32 b 8 ≤ 128) && i32 b 0x10 % 16 == 0 && z 0x18 8 && z 0x80 64)

/-- IMG_CHECK on the island's copy, empty where the image could not be read (R362). -/
def State.imgCheck (s : State) (b : List Byte) : State × Nat :=
  if b.length < 256 then (s, 4)
  else match s.ks1 with
    | none => (s, 2)
    | some k =>
      let c := ib b 6
      if headBad b none then (s, 5)
      else if Config.ecdsaVerify k (Config.sha 256 (b.take 0xC0)) ((b.drop 0xC0).take 64) = false then (s, 5)
      else if i32 b 8 < s.thermoCount (arbWord c) 128 then (s, 5)
      else if Config.sha 256 ((b.drop 256).take (i32 b 0x10)) ≠ (b.drop 0x20).take 32 then (s, 5)
      else (s.updSec fun x => { x with passed := (c, i32 b 8) :: x.passed.filter fun e => !(e.1 == c) }, 0)

/-- AES in mode 0 CTR with a counter block of 16 bytes, 1 GCM with an IV of 12 and a tag of 16, 2 CMAC (R348): the output, or none
where the tag is wrong. -/
def aesOut (mode : Nat) (key iv data : List Byte) (dec : Bool) : Option (List Byte) :=
  if mode = 2 then some (fitB 16 (Config.cmac key data))
  else if mode = 0 then some (fitB data.length (Config.aes 0 key iv data))
  else if dec = false then some (fitB (data.length + 16) (Config.aes 1 key iv data))
  else if Config.aesTagOk key iv data = false then none
  else some (fitB (data.length - 16) (Config.aes 2 key iv data))

/-- A key bundle entry (R352): `head` is its first 16 bytes. -/
def State.bundle (s : State) (head : List Byte) (x : KSlot) : List Byte :=
  let v := Config.keyWrap (s.kslot 0).val head (fitB 96 x.val)
  head ++ fitB 96 (if x.typ = 4 ∨ x.typ = 6 then x.val else v) ++ fitB 16 (v.drop 96)

/-- The slot, attributes and value of a key bundle entry, or none where its tag is wrong (R352). -/
def State.unbundle (s : State) (b : List Byte) : Option (Nat × Word × List Byte) :=
  let typ := ib b 1 % 16
  (Config.keyUnwrap (s.kslot 0).val (b.take 16) (b.drop 16)).map fun v =>
    (ib b 0, BitVec.ofNat 32 (typ + i16 b 2 % 16384 * 256),
      fitB (keyLen typ) (if typ = 4 ∨ typ = 6 then b.drop 16 else v))

/-- The effect of a command and its result code (R381). -/
def State.kRun (s : State) (k : KCmd) : State × Nat :=
  match k with
  | .hash bits src len dst =>
    if bits = 256 ∨ bits = 384 then
      s.withArgs [(src, len)] fun s => s.putArg dst (fitB (bits / 8) (Config.sha bits (s.rdBytes src len)))
    else (s, 4)
  | .hmac n src len dst =>
    let u := s.slotUse n [3] 14
    if u ≠ 0 then (s, u)
    else s.withArgs [(src, len)] fun s => s.putArg dst (fitB 32 (Config.hmac (s.kslot n).val (s.rdBytes src len)))
  | .aes n mode iv src len dst dec =>
    let u := s.slotUse n [1, 2] (if mode = 2 then 14 else 13)
    let ivLen := if mode = 0 then 16 else if mode = 1 then 12 else 0
    if u ≠ 0 then (s, u)
    else if 3 ≤ mode then (s, 4)
    else s.withArgs [(iv, ivLen), (src, len)] fun s =>
      match aesOut mode (s.kslot n).val (s.rdBytes iv ivLen) (s.rdBytes src len) dec with
      | some b => if b.isEmpty then (s, 0) else s.putArg dst b
      | none => (s, 5)
  | .sign n dg dst =>
    let u := s.slotUse n [5, 7] 15
    let len := keyLen (s.kslot n).typ
    if u ≠ 0 then (s, u)
    else s.withArgs [(dg, len)] fun s =>
      s.tookFree.putArg dst (fitB (2 * len) (Config.ecdsaSign (s.kslot n).val (s.rdBytes dg len) s.freeCtr))
  | .verify n dg sg =>
    let t := (s.kslot n).typ
    let u := if 32 ≤ n then 4 else if t = 0 then 2 else if t = 4 ∨ t = 6 then 0 else 1
    if u ≠ 0 then (s, u)
    else s.withArgs [(dg, keyLen t / 2), (sg, keyLen t)] fun s =>
      (s, if Config.ecdsaVerify (s.kslot n).val (s.rdBytes dg (keyLen t / 2)) (s.rdBytes sg (keyLen t)) then 0 else 5)
  | .ecdh n pub dst =>
    let u := s.slotUse n [5, 7] 15
    let len := keyLen (s.kslot n).typ
    if u ≠ 0 then (s, u)
    else s.withArgs [(pub, 2 * len)] fun s => s.putArg dst (fitB len (Config.ecdh (s.kslot n).val (s.rdBytes pub (2 * len))))
  | .ksSet n a src =>
    s.withArgs [(src, keyLen (fldOf a 3 0))] fun s => s.loadSlot n a (s.rdBytes src (keyLen (fldOf a 3 0)))
  | .ksWrap n dst =>
    let x := s.kslot n
    let u := s.slotUse 0 [2] 15
    if 32 ≤ n then (s, 4) else if x.typ = 0 then (s, 2) else if u ≠ 0 then (s, u)
    else
      let head := [BitVec.ofNat 8 n, BitVec.ofNat 8 x.typ] ++ leBytes 2 (x.attr.toNat / 256 % 16384) ++
        ((List.range 3).flatMap fun i => leBytes 4 (Config.trng (s.freeCtr + i)).toNat)
      ({ s with freeCtr := s.freeCtr + 3 } : State).putArg dst (s.bundle head x)
  | .ksUnwrap src =>
    let u := s.slotUse 0 [2] 15
    if u ≠ 0 then (s, u)
    else s.withArgs [(src, 128)] fun s =>
      match s.unbundle (s.rdBytes src 128) with
      | none => (s, 5)
      | some e => s.loadSlot e.1 e.2.1 e.2.2
  | .ksClear n =>
    if 32 ≤ n then (s, 4)
    else if s.f pgSEC 0x040 2 2 = 1 ∨ (s.kslot n).use 20 then (s, 3) else (s.setSlot n ⟨0, []⟩, 0)
  | .ksFreeze => ((s.sf pgSEC 0x040 2 2 1).evalUpd, 0)
  | .ksReadPub n dst =>
    let x := s.kslot n
    if 32 ≤ n then (s, 4) else if x.typ = 0 then (s, 2) else if x.typ = 4 ∨ x.typ = 6 then s.putArg dst x.val else (s, 1)
  | .otpRead w dst => if 512 ≤ w then (s, 4) else if 4 ≤ w ∧ w < 12 then (s, 6) else s.putArg dst (leBytes 4 (s.otp w).toNat)
  | .otpProg w v ok => let r := s.otpProg w v ok; (r.1.evalUpd, r.2)
  | .lcProd => if s.hashDone 0x0C && s.hashDone 0x20 then ((s.thermoSet 0x1D 0).evalUpd, 0) else (s, 6)
  | .lcEnd => ((s.thermoSet 0x1D 1).evalUpd, 0)
  | .imgCheck b => s.imgCheck b
  | .arbAdvance c =>
    match s.sec.passed.find? fun e => e.1 == c with
    | some e => (s.thermoTo (arbWord c) e.2, 0)
    | none => (s, 4)
  | .mcInc n => s.mcInc n
  | .timeSet v => ((s.w pgSEC 0x048 v).sf pgSEC 0x040 1 1 1, 0)
  | .winSet i v =>
    if 8 ≤ i then (s, 4) else if s.f pgSEC 0x040 (24 + i) (24 + i) = 1 then (s, 4) else (s.setWin i v.toNat 0xFFFF, 0)
  | .winRaise i v =>
    if 8 ≤ i ∨ v.toNat ≤ s.winH i ∨ s.f pgSEC 0x040 (24 + i) (24 + i) = 0 then (s, 4)
    else match ctrWindow (s.winH i) (s.winMap i) v.toNat with
      | .ok w => (s.setWin i w.1 w.2, 0)
      | .error _ => (s, 4)

/-- Whether a command is an operation of the crypto engine (R348). -/
def KCmd.crypto : KCmd → Bool
  | .hash .. => true
  | .hmac .. => true
  | .aes .. => true
  | .sign .. => true
  | .verify .. => true
  | .ecdh .. => true
  | .ksWrap .. => true
  | .ksUnwrap .. => true
  | .imgCheck .. => true
  | _ => false

/-- Whether a command draws from the TRNG: a signature its nonce (R348), a wrapped entry its IV (R352). -/
def KCmd.random : KCmd → Bool
  | .sign .. => true
  | .ksWrap .. => true
  | _ => false

/-- The Keeper gives a command (R381): ignored while BUSY. -/
def State.kCmd (s : State) (k : KCmd) : State :=
  if s.sec.kop.isSome ∨ s.domRun 0 = false then s
  else
    let s := (s.updSec fun x => { x with kop := some k }).w pgSECK 0x064 1
    if k.crypto then s.engAsk .keeper else s

/-- IMG_CHECK copies the image when it is accepted (R362). -/
def State.kImgCheck (s : State) (src : Nat) : State :=
  if s.sec.kop.isSome ∨ s.domRun 0 = false then s
  else
    let n := 256 + s.rd32 (src + 0x10)
    let h := s.argRead src 256
    let b := if h.2 then h.1.argRead src n else h
    b.1.kCmd (.imgCheck (if b.2 then s.rdBytes src n else []))

/-- Whether a counter command waits for the Seam (R357). -/
def KCmd.needsSeam : KCmd → Bool
  | .mcInc _ => true
  | _ => false

/-- Whether the command in progress can complete now: an operation of the crypto engine once the engine serves it, one that draws
from the TRNG while the TRNG delivers (DESIGN CHOICE, log entry 62), a counter command while the Seam carries its write. -/
def State.kReady (s : State) (k : KCmd) : Bool :=
  (!k.crypto || s.engTurn .keeper) && (!k.random || s.sec.trngUp) && !(k.needsSeam && s.seam.hold)

/-- The command in progress completes (R348, R381). -/
def State.cryptoOpDone (s : State) : State :=
  match s.sec.kop with
  | none => s
  | some k =>
    if s.domRun 0 = false ∨ s.kReady k = false then s
    else
      let r := s.kRun k
      ((r.1.updSec fun x => { x with kop := none }).engLeave .keeper).w pgSECK 0x064 (BitVec.ofNat 32 (r.2 <<< 8))

/-- Writes to the SECK page (R381): GO starts no operation whose code the spec does not state (log entry 31). -/
def State.seckWrite (s : State) (o : Nat) (v : Word) : State :=
  if o = 0x040 then (if s.sec.kop.isSome then s else s.w pgSECK 0x040 (v &&& 0x1FFF)) else s.plain pgSECK o v

/-! ### TRNG (R349) -/

def State.trngStartupDone (s : State) : State :=
  if s.domRun 0 = false ∨ s.sec.trngUp ∨ 3 ≤ s.sec.trngFails then s
  else (s.updSec fun x => { x with trngUp := true }).sf pgSEC 0x040 4 4 1

def State.trngHealthFail (s : State) : State :=
  if s.domRun 0 = false ∨ 3 ≤ s.sec.trngFails then s
  else
    let s := s.updSec fun x => { x with trngUp := false, trngFails := x.trngFails + 1 }
    (((s.sf pgSEC 0x040 4 4 0).ev pgSEC 7).err pgSEC 0x6711 0).evalUpd

/-! ### Boot (R360, R361) -/

/-- The step of R360 that fails for the slot at `base`, or none. -/
def State.bootStep (s : State) (base : Nat) : Option Nat :=
  let b := s.rdBytes base 256
  let size := i32 b 0x10
  let load := i32 b 0x0C
  let root := ib b 7
  let pub := (b.drop 0x40).take 64
  let rootWord := if root = 0 then 0x0C else 0x14
  let unchecked := s.lifecycle = 0 ∧ s.hashDone 0x0C = false
  if ¬unchecked ∧ (headBad b (some 0) = true ∨ 1 < root ∨ s.thermo 0x1C root = true ∨ Config.sha 256 pub ≠ s.otpBytes rootWord 8 ∨
      Config.ecdsaVerify pub (Config.sha 256 (b.take 0xC0)) ((b.drop 0xC0).take 64) = false ∨
      i32 b 8 < s.thermoCount (arbWord 0) 128) then some 3
  else if load < 0x30400000 ∨ 0x30440000 < load + size then some 4
  else if ¬unchecked ∧ Config.sha 256 (s.rdBytes (base + 256) size) ≠ (b.drop 0x20).take 32 then some 5
  else none

/-- The first stage at `base` is loaded and the Keeper starts at ENTRY. -/
def State.bootGo (s : State) (base slot : Nat) : State :=
  let b := s.rdBytes base 256
  let s := s.wrBytes (i32 b 0x0C) (s.rdBytes (base + 256) (i32 b 0x10))
  let s := s.setSlot 1 ⟨0x100104, (b.drop 0x40).take 64⟩
  let s := s.sf pgSEC 0x040 11 10 slot
  let s := s.updSec fun x => { x with booted := true, passed := (0, i32 b 8) :: x.passed.filter fun e => !(e.1 == 0) }
  s.updCore 4 fun k => { k with pc := i32 b 0x14, run := true, fresh := false, redir := true, fbuf := [], wait := none }

/-- Step 5 of R360 has read the body to LOAD before its hash fails. -/
def State.bootBody (s : State) (base : Nat) : State :=
  if s.bootStep base = some 5 then
    let b := s.rdBytes base 256
    s.wrBytes (i32 b 0x0C) (s.rdBytes (base + 256) (i32 b 0x10))
  else s

/-- The SEC start after a loss of the retention store (R357, R358). -/
def State.retStart (s : State) : State :=
  if s.sec.retLost then
    let s := (s.nextEpoch).1.updSec fun x => { x with retLost := false, low := List.replicate 8 0 }
    ((s.sf pgSEC 0x040 1 1 0).sf pgSEC 0x040 31 24 0).evalUpd
  else s

/-- The boot ROM runs (R360, R361). -/
def State.bootRomStart (s : State) : State :=
  if s.domRun 0 = false ∨ s.sec.booted ∨ s.sec.winSince.isSome then s
  else
    let s := s.retStart
    let s := s.setSlot 0 ⟨0x8002, s.otpBytes 4 8⟩
    if s.lifecycle = 2 then
      let s := (List.range 32).foldl (fun s n => s.setSlot n ⟨0, []⟩) s
      (s.updCore 4 fun k => { k with run := false }).updSec fun x => { x with booted := true }
    else
      let baseB := 0x20000000 + 0x10000 * fldOf (s.otp 0x70) 23 8
      match s.bootStep 0x20000000 with
      | none => s.bootGo 0x20000000 1
      | some fa =>
        let two := (s.otp 0x70).getLsbD 0
        let s := s.bootBody 0x20000000
        match (if two then s.bootStep baseB else some fa) with
        | none => s.bootGo baseB 2
        | some f =>
          let s := if two then s.bootBody baseB else s
          let s := (s.sf pgSEC 0x040 11 10 3).err pgSEC 0x7713 (f + (b2n two) <<< 8)
          s.updSec fun x => { x with winSince := some s.time }

/-! ### Debug unlock (R365, R366) -/

/-- The instructions of the JTAG port (R364 to R366): IDCODE, BYPASS and SEC_MBX always, the rest by lifecycle or unlock. -/
inductive JtagIr where
  | idcode
  | bypass
  | secMbx
  | app
  | keeper
  | boundary
  deriving DecidableEq, Repr

/-- Whether the port offers an instruction (R356, R364, R366). -/
def State.jtagOffers (s : State) (i : JtagIr) : Bool :=
  let perm (b : Nat) : Bool := s.f pgSEC 0x040 (16 + b) (16 + b) == 1
  match i with
  | .idcode => true
  | .bypass => true
  | .secMbx => true
  | .app => decide (s.lifecycle = 0) || perm 0
  | .keeper => decide (s.lifecycle = 0) || perm 2
  | .boundary => decide (s.lifecycle = 0) || perm 3

/-- A request through SEC_MBX: the challenge is the answer. It draws its NONCE from the TRNG, and is ignored while that gives no
output (DESIGN CHOICE, log entry 62). -/
def State.dbgRequest (s : State) (perm : Nat) : State :=
  if s.domRun 0 = false ∨ s.jtagOffers .secMbx = false ∨ s.sec.tok.isSome then s
  else if 3 ≤ s.sec.dbgFails then s.err pgSEC 0x7714 0
  else if s.sec.trngUp = false then s
  else
    let nonce := (List.range 4).flatMap fun i => leBytes 4 (Config.trng (s.freeCtr + i)).toNat
    let s := { s with freeCtr := s.freeCtr + 4 }
    let s := s.updSec fun x => { x with chal := some (perm % 256, nonce) }
    { s with resp := ⟨.ok, 0, s.otpBytes 0 4 ++ nonce ++ [BitVec.ofNat 8 perm], false, false⟩ }

/-- A failed token (R365). -/
def State.dbgFail (s : State) : State :=
  (s.updSec fun x => { x with tok := none, chal := none, dbgFails := min 3 (x.dbgFails + 1) }).err pgSEC 0x7714 0

/-- The debugger returns key and signature: the check starts; without a challenge the token fails. -/
def State.dbgToken (s : State) (key sig : List Byte) : State :=
  if s.domRun 0 = false ∨ s.sec.tok.isSome then s
  else match s.sec.chal with
    | none => if 3 ≤ s.sec.dbgFails then s.err pgSEC 0x7714 0 else s.dbgFail
    | some (perm, nonce) => (s.updSec fun x => { x with chal := none, tok := some ⟨perm, nonce, key, sig⟩ }).engAsk .unlock

/-- The check ends (R365, R366). -/
def State.dbgVerifyDone (s : State) : State :=
  match s.sec.tok with
  | none => s
  | some t =>
    let msg := [0x5A, 0x4D, 0x44, 0x55] ++ s.otpBytes 0 4 ++ t.nonce ++ [BitVec.ofNat 8 t.perm]
    if s.domRun 0 = false ∨ s.engTurn .unlock = false then s
    else
    let s := s.engLeave .unlock
    if Config.sha 256 t.key ≠ s.otpBytes 0x20 8 then s.dbgFail
    else if Config.ecdsaVerify t.key (Config.sha 256 msg) t.sig = true then
      let s := s.updSec fun x => { x with tok := none, unlocked := true, booted := x.booted || x.winSince.isSome, winSince := none }
      let s := s.setSlot 2 ⟨0x1004, t.key⟩
      let s := s.sf pgSEC 0x040 23 16 (s.f pgSEC 0x040 23 16 ||| t.perm)
      let s := if t.perm / 4 % 2 = 1 then s.zeroise.updSec fun x => { x with keeperDbg := true, stopped := true } else s
      (s.ev pgSEC 5).evalUpd
    else (s.setSlot 2 ⟨0x1004, t.key⟩).dbgFail

/-! ### The accepted form of a credential (R368 to R370) -/

/-- A CBOR unsigned integer of up to 32 bits in its shortest form: value and rest. -/
def cborUint (b : List Byte) : Option (Nat × List Byte) :=
  let be (n : Nat) : Nat := ((b.drop 1).take n).foldl (fun a x => 256 * a + x.toNat) 0
  match b with
  | [] => none
  | h :: _ =>
    let k := h.toNat
    if k < 24 then some (k, b.drop 1)
    else if k = 0x18 then (if b.length < 2 ∨ be 1 < 24 then none else some (be 1, b.drop 2))
    else if k = 0x19 then (if b.length < 3 ∨ be 2 < 256 then none else some (be 2, b.drop 3))
    else if k = 0x1A then (if b.length < 5 ∨ be 4 < 65536 then none else some (be 4, b.drop 5))
    else none

/-- Strip a prefix. -/
def stripB (p b : List Byte) : Option (List Byte) := if b.take p.length = p then some (b.drop p.length) else none

/-- A key byte followed by an unsigned integer. -/
def cborPair (k : Byte) (b : List Byte) : Option (Nat × List Byte) := (stripB [k] b).bind cborUint

/-- The claims map (R369): vid, nbf, dur, ctr and rights. -/
def parseClaims (b : List Byte) : Option (List Byte × Nat × Nat × Nat × Nat) :=
  (stripB [0xA5, 0x01, 0x48] b).bind fun b =>
    if b.length < 8 then none
    else (cborPair 2 (b.drop 8)).bind fun n => (cborPair 3 n.2).bind fun d => (cborPair 4 d.2).bind fun c =>
      (cborPair 5 c.2).bind fun r =>
        if r.2.isEmpty ∧ 1 ≤ d.1 ∧ 1 ≤ c.1 ∧ 1 ≤ r.1 ∧ r.1 ≤ 65535 then some (b.take 8, n.1, d.1, c.1, r.1) else none

/-- A credential in the accepted form (R368, R370). -/
def parseCred (b : List Byte) : Option Cred :=
  (stripB [0xD2, 0x84, 0x46, 0xA2, 0x01, 0x26, 0x04, 0x41] b).bind fun b1 =>
    match b1 with
    | [] => none
    | kid :: b2 =>
      if 8 ≤ kid.toNat then none
      else (stripB [0xA0] b2).bind fun b3 =>
        match b3 with
        | [] => none
        | h :: b4 =>
          let short := decide (0x40 ≤ h.toNat) && decide (h.toNat ≤ 0x57)
          let long := h == 0x58 && decide (24 ≤ (b4.headD 0).toNat)
          let n := if short then h.toNat - 0x40 else (b4.headD 0).toNat
          let body := if short then b4 else b4.drop 1
          if !(short || long) || decide (body.length < n) then none
          else
            let payload := body.take n
            (stripB [0x58, 0x40] (body.drop n)).bind fun sg =>
              if sg.length ≠ 64 then none
              else (parseClaims payload).map fun c =>
                { kid := kid.toNat, vid := c.1, nbf := c.2.1, dur := c.2.2.1, ctr := c.2.2.2.1, rights := c.2.2.2.2,
                  sigIn := [0x84, 0x6A, 0x53, 0x69, 0x67, 0x6E, 0x61, 0x74, 0x75, 0x72, 0x65, 0x31] ++
                    [0x46, 0xA2, 0x01, 0x26, 0x04, 0x41, kid] ++ [0x40] ++ ((if short then [h] else [h, b4.headD 0]) ++ payload),
                  sig := sg }

/-! ### Checks, windows and grants (R371 to R377) -/

/-- The credential of an intake slot (R367): the payload the header announces, or none where the record is malformed. -/
def intakePayload (b : List Byte) : Option (List Byte) :=
  let n := i16 b 0x30
  let p := (b.drop 0x40).take n
  if i32 b 0x2C / 2 ^ 20 % 2 = 1 ∨ 448 < n ∨ crc32 p ≠ i32 b 0x34 then none else some p

/-- The checks of R371 in their order: the reason, and the credential where its form is right. Of reason 12, the island fault
counts for intake credentials alone (R374; DEDUCED, log entry 110). -/
def State.credReason (s : State) (intake : Bool) (b : Option (List Byte)) : Nat × Option Cred :=
  let k3 := s.kslot 3
  if (intake ∧ s.f pgSEC 0x040 3 3 = 1) ∨ s.sec.keeperDbg ∨ s.f pgSEC 0x040 5 5 = 1 ∨ (intake ∧ ¬(k3.typ = 1 ∧ k3.use 11)) then (12, none)
  else match b.bind parseCred with
    | none => (1, none)
    | some c =>
      let k := s.kslot (24 + c.kid)
      let time := (s.r pgSEC 0x048).toNat
      let rsn :=
        if ¬(k.typ = 4 ∧ k.use 10) then 2
        else if Config.ecdsaVerify k.val (Config.sha 256 c.sigIn) c.sig = false then 3
        else if c.vid ≠ s.otpBytes 0x1E 2 then 4
        else if s.f pgSEC 0x040 1 1 = 0 then 5
        else if time < c.nbf then 6
        else if c.nbf + c.dur ≤ time then 7
        else if s.f pgSEC 0x040 (24 + c.kid) (24 + c.kid) = 0 then 10
        else match ctrWindow (s.winH c.kid) (s.winMap c.kid) c.ctr with
          | .ok _ => 0
          | .error e => e
      (rsn, some c)

/-- Big-endian bytes. -/
def beBytes (n v : Nat) : List Byte := (leBytes n v).reverse

/-- The 24 bytes of a grant frame (R376). -/
def State.grantBytes (s : State) (c : Cred) (fresh : Nat) : List Byte :=
  let body := [0x01, BitVec.ofNat 8 c.kid] ++ beBytes 2 c.rights ++ beBytes 4 c.ctr ++ beBytes 4 (min (c.nbf + c.dur) 0xFFFFFFFF) ++
    beBytes 4 fresh
  body ++ fitB 8 (Config.cmac (s.kslot 3).val (beBytes 4 (s.f pgSEC 0x054 29 0 % 2 ^ 29 + (s.f pgSEC 0x054 29 29) <<< 31) ++ body))

/-- The sequencer takes the next credential (R373). -/
def State.credCheckStart (s : State) : State :=
  match s.sec.chk, s.sec.queue with
  | none, e :: q =>
    if s.domRun 0 = false then s
    else
      let s := (s.updSec fun x => { x with chk := some e, queue := q }).engAsk .sequencer
      match e.1 with
      | .slot k => (s.sf pgSECIN 0x040 k k 0).sf pgSECIN 0x040 (4 + k) (4 + k) 1
      | .svc => s
  | _, _ => s

/-- An intake credential ends with reason `r` (R371, R375). -/
def State.intakeEnd (s : State) (k : Nat) (hdr : List Byte) (r : Nat) (c : Option Cred) : State :=
  let s := (s.sf pgSECIN 0x040 (4 + k) (4 + k) 0).updSec fun x => { x with closed := x.closed.erase k }
  let kid := (c.map (·.kid)).getD 0
  let s := s.w pgSEC 0x060 (BitVec.ofNat 32 (r + kid <<< 4 + (i32 hdr 0 % 65536) <<< 16))
  let s := match c with
    | some c => s.w pgSEC 0x064 (BitVec.ofNat 32 c.ctr)
    | none => s
  match r, c with
  | 0, some c =>
    let s := match ctrWindow (s.winH c.kid) (s.winMap c.kid) c.ctr with
      | .ok w => s.setWin c.kid w.1 w.2
      | .error _ => s
    let s := (s.cntUp pgSEC 0x05C 15 0 1).ev pgSEC 0
    let inc : State × Nat := s.mcInc 0
    let s := inc.1
    if inc.2 = 0 then
      let fresh := s.mcVal 0
      let s := s.w pgSEC 0x068 (BitVec.ofNat 32 fresh)
      s.updSec fun x => { x with grants := x.grants ++ [⟨s.grantBytes c fresh, s.f pgSEC 0x054 31 30, s.time⟩] }
    else s
  | _, _ => ((s.cntUp pgSEC 0x05C 31 16 1).ev pgSEC 1).err pgSEC 0x7715 r

/-- Whether NI14 wrote a word of slot `k`'s record, whose bytes are `b`: such a record counts as malformed, for only the scan engine's
NI authorises (01 R34; DEDUCED, log entry 100). -/
def State.slotForeign (s : State) (k : Nat) (b : List Byte) : Bool :=
  s.sec.foreign.any fun o => (o - 0x800) / 0x200 == k && decide (o % 0x200 < 0x40 + i16 b 0x30)

/-- The checks complete (R371 to R376); an acceptance waits for the Seam, over which the window and MC0 are written (R346, R357). -/
def State.credCheckDone (s : State) : State :=
  match s.sec.chk with
  | none => s
  | some (src, b) =>
    if s.domRun 0 = false ∨ s.engTurn .sequencer = false then s
    else
      match src with
      | .slot k =>
        let r := s.credReason true (if s.slotForeign k b then none else intakePayload b)
        if r.1 = 0 ∧ s.seam.hold = true then s
        else ((s.updSec fun x => { x with chk := none }).engLeave .sequencer).intakeEnd k b r.1 r.2
      | .svc =>
        let s := (s.updSec fun x => { x with chk := none }).engLeave .sequencer
        let r := s.credReason false (some b)
        let kid := (r.2.map (·.kid)).getD 0
        let s := s.w pgSVC 0x044 (setFldOf (BitVec.ofNat 32 (4 + r.1 <<< 4 + kid <<< 8)) 1 1 (s.f pgSVC 0x044 1 1))
        let s := match r.2 with
          | some c => (s.w pgSVC 0x050 (BitVec.ofNat 32 c.ctr)).w pgSVC 0x054 (BitVec.ofNat 32 c.rights)
          | none => s
        s.ev pgSVC 0

/-- SEC_GTMO expires for a grant not sent (R377); 800,000 units of time a millisecond. -/
def State.grantTimeout (s : State) : State :=
  match s.sec.grants with
  | [] => s
  | g :: q =>
    if s.time - g.since < 800000 * s.f pgSEC 0x058 15 0 then s
    else if 0 < g.left then s.updSec fun x => { x with grants := { g with left := g.left - 1, since := s.time } :: q }
    else
      let s := s.updSec fun x => { x with grants := q }
      ((s.sf pgSEC 0x060 9 9 1).ev pgSEC 3).err pgSEC 0x3716 0

/-- The grant frame in TB15 is sent (R377). -/
def State.grantSent (s : State) : State :=
  match s.sec.grants with
  | [] => s
  | _ :: q => ((s.updSec fun x => { x with grants := q }).sf pgSEC 0x060 8 8 1).ev pgSEC 2

/-! ### The intake and the SEC_SVC page (R367, R374, R383, R384) -/

/-- The bytes of intake slot `k`. -/
def State.intakeBytes (s : State) (k : Nat) : List Byte :=
  (List.range 128).flatMap fun i => leBytes 4 (s.r pgSECIN (0x800 + 0x200 * k + 4 * i)).toNat

/-- Header word 0x00 is written: the slot closes (R367). -/
def State.intakeSlotClose (s : State) (k : Nat) : State :=
  if 4 ≤ k ∨ s.sec.closed.contains k ∨ s.domRun 0 = false then s
  else
    let b := s.intakeBytes k
    let s := s.updSec fun x => { x with closed := x.closed ++ [k], queue := x.queue ++ [(.slot k, b)] }
    (s.sf pgSECIN 0x040 k k 1).cntUp pgSECIN 0x044 15 0 1

/-- A write to the intake region by NI `n` (R367): its status and the state. -/
def State.intakeWrite (s : State) (n o : Nat) (v : Word) : State × Sts :=
  let k := (o - 0x800) / 0x200
  if n ≠ 16 ∧ n ≠ 14 then (s.cntUp pgSECIN 0x044 31 16 1, .owner)
  else if s.sec.closed.contains k then (s.cntUp pgSECIN 0x044 31 16 1, .refused)
  else
    let s := (s.w pgSECIN o v).updSec fun x => { x with
      foreign := if n = 14 then o :: x.foreign.erase o else x.foreign.erase o }
    (if o % 0x200 = 0 then s.intakeSlotClose k else s, .ok)

/-- SV_CTRL.VERIFY (R374). -/
def State.svVerify (s : State) : State :=
  let n := s.f pgSVC 0x048 8 0
  let b := ((List.range 112).flatMap fun i => leBytes 4 (s.r pgSVC (0x400 + 4 * i)).toNat).take n
  let s := (s.sf pgSVC 0x044 0 0 1).sf pgSVC 0x044 2 2 0
  s.updSec fun x => { x with queue := x.queue ++ [(.svc, b)] }

def State.svcWrite (s : State) (o : Nat) (v : Word) : State :=
  if s.f pgSVC 0x044 0 0 = 1 then s.errBusy pgSVC o
  else if o = 0x040 then (if v.getLsbD 0 then s.svVerify else s)
  else s.plain pgSVC o v

/-- A read of SV_RND (R383): the word, and the state after. -/
def State.svRnd (s : State) : State × Word :=
  if s.sec.trngUp then (((s.sf pgSVC 0x044 1 1 1)).tookFree, Config.trng s.freeCtr)
  else ((s.sf pgSVC 0x044 1 1 0).err pgSEC 0x6711 0, 0)

/-- Writes to the SEC page by tenant `t` (R382): SEC_GCFG and SEC_GTMO are T0's alone. -/
def State.secWrite (s : State) (t o : Nat) (v : Word) : State :=
  if (o = 0x054 ∨ o = 0x058) ∧ t ≠ 0 then s.errLocked pgSEC o else s.plain pgSEC o v

def State.secRead (s : State) (o : Nat) : Word :=
  if o = 0x040 then setFldOf (s.r pgSEC 0x040) 9 8 s.lifecycle
  else if o = 0x050 then BitVec.ofNat 32 (s.mcVal (s.f pgSEC 0x04C 2 0))
  else s.r pgSEC o

end Sys2Proof.Machine
end

