-- ==== Sys2Proof/Machine/Display.lean ====
section
/-! DEFINITION. Machine/Display.lean: the display pipes, the icon vault and the Tell-tale Guard (15). -/

namespace Sys2Proof.Machine

def State.dp (s : State) (p : Nat) : Dp := s.dps.getD p Dp.zero
def State.updDp (s : State) (p : Nat) (f : Dp → Dp) : State := { s with dps := s.dps.modify p f }

/-- The active values of a DP page, as a latch takes them (R387). -/
def State.dpActive (s : State) (p : Nat) : List (Nat × Word) :=
  s.act.filter fun e => decide (rkey (pgDP p) 0 ≤ e.1) && decide (e.1 < rkey (pgDP p + 1) 0)

/-- A register of a latched set. -/
def dpR (g : Grade) (set : List (Nat × Word)) (p o : Nat) : Word := Sparse.get (resetVal g) set (rkey (pgDP p) o)

/-- A set with the grade and pipe it is read for. -/
structure DpView where
  r : Nat → Word

def State.view (s : State) (p : Nat) (set : List (Nat × Word)) : DpView := ⟨dpR s.grade set p⟩

def DpView.f (v : DpView) (o hi lo : Nat) : Nat := fldOf (v.r o) hi lo
def DpView.out (v : DpView) : Nat := v.f 0x040 1 0
def DpView.lane (v : DpView) : Nat := v.f 0x040 5 4
/-- Output depth in bits (R398). -/
def DpView.od (v : DpView) : Nat := if v.f 0x040 9 8 = 0 then 6 else if v.f 0x040 9 8 = 1 then 8 else 10
def DpView.slave (v : DpView) : Bool := v.f 0x040 12 12 == 1
def DpView.pclk (v : DpView) : Nat := v.f 0x04C 27 0
def DpView.hact (v : DpView) : Nat := v.f 0x050 12 0
def DpView.ht (v : DpView) : Nat := v.f 0x050 28 16
def DpView.vact (v : DpView) : Nat := v.f 0x058 11 0
def DpView.vt (v : DpView) : Nat := v.f 0x058 27 16
def DpView.plEn (v : DpView) (q : Nat) : Bool := v.f (0x100 + 0x20 * q) 0 0 == 1
def DpView.plFmt (v : DpView) (q : Nat) : Nat := v.f (0x100 + 0x20 * q) 7 4
def DpView.slotEn (v : DpView) (k : Nat) : Bool := v.f (0x204 + 8 * k) 31 31 == 1
def DpView.slotState (v : DpView) (k : Nat) : Nat := v.f (0x204 + 8 * k) 29 28
def DpView.slotIcon (v : DpView) (k : Nat) : Nat := v.f (0x204 + 8 * k) 7 0
def DpView.slotX (v : DpView) (k : Nat) : Nat := v.f (0x200 + 8 * k) 12 0
def DpView.slotY (v : DpView) (k : Nat) : Nat := v.f (0x200 + 8 * k) 27 16
def DpView.blinkLen (v : DpView) : Nat := max 1 (v.f 0x06C 7 0)

/-! ### The icon vault (R399 to R401) -/

/-- Byte `o` of the vault's body. -/
def State.ivB (s : State) (o : Nat) : Nat := (s.rdByte (0x10300100 + o)).toNat
def State.iv16 (s : State) (o : Nat) : Nat := s.rd16 (0x10300100 + o)
def State.iv32 (s : State) (o : Nat) : Nat := s.rd32 (0x10300100 + o)

abbrev State.vaultReady (s : State) : Bool := s.f pgICV 0x044 2 2 == 1
abbrev State.sealed_ (s : State) : Bool := s.f pgICV 0x044 0 0 == 1

def State.nicon (s : State) : Nat := s.iv16 4
/-- The vault's output depth for a pipe. -/
def State.vaultOd (s : State) (p : Nat) : Nat := s.ivB (6 + p)
abbrev iconDir (i : Nat) : Nat := 0x3010 + 48 * i
def State.iconW (s : State) (i : Nat) : Nat := s.iv16 (iconDir i)
def State.iconH (s : State) (i : Nat) : Nat := s.iv16 (iconDir i + 2)
def State.iconVars (s : State) (i : Nat) : Nat := s.ivB (iconDir i + 4)
def State.iconSize (s : State) (i : Nat) : Nat := 64 + s.iconH i * ((s.iconW i + 1) / 2)

/-- The 30-bit colour of pixel (x, y) of variant `v` of icon `i`. -/
def State.iconPix (s : State) (i v x y : Nat) : Nat :=
  let base := s.iv32 (iconDir i + 8) + v * s.iconSize i
  let b := s.ivB (base + 64 + y * ((s.iconW i + 1) / 2) + x / 2)
  s.iv32 (base + 4 * (b / 16 ^ (x % 2) % 16)) % 2 ^ 30

/-- The variant a slot shows (R404): its STATE, and for BLINK the phase of frame count `fc`. -/
def State.variantOf (s : State) (v : DpView) (k fc : Nat) : Nat :=
  let st := v.slotState k
  if st = 0 then 0 else if st = 1 then 1
  else if st = 2 then (if s.iconVars (v.slotIcon k) = 3 then 2 else 1)
  else if fc / v.blinkLen % 2 = 0 then 1 else 0

/-- The body conforms to R399. -/
def State.bodyOk (s : State) : Bool :=
  let size := s.rd32 0x10300010
  let n := s.nicon
  let z (o k : Nat) : Bool := (List.range k).all fun i => s.ivB (o + i) == 0
  let od (x : Nat) : Bool := x == 6 || x == 8 || x == 10
  s.iv32 0 == 0x44564349 && decide (1 ≤ n) && decide (n ≤ 255) && od (s.vaultOd 0) && od (s.vaultOd 1) && z 8 8 &&
    decide (size ≤ 261888) && decide (0x3010 + 48 * n ≤ size) &&
    ((List.range 6144).all fun i => decide (s.iv16 (0x10 + 2 * i) < 1024)) &&
    (List.range n).all fun i =>
      let d := iconDir i
      let nv := s.iconVars i
      decide (1 ≤ s.iconW i) && decide (s.iconW i ≤ 128) && decide (1 ≤ s.iconH i) && decide (s.iconH i ≤ 128) && (nv == 2 || nv == 3) &&
        z (d + 5) 3 && z (d + 12) 4 && z (d + 40) 8 && decide (s.iv32 (d + 8) + nv * s.iconSize i ≤ size)

/-- ICV_CTRL.SEAL. -/
def State.icvSeal (s : State) : State := s.sf pgICV 0x044 0 0 1

/-- The proof level of a pipe (R414). -/
def State.ttgLvl (s : State) (p : Nat) : Nat := s.f pgTTG 0x048 (2 * p + 1) (2 * p)

/-- Whether the set latched last by pipe `p` has an enabled slot at a proof level above 0. -/
def State.proofOn (s : State) (p : Nat) : Bool :=
  decide (0 < s.ttgLvl p) && (List.range 32).any (s.view p (s.dp p).nxt).slotEn

/-- ICV_CTRL.OPEN (R400); FMTERR and NICON go with READY (log entry 70). -/
def State.icvOpen (s : State) : State :=
  if s.proofOn 0 ∨ s.proofOn 1 then s.err pgICV 0x1812 0
  else
    let s := ((s.sf pgICV 0x044 2 0 0).sf pgICV 0x044 3 3 0).sf pgICV 0x044 15 8 0
    { s with icv := ⟨false, false⟩ }

def State.icvWrite (s : State) (o : Nat) (v : Word) : State :=
  if o = 0x040 then
    let s := if v.getLsbD 0 then s.icvSeal else s
    if v.getLsbD 1 then s.icvOpen else s
  else s.plain pgICV o v

/-- IMG_CHECK is accepted: whether the vault is SEALED from here to the result (R401). -/
def State.imgCheckAccept (s : State) (src : Nat) : State :=
  if s.sec.kop.isSome then s.kImgCheck src else { (s.kImgCheck src) with icv := { s.icv with held := s.sealed_ } }

/-- The island's command completes; a passed check of the vault's image sets VERIFIED (R401). -/
def State.islandDone (s : State) : State :=
  let s' := s.cryptoOpDone
  match s.sec.kop with
  | some (.imgCheck b) =>
    if s'.sec.kop.isNone ∧ s'.f pgSECK 0x064 15 8 = 0 ∧ i32 b 0x0C = 0x10300000 ∧ s.icv.held ∧ s.sealed_ then
      { ((s'.sf pgICV 0x044 1 1 1).w pgICV 0x048 (BitVec.ofNat 32 (i32 b 8))) with icv := { s'.icv with chk := true } }
    else s'
  | _ => s'

/-- The vault has checked the body (R401). -/
def State.icvFormatDone (s : State) : State :=
  if s.icv.chk = false then s
  else
    let s' := { s with icv := { s.icv with chk := false } }
    if s.bodyOk then ((s'.sf pgICV 0x044 2 2 1).sf pgICV 0x044 15 8 s.nicon).ev pgICV 0
    else ((s'.sf pgICV 0x044 3 3 1).ev pgICV 1).err pgICV 0x4813 0

/-! ### The check of a set (R385, R386, R388) -/

/-- The pixel clock as a fraction: a slaved DP1 follows DP0's line rate (R28, R386). -/
def State.slavedClk (s : State) (master : List (Nat × Word)) (v : DpView) : Nat × Nat :=
  let m := s.view 0 master
  (m.pclk * v.ht, max 1 m.ht)
def State.pixClk (s : State) (p : Nat) (v : DpView) : Nat × Nat :=
  if p = 1 ∧ v.slave then s.slavedClk (s.dp 0).nxt v else (v.pclk, 1)

def DpView.timingOk (v : DpView) : Bool :=
  let hss := v.f 0x054 12 0
  let hsw := v.f 0x054 28 16
  let vss := v.f 0x05C 11 0
  let vsw := v.f 0x05C 27 16
  decide (16 ≤ v.hact) && decide (v.hact ≤ 4096) && v.hact % 2 == 0 && decide (v.hact + 16 ≤ v.ht) && decide (v.ht ≤ 8191) &&
    decide (v.hact ≤ hss) && decide (hss + hsw ≤ v.ht) && decide (8 ≤ v.vact) && decide (v.vact ≤ 4094) &&
    decide (v.vact + 4 ≤ v.vt) && decide (v.vt ≤ 4095) && decide (v.vact ≤ vss) && decide (vss + vsw ≤ v.vt)

def plW (v : DpView) (q : Nat) : Nat := if q < 2 then v.f (0x118 + 0x20 * q) 12 0 else v.f (0x110 + 0x20 * q) 12 0
def plH (v : DpView) (q : Nat) : Nat := if q < 2 then v.f (0x118 + 0x20 * q) 27 16 else v.f (0x110 + 0x20 * q) 27 16

/-- Whether plane `q` breaks reason 4. -/
def DpView.planeBad (v : DpView) (q : Nat) : Bool :=
  let fmt := v.plFmt q
  let sw := v.f (0x110 + 0x20 * q) 12 0
  let sh := v.f (0x110 + 0x20 * q) 27 16
  let scaleOk (n d : Nat) : Bool := decide ((n + 3) / 4 ≤ d) && decide (d ≤ 4 * n)
  v.plEn q &&
    !((if q < 2 then decide (fmt ≤ 7) && fmt != 3 else decide (fmt ≤ 4)) &&
      decide (0 < plW v q) && decide (0 < plH v q) &&
      decide (v.f (0x114 + 0x20 * q) 12 0 + plW v q ≤ v.hact) && decide (v.f (0x114 + 0x20 * q) 27 16 + plH v q ≤ v.vact) &&
      (decide (2 ≤ q) || (scaleOk sw (plW v q) && scaleOk sh (plH v q))) &&
      (v.r (0x104 + 0x20 * q)).toNat % 16 == 0 && (v.r (0x108 + 0x20 * q)).toNat % 16 == 0 && (v.r (0x10C + 0x20 * q)).toNat % 16 == 0)

def DpView.zordBad (v : DpView) : Bool := !(List.range 4).all fun q => (List.range 4).any fun i => v.f 0x064 (2 * i + 1) (2 * i) == q

/-- Whether slot `k` breaks reason 5. -/
def State.slotBad (s : State) (v : DpView) (k : Nat) : Bool :=
  let i := v.slotIcon k
  let ovr (j : Nat) : Bool :=
    j != k && v.slotEn j && decide (v.slotX j < v.slotX k + s.iconW i) && decide (v.slotX k < v.slotX j + s.iconW (v.slotIcon j)) &&
      decide (v.slotY j < v.slotY k + s.iconH i) && decide (v.slotY k < v.slotY j + s.iconH (v.slotIcon j))
  v.slotEn k &&
    (!s.vaultReady || decide (s.nicon ≤ i) || decide (v.hact < v.slotX k + s.iconW i) || decide (v.vact < v.slotY k + s.iconH i) ||
      (List.range 32).any ovr)

/-- State of region `k` of pipe `p` (R409, R414): 0 IDLE, 1 OK, 2 SUSPECT, 3 FALLBACK, 4 RECOVER, 5 FORCED. -/
abbrev rsOff (p k : Nat) : Nat := 0x100 + 0x80 * p + 4 * k
def State.rst (s : State) (p k : Nat) : Nat := s.f pgTTG (rsOff p k) 2 0
def State.setRst (s : State) (p k st cnt good : Nat) : State := s.w pgTTG (rsOff p k) (BitVec.ofNat 32 (st + cnt * 16 + good * 256))

/-- The first reason of R388 that refuses a set, and its plane or slot. -/
def State.dpRefuse (s : State) (p : Nat) (v : DpView) : Option (Nat × Nat) :=
  let c := s.pixClk p v
  let mhz (lo hi : Nat) : Bool := decide (lo * c.2 ≤ c.1) && decide (c.1 ≤ hi * c.2)
  let od := v.f 0x040 9 8
  let lvl := s.ttgLvl p
  if v.timingOk = false then some (1, 0)
  else if mhz 25000000 200000000 = false ∨ (v.out = 2 ∧ mhz 0 112000000 = false) ∨
      (p = 1 ∧ v.slave = true ∧ v.vt ≠ (s.view 0 (s.dp 0).nxt).vt) then some (2, 0)
  else if (v.out = 1 ∧ (lanePresent s.grade v.lane = false ∨ od = 0)) ∨ (v.out = 2 ∧ ((p = 1 ∧ s.grade = .zm810) ∨ od = 2)) then some (3, 0)
  else match (List.range 4).find? v.planeBad with
    | some q => some (4, q)
    | none =>
      if v.zordBad then some (4, 0)
      else match (List.range 32).find? (s.slotBad v) with
        | some k => some (5, k)
        | none =>
          if (0 < lvl ∧ s.vaultReady = true ∧ v.od ≠ s.vaultOd p) ∨ (lvl = 2 ∧ v.out ≠ 1) then some (6, 0)
          else ((List.range 32).find? fun k => !v.slotEn k && (s.rst p k == 3 || s.rst p k == 4)).map fun k => (7, k)

/-- What a latched set does to the regions (R409). -/
def State.regionsAtLatch (s : State) (p : Nat) (v : DpView) : State :=
  (List.range 32).foldl (fun s k =>
    let on := v.slotEn k && decide (0 < s.ttgLvl p)
    let st := s.rst p k
    if on && st == 0 then s.setRst p k 1 0 0
    else if !on && (st == 1 || st == 2) then s.setRst p k 0 0 0
    else if st == 5 && !v.slotEn k then s.setRst p k 0 0 0
    else s) s

/-- Whether the pipe is enabled. -/
def State.dpEn (s : State) (p : Nat) : Bool := s.domRun 9 && s.f (pgDP p) 0x00C 0 0 == 1

/-- The pixel PLL of a pipe. -/
def State.ppll (s : State) (p : Nat) : Bool := if p = 0 then s.clk.ppll0 else s.clk.ppll1
def State.setPpll (s : State) (p : Nat) (v : Bool) : State :=
  { s with clk := if p = 0 then { s.clk with ppll0 := v } else { s.clk with ppll1 := v } }

/-- Whether the pipe latches: once in line VT − 1, or while it is enabled and sends no frames (R387, R388). -/
def State.dpLatchDue (s : State) (p : Nat) : Bool :=
  let d := s.dp p
  decide (p < 2) && s.dpEn p && !(d.run && (d.lat || decide (d.line + 1 ≠ (s.view p d.cur).vt)))

/-- The pipe latches (R387 to R389). -/
def State.dpTake (s : State) (p : Nat) : State :=
  let d := s.dp p
  if s.dpLatchDue p = false then s
  else
    let set := s.dpActive p
    let v := s.view p set
    match s.dpRefuse p v with
    | some (r, k) =>
      let s := ((s.sf (pgDP p) 0x044 2 2 1).sf (pgDP p) 0x044 15 8 r).ev (pgDP p) 3
      let s := s.updDp p fun d => { d with nxtV := s.vaultReady }
      s.err (pgDP p) 0x1810 (r + k * 256)
    | none =>
      let o := s.view p d.nxt
      let new := s.pixClk p v
      let old := if p = 1 ∧ o.slave then s.slavedClk (s.dp 0).cur o else s.pixClk p o
      let clkNew := !d.acc || decide (new.1 * old.2 ≠ old.1 * new.2)
      let mode := clkNew || decide (v.ht ≠ o.ht) || decide (v.vt ≠ o.vt)
      let s := (s.updDp p fun d => { d with
        nxt := set, nxtV := s.vaultReady, acc := true, mode := d.mode || mode, relock := d.relock || clkNew,
        fs := if d.fs = 0 then s.time else d.fs }).ev (pgDP p) 1
      let s := if clkNew ∧ d.run = false then s.setPpll p false else s
      s.regionsAtLatch p v

/-! ### Pixels (R390 to R396) -/

/-- Expand an n-bit component to 10 bits by repeating its bits (R393); n ≥ 4. -/
def exp10 (n v : Nat) : Nat := v * (2 ^ (3 * n) + 2 ^ (2 * n) + 2 ^ n + 1) / 2 ^ (4 * n - 10)

/-- The stored components of source pixel (c, r): alpha and three components of 10 bits. -/
def State.srcPix (s : State) (fmt b0 b1 stride c r : Nat) : Nat × Nat × Nat × Nat :=
  let w32 := s.rd32 (b0 + r * stride + 4 * c)
  let w16 := s.rd16 (b0 + r * stride + 2 * c)
  let byte (a : Nat) : Nat := (s.rdByte a).toNat
  if fmt = 0 ∨ fmt = 1 then
    (if fmt = 0 then w32 / 2 ^ 24 else 255, exp10 8 (w32 / 2 ^ 16 % 256), exp10 8 (w32 / 2 ^ 8 % 256), exp10 8 (w32 % 256))
  else if fmt = 2 then (255, exp10 5 (w16 / 2048), exp10 6 (w16 / 32 % 64), exp10 5 (w16 % 32))
  else if fmt = 3 then (w16 / 4096 * 17, exp10 4 (w16 / 256 % 16), exp10 4 (w16 / 16 % 16), exp10 4 (w16 % 16))
  else if fmt = 4 then (255, w32 / 2 ^ 20 % 1024, w32 / 2 ^ 10 % 1024, w32 % 1024)
  else if fmt = 5 then
    let a := b0 + r * stride + c / 2 * 4
    (255, exp10 8 (byte (a + 2 * (c % 2))), exp10 8 (byte (a + 1)), exp10 8 (byte (a + 3)))
  else if fmt = 6 then
    let u := b1 + r / 2 * stride + c / 2 * 2
    (255, exp10 8 (byte (b0 + r * stride + c)), exp10 8 (byte u), exp10 8 (byte (u + 1)))
  else (255, exp10 8 (byte (b0 + r * stride + c)), 512, 512)

/-- Ky, Rv, Gu, Gv, Bu and y0 of a CSC (R393). -/
def cscTab (n : Nat) : Int × Int × Int × Int × Int × Int :=
  if n = 0 then (4768, 6537, -1605, -3330, 8263, 64)
  else if n = 1 then (4768, 7343, -873, -2183, 8652, 64)
  else (4096, 6450, -767, -1917, 7601, 0)

/-- YUV to RGB, each clamped to 0 … 1,023. -/
def yuvRgb (n y u v : Nat) : List Nat :=
  let k := cscTab n
  let yy : Int := k.1 * ((y : Int) - k.2.2.2.2.2)
  let uu : Int := (u : Int) - 512
  let vv : Int := (v : Int) - 512
  [(clampN 1023 (Int.fdiv (yy + k.2.1 * vv) 4096)).1, (clampN 1023 (Int.fdiv (yy + k.2.2.1 * uu + k.2.2.2.1 * vv) 4096)).1,
   (clampN 1023 (Int.fdiv (yy + k.2.2.2.2.1 * uu) 4096)).1]

/-- Coefficient `i` of a video plane's table (R317, R413). -/
def DpView.coef (v : DpView) (q i : Nat) : Int :=
  sgn 10 ((v.r (0x400 + 0x200 * q + 4 * (i / 2))).toNat / 65536 ^ (i % 2) % 65536)

/-- Four-tap sum of the scaler along one direction (R308, R392). -/
def DpView.tap4 (v : DpView) (q dir n out j : Nat) (at_ : Nat → Nat) : Nat :=
  let s := j * (n * 65536 / max 1 out)
  let ph := s / 2048 % 32
  let o := (List.range 4).foldl (fun (a : Int) (t : Nat) =>
    let k : Int := ((s / 65536 : Nat) : Int) + (t : Int) - 1
    let kk := if k < 0 then 0 else min (n - 1) k.toNat
    a + v.coef q (dir * 128 + 4 * ph + t) * (at_ kk : Int)) 0
  (clampN 1023 (Int.fdiv o 256)).1

/-- Alpha and colour of plane `q` at (x, y) of its destination rectangle. -/
def State.planePix (s : State) (v : DpView) (q x y : Nat) : Nat × List Nat :=
  let fmt := v.plFmt q
  let src (c r : Nat) : Nat × Nat × Nat × Nat :=
    s.srcPix fmt (v.r (0x104 + 0x20 * q)).toNat (v.r (0x108 + 0x20 * q)).toNat (v.r (0x10C + 0x20 * q)).toNat c r
  let sw := v.f (0x110 + 0x20 * q) 12 0
  let sh := v.f (0x110 + 0x20 * q) 27 16
  if 2 ≤ q then let a := src x y; (a.1, [a.2.1, a.2.2.1, a.2.2.2])
  else
    let scl (sel : Nat × Nat × Nat × Nat → Nat) : Nat :=
      v.tap4 q 1 sh (plH v q) y fun r => v.tap4 q 0 sw (plW v q) x fun c => sel (src c r)
    let cs := [scl fun a => a.2.1, scl fun a => a.2.2.1, scl fun a => a.2.2.2]
    (min 255 (scl fun a => a.1),
      if 5 ≤ fmt then yuvRgb (v.f (0x100 + 0x20 * q) 25 24) (cs.getD 0 0) (cs.getD 1 0) (cs.getD 2 0) else cs)

/-- One plane over the value below it (R394). -/
def blend (premult : Bool) (ga apx c d : Nat) : Nat :=
  let a := apx * ga / 255
  if premult then min 1023 (c * ga / 255 + d * (255 - a) / 255) else (c * a + d * (255 - a)) / 255

/-- The slot of a set that covers pixel (x, y) (R395). -/
def State.slotAt (s : State) (v : DpView) (x y : Nat) : Option Nat :=
  (List.range 32).find? fun k => v.slotEn k && decide (v.slotX k ≤ x) && decide (x < v.slotX k + s.iconW (v.slotIcon k)) &&
    decide (v.slotY k ≤ y) && decide (y < v.slotY k + s.iconH (v.slotIcon k))

def split30 (x : Nat) : List Nat := [x / 2 ^ 20 % 1024, x / 2 ^ 10 % 1024, x % 1024]

/-- The source rows a plane needs for line `yy` of its destination: address and bytes (R391, R392). -/
def DpView.planeRows (v : DpView) (q yy : Nat) : List (Nat × Nat) :=
  let fmt := v.plFmt q
  let b0 := (v.r (0x104 + 0x20 * q)).toNat
  let b1 := (v.r (0x108 + 0x20 * q)).toNat
  let stride := (v.r (0x10C + 0x20 * q)).toNat
  let sw := v.f (0x110 + 0x20 * q) 12 0
  let sh := v.f (0x110 + 0x20 * q) 27 16
  let pos := yy * (sh * 65536 / max 1 (plH v q)) / 65536
  let rows := if 2 ≤ q then [yy] else ([0, 1, 2, 3].map fun t => min (sh - 1) (pos + t - 1)).eraseDups
  rows.flatMap fun r =>
    if fmt = 6 then [(b0 + r * stride, sw), (b1 + r / 2 * stride, (sw + 1) / 2 * 2)]
    else if fmt = 5 then [(b0 + r * stride, (sw + 1) / 2 * 4)]
    else [(b0 + r * stride, sw * (if fmt = 0 ∨ fmt = 1 ∨ fmt = 4 then 4 else if fmt = 7 then 1 else 2))]

/-- Whether line `y` crosses plane `q`. -/
def DpView.planeOn (v : DpView) (q y : Nat) : Bool :=
  v.plEn q && decide (v.f (0x114 + 0x20 * q) 27 16 ≤ y) && decide (y < v.f (0x114 + 0x20 * q) 27 16 + plH v q)

/-- The source rows the planes need for active line `y`: address and bytes. -/
def DpView.rowsFor (v : DpView) (y : Nat) : List (Nat × Nat) :=
  (((List.range 4).filter fun q => v.planeOn q y).flatMap fun q => v.planeRows q (y - v.f (0x114 + 0x20 * q) 27 16)).eraseDups

/-- The planes of pipe `p` read the rows of line `y` they do not hold yet, through NI2 or NI4 in class Line, and hold the rows of
that line alone; a row that does not get OK gives zero data (R391, 04 R108). -/
def State.planeFetch (s : State) (p : Nat) (v : DpView) (y : Nat) : State :=
  (v.rowsFor y).foldl (fun s e =>
    match (s.dp p).rows.find? fun h => h.1 == e.1 && h.2.length == e.2 with
    | some _ => s
    | none =>
      let x := s.engRead (2 + 2 * p) 0 e.1 e.2
      x.1.updDp p fun d => { d with rows := d.rows ++ [(e.1, if x.2 = .ok then x.1.rdBytes e.1 e.2 else List.replicate e.2 0)] }) s
    |>.updDp p fun d => { d with rows := d.rows.filter fun h => (v.rowsFor y).contains (h.1, h.2.length) }

/-- The planes' view of memory: the rows they hold stand where they were read from. -/
def State.heldRows (s : State) (p : Nat) : State := (s.dp p).rows.foldl (fun m e => m.wrBytes e.1 e.2) s

/-- The frame latch, the pixel clock at which the counter enters line VT − 1; in that line the planes read the rows of line 0
(R387, R391). -/
def State.dpLatch (s : State) (p : Nat) : State :=
  if s.dpLatchDue p = false then s
  else
    let s := (s.dpTake p).updDp p fun d => { d with lat := d.run }
    if (s.dp p).run then s.planeFetch p (s.view p (s.dp p).nxt) 0 else s

/-- A pixel PLL locks: the pipe starts its counter at line VT − 1, so its latch is due at once (R389, 19 R528). -/
def State.ppllLock (s : State) (p : Nat) : State :=
  let d := s.dp p
  if 2 ≤ p ∨ s.dpEn p = false ∨ d.acc = false ∨ d.relock = false ∨ s.clk.xtal = false ∨ s.clk.stopped = true then s
  else
    (s.setPpll p true).updDp p fun d => { d with
      relock := false, run := true, cur := d.nxt, curV := d.nxtV, lat := false, rows := [], line := (s.view p d.nxt).vt - 1 }

/-- The composed pixel (R394, R395); the planes read the memory of `m`, and `late` names those whose data came too late (R391). -/
def State.compose (s m : State) (v : DpView) (vault : Bool) (late fc x y : Nat) : List Nat :=
  match (if vault then s.slotAt v x y else none) with
  | some k => split30 (s.iconPix (v.slotIcon k) (s.variantOf v k fc) (x - v.slotX k) (y - v.slotY k))
  | none =>
    (List.range 4).foldl (fun d i =>
      let q := v.f 0x064 (2 * i + 1) (2 * i)
      let dx := v.f (0x114 + 0x20 * q) 12 0
      let dy := v.f (0x114 + 0x20 * q) 27 16
      if v.plEn q && !late.testBit q && decide (dx ≤ x) && decide (x < dx + plW v q) && decide (dy ≤ y) && decide (y < dy + plH v q) then
        let px := m.planePix v q (x - dx) (y - dy)
        (List.range 3).map fun j =>
          blend (v.f (0x100 + 0x20 * q) 8 8 == 1) (v.f (0x100 + 0x20 * q) 23 16) px.1 (px.2.getD j 0) (d.getD j 0)
      else d) (split30 (v.f 0x060 29 0))

/-- The final table and the output depth (R396). -/
def State.lutOut (s : State) (p : Nat) (vault : Bool) (od : Nat) (px : List Nat) : List Nat :=
  (px.zip (List.range 3)).map fun e =>
    (if vault then s.iv16 (0x10 + 0x1800 * p + 0x800 * e.2 + 2 * e.1) % 1024 else e.1) / 2 ^ (10 - od)

/-- The seven slots of the LVDS pairs for a pixel (R398): A0 to A2, and A3 at depth 8, slot 0 first. -/
def lvdsPairs (od : Nat) (map : Bool) (r g b : Nat) (hs vs de : Bool) : List (List Nat) :=
  let t (x i : Nat) : Nat := x / 2 ^ i % 2
  let jeida := map && od == 8
  let o := if jeida then 2 else 0
  let h := if jeida then 0 else 6
  List.take (if od = 8 then 4 else 3) [[t r o, t r (o + 1), t r (o + 2), t r (o + 3), t r (o + 4), t r (o + 5), t g o],
   [t g (o + 1), t g (o + 2), t g (o + 3), t g (o + 4), t g (o + 5), t b o, t b (o + 1)],
   [t b (o + 2), t b (o + 3), t b (o + 4), t b (o + 5), b2n hs, b2n vs, b2n de],
   [t r h, t r (h + 1), t g h, t g (h + 1), t b h, t b (h + 1), 0]]

/-! ### The proof CRC (R402 to R404) -/

/-- One bit into the CRC, most significant first. -/
def pcrcBit (c : Nat) (bit : Nat) : Nat :=
  if (c / 2 ^ 31 + bit) % 2 = 1 then (c * 2 % 2 ^ 32) ^^^ 0x1EDC6F41 else c * 2 % 2 ^ 32

/-- One sample of `n` bits, most significant first. -/
def pcrcSample (n c x : Nat) : Nat := (List.range n).foldl (fun c i => pcrcBit c (x / 2 ^ (n - 1 - i) % 2)) c

/-- One pixel: R, G, B. -/
def pcrcPixel (od c : Nat) (px : List Nat) : Nat := px.foldl (pcrcSample od) c

/-- The CRC a slot's icon is expected to give (R404). -/
def State.expCrc (s : State) (p : Nat) (v : DpView) (k fc : Nat) : Nat :=
  s.iv32 (iconDir (v.slotIcon k) + 16 + 8 * s.variantOf v k fc + 4 * p)

/-- The payload of the region table packet (17, RTAB): FSEQ, 0, the mask, and the rectangles. -/
def State.regionTable (s : State) (v : DpView) (ks : List Nat) (fseq : Nat) : List Byte :=
  leBytes 2 fseq ++ [0, 0] ++ leBytes 4 (ks.foldl (fun a k => a + 2 ^ k) 0) ++
    ks.flatMap fun k => leBytes 2 (v.slotX k) ++ leBytes 2 (v.slotY k) ++ leBytes 2 (s.iconW (v.slotIcon k)) ++ leBytes 2 (s.iconH (v.slotIcon k))

/-! ### Lines and frames (R385, R389, R391, R397) -/

/-- Frames sent by a pipe. -/
def State.fcnt (s : State) (p : Nat) : Nat := (s.r (pgDP p) 0x048).toNat

/-- The pipe starts line 0 of a frame: the latched set governs it, and the Guard awaits it. -/
def State.dpFrameStart (s : State) (p : Nat) : State :=
  let s := (s.w (pgDP p) 0x048 (s.r (pgDP p) 0x048 + 1)).ev (pgDP p) 0
  let d := s.dp p
  let v := s.view p d.nxt
  let ks := if s.ttgLvl p = 0 then [] else (List.range 32).filter v.slotEn
  let fc := s.fcnt p
  let g : GFrame := ⟨fc % 65536, ks.map fun k => (k, s.expCrc p v k fc, 0xFFFFFFFF), crc32 (s.regionTable v ks (fc % 65536)), none⟩
  s.updDp p fun d => { d with
    cur := d.nxt, curV := d.nxtV, mode := false, undr := false, fs := s.time, miss := 0, blink := 0,
    await := if ks.isEmpty then d.await else d.await.filter (fun g => decide ((g.fseq + 1) % 65536 = fc % 65536)) ++ [g] }

/-- Feed line `y` of the frame in progress to the CRCs of its regions. -/
def State.crcLine (s : State) (p y : Nat) (row : List (List Nat)) : State :=
  let d := s.dp p
  let v := s.view p d.cur
  let fseq := s.fcnt p % 65536
  let upd (r : Nat × Nat × Nat) : Nat × Nat × Nat :=
    let i := v.slotIcon r.1
    if v.slotY r.1 ≤ y ∧ y < v.slotY r.1 + s.iconH i then
      (r.1, r.2.1, ((row.drop (v.slotX r.1)).take (s.iconW i)).foldl (pcrcPixel v.od) r.2.2)
    else r
  s.updDp p fun d => { d with await := d.await.map fun g => if g.fseq = fseq then { g with regs := g.regs.map upd } else g }

/-- A slaved DP1 starts a line only where DP0 is in that line, and its frame at DP0's frame start (R386). -/
def State.slaveWaits (s : State) (p : Nat) (set : List (Nat × Word)) (y : Nat) : Bool :=
  p == 1 && (s.view 1 set).slave && (!(s.dp 0).run || decide ((s.dp 0).line ≠ y))

/-- The pipe starts its next line; `late` is the mask of planes whose data came too late (R386, R391). The rows of the line are
held since the line before, and the rows of the coming one are read now. -/
def State.dpLine (s : State) (p late : Nat) : State :=
  let d := s.dp p
  if 2 ≤ p ∨ s.dpEn p = false ∨ d.run = false ∨ s.ppll p = false then s
  else
    let vt := (s.view p d.cur).vt
    let y := if vt ≤ d.line + 1 then 0 else d.line + 1
    if y = 0 ∧ d.relock then (s.setPpll p false).updDp p fun d => { d with run := false }
    else if s.slaveWaits p (if y = 0 then d.nxt else d.cur) y then s
    else
      let s := if y = 0 then s.dpFrameStart p else s
      let d := s.dp p
      let v := s.view p d.cur
      let s := s.updDp p fun d => { d with line := y, lat := false }
      if v.vact ≤ y then s.updDp p fun d => { d with out := [] }
      else
        let s := s.planeFetch p v y
        let m := s.heldRows p
        let hit := (List.range 4).filter fun q => late.testBit q && v.planeOn q y
        let s := hit.foldl (fun s q => s.cntUp (pgDP p) 0x068 (8 * q + 7) (8 * q) 1) s
        let s := if hit.isEmpty ∨ d.undr then s else (s.ev (pgDP p) 2).updDp p fun d => { d with undr := true }
        let row := (List.range v.hact).map fun x => s.lutOut p d.curV v.od (s.compose m v d.curV late (s.fcnt p) x y)
        ((s.updDp p fun d => { d with out := row }).crcLine p y row).planeFetch p v (y + 1)

/-- A pipe stops: EN is 0, or its PLL or domain is gone (R388, R389). -/
def State.dpStop (s : State) (p : Nat) : State :=
  s.updDp p fun d => { d with acc := false, run := false, relock := false, lat := false, out := [], rows := [] }

/-- The PLL of a running pipe stops (R29). -/
def State.ppllStop (s : State) (p : Nat) : State :=
  if s.ppll p then ((s.setPpll p false).updDp p fun d => { d with run := false, relock := d.acc, mode := d.acc, rows := [] }).ev (pgDP p) 4 else s

/-! ### The Tell-tale Guard (R405 to R411) -/

/-- Lamp code of a region (R414). -/
def State.lampOf (s : State) (p k : Nat) : Nat := s.f pgTTG (0x600 + 0x80 * p + 4 * k) 7 0

/-- Whether fallback is on for a region (R409, R410). -/
def State.fbOn (s : State) (p k : Nat) : Bool := s.rst p k == 3 || s.rst p k == 4

/-- Whether a region's fallback lights its lamp: by the active STATE, and the blink phase that missed frames advance (R410). -/
def State.fbLit (s : State) (p k : Nat) : Bool :=
  let st := s.af (pgDP p) (0x204 + 8 * k) 29 28
  let ph := (s.fcnt p + (s.dp p).blink) / max 1 (s.af (pgDP p) 0x06C 7 0) % 2
  s.fbOn p k && (st == 1 || st == 2 || (st == 3 && ph == 0))

/-- The lamp codes the Guard asserts, lit (R410). -/
def State.fbLamps (s : State) : List Nat :=
  (([0, 1].flatMap fun p => (List.range 32).filterMap fun k => if s.fbLit p k then some (s.lampOf p k) else none).filter
    fun c => c != 0xFF).eraseDups

/-- The lamp codes of regions in fallback, lit or dark. -/
def State.fbCodes (s : State) : List Nat :=
  (([0, 1].flatMap fun p => (List.range 32).filterMap fun k => if s.fbOn p k then some (s.lampOf p k) else none).filter
    fun c => c != 0xFF).eraseDups

/-- One region's result (R408, R409): reason 0 is a match. -/
def State.guardStep (s : State) (p k reason fseq : Nat) : State :=
  let st := s.rst p k
  let n := s.f pgTTG 0x048 (2 * p + 5) (2 * p + 4) + 1
  let cnt := s.f pgTTG (rsOff p k) 5 4
  let good := s.f pgTTG (rsOff p k) 15 8
  if st = 0 ∨ st = 5 then s
  else if reason = 0 then
    if st = 4 then
      (if good + 1 = s.f pgTTG 0x048 31 24 then (s.setRst p k 1 0 0).ev pgTTG 2 else s.setRst p k 4 0 (good + 1))
    else if st = 3 then s
    else s.setRst p k 1 0 0
  else
    let last := k + p * 32 + reason * 256 + fseq * 65536
    let s := (s.w pgTTG 0x054 (BitVec.ofNat 32 last)).cntUp pgTTG (0x058 + 4 * p) 15 0 1
    if st = 4 then s.setRst p k 3 0 0
    else if st = 3 then s
    else if cnt + 1 < n then (s.setRst p k 2 (cnt + 1) 0).ev pgTTG 0
    else ((s.setRst p k 3 0 0).ev pgTTG 1).err pgTTG 0x8814 last

/-- The reason of a region of a sent frame: the lowest that applies (R405, R407, R408). -/
def guardReason (lvl : Nat) (g : GFrame) (k ex pc : Nat) : Nat :=
  if pc ≠ ex then 1
  else if lvl ≠ 2 then 0
  else match g.report with
    | none => 3
    | some r =>
      let mask := g.regs.foldl (fun a x => a + 2 ^ x.1) 0
      if (match r.crcs.find? fun c => c.1 == k with | some c => decide (c.2 ≠ ex) | none => false) then 2
      else if (r.crcs.find? fun c => c.1 == k).isNone ∨ r.status ≠ 0 ∨ r.mask ≠ mask ∨ r.tcrc ≠ g.tcrc then 5
      else 0

/-- The Guard decides the frame before the one in progress at line DLp (R408). -/
def State.guardDecision (s : State) (p : Nat) : State :=
  let d := s.dp p
  let lvl := s.ttgLvl p
  let fseq := (s.fcnt p + 65535) % 65536
  match d.await.find? fun g => g.fseq == fseq with
  | none => s
  | some g =>
    if 2 ≤ p ∨ lvl = 0 ∨ d.run = false ∨ d.line ≠ s.f pgTTG 0x048 (8 * p + 13) (8 * p + 8) then s
    else
      let s := s.updDp p fun d => { d with await := d.await.filter fun h => !(h.fseq == fseq) }
      g.regs.foldl (fun s r =>
        let bc := ((g.report.bind fun x => x.crcs.find? fun c => c.1 == r.1).map Prod.snd).getD 0
        let s := (s.w pgTTG (0x200 + 0x80 * p + 4 * r.1) (BitVec.ofNat 32 r.2.1)).w pgTTG (0x300 + 0x80 * p + 4 * r.1) (BitVec.ofNat 32 r.2.2)
        let s := s.w pgTTG (0x400 + 0x80 * p + 4 * r.1) (BitVec.ofNat 32 bc)
        s.guardStep p r.1 (guardReason lvl g r.1 r.2.1 r.2.2) fseq) s

/-- Whether the next missed frame of a pipe is due (R408); times count units of 1.25 ns. -/
def State.missDue (s : State) (p : Nat) : Bool :=
  let d := s.dp p
  let v := s.view p d.nxt
  let c := s.pixClk p v
  let frame := v.vt * v.ht * c.2 * 800000000
  if d.miss = 0 then decide (5 * frame ≤ (s.time - d.fs) * c.1 * 4) else decide (frame ≤ (s.time - d.missAt) * c.1)

/-- A missed frame is decided: reason 4 for every region of the last latched set (R408). -/
def State.guardMissed (s : State) (p : Nat) : State :=
  let v := s.view p (s.dp p).nxt
  if 2 ≤ p ∨ s.ttgLvl p = 0 ∨ ((List.range 32).any v.slotEn) = false ∨ s.missDue p = false then s
  else
    let s := s.updDp p fun d => { d with miss := d.miss + 1, missAt := s.time, blink := d.blink + 1 }
    ((List.range 32).filter v.slotEn).foldl (fun s k => s.guardStep p k 4 (s.fcnt p % 65536)) s

/-- Whether the deadline of the frame of that FSEQ is still to come: its own frame, or the lines of the next before DLp (R408). -/
def State.beforeDeadline (s : State) (p fseq : Nat) : Bool :=
  decide (fseq = s.fcnt p % 65536) || decide ((s.dp p).line < s.f pgTTG 0x048 (8 * p + 13) (8 * p + 8))

/-- A back-channel report reaches the Guard (R406, R407). -/
def State.guardReport (s : State) (p fseq : Nat) (r : GReport) : State :=
  match (s.dp p).await.find? fun g => g.fseq == fseq && g.report.isNone && s.beforeDeadline p fseq with
  | some _ => s.updDp p fun d => { d with await := d.await.map fun g => if g.fseq = fseq ∧ g.report = none then { g with report := some r } else g }
  | none => (s.cntUp pgTTG (0x058 + 4 * p) 31 16 1).ev pgTTG 3

/-- RELEASEp (R409). -/
def State.ttgRelease (s : State) (p : Nat) : State :=
  (List.range 32).foldl (fun s k => if s.rst p k = 3 then s.setRst p k 4 0 0 else s) s

/-- FORCE_OFF by T0 (R409, R414). -/
def State.forceOff (s : State) (t : Nat) : State :=
  if t ≠ 0 then s
  else ([0, 1].foldl (fun s p => (List.range 32).foldl (fun s k => s.setRst p k 5 0 0) s) s).ev pgTTG 4

def State.ttgWrite (s : State) (t o : Nat) (v : Word) : State :=
  if o = 0x040 then
    let s := if v.getLsbD 0 then s.ttgRelease 0 else s
    let s := if v.getLsbD 1 then s.ttgRelease 1 else s
    if v.getLsbD 8 then s.forceOff t else s
  else if o = 0x048 then
    let bad := (if fldOf v 1 0 = 3 then 0x3 else 0) ||| (if fldOf v 3 2 = 3 then 0xC else 0)
    s.plainWrite pgTTG o v bad 0 o
  else s.plain pgTTG o v

/-- Whether any region keeps DISP in Run (R412). -/
def State.ttgWatch (s : State) : Bool :=
  [0, 1].any fun p => (List.range 32).any fun k => s.rst p k != 0 && s.rst p k != 5

def State.ttgRead (s : State) (o : Nat) : Word :=
  let bits (f : Nat → Bool) : Nat := (List.range 32).foldl (fun a k => a + 2 ^ k * b2n (f k)) 0
  let some_ (f : Nat → Bool) : Nat := b2n ((List.range 32).any f)
  if o = 0x044 then
    BitVec.ofNat 32 (some_ (s.fbOn 0) + 2 * some_ (s.fbOn 1) + 4 * some_ (fun k => s.rst 0 k == 5) + 8 * some_ (fun k => s.rst 1 k == 5))
  else if o = 0x04C then BitVec.ofNat 32 (bits (s.fbOn 0))
  else if o = 0x050 then BitVec.ofNat 32 (bits (s.fbOn 1))
  else s.r pgTTG o

def State.dpWrite (s : State) (p o : Nat) (v : Word) : State :=
  if o = 0x040 then s.plainWrite (pgDP p) o v 0 (if p = 0 then 0x1000 else 0) o
  else s.plain (pgDP p) o v

def State.dpRead (s : State) (p o : Nat) : Word :=
  if o = 0x044 then setFldOf (setFldOf (s.r (pgDP p) o) 0 0 (b2n (s.dp p).run)) 1 1 (b2n (s.ppll p)) else s.r (pgDP p) o

/-- DISP leaves Run: the pipes stop (R412). -/
def State.dispLeave (s : State) : State := ((s.dpStop 0).dpStop 1)

end Sys2Proof.Machine
end

