-- ==== Sys2Proof/Machine/Light.lean ====
section
/-! DEFINITION. Machine/Light.lean: sinks, PWM, the tell-tale matrix, backlight, calibration, function groups, lamp faults and
fallback lamps (16 R416 to R438). -/

namespace Sys2Proof.Machine

def State.updLight (s : State) (f : Light → Light) : State := { s with light := f s.light }

/-! ### Lamp codes and groups (R417, R421, R432, R434, R436) -/

/-- The group of a lamp code (R452). -/
def State.lampGroup (s : State) (c : Nat) : Nat := s.f pgFG (0x100 + 4 * (c / 8)) (4 * (c % 8) + 3) (4 * (c % 8))

def State.grpClass (s : State) (g : Nat) : Nat := s.f pgFG (0x0C0 + 4 * g) 1 0
def State.grpPolicy (s : State) (g : Nat) : Nat := s.f pgFG (0x0C0 + 4 * g) 5 4
def State.grpFault (s : State) (g : Nat) : Bool := s.f pgFG 0x044 (16 + g) (16 + g) == 1

/-- Whether a group is on (R432, R436). -/
def State.grpOn (s : State) (g : Nat) : Bool := s.af pgFG (0x080 + 4 * g) 0 0 == 1 && !s.grpFault g

/-- The class scale S of a factor F (R434). -/
def classScale (cls f : Nat) : Nat :=
  if cls = 0 then 4096
  else if cls = 1 then (if 2048 ≤ f then 4096 else 2 * f)
  else if 2048 ≤ f then 2 * f - 4096 else 0

/-- De of a level `d` in group `g` under the factor `f` (R421). -/
def State.deOf (s : State) (g f d : Nat) : Nat :=
  let dg := if s.grpOn g then d * s.af pgFG (0x080 + 4 * g) 28 16 / 4096 else 0
  dg * classScale (s.grpClass g) f / 4096

/-- GAIN of a lamp code (R430). -/
def State.calGain (s : State) (c : Nat) : Nat := s.f pgCAL (0x800 + 4 * c) 10 0

/-- Latched faults of a lamp (R435). -/
def State.lampShort (s : State) (c : Nat) : Bool :=
  if c < 0x80 then s.f pgMX (0x310 + 4 * (c / 32)) (c % 32) (c % 32) == 1
  else if c < 0x98 then s.f pgLD 0x0E4 (c - 0x80) (c - 0x80) == 1 else false

def State.lampFaulty (s : State) (c : Nat) : Bool :=
  s.lampShort c ||
    (if c < 0x80 then s.f pgMX (0x300 + 4 * (c / 32)) (c % 32) (c % 32) == 1 || s.f pgMX 0x320 (c / 16) (c / 16) == 1
     else if c < 0x98 then s.f pgLD 0x0E0 (c - 0x80) (c - 0x80) == 1
     else if c < 0x9C then s.f pgBLD 0x044 (4 + c - 0x98) (4 + c - 0x98) == 1 else false)

/-- Policy 1 keeps a failed lamp off (R436). -/
def State.lampOff (s : State) (c : Nat) : Bool := s.grpPolicy (s.lampGroup c) == 1 && s.lampFaulty c

/-! ### Geometry (R420, R423) -/

def State.mxEn (s : State) : Bool := s.af pgMX 0x040 0 0 == 1
def State.mxNr (s : State) : Nat := s.af pgMX 0x040 6 4 + 1
def State.mxNc (s : State) : Nat := s.af pgMX 0x040 11 8 + 1
/-- BLANK in ticks of 12.5 ns. -/
def State.mxBlank (s : State) : Nat := s.af pgMX 0x040 16 12 * 40
def State.mxNsub (s : State) : Nat := s.af pgMX 0x040 24 20 + 1
def State.mxPer (s : State) : Nat := s.af pgMX 0x044 17 0
def State.mxOnmax (s : State) : Nat := s.af pgMX 0x048 15 0

/-- The current of a sink at the effective code `e` while it is on, in nA (R418). -/
def State.sinkCurrent (s : State) (e : Nat) : Nat := 80000000 * (s.af pgLD 0x040 5 0 + 1) * e / (64 * 255)

/-- Start of sub-period `i` in ticks (R420). -/
def State.subStart (s : State) (i : Nat) : Nat := i * s.mxPer / s.mxNsub

/-- Length of sub-pulse `i` of an on-time (R422). -/
def subLen (on n i : Nat) : Nat := (i + 1) * on / n - i * on / n

/-- The DAC code E of a sink's code `dac` with the gain of lamp `c` (R430). -/
def State.effCode (s : State) (c dac : Nat) : Nat := min 255 (dac * s.calGain c / 1024)

def State.fbDac (s : State) : Nat := s.f pgLD 0x048 7 0
def State.fbDuty (s : State) : Nat := s.f pgLD 0x048 27 16

/-- Duty in 1/4,096 and DAC code of a lamp in sub-pulses under factor `f`; fallback overrides (R430, R437). -/
def State.lampDrive (s : State) (f c : Nat) : Nat × Nat :=
  let n := if c < 0x80 then c % 16 else c - 0x80
  if s.fbCodes.contains c then
    (if s.fbLamps.contains c && !s.lampShort c then s.fbDuty else 0, s.effCode c s.fbDac)
  else if s.lampOff c then (0, 0)
  else if c < 0x80 then
    (min 4096 (s.deOf (s.lampGroup c) f (s.af pgMX (0x100 + 4 * c) 11 0) * s.calGain c / 1024), s.af pgLD (0x080 + 4 * n) 7 0)
  else (s.deOf (s.lampGroup c) f (s.af pgLD (0x080 + 4 * n) 27 16), s.effCode c (s.af pgLD (0x080 + 4 * n) 7 0))

/-- The pulse of direct sink `n` in sub-period `i` (R422). -/
def State.sinkPulse (s : State) (f i n : Nat) : LPulse :=
  let d := s.lampDrive f (0x80 + n)
  let win := s.subStart (i + 1) - s.subStart i
  ⟨0x80 + n, 0, min win (subLen (d.1 * s.mxPer / 4096) s.mxNsub i), d.2⟩

/-- The pulse of matrix position (r, c) in sub-period `i` (R423). -/
def State.mxPulse (s : State) (f i r c : Nat) : LPulse :=
  let d := s.lampDrive f (16 * r + c)
  let on := d.1 * s.mxOnmax * s.mxNsub / 4096
  ⟨16 * r + c, r * (s.mxBlank + s.mxOnmax) + s.mxBlank, min s.mxOnmax (subLen on s.mxNsub i), d.2⟩

/-- Direct sinks of a group: those no matrix column uses. -/
def State.groupSinks (s : State) (g : Nat) : List Nat :=
  (List.range 24).filter fun n => !(s.mxEn && decide (n < s.mxNc)) && s.lampGroup (0x80 + n) == g

/-- The power die sheds the lamp loads (19 R510). -/
abbrev State.shedding (s : State) : Bool := s.pwr.shed || s.pwr.ov

/-- The pulses of sub-period `i` of generator `t`: a group's direct sinks, or with 16 the matrix. -/
def State.pulsesOf (s : State) (t f i : Nat) : List LPulse :=
  let l :=
    if t < 16 then (s.groupSinks t).map (s.sinkPulse f i)
    else if s.mxEn then
      (((List.range s.mxNr).filter fun r => !s.light.rowOff.testBit r).flatMap fun r => (List.range s.mxNc).map fun c => s.mxPulse f i r c)
    else []
  if s.shedding || (s.light.pwm.getD t PwmT.zero).dark then [] else l.filter fun p => decide (0 < p.len)

/-! ### Timing (R420, R422, R424) -/

def State.pwmT (s : State) (t : Nat) : PwmT := s.light.pwm.getD t PwmT.zero
def State.updPwm (s : State) (t : Nat) (f : PwmT → PwmT) : State := s.updLight fun l => { l with pwm := l.pwm.modify t f }

/-- F of LD_STAT (R433, R448). -/
def State.ldF (s : State) : Nat := s.f pgLD 0x044 28 16

/-- A period of generator `t` starts at cycle `at_`: the accepted geometry, the factor, no pulses yet; in a Seam hold the power die
holds its outputs (R438). -/
def State.periodAt (s : State) (t at_ : Nat) : State :=
  let s :=
    if t < 16 then s
    else
      let s := s.updLight fun l => { l with rowOff := 0 }
      match s.light.mxAcc with
      | some (a, b, c) =>
        if s.light.mxReady then
          (((s.wa pgMX 0x040 a).wa pgMX 0x044 b).wa pgMX 0x048 c).updLight fun l => { l with mxAcc := none, mxReady := false }
        else s
      | none => s
  s.updPwm t fun p => ⟨at_, 0, s.ldF, if s.seam.hold then p.pulses else [], false, p.hush - 1, p.held && s.seam.hold⟩

/-- A free-running period ends and the next one starts (R420). -/
def State.pwmPeriod (s : State) (t : Nat) : State :=
  let e := (s.pwmT t).start + 10 * s.mxPer
  if 16 < t ∨ s.domRun 1 = false ∨ s.perNow < e then s else s.periodAt t (if s.perNow < e + 10 * s.mxPer then e else s.perNow)

/-- The next sub-period of generator `t` starts (R422, R423); outputs a Seam hold froze stay up to their next period (01 R21). -/
def State.pwmSub (s : State) (t : Nat) : State :=
  let p := s.pwmT t
  if 16 < t ∨ s.domRun 1 = false ∨ s.mxNsub ≤ p.sub ∨ s.perNow < p.start + 10 * s.subStart p.sub then s
  else s.updPwm t fun _ => { p with
    sub := p.sub + 1, pulses := if p.held then p.pulses else s.pulsesOf t p.f p.sub }

/-- A LAMP_SYNC event for group `g` (R420). -/
def State.lampSync (s : State) (g : Nat) : State :=
  if 16 ≤ g ∨ s.domRun 1 = false then s
  else
    let s := (s.evArrive 5 g 0).periodAt g s.perNow
    if s.af pgMX 0x04C 3 0 = g then s.periodAt 16 s.perNow else s

/-! ### Admission of the geometry (R424, R425) -/

/-- The pending geometry. -/
def State.mxPend (s : State) : Word × Word × Word := (s.r pgMX 0x040, s.r pgMX 0x044, s.r pgMX 0x048)

/-- The reason of R425 that refuses the pending geometry. -/
def State.mxReason (s : State) : Option Nat :=
  let g := s.r pgMX 0x040
  let nr := fldOf g 6 4 + 1
  let nc := fldOf g 11 8 + 1
  let per := s.f pgMX 0x044 17 0
  let on := s.f pgMX 0x048 15 0
  if per < 20000 ∨ 200000 < per ∨ on < 16 ∨ fldOf g 16 12 = 0 ∨ 16 < fldOf g 16 12 then some 1
  else
    let codes := [0, 1].flatMap fun p => (List.range 32).map (s.lampOf p)
    if codes.any (fun c =>
        (decide (c < 0x80) && (decide (nr ≤ c / 16) || decide (nc ≤ c % 16))) || (decide (0x80 ≤ c) && decide (c < 0x98) && decide (c - 0x80 < nc))) = true
    then some 2 else none

/-- AMOUNT of the pending geometry, and the length of its sub-period, in ns. -/
def State.mxAmount (s : State) : Nat :=
  let g := s.r pgMX 0x040
  ceilDiv ((fldOf g 6 4 + 1) * (1000 * fldOf g 16 12 + 25 * s.f pgMX 0x048 15 0)) 2

def State.mxCapNs (s : State) : Nat := s.f pgMX 0x044 17 0 * 25 / (2 * (s.f pgMX 0x040 24 20 + 1))

/-- What a commit of the MX page does with the geometry. -/
def State.mxCommit (s : State) : State :=
  if s.light.mxBusy then s.errBusy pgMX 0x040
  else match s.mxReason with
    | some r =>
      let s := (s.sf pgMX 0x050 2 2 1).sf pgMX 0x050 7 4 r
      (s.ev pgMX 1).err pgMX 0x1910 r
    | none =>
      let on := s.f pgMX 0x040 0 0 == 1
      let s := (s.w pgMX 0x054 (BitVec.ofNat 32 s.mxAmount)).w pgMX 0x058 (BitVec.ofNat 32 s.mxCapNs)
      let cl : List ClaimW := if on then [⟨0x70000000, 0, BitVec.ofNat 32 s.mxAmount, 0⟩] else []
      let s := { s with adm := { s.adm with mxRes := none, mxNew := (s.f pgMX 0x044 17 0, s.f pgMX 0x040 24 20 + 1) } }
      (s.admQueue (.set (s.owner pgMX) 1 cl)).updLight fun l => { l with mxBusy := true, mxNext := some s.mxPend }

/-- The evaluation of the matrix claim has ended. -/
def State.mxResult (s : State) : State :=
  match s.light.mxBusy, s.adm.mxRes with
  | true, some ok =>
    let s := { s with adm := { s.adm with mxRes := none } }
    if ok then
      ((s.sf pgMX 0x050 2 2 0).ev pgMX 0).updLight fun l => { l with mxBusy := false, mxAcc := l.mxNext, mxReady := !s.adm.effSrc.contains 1, mxNext := none }
    else
      (((s.sf pgMX 0x050 2 2 1).sf pgMX 0x050 7 4 0).ev pgMX 1).updLight fun l => { l with mxBusy := false, mxNext := none }
  | _, _ => s

/-- A frame boundary: an accepted geometry's claim is in effect (R424). -/
def State.mxFrame (s : State) : State := s.updLight fun l => { l with mxReady := l.mxReady || l.mxAcc.isSome }

def State.mxRead (s : State) (o : Nat) : Word :=
  if o = 0x050 then
    setFldOf (setFldOf (s.r pgMX o) 0 0 (b2n s.mxEn)) 1 1 (b2n (s.light.mxBusy || s.light.mxAcc.isSome))
  else s.r pgMX o

/-! ### Backlight (R426 to R428) -/



/-- Phases since the last scan instant, or none before the first. -/
def State.blPhases (s : State) : Option Nat :=
  s.light.scan.map fun x =>
    ((s.ltb.frame.toNat + 2 ^ 32 - x.1.toNat) % 2 ^ 32 * s.vtAct + s.ltb.line) * 256 + s.phase - (x.2.1 * 256 + x.2.2.1)

/-- The strings' pulse period (R427), once a scan has started one. -/
def State.blPeriod (s : State) : Option BlPer := s.blPhases.map fun ph => ⟨s.light.scan, ph / max 1 (s.af pgBLD 0x050 7 0 * 256)⟩

/-- Whether a string is driven: after a shed, from the start of its next period (19 R510). -/
def State.blOn (s : State) (b : Nat) : Bool :=
  s.af pgBLD 0x040 b b == 1 && s.f pgBLD 0x044 1 1 == 0 && !s.shedding && !s.lampOff (0x98 + b) &&
    !(s.light.blDark.isSome && s.light.blDark == s.blPeriod)

/-- The factor the strings apply: a new one from the start of their next period (R434). -/
def State.blF (s : State) : Nat :=
  match s.light.fOld with
  | some h => if s.blPeriod = some h.per then h.f else s.ldF
  | none => s.ldF

/-- Be of a string (R427). -/
def State.blBe (s : State) (b : Nat) : Nat := s.deOf (s.lampGroup (0x98 + b)) s.blF (s.af pgBLD 0x048 12 0)

/-- The string current code Ie. -/
def State.blIe (s : State) (b : Nat) : Nat :=
  min 1023 (s.af pgBLD 0x04C 9 0 * s.calGain (0x98 + b) / 1024 * max (s.blBe b) 410 / 4096)

/-- The current of a string at code `ie`, in nA (R426). -/
def strCurrent (ie : Nat) : Nat := 150000000 * ie / 1023

/-- The string duty in 1/4,096. -/
def State.blDuty (s : State) (b : Nat) : Nat := if 410 ≤ s.blBe b then 4096 else s.blBe b * 4096 / 410

/-- Whether a string is on at the present phase of its pulse period (R427). -/
def State.blLit (s : State) (b : Nat) : Bool :=
  let per := s.af pgBLD 0x050 7 0 * 256
  s.blOn b && (match s.blPhases with
    | some ph => decide (ph % max 1 per < s.blDuty b * per / 4096)
    | none => s.blDuty b == 4096)

/-- BL_CTRL.SCAN: without it the scanner closes no bypass switch and misses no scan (DESIGN CHOICE, log entry 46). -/
def State.scanOn (s : State) : Bool := s.af pgBLD 0x040 8 8 == 1

/-- Whether zone `k` is lit at the present position (R428). -/
def State.zoneLit (s : State) (k : Nat) : Bool :=
  let b := k / 12
  let lvl := s.af pgBLD (0x100 + 4 * (k / 4)) (8 * (k % 4) + 7) (8 * (k % 4))
  if s.scanOn = false then true
  else match s.light.scan, s.blPhases with
  | some x, some ph =>
    let op := (b + 4 - x.2.2.2) % 4 * s.af pgBLD 0x054 11 0 * 256
    let len := lvl * s.af pgBLD 0x054 23 12 / 255 * 256
    decide (op ≤ ph) && decide (ph < op + len)
  | _, _ => false

/-- What drives string `b`: its state and current code. In a Seam hold it stays at its last value, and after the refresh up to its
next pulse period or scan (01 R20, R21). -/
def State.strOut (s : State) (b : Nat) : Bool × Nat :=
  let live := (s.blLit b, s.blIe b)
  match s.light.bl with
  | none => live
  | some h =>
    let per := max 1 (s.af pgBLD 0x050 7 0 * 256)
    if h.past = false then h.strs.getD b (false, 0)
    else match s.blPhases with
      | some ph => if s.light.scan = h.scan ∧ ph / per = h.ph / per then h.strs.getD b (false, 0) else live
      | none => live

/-- Whether zone `k` is lit: its bypass switch stays in a Seam hold, and after the refresh up to the next scan. -/
def State.zoneOut (s : State) (k : Nat) : Bool :=
  match s.light.bl with
  | none => s.zoneLit k
  | some h => if h.past = false ∨ (s.light.scan = h.scan ∧ s.light.scan.isSome = true) then h.zones.getD k true else s.zoneLit k

/-- The fallback lamps the power die's own timer drives in a hold (R438); a shed leaves them dark (19 R510). -/
def State.holdLamps (s : State) : List Nat :=
  if s.shedding then [] else s.fbLamps.filter fun c => !s.lampShort c && decide (c < 0x98)

/-- The power die holds its outputs: the lamps' pulses, the strings and the zones (01 R20). -/
def State.lightFreeze (s : State) : State :=
  let strs := (List.range 4).map s.strOut
  let zones := (List.range 48).map s.zoneOut
  s.updLight fun l => { l with
    hold := s.holdLamps, holdAt := s.perNow,
    pwm := l.pwm.map fun p => { p with held := true }, bl := some ⟨strs, zones, false, none, 0⟩ }

/-- A BL_SCAN event (R428). -/
def State.blScan (s : State) (arg : Nat) : State :=
  if s.domRun 1 = false then s
  else
    let s := s.evArrive 6 0 (arg % 64)
    s.updLight fun l => { l with scan := some (s.ltb.frame, s.ltb.line, s.phase, if arg % 64 < 48 then arg % 64 / 12 else 0) }

/-- No BL_SCAN within VT_ACT lines: the last schedule repeats. -/
def State.scanMiss (s : State) : State :=
  match s.light.scan, s.blPhases with
  | some x, some ph =>
    if s.domRun 1 = false ∨ s.scanOn = false ∨ ph < 256 * s.vtAct ∨ s.vtAct = 0 then s
    else (s.updLight fun l => { l with scan := some (x.1 + 1, x.2) }).ev pgBLD 2
  | _, _ => s

/-- A flag of the power die waits for the refresh. -/
def State.pdPend (s : State) (x : PdFlag) : State := s.updLight fun l => { l with pend := l.pend ++ [x] }

/-- The boost's over-voltage, its output at `v` volts, as the logic die takes it. -/
def State.ovpFlag (s : State) (v : Nat) : State :=
  (((s.sf pgBLD 0x044 1 1 1).sf pgBLD 0x044 23 16 (min v 255)).ev pgBLD 0).err pgBLD 0x6911 v

/-- The boost exceeds VMAX + 2 V, its output at `v` volts (R426). In a Seam hold the strings go dark and the flag waits. -/
def State.boostOvp (s : State) (v : Nat) : State :=
  if v ≤ s.af pgBLD 0x040 21 16 + 2 ∨ s.domRun 1 = false then s
  else if s.seam.hold then
    (s.pdPend (.ovp v)).updLight fun l => { l with bl := l.bl.map fun h => { h with strs := h.strs.map fun _ => (false, 0) } }
  else s.ovpFlag v

def State.bldWrite (s : State) (o : Nat) (v : Word) : State :=
  let s := s.plain pgBLD o v
  if o = 0x040 ∧ v.getLsbD 31 then s.sf pgBLD 0x044 1 1 0 else s

/-- The boost runs while a string is enabled and OVP is clear. -/
def State.bldRead (s : State) (o : Nat) : Word :=
  if o = 0x044 then setFldOf (s.r pgBLD o) 0 0 (b2n ((List.range 4).any s.blOn)) else s.r pgBLD o

/-! ### Calibration (R430, R431, R451) -/

/-- A write to an entry sets its pending copy; an earlier write of it that waits keeps its value up to the latch of this cycle. -/
def State.calWrite (s : State) (o : Nat) (v : Word) : State :=
  if 0x400 ≤ o ∧ o < 0x800 then
    let i := (o - 0x400) / 4
    let v := v &&& 0xF7FF
    (s.w pgCAL o v).updLight fun l => { l with
      calPend := l.calPend.filter (fun e => !(e.1 == i && e.2.2 == s.time)) ++ [(i, v, s.time)] }
  else s

/-- The pending entries that `p` names become active, in the order of their writes. -/
def State.calApply (s : State) (p : Nat × Word × Nat → Bool) : State :=
  ((s.light.calPend.filter p).foldl (fun s e => s.w pgCAL (0x800 + 4 * e.1) e.2.1) s).updLight fun l => { l with
    calPend := l.calPend.filter fun e => !p e }

/-- The calibration part of a LACE_LATCH event: a write accepted in its cycle waits for the following latch. -/
def State.calLatch (s : State) : State := (s.calApply fun e => decide (e.2.2 < s.time)).cntWrap pgCAL 0x044 15 8

def State.calRegWrite (s : State) (o : Nat) (v : Word) : State :=
  if o = 0x040 then (if v.getLsbD 0 then s.calApply fun _ => true else s) else s.calWrite o v

def State.calRead (s : State) (o : Nat) : Word :=
  if o = 0x044 then setFldOf (s.r pgCAL o) 0 0 (b2n (!s.light.calPend.isEmpty)) else s.r pgCAL o

/-! ### Lamp faults (R435, R436) -/

/-- The lamp codes of a group with a fault, or an eyelet of it. -/
def State.grpFaulty (s : State) (g : Nat) : Bool :=
  ((List.range 0x9C).any fun c => s.lampGroup c == g && s.lampFaulty c) ||
    s.light.eyeFault.any fun a => s.f pgLACE (0x100 + 4 * (a / 8)) (4 * (a % 8) + 3) (4 * (a % 8)) == g

/-- Eyelets of a group. -/
def State.grpEyes (s : State) (g : Nat) : List Nat :=
  ((List.range 60).map (· + 1)).filter fun a => s.f pgLACE (0x100 + 4 * (a / 8)) (4 * (a % 8) + 3) (4 * (a % 8)) == g

/-- Whether an eyelet is online. -/
def State.eyeOnline (s : State) (a : Nat) : Bool := s.f pgLACE (0x060 + 4 * (a / 32)) (a % 32) (a % 32) == 1

/-- A lamp fault of group `g` acts by the group's policy (R436, R447). -/
def State.grpAct (s : State) (g : Nat) : State :=
  let s := s.ev pgFG 0
  if s.grpPolicy g ≠ 2 ∨ s.grpFault g then s
  else
    let s := (s.sf pgFG 0x044 (16 + g) (16 + g) 1).ev pgFG 1
    let eyes := (s.grpEyes g).filter s.eyeOnline
    { s with lace := { s.lace with off := s.lace.off ++ eyes.filter fun a => !s.lace.off.contains a } }

/-- The strings a hold froze go dark. -/
def BlHold.darken (h : BlHold) : BlHold := { h with strs := h.strs.map fun _ => (false, 0) }

/-- A shed begins: every lamp is off, in a Seam hold too. -/
def State.shedStart (s : State) : State :=
  s.updLight fun l => { l with pwm := l.pwm.map fun p => { p with pulses := [] }, hold := [], bl := l.bl.map BlHold.darken }

/-- A shed ends: the lamps resume at the start of their next period, and FCNT periods pass before faults count (19 R510). -/
def State.shedEnd (s : State) : State :=
  let n := s.af pgLD 0x040 13 8 + 2
  s.updLight fun l => { l with pwm := l.pwm.map fun p => { p with dark := true, hush := n }, blDark := s.blPeriod }

/-- Whether the tests of a lamp are suspended by a shed. -/
def State.hushed (s : State) (c : Nat) : Bool :=
  s.shedding || decide (0 < (s.pwmT (if c < 0x80 then 16 else s.lampGroup c)).hush)

/-- A lamp fault, an open or a short of a lamp code, as the logic die takes it (R435). -/
def State.lampFlag (s : State) (c : Nat) (short : Bool) : State :=
  let s :=
    if c < 0x80 then
      ((s.sf pgMX ((if short then 0x310 else 0x300) + 4 * (c / 32)) (c % 32) (c % 32) 1).ev pgMX 2).err pgMX 0x8913 c
    else if c < 0x98 then
      ((s.sf pgLD (if short then 0x0E4 else 0x0E0) (c - 0x80) (c - 0x80) 1).ev pgLD 0).err pgLD 0x8913 c
    else ((s.sf pgBLD 0x044 (4 + c - 0x98) (4 + c - 0x98) 1).ev pgBLD 1).err pgBLD 0x8913 c
  s.grpAct (s.lampGroup c)

/-- A lamp fault is declared (R435). Testing is suspended below 9 V; in a Seam hold the flag waits for the refresh (01 R21). -/
def State.lampFault (s : State) (c : Nat) (short : Bool) : State :=
  if s.hushed c ∨ 0x9C ≤ c ∨ s.pwr.low = true ∨ s.domRun 1 = false ∨ (short ∧ 0x98 ≤ c) then s
  else if s.seam.hold then s.pdPend (.lamp c short)
  else s.lampFlag c short

/-- A row's overcurrent as the logic die takes it: a fault of every lamp on the row (R435, R436). -/
def State.rowFlag (s : State) (r : Nat) : State :=
  let s := ((s.sf pgMX 0x320 r r 1).ev pgMX 2).ev pgMX 3
  let s := s.err pgMX 0x8913 (16 * r)
  (((List.range 16).map fun c => s.lampGroup (16 * r + c)).eraseDups).foldl (fun s g => s.grpAct g) s

/-- A row switch exceeds 1.5 A: the power die turns the row off until its period ends (R435). -/
def State.rowOver (s : State) (r : Nat) : State :=
  if 8 ≤ r ∨ s.domRun 1 = false then s
  else
    let s := s.updLight fun l => { l with rowOff := l.rowOff ||| 2 ^ r }
    let s := s.updPwm 16 fun p => { p with pulses := p.pulses.filter fun x => !(decide (x.code < 0x80) && x.code / 16 == r) }
    if s.seam.hold then s.pdPend (.row r) else s.rowFlag r

/-- A group whose CLR was written comes back once all its lamp faults are cleared (R436). -/
def State.grpRelease (s : State) : State :=
  (List.range 16).foldl (fun s g =>
    if s.light.clrPend.testBit g && !s.grpFaulty g then
      (s.sf pgFG 0x044 (16 + g) (16 + g) 0).updLight fun l => { l with clrPend := l.clrPend ^^^ 2 ^ g }
    else s) s

/-- LD_FCLR clears every latched lamp fault (R435). -/
def State.ldFclr (s : State) : State :=
  let s := (s.w pgLD 0x0E0 0).w pgLD 0x0E4 0
  let s := (List.range 4).foldl (fun s w => (s.w pgMX (0x300 + 4 * w) 0).w pgMX (0x310 + 4 * w) 0) s
  let s := (s.w pgMX 0x320 0).sf pgBLD 0x044 7 4 0
  (s.updLight fun l => { l with eyeFault := [] }).grpRelease

/-- A sink's headroom falls below V_HRMIN while it is on (R419). -/
def State.headroomLow (s : State) (n : Nat) : State :=
  if 24 ≤ n ∨ s.domRun 1 = false then s
  else if s.seam.hold then s.pdPend (.headroom n)
  else (s.setW1 pgLD 0x0E8 n).ev pgLD 1

/-- The power die sends what it latched in the hold (01 R21), in the order it arose. -/
def State.pdFlush (s : State) : State :=
  s.light.pend.foldl (fun s x => match x with
    | .lamp c short => s.lampFlag c short
    | .row r => s.rowFlag r
    | .headroom n => (s.setW1 pgLD 0x0E8 n).ev pgLD 1
    | .ovp v => s.ovpFlag v) (s.updLight fun l => { l with pend := [] })

/-- The power die leaves the hold (01 R21): lamps follow again from their next period, strings from theirs. -/
def State.lightThaw (s : State) : State :=
  let ph := s.blPhases.getD 0
  (s.updLight fun l => { l with hold := [], bl := l.bl.map fun h => { h with past := true, scan := l.scan, ph := ph } }).pdFlush

/-! ### Derating (R433) -/

def State.drX (s : State) (k : Nat) : Nat := s.af pgLD (0x050 + 4 * k) 11 0
def State.drY (s : State) (k : Nat) : Nat := s.af pgLD (0x050 + 4 * k) 28 16

/-- The curve value of code `x`. -/
def State.drCurve (s : State) (x : Nat) : Nat :=
  if x ≤ s.drX 0 then s.drY 0
  else if s.drX 7 ≤ x then s.drY 7
  else
    let k := (((List.range 7).filter fun k => decide (s.drX k ≤ x)).getLast?).getD 0
    (Int.toNat ((s.drY k : Int) + Int.fdiv (((x : Int) - s.drX k) * ((s.drY (k + 1) : Int) - s.drY k)) ((s.drX (k + 1) : Int) - s.drX k)))

/-- Set the applied factor; DERATE where it falls below 4,096. -/
def State.setF (s : State) (f : Nat) : State :=
  let was := s.ldF
  let s := match s.blPeriod with
    | some k => s.updLight fun l => { l with fOld := some ⟨s.blF, k⟩ }
    | none => s
  let s := s.sf pgLD 0x044 28 16 f
  if f < 4096 ∧ 4096 ≤ was then s.ev pgFG 2 else s

/-- A result of the derating channel: code and whether it carries a range flag. -/
def State.ldNtc (s : State) (x : Nat) (flag : Bool) : State :=
  let rises := (List.range 7).all fun k => decide (s.drX k < s.drX (k + 1))
  if flag || !rises then
    ((((s.setF (s.af pgLD 0x04C 28 16)).sf pgLD 0x044 1 1 1).ev pgLD 2).err pgLD 0x4912 x)
  else
    let t := s.drCurve x
    let f := s.ldF
    (s.setF (if f + 64 ≤ t then f + 64 else if t + 64 ≤ f then f - 64 else t)).sf pgLD 0x044 1 1 0

/-! ### Registers (R432, R436, R448 to R452) -/

/-- Whether a write to a group's settings by tenant `t` is accepted (R432). -/
def State.fgMay (s : State) (t g : Nat) : Bool := t == 0 || (t == s.owner pgFG && s.fgHolder g == t)

/-- FG_CTRL.CLR by tenant `t` through NI `n` (R436). -/
def State.fgClr (s : State) (t n m : Nat) : State :=
  ((List.range 16).foldl (fun s g =>
    if m.testBit g = false then s
    else if s.fgMay t g then s.updLight fun l => { l with clrPend := l.clrPend ||| (if s.grpFault g then 2 ^ g else 0) }
    else s.violation 4 t n g 0 true) s).grpRelease

/-- A write to the FG page. -/
def State.fgWrite (s : State) (t n o : Nat) (v : Word) : State :=
  if o = 0x040 then s.fgClr t n (fldOf v 15 0)
  else if 0x080 ≤ o ∧ o < 0x0C0 then
    let g := (o - 0x080) / 4
    (if s.fgMay t g then s.plain pgFG o v else s.violation 4 t n g 0 true)
  else s.plain pgFG o v

def State.fgRead (s : State) (o : Nat) : Word :=
  if o = 0x044 then
    BitVec.ofNat 32 (s.f pgFG 0x044 31 16 * 65536 + (List.range 16).foldl (fun a g => a + 2 ^ g * b2n (s.grpOn g)) 0)
  else s.r pgFG o

def State.ldWrite (s : State) (o : Nat) (v : Word) : State :=
  if o = 0x0F0 then (if v.getLsbD 0 then s.ldFclr else s) else s.plain pgLD o v

/-- CALSAT: some direct sink's code is clipped (R430, R448). -/
def State.calSat (s : State) : Bool :=
  (List.range 24).any fun n =>
    !(s.mxEn && decide (n < s.mxNc)) && decide (255 < s.af pgLD (0x080 + 4 * n) 7 0 * s.calGain (0x80 + n) / 1024)

def State.ldRead (s : State) (o : Nat) : Word :=
  if o = 0x044 then setFldOf (setFldOf (s.r pgLD o) 2 2 (b2n s.seam.hold)) 3 3 (b2n s.calSat) else s.r pgLD o

/-- During a Seam hold the power die's 1 kHz timer drives the fallback lamps (R438); 800,000 cycles a period. -/
def State.holdTick (s : State) : State :=
  if s.seam.hold = false ∨ s.perNow < s.light.holdAt + 800000 then s
  else s.updLight fun l => { l with hold := s.holdLamps, holdAt := s.perNow }

/-- The light drive loses its state with SYS. -/
def State.lightReset (s : State) : State := s.updLight fun _ => Light.zero

end Sys2Proof.Machine
end

