-- ==== Sys2Proof/Machine/Lace.lean ====
section
/-! DEFINITION. Machine/Lace.lean: the Lace lamp bus (16 R439 to R447, R453). -/

namespace Sys2Proof.Machine

def State.updLace (s : State) (f : Lace → Lace) : State := { s with lace := f s.lace }

/-! ### Frames (R440, R441) -/

/-- CRC-8 with polynomial 0x2F, most significant bit first. -/
def crc8Bit (c : Nat) : Nat := if 128 ≤ c then (c * 2 % 256) ^^^ 0x2F else c * 2

def crc8Byte (c : Nat) (b : Byte) : Nat :=
  crc8Bit (crc8Bit (crc8Bit (crc8Bit (crc8Bit (crc8Bit (crc8Bit (crc8Bit (c ^^^ b.toNat))))))))

def crc8 (bs : List Byte) : Nat := bs.foldl crc8Byte 0xFF

/-- The bytes of a request. -/
def laceFrame (addr seq reg data : Nat) (read : Bool) : List Byte :=
  let body := [BitVec.ofNat 8 (addr % 64 * 4 + seq % 2 * 2 + b2n read), BitVec.ofNat 8 reg] ++
    (if read then [] else [BitVec.ofNat 8 (data / 256), BitVec.ofNat 8 data])
  (0xA5 : Byte) :: body ++ [BitVec.ofNat 8 (crc8 body)]

/-- The bytes of a response. -/
def laceResponse (addr seq status data : Nat) (dup : Bool) : List Byte :=
  let body := [BitVec.ofNat 8 (addr % 64 * 4 + seq % 2 * 2 + b2n dup), BitVec.ofNat 8 status, BitVec.ofNat 8 (data / 256), BitVec.ofNat 8 data]
  (0x5A : Byte) :: body ++ [BitVec.ofNat 8 (crc8 body)]

/-- Cycles of one bit (R439): DIV periods of 80 MHz. -/
def State.laceBit (s : State) : Nat := 10 * s.af pgLACE 0x040 15 0
def State.laceRetry (s : State) : Nat := s.af pgLACE 0x040 18 16
def State.laceRtmo (s : State) : Nat := s.af pgLACE 0x040 27 20
def State.laceRep (s : State) : Nat := s.af pgLACE 0x040 29 28

/-- The SEQ bit of an eyelet (R442). -/
def State.eyeSeq (s : State) (a : Nat) : Nat := b2n (s.lace.seq.contains a)
def State.flipSeq (s : State) (a : Nat) : State :=
  s.updLace fun l => { l with seq := if l.seq.contains a then l.seq.erase a else l.seq ++ [a] }

def State.setOnline (s : State) (a : Nat) (v : Bool) : State := s.sf pgLACE (0x060 + 4 * (a / 32)) (a % 32) (a % 32) (b2n v)

/-- The group of an eyelet (R432). -/
def State.eyeGroup (s : State) (a : Nat) : Nat := s.f pgLACE (0x100 + 4 * (a / 8)) (4 * (a % 8) + 3) (4 * (a % 8))

/-! ### The queue (R446) -/

/-- A response entry (R453). -/
def State.laceDone (s : State) (t : LaceTx) (res status data : Nat) : State :=
  if t.kind = .queued then
    (s.updLace fun l => { l with resp := l.resp ++
      [(BitVec.ofNat 32 (2 ^ 31 + t.addr * 2 ^ 24 + status % 256 * 2 ^ 16 + res * 256), BitVec.ofNat 32 (t.tag * 65536 + data % 65536))] }).ev pgLACE 0
  else s

/-- LACE_QCMD.PUSH by tenant `t` through NI `n`. -/
def State.lacePush (s : State) (t n : Nat) : State :=
  let addr := s.f pgLACE 0x048 5 0
  let reg := s.f pgLACE 0x048 23 16
  let rd := s.f pgLACE 0x048 8 8 == 1
  let g := s.eyeGroup addr
  if 61 ≤ addr then s.errValue pgLACE 0x048
  else if t ≠ 0 ∧ rd = false ∧ addr ≠ 0 ∧ s.fgHolder g ≠ t then s.violation 4 t n g 0 true
  else if t ≠ 0 ∧ rd = false ∧ addr = 0 ∧ reg ≠ 0xFE then s.violation 4 t n 0 0 true
  else if 32 ≤ s.lace.queue.length then (s.errCap pgLACE 0x050).ev pgLACE 4
  else s.updLace fun l => { l with queue := l.queue ++ [⟨.queued, addr, rd, reg, s.f pgLACE 0x04C 15 0, s.f pgLACE 0x04C 31 16⟩] }

/-- LACE_QCMD.FLUSH: queued transactions complete with result 4, as far as the response queue has room (R446, R453). -/
def State.laceFlush (s : State) : State :=
  let n := 16 - s.lace.resp.length - b2n (match s.lace.bus with | some b => b.tx.kind == .queued | none => false)
  let q := s.lace.queue
  (q.take n).foldl (fun s t => s.laceDone t 4 0 0) (s.updLace fun l => { l with queue := q.drop n })

/-! ### The bus (R442 to R447) -/

/-- Bits of a frame: ten for each byte. -/
def frameBits (b : List Byte) : Nat := 10 * b.length

/-- Put a frame on the line: what runs there once Awl has seen it (20 R537), when the request ends, and from when the bus is
idle. -/
def State.laceSend (s : State) (t : LaceTx) (fr : List Byte) : State × List (List Byte) × Nat × Nat :=
  let n := frameBits fr * s.laceBit
  let ends := s.perNow + n
  match s.awlLace 0 t.addr (b2n t.read) t.reg fr with
  | (s, none, _) => (s, [], ends, s.perNow)
  | (s, some b, false) => (s, [b], ends, ends)
  | (s, some b, true) => (s, [b, b], ends, ends + 12 * s.laceBit + n)

/-- Put a transaction's frame on the bus. A new write toggles the eyelet's SEQ; SEQSYNC from the part carries the current one. -/
def State.laceGo (s : State) (t : LaceTx) : State :=
  let s := if !t.read && t.kind != .sync && t.addr != 0 then s.flipSeq t.addr else s
  let fr := laceFrame t.addr (s.eyeSeq t.addr) t.reg t.data t.read
  let (s, line, ends, idle) := s.laceSend t fr
  s.updLace fun l => { l with bus := some ⟨t, fr, line, 1, true, ends⟩, idle := idle }

/-- A broadcast frame has run to its end with no readback failure: it has no response (R445). -/
def State.laceCast (s : State) : State :=
  match s.lace.bus with
  | some b => if b.wait = true ∧ b.tx.addr = 0 then (s.updLace fun l => { l with bus := none }).laceDone b.tx 0 0 0 else s
  | none => s

/-- The next work to serve, and Lace without it: latch frames, all-or-none writes, online requests, the queue, polls
(R444, R446). A queued transaction waits while the response queue is full. -/
def State.laceNext (s : State) : Option (LaceTx × Lace) :=
  let l := s.lace
  match l.latch with
  | some (d, n) => some (⟨.latch, 0, false, 0xFF, d, 0⟩, { l with latch := if n ≤ 1 then none else some (d, n - 1) })
  | none =>
    match l.off with
    | a :: t =>
      if l.need.contains a then some (⟨.sync, a, false, 0xFE, 0, 0⟩, { l with need := l.need.erase a })
      else some (⟨.allNone, a, false, 0x02, 0, 0⟩, { l with off := t })
    | [] =>
      match l.sync with
      | a :: t => some (⟨.sync, a, false, 0xFE, 0, 0⟩, { l with sync := t })
      | [] =>
        let q := if l.resp.length < 16 then l.queue else []
        match q with
        | x :: t =>
          if !x.read && x.addr != 0 && l.need.contains x.addr && s.eyeOnline x.addr then
            some (⟨.sync, x.addr, false, 0xFE, 0, 0⟩, { l with need := l.need.erase x.addr })
          else some (x, { l with queue := t })
        | [] =>
          match l.polls.filter s.eyeOnline with
          | a :: t => some (⟨.poll, a, true, 0x01, 0, 0⟩, { l with polls := t })
          | [] => none

/-- After 12 idle bit times the bus starts its next frame: a retry of the attempt that ended, or the next work (R439, R443). -/
def State.laceStart (s : State) : State :=
  if s.domRun 1 = false ∨ s.perNow < s.lace.idle + 12 * s.laceBit then s
  else
    let s := s.laceCast
    let retry := match s.lace.bus with
      | some b => !b.wait
      | none => false
    let busy := match s.lace.bus with
      | some b => b.wait
      | none => false
    if busy then s
    else if retry then
      match s.lace.bus with
      | none => s
      | some b =>
        let (s, line, ends, idle) := s.laceSend b.tx b.frame
        (s.updLace fun l => { l with
          bus := some { b with line := line, tries := b.tries + 1, wait := true, ends := ends }, idle := idle }).cntUp pgLACE 0x070 15 0 1
    else match s.laceNext with
      | none => s
      | some (t, l) =>
        let s := { s with lace := { l with bus := none } }
        if t.kind = .queued ∧ t.addr ≠ 0 ∧ s.eyeOnline t.addr = false then s.laceDone t 3 0 0
        else if t.kind = .latch then (s.w pgLACE 0x078 (BitVec.ofNat 32 t.data)).laceGo t
        else s.laceGo t

/-- An attempt ends without a good response; the last one ends the transaction (R443, R444). -/
def State.laceFail (s : State) (b : LaceBus) : State :=
  let s := s.updLace fun l => { l with idle := s.perNow }
  if b.tries ≤ s.laceRetry then s.updLace fun l => { l with bus := some { b with wait := false } }
  else
    let a := b.tx.addr
    let s := (s.updLace fun l => { l with bus := none }).laceDone b.tx 2 0 0
    let s := (s.setOnline a false).sf pgLACE 0x044 29 24 a
    ((s.cntUp pgLACE 0x074 15 0 1).ev pgLACE 1).err pgLACE 0x3914 a

/-- No response has started RTMO bit times after the request, or the readback of a bit differed while it was sent (R439, R443). -/
def State.laceTimeout (s : State) (readback : Bool) : State :=
  match s.lace.bus with
  | none => s
  | some b =>
    if b.wait = false ∨ (readback = true ∧ b.ends < s.perNow) ∨
        (readback = false ∧ (b.tx.addr = 0 ∨ s.perNow < b.ends + s.laceRtmo * s.laceBit)) then s else s.laceFail b

/-- An eyelet's status (R444, R447). -/
def State.eyeStatus (s : State) (a status : Nat) : State :=
  let s := if status.testBit 1 then
      (s.updLace fun l => { l with need := if l.need.contains a then l.need else l.need ++ [a] }).ev pgLACE 2
    else s
  if status.testBit 0 then
    let s := (s.updLight fun l => { l with eyeFault := if l.eyeFault.contains a then l.eyeFault else l.eyeFault ++ [a] }).ev pgLACE 3
    s.grpAct (s.eyeGroup a)
  else s

/-- A response is on the receiver (R440 to R444); in a Seam hold it is lost (01 R21). -/
def State.laceTake (s : State) (bytes : List Byte) : State :=
  match s.lace.bus with
  | none => s
  | some b =>
    if b.wait = false ∨ b.tx.addr = 0 ∨ s.seam.hold = true then s
    else
      let body := (bytes.drop 1).take 4
      let h := ib body 0
      if bytes.head? ≠ some 0x5A then s
      else if bytes.length ≠ 6 ∨ ib bytes 5 ≠ crc8 body then
        (s.cntUp pgLACE 0x074 31 16 1).laceFail b
      else if h / 4 ≠ b.tx.addr ∨ h / 2 % 2 ≠ s.eyeSeq b.tx.addr then s
      else
        let a := b.tx.addr
        let dup := h % 2 == 1
        let s := s.updLace fun l => { l with bus := none, idle := s.perNow }
        let s := if dup then s.cntUp pgLACE 0x070 31 16 1 else s
        let s := if b.tx.kind = .sync then s.setOnline a true else s
        let s := s.laceDone b.tx (b2n dup) (ib body 1) (ib body 2 * 256 + ib body 3)
        s.eyeStatus a (ib body 1)

/-- A response arrives and passes Awl (20 R535). -/
def State.laceAnswer (s : State) (bytes : List Byte) : State :=
  match s.lace.bus with
  | none => s
  | some b =>
    match s.awlLace 1 (ib bytes 1 / 4) (b2n b.tx.read) b.tx.reg bytes with
    | (s, none, _) => s
    | (s, some x, _) => s.laceTake x

/-- A LACE_LATCH event: calibration entries and the broadcast latch (R431, R445). -/
def State.laceLatch (s : State) : State :=
  if s.domRun 1 = false then s
  else (s.evArrive 0xA 0 0).calLatch.updLace fun l => { l with latch := some (s.ltb.frame.toNat % 65536, s.laceRep) }

/-- Every POLL ms the status of each online eyelet is read (R447). -/
def State.lacePoll (s : State) : State :=
  let p := s.f pgLACE 0x068 7 0
  if p = 0 ∨ s.perNow < s.lace.pollAt + p * 800000 ∨ s.domRun 1 = false then s
  else s.updLace fun l => { l with pollAt := s.perNow, polls := ((List.range 60).map (· + 1)).filter s.eyeOnline }

/-! ### Registers (R444, R453) -/

/-- Addresses that have an online bit in the word at `o`. -/
def onlMask (o : Nat) : Word := if o = 0x060 then 0xFFFFFFFE else 0x1FFFFFFF

/-- A write of the online bits: a 1 to an offline bit sends SEQSYNC, a 0 takes the eyelet offline. -/
def State.laceOnline (s : State) (o : Nat) (v : Word) : State :=
  let base := if o = 0x060 then 0 else 32
  let v := v &&& onlMask o
  let old := s.r pgLACE o
  let ask := (List.range 32).filter fun i => v.getLsbD i && !old.getLsbD i
  let s := s.w pgLACE o (old &&& v)
  s.updLace fun l => { l with sync := l.sync ++ (ask.map (· + base)).filter fun a => !l.sync.contains a }

def State.laceWrite (s : State) (t n o : Nat) (v : Word) : State :=
  if o = 0x050 then
    let s := if v.getLsbD 0 then s.lacePush t n else s
    if v.getLsbD 1 then s.laceFlush else s
  else if o = 0x060 ∨ o = 0x064 then s.laceOnline o v
  else if o = 0x040 then s.plainWrite pgLACE o v (if fldOf v 15 0 < 40 then 0xFFFF else 0) 0 o
  else s.plain pgLACE o v

/-- A read of LACE_RSPB removes the entry. -/
def State.lacePop (s : State) : State × Word :=
  match s.lace.resp with
  | [] => (s, 0)
  | (_, b) :: t => (s.updLace fun l => { l with resp := t }, b)

def State.laceRead (s : State) (o : Nat) : Word :=
  if o = 0x044 then
    BitVec.ofNat 32 (s.lace.queue.length + s.lace.resp.length * 256 + b2n s.lace.bus.isSome * 65536 + s.f pgLACE 0x044 29 24 * 2 ^ 24)
  else if o = 0x054 then (s.lace.resp.head?.map Prod.fst).getD 0
  else s.r pgLACE o

/-- Lace loses its state. -/
def State.laceReset (s : State) : State := s.updLace fun _ => Lace.zero

end Sys2Proof.Machine
end

