-- ==== Sys2Proof/Machine/Lanes.lean ====
section
/-! DEFINITION. Machine/Lanes.lean: the serial lanes, Pane Link and Welt Link (17). -/

namespace Sys2Proof.Machine

def State.ln (s : State) (n : Nat) : Lane := s.lanes.getD n Lane.zero
def State.lk (s : State) (n : Nat) : LinkSt := s.links.getD n LinkSt.zero
def State.updLn (s : State) (n : Nat) (f : Lane → Lane) : State := { s with lanes := s.lanes.modify n f }
def State.updLk (s : State) (n : Nat) (f : LinkSt → LinkSt) : State := { s with links := s.links.modify n f }

/-- The NI of a lane's traffic (01 R23). -/
def laneNi (n : Nat) : Nat := if n < 2 then 0 else 5

def State.laneEn (s : State) (n : Nat) : Bool := decide (s.af (pgLANE n) 0x040 0 0 = 1)
def State.laneProto (s : State) (n : Nat) : Nat := s.af (pgLANE n) 0x040 2 1
def State.laneRate (s : State) (n : Nat) : Nat := s.af (pgLANE n) 0x040 10 4
def State.txPrbs (s : State) (n : Nat) : Bool := decide (s.af (pgLANE n) 0x060 0 0 = 1)
def State.laneOn (s : State) (n : Nat) : Bool := lanePresent s.grade n && s.domRun 10

/-! ### Units on the lane (R464, R469, R470) -/

/-- A link-control set: LSEQ and TYPE, and their CRC-8. -/
def ctlSet (typ lseq : Nat) : List Byte :=
  let b := leBytes 2 (lseq % 4096 + typ * 4096)
  b ++ [BitVec.ofNat 8 (crc8 b)]

/-- A Pane Link packet; header fields with no use in a type are sent as 0. -/
def panePkt (typ line xofs : Nat) (payload : List Byte) : LUnit :=
  let b := leBytes 2 typ ++ leBytes 2 payload.length ++ leBytes 2 line ++ leBytes 2 xofs ++ payload
  .pkt (b ++ leBytes 4 (crc32 b)) false

/-- A Welt Link data packet. -/
def linkPkt (lseq kind : Nat) (units : List Byte) : LUnit :=
  let b := leBytes 4 (lseq % 4096 + kind * 4096 + units.length / 16 * 65536) ++ units
  .pkt (b ++ leBytes 4 (crc32 b)) false

/-- The header unit's bytes, and the data units of `n` bytes at `a` (06 R130, R131). -/
def hdrUnit (h : Hdr) : List Byte := h.words.flatMap fun w => leBytes 4 w.toNat

def dataUnits (a : Nat) (d : List Byte) : List Byte :=
  if d.isEmpty then []
  else
    let lead := a % 16
    List.replicate lead 0 ++ d ++ List.replicate (16 * blocks16 a d.length - lead - d.length) 0

/-- Read a header unit. -/
def hdrOf (b : List Byte) : Hdr :=
  let w (i : Nat) : Word := BitVec.ofNat 32 (leNat ((b.drop (4 * i)).take 4))
  { cmd := fldOf (w 3) 31 28, tnt := fldOf (w 3) 27 24, cls := fldOf (w 3) 23 22, once := fldOf (w 3) 21 21 == 1,
    dem := fldOf (w 3) 20 20 == 1, seq := fldOf (w 3) 19 8, len := fldOf (w 3) 7 3,
    src := fldOf (w 3) 2 0 * 4 + fldOf (w 2) 31 30, nc := fldOf (w 2) 29 26, rt := fldOf (w 2) 25 2,
    tid := fldOf (w 2) 1 0 * 16 + fldOf (w 1) 31 28, sts := fldOf (w 1) 27 24, late := fldOf (w 1) 23 23 == 1,
    dl := fldOf (w 1) 19 8, size := fldOf (w 1) 7 0, addr := (w 0).toNat }

/-- The addressed bytes of data units. -/
def unitBytes (a n : Nat) (b : List Byte) : List Byte := (b.drop (a % 16)).take n

/-- The lane's transmitter sends units; Awl sees each first (20 R535). A PRBS transmitter discards them (R478). -/
def State.laneSend (s : State) (n : Nat) (us : List LUnit) : State :=
  if s.txPrbs n then s.updLn n fun l => { l with sent := [] } else
  let r := us.foldl (fun r u => let x := r.1.awlLane false n (r.1.laneProto n) u; (x.1, r.2 ++ x.2)) (s, [])
  r.1.updLn n fun l => { l with sent := r.2 }

/-! ### Lane states (R458 to R461) -/

/-- The equalisation setting for a lane (R462). -/
def State.eqOf (s : State) (n : Nat) : Word :=
  let w := s.r (pgLANE 0) (0x100 + 4 * (4 * s.f (pgLANE 0) 0x0C4 2 0 + n))
  BitVec.ofNat 32 (if s.laneRate n ≤ 20 then fldOf w 15 0 else fldOf w 31 16)

/-- A lane enters Training: the board table's setting is applied, and a link must be brought up again (R462, R471). -/
def State.laneTrain (s : State) (n : Nat) : State :=
  let s := s.w (pgLANE n) 0x054 (s.eqOf n)
  (s.updLn n fun l => { l with st := .training, exiting := false, win := none }).updLk n fun k => { k with init := false, ack := false }

/-- An exit from low power begins; `early` where data to send causes it (R461). -/
def State.laneExit (s : State) (n : Nat) (early : Bool) : State :=
  let l := s.ln n
  if (l.st = .idle ∨ l.st = .dormant) ∧ l.exiting = false then
    let s := s.updLn n fun l => { l with exiting := true, win := none }
    if early then (s.cntUp (pgLANE n) 0x050 31 16 1).ev (pgLANE n) 2 else s
  else s

/-- A low-power entry (R460). -/
def State.laneSleep (s : State) (n : Nat) (dormant : Bool) (win : Option Nat) : State :=
  if s.laneOn n = true ∧ (s.ln n).st = .run then
    (s.cntUp (pgLANE n) 0x050 15 0 1).updLn n fun l => { l with st := if dormant then .dormant else .idle, win := win }
  else s

/-! ### Link state (R471 to R474) -/

/-- The link goes down (R474). -/
def State.linkDown (s : State) (n cause : Nat) : State :=
  if (s.lk n).up then
    let s := s.updLk n fun k => { k with up := false, held := [], again := [], ctl := [], nak := none }
    let s := (s.sf (pgLINK n) 0x044 26 24 cause).cntUp (pgLINK n) 0x054 31 16 1
    ((s.ev (pgLINK n) 1).err (pgLINK n) 0x3A11 cause).laneTrain n
  else s

/-- A lane goes Down. -/
def State.laneDown (s : State) (n cause : Nat) : State :=
  (s.linkDown n cause).updLn n fun l => { l with
    st := .down, exiting := false, aligned := false, farLp := false, win := none, hold := [] }

/-- Data packets in the order R472 sends them. -/
def sendOrder (l : List LWait) : List LWait :=
  l.filter (·.resp) ++ l.filter (fun w => !w.resp && w.cls == 0) ++ l.filter (fun w => !w.resp && w.cls != 0)

/-- Send what the link has to send: control sets, replays, then new data packets while the replay buffer has room (R472). -/
def State.linkPump (s : State) (n : Nat) : State :=
  let k := s.lk n
  let q := sendOrder k.wait
  let some_ := !k.ctl.isEmpty || (k.up && (!k.again.isEmpty || (!q.isEmpty && decide (k.held.length < 32))))
  if some_ = false ∨ s.laneProto n ≠ 3 then s
  else if (s.ln n).st = .run then
    let room := if k.up then 32 - k.held.length else 0
    let fresh := (q.take room).zipIdx.map fun e => (⟨(k.nxt + e.2) % 4096, b2n e.1.resp, e.1.units, s.time, 0⟩ : LHeld)
    let old := if k.up then k.held.filter fun h => k.again.contains h.lseq else []
    let s := s.updLk n fun k => { k with
      ctl := [], again := if k.up then [] else k.again, wait := q.drop room, nxt := (k.nxt + fresh.length) % 4096,
      held := (k.held.map fun h => if k.again.contains h.lseq then { h with sent := s.time, tries := h.tries + 1 } else h) ++ fresh }
    let s := if old.isEmpty then s else (s.cntUp (pgLINK n) 0x04C 15 0 old.length).ev (pgLINK n) 2
    s.laneSend n (k.ctl.map LUnit.ctl ++ (old ++ fresh).map fun h => linkPkt h.lseq h.kind h.units)
  else s.laneExit n true

/-- Replay packets, or take the link down at the limit (R472). -/
def State.linkReplay (s : State) (n : Nat) (ls : List Nat) : State :=
  let lim := s.af (pgLINK n) 0x040 25 24
  if (s.lk n).held.any fun h => ls.contains h.lseq && decide (lim ≤ h.tries) then s.linkDown n 2
  else s.updLk n fun k => { k with again := ls }

def State.addCtl (s : State) (n typ lseq : Nat) : State := s.updLk n fun k => { k with ctl := k.ctl ++ [ctlSet typ lseq] }

/-- The link is UP once an INIT and an ACK of 0xFFF have come; pending requests are sent again (R471, R477). -/
def State.linkTryUp (s : State) (n : Nat) : State :=
  let k := s.lk n
  if k.init = true ∧ k.ack = true ∧ k.up = false then
    (s.updLk n fun k => { k with
      up := true, e := 0, nak := none, nxt := 0, held := [], again := [],
      wait := k.wait.filter (·.resp) ++ k.pend.map (·.out) }).ev (pgLINK n) 0
  else s

/-! ### Requests across the link (R475 to R477) -/

/-- Give an aperture request its outcome: to the mesh, with the once window of its NI, or to the access's sender. -/
def State.apertureDone (s : State) (n : Nat) (net : Option Pkt) (st : Sts) (dem late : Bool) (d : List Byte) : State :=
  match net with
  | some p =>
    let s := if p.h.once then s.updNi (laneNi n) fun x => { x with once := onceMark x.once p.h.src p.h.seq st.code } else s
    s.respond (laneNi n) p st dem late d
  | none => { s with resp := ⟨st, BitVec.ofNat 32 (leNat d), d, dem, late⟩ }

/-- An access to aperture offset `o` (R475): merged with a pending request of its origin, refused beyond MAXOUT, or sent to the
far part. -/
def State.aperture (s : State) (n src q cls : Nat) (write : Bool) (o : Nat) (v : Word) (net : Option Pkt) : State :=
  let k := s.lk n
  if k.pend.any fun p => p.src == src && p.seq == q then s
  else if s.af (pgLINK n) 0x040 5 0 ≤ k.pend.length then s.apertureDone n net .refused false false []
  else
    let a := s.f (pgLINK n) 0x048 31 11 * 2048 + o
    let h : Hdr :=
      { cmd := if write then 2 else 0, tnt := 0, cls := cls, once := write, dem := false, seq := q, len := b2n write, src := src,
        nc := 0, rt := 0, tid := (net.map fun p => p.h.tid).getD 0, sts := 0, late := false, dl := 0, size := 3, addr := a }
    let w : LWait := ⟨false, cls, hdrUnit h ++ (if write then dataUnits a (leBytes 4 v.toNat) else [])⟩
    (s.updLk n fun k => { k with
      pend := k.pend ++ [⟨src, q, w, net⟩], wait := if k.up then k.wait ++ [w] else k.wait }).linkPump n

/-- Queue the response of a far request (R469). -/
def State.linkReply (s : State) (n : Nat) (h : Hdr) (st : Sts) (dem late : Bool) (d : List Byte) : State :=
  let d := if h.cmd = 2 ∨ st ≠ .ok then [] else d
  let r : Hdr := { h with
    cmd := (if h.cmd = 2 then 9 else 8), once := false, sts := st.code, dem := dem, late := late,
    len := (if d.isEmpty then 0 else blocks16 h.addr (h.size + 1)), tnt := 0, nc := 0, rt := 0, dl := 0 }
  s.updLk n fun k => { k with wait := k.wait ++ [⟨true, h.cls, hdrUnit r ++ dataUnits h.addr d⟩] }

/-- Far requests of a lane's NI whose block request is over: the origin window is marked where the block answered, and the
response goes back (R476). -/
def State.linkSettle (s : State) (ni : Nat) : State :=
  (List.range 4).foldl (fun s n =>
    if laneNi n ≠ ni then s
    else
      let ovr := (s.lk n).iss.filter fun x => !((s.ni ni).blk.any fun b => b.id == x.grp)
      if ovr.isEmpty then s
      else
        let r := s.resp
        let s := ovr.foldl (fun s x =>
          let s := if x.h.once ∧ (r.sts = .ok ∨ r.sts = .decode ∨ r.sts = .owner) then
              s.updLk n fun k => { k with once := onceMark k.once x.h.src x.h.seq r.sts.code }
            else s
          s.linkReply n x.h r.sts r.dem r.late r.bytes) s
        (s.updLk n fun k => { k with iss := k.iss.filter fun x => !(ovr.contains x) }).linkPump n) s

/-- Issue a far request on the mesh (R476). -/
def State.linkIssue (s : State) (n : Nat) (h : Hdr) (d : List Byte) : State :=
  let g := s.welt.grp
  let s := s.weltRequest (laneNi n) n h.cmd h.cls h.addr (h.size + 1) d
  if s.welt.grp = g then s.linkReply n h .decode false false []
  else (s.updLk n fun k => { k with iss := k.iss ++ [⟨g, h⟩] })

/-- A request from the far part (R476, R477). -/
def State.linkRequest (s : State) (n : Nat) (h : Hdr) (d : List Byte) : State :=
  if h.once then
    let r := onceLook (s.lk n).once h.src h.seq
    let s := s.updLk n fun k => { k with once := r.1 }
    match r.2 with
    | .dup st => ((s.cntUp (pgLINK n) 0x050 31 16 1).ev (pgLINK n) 3).linkReply n h (stsOf st) false false []
    | .stale => s.linkReply n h .staleSeq false false []
    | .fresh => if (s.lk n).iss.any fun x => x.h.once && x.h.src == h.src && x.h.seq == h.seq then s else s.linkIssue n h d
  else if h.cmd < 2 ∧ s.touchesSE h.addr (h.size + 1) = true then
    let r := onceLook (s.lk n).seen h.src h.seq
    match r.2 with
    | .fresh => (s.updLk n fun k => { k with seen := onceMark r.1 h.src h.seq 0 }).linkIssue n h d
    | _ => s.linkReply n h .dataErr false false []
  else s.linkIssue n h d

/-- A response from the far part (R475). -/
def State.linkResponse (s : State) (n : Nat) (h : Hdr) (b : List Byte) : State :=
  match (s.lk n).pend.find? fun p => p.src == h.src && p.seq == h.seq with
  | none => s
  | some p =>
    let s := s.updLk n fun k => { k with pend := k.pend.filter fun q => !(q.src == h.src && q.seq == h.seq) }
    s.apertureDone n p.net (stsOf h.sts) h.dem h.late (if h.cmd = 8 ∧ h.sts = 0 then unitBytes h.addr (h.size + 1) b else [])

/-! ### The receiver of a Welt Link (R470 to R473) -/

/-- NAK E − 1, once for each value of E. -/
def State.linkNak (s : State) (n : Nat) : State :=
  let k := s.lk n
  if k.nak = some k.e then s
  else ((s.updLk n fun k => { k with nak := some k.e }).cntUp (pgLINK n) 0x04C 31 16 1).addCtl n 2 (k.e + 4095)

/-- A data packet on the receiver (R473). -/
def State.linkData (s : State) (n : Nat) (b : List Byte) (bad : Bool) : State :=
  let k := s.lk n
  if k.up = false then s
  else
    let nu := (b.getD 2 0).toNat
    let crcOk := decide (leNat (b.drop (b.length - 4)) = crc32 (b.take (b.length - 4)))
    if bad = true ∨ nu = 0 ∨ 17 < nu ∨ b.length ≠ 8 + 16 * nu ∨ crcOk = false then
      ((s.cntUp (pgLINK n) 0x054 15 0 (b2n (!bad && !crcOk))).linkNak n).linkPump n
    else
      let q := leNat (b.take 2) % 4096
      let d := (k.e + 4096 - q) % 4096
      if d = 0 then
        let s := s.updLk n fun k => { k with e := (k.e + 1) % 4096 }
        let h := hdrOf ((b.drop 4).take 16)
        let body := (b.drop 20).take (16 * nu - 16)
        let kind := (b.getD 1 0).toNat / 16
        let s := if kind = 0 then s.linkRequest n h (unitBytes h.addr (h.size + 1) body)
          else if kind = 1 then s.linkResponse n h body else s
        ((s.addCtl n 1 q).linkSettle (laneNi n)).linkPump n
      else if d < 2048 then ((s.cntUp (pgLINK n) 0x050 15 0 1).addCtl n 1 (k.e + 4095)).linkPump n
      else (s.linkNak n).linkPump n

/-- Packets up to LSEQ `q` are acknowledged; none where it names no held packet. -/
def State.linkAck (s : State) (n q : Nat) : Option State :=
  let k := s.lk n
  if k.held.any fun h => h.lseq == q then
    some (s.updLk n fun k => { k with
      held := ((k.held.dropWhile fun h => h.lseq != q).drop 1), again := k.again.filter fun a =>
        ((k.held.dropWhile fun h => h.lseq != q).drop 1).any fun h => h.lseq == a })
  else none

/-- A link-control set on the receiver (R470 to R472). -/
def State.linkCtl (s : State) (n : Nat) (b : List Byte) : State :=
  let q := leNat (b.take 2) % 4096
  let typ := leNat (b.take 2) / 4096
  if b.length ≠ 3 ∨ (b.getD 2 0).toNat ≠ crc8 (b.take 2) then s
  else
    let stray (s : State) : State := s.updLk n fun k => { k with stray := k.stray + 1 }
    if typ = 3 then
      if (s.lk n).up then (((s.addCtl n 1 0xFFF).linkPump n).linkDown n 3)
      else (((s.updLk n fun k => { k with init := true }).addCtl n 1 0xFFF).linkTryUp n).linkPump n
    else if typ = 1 ∧ (s.lk n).up = false then
      if q = 0xFFF then ((s.updLk n fun k => { k with ack := true }).linkTryUp n).linkPump n else s
    else if (s.lk n).up = false then s
    else match s.linkAck n q with
      | none => if typ = 1 ∨ typ = 2 then stray s else s
      | some s' =>
        if typ = 1 then s'.linkPump n
        else if typ = 2 then (s'.linkReplay n ((s'.lk n).held.map (·.lseq))).linkPump n
        else s

/-- Every 1 µs until the link is up the lane sends INIT (R471). -/
def State.linkInit (s : State) (n : Nat) : State :=
  if s.laneOn n = false ∨ s.laneProto n ≠ 3 ∨ (s.ln n).st ≠ .run ∨ (s.lk n).up = true then s
  else (s.addCtl n 3 0xFFF).linkPump n

/-- The oldest held packet has waited REPTMO µs (R472). -/
def State.linkTimeout (s : State) (n : Nat) : State :=
  match (s.lk n).held with
  | [] => s
  | h :: _ =>
    if (s.lk n).up = false ∨ s.time < h.sent + 800 * s.af (pgLINK n) 0x040 15 8 then s
    else (s.linkReplay n ((s.lk n).held.map (·.lseq))).linkPump n

/-! ### Pane Link out (R465, R467) -/

/-- A pipe's governing or latched set names the lane. -/
def names (v : DpView) (n : Nat) : Bool := v.out == 1 && v.lane == n

/-- Both pipes name the lane. -/
def State.paneConflict (s : State) (n : Nat) : Bool :=
  [0, 1].all fun p => decide (s.af (pgDP p) 0x040 1 0 = 1) && decide (s.af (pgDP p) 0x040 5 4 = n)

/-- Packets of a pipe for a lane: sent in Run, kept while the lane is not, two segments at most (R461, R465). -/
def State.paneOut (s : State) (n : Nat) (us : List LUnit) : State :=
  let l := s.ln n
  if s.laneOn n = false ∨ s.laneProto n ≠ 1 ∨ l.st = .down then s
  else if s.txPrbs n then s.cntUp (pgPANE n) 0x04C 15 0 us.length
  else if l.st = .run then s.laneSend n us
  else
    let isSeg (u : LUnit) : Bool := laneCode 1 u == 1
    let full := decide (2 ≤ (l.hold.filter isSeg).length)
    let keep := us.filter fun u => !(isSeg u && full)
    let s := s.cntUp (pgPANE n) 0x04C 15 0 (us.length - keep.length)
    (s.updLn n fun l => { l with hold := l.hold ++ keep }).laneExit n true

/-- After a pipe's latch its lane sends RTAB and VSTART (R465). -/
def State.paneLatch (s : State) (p : Nat) : State :=
  let d := s.dp p
  let v := s.view p d.nxt
  let n := v.lane
  if v.out ≠ 1 ∨ d.acc = false ∨ (p = 1 ∧ s.paneConflict n = true) then s
  else
    let fseq := (s.fcnt p + 1) % 65536
    let ks := if s.ttgLvl p = 0 then [] else (List.range 32).filter v.slotEn
    let vstart := leBytes 2 fseq ++ leBytes 2 v.hact ++ leBytes 2 v.vact ++ leBytes 1 v.od ++ leBytes 1 (b2n d.mode)
    s.paneOut n [panePkt 3 0 0 (s.regionTable v ks fseq), panePkt 2 0 0 vstart]

/-- The bytes of pixels (R464). -/
def packPixels (od : Nat) (px : List (List Nat)) : List Byte :=
  if od = 10 then
    let v := (px.zipIdx.foldl (fun a e => a + (e.1.getD 0 0 * 2 ^ 20 + e.1.getD 1 0 * 2 ^ 10 + e.1.getD 2 0) * 2 ^ (30 * e.2)) 0)
    leBytes ((px.length * 30 + 7) / 8) v
  else px.flatMap fun c => leBytes 1 (c.getD 0 0) ++ leBytes 1 (c.getD 1 0) ++ leBytes 1 (c.getD 2 0)

/-- The pipe whose output a lane takes: DP0 where both name it. -/
def State.panePipe (s : State) (n : Nat) : Option Nat :=
  if s.paneConflict n then some 0 else [0, 1].find? fun p => names (s.view p (s.dp p).cur) n

/-- The segment from pixel `x` of the line its pipe has composed (R465). -/
def State.paneSegment (s : State) (n x : Nat) : State :=
  match (s.panePipe n).filter fun p => (s.dp p).run && names (s.view p (s.dp p).cur) n with
  | none => s
  | some p =>
    let d := s.dp p
    let v := s.view p d.cur
    let seg := 16 * s.af (pgPANE n) 0x040 6 0
    let px := (d.out.drop x).take seg
    if px.isEmpty = true ∨ seg = 0 ∨ x % seg ≠ 0 then s else s.paneOut n [panePkt 1 d.line x (packPixels v.od px)]

/-- A Pane Link packet whose CRC, length and symbols are good. -/
def paneOk (b : List Byte) (bad : Bool) : Bool :=
  !bad && decide (12 ≤ b.length) && decide (leNat ((b.drop 2).take 2) = b.length - 12) && decide (b.length - 12 ≤ 3840) &&
    decide (leNat (b.drop (b.length - 4)) = crc32 (b.take (b.length - 4)))

/-- A PREP packet (R406, R467): passed to the Guard, or discarded. -/
def State.panePrep (s : State) (n : Nat) (b : List Byte) (bad : Bool) : State :=
  if paneOk b bad = false then (s.cntUp (pgPANE n) 0x048 31 16 1).ev (pgPANE n) 1
  else if ib b 0 ≠ 0x81 then s
  else
    let w (i : Nat) : Nat := leNat ((b.drop (8 + 4 * i)).take 4)
    let ks := (List.range 32).filter (w 1).testBit
    let crcs := ks.zipIdx.filterMap fun e =>
      if e.2 < w 0 / 65536 % 256 ∧ 8 + 4 * (e.2 + 4) + 4 ≤ b.length then some (e.1, w (3 + e.2)) else none
    let rep : GReport := ⟨w 0 / 2 ^ 24, w 1, w 2, crcs⟩
    let s := (s.cntUp (pgPANE n) 0x048 15 0 1).ev (pgPANE n) 0
    match s.panePipe n with
    | none => s
    | some p => s.guardReport p (w 0 % 65536) rep

/-! ### Pane Link in (R468) -/

/-- Whether every pixel of a line has come. -/
def lineWhole (f : HostFrame) (y : Nat) : Bool :=
  (List.range f.hact).all fun x => f.got.any fun g => g.1 == y && decide (g.2.1 ≤ x) && decide (x < g.2.1 + g.2.2)

/-- The open host frame closes: its buffer is held and HFDONE raised. -/
def State.hostClose (s : State) (n : Nat) : State :=
  match (s.ln n).host with
  | none => s
  | some f =>
    if f.drop then s.updLn n fun l => { l with host := none }
    else
      let whole := (List.range f.vact).all (lineWhole f)
      let s := s.updLn n fun l => { l with host := none, held := l.held ++ [f.buf] }
      let s := s.w (pgPANE n) 0x078 (BitVec.ofNat 32 (f.buf * 2 ^ 4 + b2n (!whole) * 2 ^ 8 + f.fseq * 2 ^ 16))
      let s := if whole then s else s.ev (pgPANE n) 4
      s.ev (pgPANE n) 2

/-- VSTART from the host: the previous frame closes and the next buffer opens, or the frame is dropped. -/
def State.hostStart (s : State) (n : Nat) (b : List Byte) : State :=
  let s := s.hostClose n
  let w (i : Nat) : Nat := leNat ((b.drop (8 + i)).take 2)
  let nbuf := s.af (pgPANE n) 0x040 13 12 + 1
  let buf := (s.ln n).next % nbuf
  let drop := (s.ln n).held.contains buf
  let s := s.w (pgPANE n) 0x07C (BitVec.ofNat 32 (w 2 % 8192 + w 4 % 4096 * 65536))
  let f : HostFrame := ⟨drop, buf, w 0, w 2, w 4, ib b 14, [], []⟩
  let s := s.updLn n fun l => { l with host := some f, next := if drop then l.next else (buf + 1) % nbuf }
  if drop then (s.cntUp (pgPANE n) 0x04C 31 16 1).ev (pgPANE n) 3 else s

/-- The words written for the pixels of a VLINE. -/
def hostPixels (od : Nat) (d : List Byte) : List Byte :=
  if od = 10 then
    let v := leNat d
    (List.range (d.length * 8 / 30)).flatMap fun k => leBytes 4 (3 * 2 ^ 30 + v / 2 ^ (30 * k) % 2 ^ 30)
  else
    (List.range (d.length / 3)).flatMap fun k => leBytes 4 (0xFF * 2 ^ 24 + ib d (3 * k) * 2 ^ 16 + ib d (3 * k + 1) * 2 ^ 8 + ib d (3 * k + 2))

/-- The pixels of a whole line are written; a line not received whole keeps its previous content. -/
def State.hostStore (s : State) (n base : Nat) (ps : List HostPart) : State :=
  ps.foldl (fun s e =>
    (s.engReqT (s.owner (pgPANE n)) (laneNi n) 2 (s.af (pgPANE n) 0x040 9 8)
      (base + e.y * s.af (pgPANE n) 0x070 31 0 + 4 * e.x) e.px.length e.px).1) s

/-- A VLINE from the host. -/
def State.hostLine (s : State) (n : Nat) (b : List Byte) : State :=
  match (s.ln n).host with
  | none => s.cntUp (pgPANE n) 0x04C 31 16 1
  | some f =>
    if f.drop then s.cntUp (pgPANE n) 0x04C 31 16 1
    else
      let y := leNat ((b.drop 4).take 2)
      let x := leNat ((b.drop 6).take 2)
      let d := (b.drop 8).take (b.length - 12)
      let px := hostPixels f.od d
      let k := px.length / 4
      let stride := s.af (pgPANE n) 0x070 31 0
      if f.vact ≤ y ∨ f.hact < x + k ∨ stride < 4 * (x + k) then (s.cntUp (pgPANE n) 0x04C 31 16 1).ev (pgPANE n) 4
      else
        let f := { f with got := f.got ++ [(y, x, k)], part := f.part ++ [⟨y, x, px⟩] }
        let whole := lineWhole f y
        let s := if whole then s.hostStore n (s.af (pgPANE n) (0x060 + 4 * f.buf) 31 0) (f.part.filter fun e => e.y == y) else s
        let f := if whole then { f with part := f.part.filter fun e => e.y != y } else f
        let s := s.updLn n fun l => { l with host := some f }
        if y + 1 = f.vact ∧ lineWhole f y = true then s.hostClose n else s

/-- A packet from the host. -/
def State.hostPkt (s : State) (n : Nat) (b : List Byte) (bad : Bool) : State :=
  if paneOk b bad = false ∨ (ib b 0 = 2 ∧ ib b 14 ≠ 8 ∧ ib b 14 ≠ 10) then s.cntUp (pgPANE n) 0x04C 31 16 1
  else if ib b 0 = 2 then s.hostStart n b
  else if ib b 0 = 1 then s.hostLine n b
  else s

/-! ### What the receiver does with a unit -/

/-- A unit the receiver has, by the lane's protocol. -/
def State.laneTake (s : State) (n : Nat) (u : LUnit) : State :=
  let pr := s.laneProto n
  match u with
  | .pkt b bad =>
    let s := s.cntUp (pgLANE n) 0x04C 15 0 (b2n bad)
    if pr = 1 then s.panePrep n b bad else if pr = 2 then s.hostPkt n b bad else if pr = 3 then s.linkData n b bad else s
  | .ctl b => if pr = 3 then s.linkCtl n b else s

/-- A unit arrives of the kind a protocol has; Awl sees it before the receiver (20 R535). -/
def State.laneRx (s : State) (n proto : Nat) (u : LUnit) : State :=
  if s.laneOn n = false ∨ s.laneProto n ≠ proto ∨ (s.ln n).st = .down ∨ (s.ln n).aligned = false then s
  else
    let r := s.awlLane true n proto u
    r.2.foldl (fun s u => s.laneTake n u) r.1

/-- A host packet of one TYPE. -/
def State.hostRx (s : State) (n typ : Nat) (b : List Byte) (bad : Bool) : State :=
  if ib b 0 = typ then s.laneRx n 2 (.pkt b bad) else s

/-- A link-control set of one TYPE. -/
def State.ctlRx (s : State) (n typ : Nat) (b : List Byte) : State :=
  if ib b 1 / 16 = typ then s.laneRx n 3 (.ctl b) else s

/-! ### Lane events (R456, R458 to R461) -/

/-- What waited for the lane is sent once it is in Run. -/
def State.laneFlush (s : State) (n : Nat) : State :=
  let h := (s.ln n).hold
  let s := if h.isEmpty then s else (s.updLn n fun l => { l with hold := [] }).laneSend n h
  s.linkPump n

/-- 16 error-free idle sets (R456): also the far end's training burst, which ends its low power (R460). -/
def State.laneAligned (s : State) (n : Nat) : State :=
  let l := s.ln n
  if s.laneOn n = false ∨ l.st = .down then s
  else
    let s := if l.aligned then s else s.ev (pgLANE n) 0
    let s := s.updLn n fun l => { l with aligned := true, farLp := false }
    if l.st = .training then (s.updLn n fun l => { l with st := .run }).laneFlush n else s

/-- Alignment is lost after `errs` symbol errors (R456, R459). -/
def State.laneLost (s : State) (n errs : Nat) : State :=
  let l := s.ln n
  if s.laneOn n = false ∨ l.aligned = false then s
  else
    let s := ((s.cntUp (pgLANE n) 0x04C 15 0 errs).cntUp (pgLANE n) 0x04C 31 16 1).ev (pgLANE n) 1
    let s := (s.updLn n fun l => { l with aligned := false }).linkDown n 1
    if (s.ln n).st = .run then s.laneTrain n else s

def State.allLanes (s : State) (f : State → Nat → State) : State :=
  (List.range 4).foldl (fun s n => if lanePresent s.grade n then f s n else s) s

def State.setLanePll (s : State) (v : Bool) : State := { s with clk := { s.clk with lanePll := v } }

/-- The reference of every lane is gone or changed: LANEPLL must lock again and every lane is Down. -/
def State.refOff (s : State) : State := (s.allLanes fun s n => s.laneDown n 1).setLanePll false

/-- A received reference shows no edge for 1 µs (R458). -/
def State.refLoss (s : State) : State :=
  if s.domRun 10 = false ∨ s.f (pgLANE 0) 0x0C0 0 0 = 0 ∨ s.f (pgLANE 0) 0x0C4 4 4 = 1 then s
  else (((s.sf (pgLANE 0) 0x0C4 4 4 1).ev (pgLANE 0) 3).err (pgLANE 0) 0x6A10 0).refOff

/-- LANEPLL locks, from the crystal or from the received reference that has returned; every enabled lane trains (R457 to R459). -/
def State.lanePllLock (s : State) : State :=
  if s.domRun 10 = false ∨ s.clk.lanePll = true ∨ s.clk.stopped = true ∨ (s.f (pgLANE 0) 0x0C0 0 0 = 0 ∧ s.clk.xtal = false) then s
  else
    let s := (s.sf (pgLANE 0) 0x0C4 4 4 0).setLanePll true
    s.allLanes fun s n => if s.laneEn n then s.laneTrain n else s

/-- A LANE_LP event (R64, R460). -/
def State.laneLp (s : State) (arg : Nat) : State :=
  let s := s.evArrive 8 0 arg
  s.allLanes fun s n => if arg.testBit n then s.laneSleep n (arg.testBit 4) (some (arg / 256 % 256)) else s

/-- The far end has entered low power in its direction (R460). -/
def State.laneFarLp (s : State) (n : Nat) : State :=
  if s.laneOn n = true ∧ (s.ln n).aligned = true then s.updLn n fun l => { l with farLp := true } else s

/-- A line start has passed: windows shorten (R461). -/
def State.laneLine (s : State) : State := s.allLanes fun s n => s.updLn n fun l => { l with win := l.win.map (· - 1) }

/-- The LANE_LP window is over (R461). -/
def State.laneWindowEnd (s : State) (n : Nat) : State := if (s.ln n).win = some 0 then s.laneExit n false else s

/-- The exit is complete (R461). -/
def State.laneExitDone (s : State) (n : Nat) : State :=
  let l := s.ln n
  if s.laneOn n = false ∨ l.exiting = false then s
  else (s.updLn n fun l => { l with st := .run, exiting := false }).laneFlush n

/-- The LANE page commits: what a change of EN, RATE, PROTO or the PRBS enables does (R459, R474, R478). -/
def State.laneCommit (s : State) (n : Nat) (old oldPr : Word) : State :=
  let new := s.a (pgLANE n) 0x040
  let s :=
    if fldOf new 0 0 = 0 then (if fldOf old 0 0 = 1 then s.laneDown n 1 else s)
    else if fldOf old 0 0 = 0 then (if s.clk.lanePll then s.laneTrain n else s)
    else if fldOf old 2 1 ≠ fldOf new 2 1 ∨ fldOf old 10 4 ≠ fldOf new 10 4 then
      let s := s.laneDown n 5
      if s.clk.lanePll then s.laneTrain n else s
    else s
  let s := if fldOf oldPr 0 0 = 0 ∧ s.txPrbs n = true then s.linkDown n 5 else s
  if s.af (pgLANE n) 0x060 1 1 = 0 then s.updLn n fun l => { l with prbs := false } else s

/-! ### PRBS and the eye scan (R478, R479) -/

/-- The next bit of a PRBS and the register after it: the polynomials of POLY (R478). -/
def prbsStep (poly r : Nat) : Nat × Nat :=
  let t := if poly = 0 then (7, 6) else if poly = 1 then (15, 14) else if poly = 2 then (23, 18) else (31, 28)
  let b := (r / 2 ^ (t.1 - 1) + r / 2 ^ (t.2 - 1)) % 2
  (b, (2 * r + b) % 2 ^ t.1)

/-- The bits a PRBS transmitter sends from register `r`, the first of them its bit `i`: one in every INJ_N × 1,024 bits is
inverted, and the first where INJ1 waits (R478). -/
def State.prbsBits (s : State) (n : Nat) : Nat → Nat → Nat → Bool → List Nat
  | 0, _, _, _ => []
  | k + 1, i, r, inj1 =>
    let x := prbsStep (s.af (pgLANE n) 0x060 3 2) r
    let every := 1024 * s.af (pgLANE n) 0x060 31 16
    let flip := (every != 0 && i % every + 1 == every) != inj1
    (if flip then 1 - x.1 else x.1) :: s.prbsBits n k (i + 1) x.2 false

/-- 64 consecutive correct bits. -/
def State.prbsLock (s : State) (n : Nat) : State :=
  if s.laneOn n = true ∧ s.af (pgLANE n) 0x060 1 1 = 1 then s.updLn n fun l => { l with prbs := true } else s

/-- 64 errors within 1,024 bits: the bits and errors counted while locked enter the counters. -/
def State.prbsLost (s : State) (n errs bits : Nat) : State :=
  if s.laneOn n = true ∧ (s.ln n).prbs = true then
    let s := s.cntUp (pgLANE n) 0x068 31 0 errs
    let t := satAdd (2 ^ 48 - 1) ((s.r (pgLANE n) 0x06C).toNat + s.f (pgLANE n) 0x070 15 0 * 2 ^ 32) bits
    let s := (s.w (pgLANE n) 0x06C (BitVec.ofNat 32 t)).w (pgLANE n) 0x070 (BitVec.ofNat 32 (t / 2 ^ 32))
    (s.updLn n fun l => { l with prbs := false }).ev (pgLANE n) 5
  else s

/-- The eye scan is over (R479). -/
def State.esDone (s : State) (n errs : Nat) : State :=
  if (s.ln n).esBusy then
    ((s.w (pgLANE n) 0x088 (BitVec.ofNat 32 (min errs 0xFFFFFFFF))).updLn n fun l => { l with esBusy := false, esDone := true }).ev (pgLANE n) 4
  else s

/-- ES_CTRL: VOFF −64 and LOG2N outside 16 to 40 are refused; START runs where the receiver is aligned or locked. -/
def State.esCtrl (s : State) (n : Nat) (v : Word) : State :=
  let p := pgLANE n
  let bad := (if fldOf v 15 9 = 64 then 0xFE00 else 0) + (if fldOf v 21 16 < 16 ∨ 40 < fldOf v 21 16 then 0x3F0000 else 0)
  if fldOf v 0 0 = 1 ∧ (s.ln n).esBusy = true then s.errBusy p 0x080
  else
    let s := s.plainWrite p 0x080 v bad 0 0x080
    if fldOf v 0 0 = 1 ∧ bad = 0 ∧ ((s.ln n).aligned ∨ (s.ln n).prbs) then
      (s.w p 0x088 0).updLn n fun l => { l with esBusy := true, esDone := false }
    else s

/-! ### Registers (R480 to R482) -/

/-- A write of a LANE page by tenant `t`. -/
def State.laneWrite (s : State) (t n o : Nat) (v : Word) : State :=
  let p := pgLANE n
  if o = 0x048 then
    let s := if fldOf v 0 0 = 1 then s.laneSleep n false none else s
    let s := if fldOf v 1 1 = 1 then s.laneSleep n true none else s
    if fldOf v 2 2 = 1 then s.laneExit n false else s
  else if o = 0x060 then
    let s := s.plain p o v
    if fldOf v 4 4 = 1 ∧ s.txPrbs n = true then s.updLn n fun l => { l with inj := l.inj + 1 } else s
  else if o = 0x080 then s.esCtrl n v
  else if o = 0x0C0 ∨ (0x100 ≤ o ∧ o < 0x180) then
    if n ≠ 0 then s
    else if t ≠ 0 then s.errLocked p o
    else
      let s' := s.plain p o v
      if o = 0x0C0 ∧ (fldOf (s'.r p o) 0 0 ≠ fldOf (s.r p o) 0 0 ∨ fldOf (s'.r p o) 4 2 ≠ fldOf (s.r p o) 4 2) then s'.refOff else s'
  else s.plain p o v

/-- A read of a LANE page; what the checker has counted since it locked is open until it reports (R478). -/
def State.laneRead (s : State) (n o : Nat) : State × Word :=
  let l := s.ln n
  let p := pgLANE n
  if o = 0x044 then
    (s, BitVec.ofNat 32 (l.st.code + b2n l.aligned * 2 ^ 4 + b2n l.farLp * 2 ^ 5 +
      b2n (s.clk.lanePll && (l.st == .training || l.st == .run || l.st == .idle)) * 2 ^ 6))
  else if o = 0x064 then (s, BitVec.ofNat 32 (b2n l.prbs))
  else if (o = 0x068 ∨ o = 0x06C ∨ o = 0x070) ∧ l.prbs = true then (s.tookFree, s.freeW)
  else if o = 0x084 then (s, BitVec.ofNat 32 (b2n l.esBusy + 2 * b2n l.esDone))
  else if o = 0x0C4 ∧ n = 0 then (s, setFldOf (s.r p o) 5 5 (b2n s.clk.lanePll))
  else if n ≠ 0 ∧ (o = 0x0C0 ∨ o = 0x0C4 ∨ (0x100 ≤ o ∧ o < 0x180)) then (s, 0)
  else (s, s.r p o)

/-- A write of a LINK page below the aperture. -/
def State.linkWrite (s : State) (n o : Nat) (v : Word) : State :=
  let p := pgLINK n
  if o = 0x058 then
    let s := if fldOf v 0 0 = 1 then ((s.w p 0x04C 0).w p 0x050 0).w p 0x054 0 else s
    if fldOf v 1 1 = 1 then s.linkDown n 4 else s
  else s.plain p o v

def State.linkRead (s : State) (n o : Nat) : Word :=
  let k := s.lk n
  if o = 0x044 then
    BitVec.ofNat 32 (b2n k.up + k.held.length * 2 ^ 8 + k.pend.length * 2 ^ 16 + s.f (pgLINK n) 0x044 26 24 * 2 ^ 24)
  else s.r (pgLINK n) o

/-- A write of a PANE page. -/
def State.paneWrite (s : State) (n o : Nat) (v : Word) : State :=
  if o = 0x074 then s.updLn n fun l => { l with held := l.held.filter fun k => !v.getLsbD k } else s.plain (pgPANE n) o v

def State.paneRead (s : State) (n o : Nat) : Word :=
  let l := s.ln n
  if o = 0x044 then
    let flow := l.st == .run && ((s.laneProto n == 1 && [0, 1].any fun p => (s.dp p).run && names (s.view p (s.dp p).cur) n) ||
      (s.laneProto n == 2 && l.host.isSome))
    BitVec.ofNat 32 (b2n flow + 2 * b2n (s.laneProto n == 1 && s.paneConflict n))
  else if o = 0x078 then setFldOf (s.r (pgPANE n) o) 3 0 (l.held.foldl (fun a k => a + 2 ^ k) 0)
  else s.r (pgPANE n) o

/-! ### Resets (03 R568; 17 R476) -/

def State.laneReset (s : State) (n : Nat) : State :=
  let s := s.laneDown n 1
  s.updLn n fun l => { Lane.zero with host := l.host, held := l.held, next := l.next }

/-- A soft reset of a LINK page takes the link down and clears the origin window. -/
def State.linkReset (s : State) (n : Nat) : State := (s.linkDown n 4).updLk n fun _ => LinkSt.zero

def State.paneReset (s : State) (n : Nat) : State :=
  s.updLn n fun l => { l with host := none, held := [], next := 0, hold := [] }

/-- The LANE domain goes Off. -/
def State.lanesOff (s : State) : State :=
  { s with lanes := List.replicate 4 Lane.zero, links := List.replicate 4 LinkSt.zero, clk := { s.clk with lanePll := false } }

end Sys2Proof.Machine
end

