-- ==== Sys2Proof/Machine/Vehicle.lean ====
section
/-! DEFINITION. Machine/Vehicle.lean: CAN, LIN, I²C, SPI, XSPI, GPIO and the converter (18). -/

namespace Sys2Proof.Machine

/-! ### CAN (R484 to R487, R500) -/

def State.can (s : State) (n : Nat) : Can := s.cans.getD n Can.zero
def State.updCan (s : State) (n : Nat) (f : Can → Can) : State := { s with cans := s.cans.modify n f }

def State.canInit (s : State) (n : Nat) : Bool := decide (s.af (pgCAN n) 0x040 0 0 = 1)

/-- Bytes of a DLC. -/
def dlcLen (fdf : Bool) (dlc : Nat) : Nat :=
  if dlc ≤ 8 then dlc else if fdf then [12, 16, 20, 24, 32, 48, 64].getD (dlc - 9) 64 else 8

/-- The frame of a transmit buffer. -/
def State.canTb (s : State) (n b : Nat) : CanFrame :=
  let o := 0x100 + 0x50 * b
  let p := pgCAN n
  let fdf := s.f p o 30 30 == 1
  let dlc := s.f p (o + 4) 3 0
  ⟨s.f p o 28 0, s.f p o 29 29 == 1, fdf, s.f p o 31 31 == 1, dlc,
    ((List.range 16).flatMap fun i => leBytes 4 (s.r p (o + 8 + 4 * i)).toNat).take (dlcLen fdf dlc)⟩

/-- The arbitration field: the base identifier, then a standard frame before an extended one, then the extension. -/
def arbKey (f : CanFrame) : Nat := if f.ide then f.id / 2 ^ 18 * 2 ^ 19 + 2 ^ 18 + f.id % 2 ^ 18 else f.id % 2 ^ 11 * 2 ^ 19

/-- The pending buffer sent next (R485): of those whose identifier wins, the lowest index, or TB15 of CAN0 before it. -/
def State.canBest (s : State) (n : Nat) : Option Nat :=
  ((if n = 0 then 15 :: List.range 15 else List.range 16).filter (s.can n).req.contains).foldl (fun (m : Option Nat) b => match m with
    | none => some b
    | some a => if arbKey (s.canTb n b) < arbKey (s.canTb n a) then some b else some a) none

/-- The controller takes its next frame where it may send. -/
def State.canPick (s : State) (n : Nat) : State :=
  let c := s.can n
  if s.canInit n = true ∨ s.af (pgCAN n) 0x040 4 4 = 1 ∨ c.mode = 2 then s.updCan n fun c => { c with cur := none }
  else if c.cur.isSome then s
  else s.updCan n fun c => { c with cur := s.canBest n }

/-- Requests to transmit: a buffer is sent at most once for each write of its bit. TB15 of CAN0 is the sequencer's (R487). -/
def State.canRequest (s : State) (n m : Nat) : State :=
  let own := decide (n = 0) && m.testBit 15
  let bs := (List.range 16).filter fun b => m.testBit b && !(own && b == 15) && !(s.can n).req.contains b
  let s := if own then s.errLocked (pgCAN n) 0x600 else s
  (s.updCan n fun c => { c with req := c.req ++ bs }).canPick n

/-- Buffers leave the pending set unsent. -/
def State.canDrop (s : State) (n : Nat) (p : Nat → Bool) : State :=
  (s.updCan n fun c => { c with
    req := c.req.filter fun b => !p b, cur := (match c.cur with | some b => if p b then none else some b | none => none) }).canPick n

def State.canAbort (s : State) (n m : Nat) : State := s.canDrop n fun b => m.testBit b && !(decide (n = 0) && b == 15)

/-- The error state the counters give; entering passive raises PASSIVE. -/
def State.canMode (s : State) (n : Nat) : State :=
  let c := s.can n
  if c.mode = 2 then s
  else
    let m := b2n (decide (127 < c.txe) || decide (127 < c.rxe))
    let s := s.updCan n fun c => { c with mode := m }
    if m = 1 ∧ c.mode = 0 then s.ev (pgCAN n) 4 else s

/-- The sequencer loads the first grant into TB15 where it is not pending; `again` where it repeats one that was aborted. -/
def State.grantLoad (s : State) (again : Bool) : State :=
  match s.sec.grants with
  | [] => s
  | g :: _ =>
    if (s.can 0).req.contains 15 = true ∨ ((s.can 0).grant = true ∧ again = false) then s
    else
      let p := pgCAN 0
      let cfg := s.r pgSEC 0x054
      let s := (s.w p 0x5B0 (BitVec.ofNat 32 (fldOf cfg 29 0 + 3 * 2 ^ 30))).w p 0x5B4 0xC
      let s := (List.range 16).foldl (fun s i => s.w p (0x5B8 + 4 * i) (BitVec.ofNat 32 (leNat ((g.bytes.drop (4 * i)).take 4)))) s
      (s.updCan 0 fun c => { c with req := c.req ++ [15], grant := true }).canPick 0

/-- SEC_GTMO expires: an attempt is counted and an aborted frame loaded again, or the grant fails (R487, 14 R377). -/
def State.grantExpire (s : State) : State :=
  let s' := s.grantTimeout
  if s'.sec.grants.length < s.sec.grants.length then (s'.updCan 0 fun c => { c with grant := false }).grantLoad false
  else if s'.sec.grants = s.sec.grants then s' else s'.grantLoad true

/-- A bus error or a lost arbitration: the counters rise by what ISO 11898-1 gives, and the frame awaits retransmission (R485). -/
def State.canError (s : State) (n : Nat) (lost : Bool) (dTec dRec : Nat) : State :=
  if 2 ≤ n ∨ s.canInit n = true ∨ (s.can n).mode = 2 ∨ s.domRun 1 = false then s
  else
    let s := if lost then s
      else ((s.cntUp (pgCAN n) 0x054 15 0 1).updCan n fun c => { c with txe := c.txe + dTec, rxe := min 255 (c.rxe + dRec) }).canMode n
    (s.updCan n fun c => { c with cur := none }).canPick n

/-- Whether a Seam hold cuts CAN0 off its transceiver (01 R21). -/
def State.canCut (s : State) (n : Nat) : Bool := decide (n = 0) && s.seam.hold

/-- The frame in progress is sent (R485); error counting is ISO 11898-1's. In a Seam hold CAN0's frame is lost, a bus error of its
transmitter (01 R21; DEDUCED, log entry 99). -/
def State.canSent (s : State) (n : Nat) : State :=
  match (s.can n).cur with
  | none => s
  | some b =>
    if s.canCut n then s.canError n false 8 0
    else
    let s := s.updCan n fun c => { c with req := c.req.filter fun x => x != b, cur := none, txe := c.txe - 1 }
    let s := (s.setW1 (pgCAN n) 0x608 b).ev (pgCAN n) 0
    let s := if n = 0 ∧ b = 15 then
        (if (s.can 0).grant then (s.grantSent.updCan 0 fun c => { c with grant := false }) else s).grantLoad false
      else s
    (s.canMode n).canPick n

/-- The first filter a frame passes. -/
def State.canFilter (s : State) (n : Nat) (f : CanFrame) : Option Nat :=
  (List.range 16).find? fun k =>
    let i := s.a (pgCAN n) (0x060 + 8 * k)
    let m := s.a (pgCAN n) (0x064 + 8 * k)
    fldOf i 31 31 == 1 && (fldOf i 29 29 == 1) == f.ide && decide ((i ^^^ BitVec.ofNat 32 f.id) &&& m &&& 0x1FFFFFFF = 0)

/-- A frame is received (R486). -/
def State.canReceive (s : State) (n : Nat) (f : CanFrame) : State :=
  if 2 ≤ n ∨ s.canInit n = true ∨ (s.can n).mode = 2 ∨ s.domRun 1 = false ∨ s.canCut n = true then s
  else
    let s := (s.updCan n fun c => { c with rxe := if 127 < c.rxe then 119 else c.rxe - 1 }).canMode n
    if s.canFilter n f = none then s
    else if 32 ≤ (s.can n).fifo.length then (s.cntUp (pgCAN n) 0x054 31 16 1).ev (pgCAN n) 2
    else (s.updCan n fun c => { c with fifo := c.fifo ++ [(f, s.ltb.frame, s.posLP)] }).ev (pgCAN n) 1

/-- The transmit error counter has passed 255: bus-off aborts what is pending (R485, R487). -/
def State.canBusOff (s : State) (n : Nat) : State :=
  if 2 ≤ n ∨ (s.can n).txe < 256 ∨ (s.can n).mode = 2 then s
  else
    let auto := s.af (pgCAN n) 0x040 5 5 == 1
    let s := s.updCan n fun c => { c with mode := 2, recov := auto }
    ((s.canDrop n fun _ => true).ev (pgCAN n) 3).err (pgCAN n) 0x4B10 0

/-- Recovery is complete: the controller is error active. -/
def State.canRecovered (s : State) (n : Nat) : State :=
  if (s.can n).mode = 2 ∧ (s.can n).recov = true then
    (s.updCan n fun c => { c with mode := 0, recov := false, txe := 0, rxe := 0 }).canPick n
  else s

/-- A commit of a CAN page: INIT aborts what is pending. -/
def State.canCommit (s : State) (n : Nat) : State := if s.canInit n then s.canDrop n fun _ => true else s.canPick n

/-- A transmit buffer an offset lies in. -/
def tbOf (o : Nat) : Option Nat := if 0x100 ≤ o ∧ o < 0x600 then some ((o - 0x100) / 0x50) else none

def State.canWrite (s : State) (n o : Nat) (v : Word) : State :=
  let p := pgCAN n
  if o = 0x040 then
    let s := s.plain p o v
    if fldOf v 8 8 = 1 ∧ (s.can n).mode = 2 then s.updCan n fun c => { c with recov := true } else s
  else if o = 0x044 ∨ o = 0x048 ∨ o = 0x04C then (if s.canInit n then s.plain p o v else s.errBusy p o)
  else if o = 0x600 then s.canRequest n (fldOf v 15 0)
  else if o = 0x604 then s.canAbort n (fldOf v 15 0)
  else if o = 0x850 then (if fldOf v 0 0 = 1 then s.updCan n fun c => { c with fifo := c.fifo.drop 1 } else s)
  else if 0x900 ≤ o ∧ o ≤ 0x918 then
    if n = 1 then s
    else if o = 0x918 then (if fldOf v 31 31 = 1 then s.w p o 0 else s)
    else s.plain p o v
  else match tbOf o with
    | none => s.plain p o v
    | some b =>
      if n = 0 ∧ b = 15 then s.errLocked p o
      else if (s.can n).req.contains b then s.errBusy p o
      else s.plain p o v

def State.canRead (s : State) (n o : Nat) : Word :=
  let c := s.can n
  let f := (c.fifo.head?.map (·.1)).getD ⟨0, false, false, false, 0, []⟩
  if o = 0x050 then
    BitVec.ofNat 32 (c.mode + min c.txe 255 * 2 ^ 8 + min c.rxe 255 * 2 ^ 16 + b2n c.cur.isNone * 2 ^ 24 + c.fifo.length * 2 ^ 25)
  else if o = 0x600 then BitVec.ofNat 32 (c.req.foldl (fun a b => a + 2 ^ b) 0)
  else if o = 0x800 then BitVec.ofNat 32 (f.id + b2n f.ide * 2 ^ 29 + b2n f.fdf * 2 ^ 30 + b2n f.brs * 2 ^ 31)
  else if o = 0x804 then BitVec.ofNat 32 f.dlc
  else if o = 0x808 then (c.fifo.head?.map (·.2.1)).getD 0
  else if o = 0x80C then BitVec.ofNat 32 ((c.fifo.head?.map (·.2.2)).getD 0)
  else if 0x810 ≤ o ∧ o < 0x850 then BitVec.ofNat 32 (leNat ((f.data.drop (o - 0x810)).take 4))
  else if n = 0 ∧ tbOf o = some 15 then 0
  else if n = 1 ∧ 0x900 ≤ o ∧ o ≤ 0x918 then 0
  else s.r p o
where p : Nat := pgCAN n

/-! ### LIN (R489, R501) -/

def State.updLin (s : State) (f : Lin → Lin) : State := { s with lin := f s.lin }

def State.linSlot (s : State) (k : Nat) : Word := s.a pgLIN (0x080 + 0x10 * k)
def State.linSch (s : State) (e : Nat) : Word := s.a pgLIN (0x200 + 4 * e)
def State.linCommander (s : State) : Bool := decide (s.af pgLIN 0x040 0 0 = 1)

/-- The schedule moves on: from its start, or once the delay of the entry in progress has passed. -/
def State.linSchedule (s : State) : State :=
  if s.linCommander = false ∨ s.af pgLIN 0x040 1 1 = 0 ∨ s.domRun 1 = false ∨ s.lin.slot.isSome = true then s
  else
    let go (s : State) (e : Nat) : State :=
      let e := if 32 ≤ e ∨ fldOf (s.linSch e) 15 8 = 0 then 0 else e
      if fldOf (s.linSch e) 15 8 = 0 then s
      else s.updLin fun l => { l with entry := some e, at_ := s.perNow, slot := some (fldOf (s.linSch e) 3 0) }
    match s.lin.entry with
    | none => go s 0
    | some e => if s.perNow < s.lin.at_ + 800000 * fldOf (s.linSch e) 15 8 then s else go s (e + 1)

/-- Bit `i` of an ID. -/
def idBit (id i : Nat) : Nat := id / 2 ^ i % 2

/-- The protected identifier of an ID, as ISO 17987 gives its two parity bits. -/
def linPid (id : Nat) : Nat :=
  id + ((idBit id 0 + idBit id 1 + idBit id 2 + idBit id 4) % 2) * 2 ^ 6 +
    ((1 + idBit id 1 + idBit id 3 + idBit id 4 + idBit id 5) % 2) * 2 ^ 7

/-- As responder, a header with a PID: the first slot with its ID and a valid length answers or takes the frame. -/
def State.linHeader (s : State) (pid : Nat) : State :=
  if s.linCommander ∨ s.domRun 1 = false ∨ s.lin.slot.isSome = true then s
  else match (List.range 16).find? fun k =>
      decide (linPid (fldOf (s.linSlot k) 5 0) = pid) && decide (1 ≤ fldOf (s.linSlot k) 11 8) && decide (fldOf (s.linSlot k) 11 8 ≤ 8) with
    | none => s
    | some k => s.updLin fun l => { l with slot := some k }

/-- The frame of the slot in progress ends, with the mask of its errors (bit, checksum, framing, sync, no response) and, for a
subscribed slot, its data. In a Seam hold the frame is lost: a bit error where the slot publishes, else no response (01 R21; DEDUCED,
log entry 99). -/
def State.linDone (s : State) (errs : Nat) (data : List Byte) : State :=
  match s.lin.slot with
  | none => s
  | some k =>
    let w := s.linSlot k
    let errs := if s.seam.hold then errs ||| (if fldOf w 12 12 = 1 then 1 else 16) else errs
    let s := s.updLin fun l => { l with slot := none }
    let s := (s.sf pgLIN 0x044 3 0 k).sf pgLIN 0x044 12 8 (errs % 32)
    if errs % 32 ≠ 0 then s.ev pgLIN 1
    else
      let n := fldOf w 11 8
      let old := leBytes 4 (s.r pgLIN (0x084 + 0x10 * k)).toNat ++ leBytes 4 (s.r pgLIN (0x088 + 0x10 * k)).toNat
      let new := data.take n ++ old.drop (data.take n).length
      let s := if fldOf w 12 12 = 1 then s
        else (s.w pgLIN (0x084 + 0x10 * k) (BitVec.ofNat 32 (leNat (new.take 4)))).w pgLIN (0x088 + 0x10 * k)
          (BitVec.ofNat 32 (leNat ((new.drop 4).take 4)))
      s.ev pgLIN 0

def State.linWrite (s : State) (o : Nat) (v : Word) : State :=
  let s := s.plain pgLIN o v
  if o = 0x040 ∧ fldOf v 4 4 = 1 then s.updLin fun l => { l with wake := s.perNow + 800000 } else s

/-- Outside the part's own wake pulse the level of the bus is open. -/
def State.linRead (s : State) (o : Nat) : State × Word :=
  if o = 0x044 then
    if s.perNow < s.lin.wake then (s, setFldOf (s.r pgLIN o) 13 13 1) else (s.tookFree, setFldOf (s.r pgLIN o) 13 13 (fldOf s.freeW 0 0))
  else (s, s.r pgLIN o)

/-- A commit of the LIN page: the schedule starts again from its first entry when it is not running. -/
def State.linCommit (s : State) : State :=
  if s.linCommander = true ∧ s.af pgLIN 0x040 1 1 = 1 then s else s.updLin fun l => { l with entry := none }

/-! ### I²C (R491, R503) -/

def State.i2c (s : State) (n : Nat) : I2c := s.i2cs.getD n I2c.zero
def State.updI2c (s : State) (n : Nat) (f : I2c → I2c) : State := { s with i2cs := s.i2cs.modify n f }

/-- The write in progress takes bytes from the transmit FIFO. -/
def State.i2cShift (s : State) (n : Nat) : State :=
  match (s.i2c n).cmds with
  | (1, k, _) :: _ =>
    let m := min (k - (s.i2c n).out) (s.i2c n).tx.length
    s.updI2c n fun x => { x with out := x.out + m, tx := x.tx.drop m }
  | _ => s

/-- I2C_CMD: a command is queued; START clears the reports of the last sequence. -/
def State.i2cCmd (s : State) (n : Nat) (v : Word) : State :=
  let p := pgI2C n
  if s.af p 0x040 0 0 = 0 then s
  else if 15 ≤ (s.i2c n).cmds.length then s.errCap p 0x048
  else
    let s := if fldOf v 1 0 = 0 then s.sf p 0x054 4 1 0 else s
    (s.updI2c n fun x => { x with cmds := x.cmds ++ [(fldOf v 1 0, fldOf v 11 4, fldOf v 27 16)] }).i2cShift n

/-- A command ends: 0 complete, 1 NACK, 2 arbitration lost, 3 bus error (R491). -/
def State.i2cDone (s : State) (n outcome : Nat) (data : List Byte) : State :=
  let p := pgI2C n
  match (s.i2c n).cmds with
  | [] => s
  | (c, k, _) :: t =>
    if outcome = 0 then
      if c = 1 ∧ (s.i2c n).out < k then s
      else
        let s := s.updI2c n fun x => { x with cmds := t, out := 0, rx := if c = 2 then x.rx ++ data.take k else x.rx }
        (s.ev p 0).i2cShift n
    else
      let s := s.updI2c n fun x => { x with cmds := [], out := 0 }
      (s.sf p 0x054 (min outcome 3) (min outcome 3) 1).ev p 1

/-- SCL is held low for TLOW_MAX ms (R491). -/
def State.i2cStuck (s : State) (n : Nat) : State :=
  let p := pgI2C n
  if 3 ≤ n ∨ s.af p 0x040 31 24 = 0 ∨ s.domRun 1 = false then s
  else ((s.updI2c n fun x => { x with cmds := [], out := 0 }).sf p 0x054 4 4 1).ev p 2

/-- The controller is addressed as a target: it takes the bytes written to it, or gives `k` bytes from its FIFO. -/
def State.i2cTarget (s : State) (n : Nat) (write : Bool) (data : List Byte) (k : Nat) : State :=
  let p := pgI2C n
  if 3 ≤ n ∨ s.af p 0x040 0 0 = 1 ∨ s.domRun 1 = false then s
  else (s.updI2c n fun x => if write then { x with rx := x.rx ++ data } else { x with tx := x.tx.drop k }).ev p 3

def State.i2cWrite (s : State) (n o : Nat) (v : Word) : State :=
  let p := pgI2C n
  if o = 0x048 then s.i2cCmd n v
  else if o = 0x04C then
    if 8 ≤ (s.i2c n).tx.length then s.errCap p o
    else (s.updI2c n fun x => { x with tx := x.tx ++ [BitVec.ofNat 8 v.toNat] }).i2cShift n
  else s.plain p o v

def State.i2cRead (s : State) (n o : Nat) : State × Word :=
  let x := s.i2c n
  if o = 0x050 then
    match x.rx with
    | [] => (s, 0)
    | b :: t => (s.updI2c n fun x => { x with rx := t }, BitVec.ofNat 32 (b.toNat + 2 ^ 8))
  else if o = 0x054 then (s, setFldOf (setFldOf (s.r (pgI2C n) o) 0 0 (b2n (!x.cmds.isEmpty))) 11 8 x.cmds.length)
  else (s, s.r (pgI2C n) o)

/-! ### SPI (R492, R504) -/

def State.spi (s : State) (n : Nat) : Spi := s.spis.getD n Spi.zero
def State.updSpi (s : State) (n : Nat) (f : Spi → Spi) : State := { s with spis := s.spis.modify n f }

/-- A frame has been shifted: what came in on the other line is `v` (R492). -/
def State.spiDone (s : State) (n : Nat) (v : Word) : State :=
  let p := pgSPI n
  let x := s.spi n
  let ctl := s.af p 0x040 0 0 == 1
  if 2 ≤ n ∨ s.domRun 1 = false ∨ (ctl = true ∧ x.tx.isEmpty = true) then s
  else
    let v := BitVec.ofNat 32 (v.toNat % 2 ^ (s.af p 0x040 8 4 + 1))
    let s := if x.tx.isEmpty then (s.cntUp p 0x050 15 0 1).ev p 2 else s
    let s := if 16 ≤ x.rx.length then (s.cntUp p 0x050 31 16 1).ev p 2 else s.updSpi n fun x => { x with rx := x.rx ++ [v] }
    let s := s.updSpi n fun y => { y with tx := x.tx.drop 1, last := (x.tx.head?).getD 0 }
    let s := if 8 ≤ (s.spi n).rx.length then s.ev p 1 else s
    if (s.spi n).tx.isEmpty then s.ev p 0 else s

def State.spiWrite (s : State) (n o : Nat) (v : Word) : State :=
  let p := pgSPI n
  if o = 0x044 then
    if 16 ≤ (s.spi n).tx.length then s.errCap p o
    else s.updSpi n fun x => { x with tx := x.tx ++ [BitVec.ofNat 32 (v.toNat % 2 ^ (s.af p 0x040 8 4 + 1))] }
  else s.plain p o v

def State.spiRead (s : State) (n o : Nat) : State × Word :=
  let x := s.spi n
  if o = 0x048 then
    match x.rx with
    | [] => (s, 0)
    | w :: t => (s.updSpi n fun x => { x with rx := t }, w)
  else if o = 0x04C then
    (s, BitVec.ofNat 32 (b2n (s.af (pgSPI n) 0x040 0 0 == 1 && !x.tx.isEmpty) + x.tx.length * 2 ^ 8 + x.rx.length * 2 ^ 16))
  else (s, s.r (pgSPI n) o)

/-! ### XSPI (R493, R505) -/

def State.updXs (s : State) (f : Xspi → Xspi) : State := { s with xspi := f s.xspi }

/-- The command completes: read data into XS_BUF, and the bytes of the flash that the command has changed. -/
def State.xsDone (s : State) (data : List Byte) (flash : List (Nat × List Byte)) : State :=
  match s.xspi.cmd with
  | none => s
  | some c =>
    let n := fldOf c 24 16
    let s := if fldOf c 2 2 = 1 then
        (List.range ((n + 3) / 4)).foldl (fun s i =>
          let old := leBytes 4 (s.r pgXSPI (0x400 + 4 * i)).toNat
          let new := ((data.take n).drop (4 * i)).take 4
          s.w pgXSPI (0x400 + 4 * i) (BitVec.ofNat 32 (leNat (new ++ old.drop new.length)))) s
      else s
    let s := flash.foldl (fun s e => if e.1 + e.2.length ≤ 0x10000000 then s.wrBytes (0x20000000 + e.1) e.2 else s) s
    (s.updXs fun _ => ⟨none, fldOf c 3 3 == 1⟩).ev pgXSPI 0

/-- The status poll shows the flash ready. -/
def State.xsReady (s : State) : State := if s.xspi.cmd = none then s.updXs fun x => { x with busy := false } else s

def State.xsWrite (s : State) (o : Nat) (v : Word) : State :=
  if o = 0x040 ∨ o = 0x044 ∨ o = 0x048 then
    if s.xspi.cmd.isSome then s.errBusy pgXSPI o
    else if o = 0x048 then
      if 256 < fldOf v 24 16 then s.errValue pgXSPI o
      else if fldOf v 0 0 = 1 then s.updXs fun x => { x with cmd := some v } else s
    else s.plain pgXSPI o v
  else s.plain pgXSPI o v

def State.xsRead (s : State) (o : Nat) : Word :=
  if o = 0x058 then setFldOf (setFldOf (s.r pgXSPI o) 0 0 (b2n s.xspi.cmd.isSome)) 1 1 (b2n s.xspi.busy) else s.r pgXSPI o

/-! ### GPIO (R495, R506) -/

/-- The levels of the pins: an output pin carries its output level. -/
def State.gpIn (s : State) : Word :=
  let d := s.r pgGPIO 0x040
  (s.r pgGPIO 0x044 &&& d) ||| (s.pins &&& ~~~d)

/-- A GPIO line event sets a pin's output level to ARG[0]; it applies after a software write of the same cycle (R495). -/
def State.gpEvent (s : State) (pin arg : Nat) : State :=
  if 32 ≤ pin then s
  else ((s.evArrive 0xC pin arg).sf pgGPIO 0x044 pin pin (arg % 2)).touch pgGPIO 0x044 pin

/-- The level outside drives on a pin changes; an input's edge of the selected kind sets its flag. -/
def State.gpEdge (s : State) (pin : Nat) (level : Bool) : State :=
  if 32 ≤ pin ∨ s.pins.getLsbD pin = level then s
  else
    let s := { s with pins := s.pins ^^^ BitVec.ofNat 32 (2 ^ pin) }
    let sel := s.f pgGPIO (0x05C + 4 * (pin / 16)) (2 * (pin % 16) + 1) (2 * (pin % 16))
    if s.f pgGPIO 0x040 pin pin = 1 ∨ sel = 0 ∨ (sel = 1 ∧ level = false) ∨ (sel = 2 ∧ level = true) ∨ s.domRun 1 = false then s
    else (s.setW1 pgGPIO 0x064 pin).ev pgGPIO pin

/-- A write of the GPIO page by tenant `t`: the WAKE registers take T0's writes alone (R490). -/
def State.gpWrite (s : State) (t o : Nat) (v : Word) : State :=
  let keep := s.freshBits pgGPIO 0x044
  if o = 0x048 then s.w pgGPIO 0x044 (s.r pgGPIO 0x044 ||| (v &&& ~~~keep))
  else if o = 0x04C then s.w pgGPIO 0x044 (s.r pgGPIO 0x044 &&& ~~~(v &&& ~~~keep))
  else if o = 0x044 then s.plain pgGPIO o ((s.r pgGPIO 0x044 &&& keep) ||| (v &&& ~~~keep))
  else if (o = 0x100 ∨ o = 0x104 ∨ o = 0x108) ∧ t ≠ 0 then s.errLocked pgGPIO o
  else if o = 0x108 then (if fldOf v 31 31 = 1 then s.sf pgGPIO 0x108 3 0 0 else s)
  else s.plain pgGPIO o v

def State.gpRead (s : State) (o : Nat) : Word :=
  if o = 0x050 then s.gpIn
  else if o = 0x108 then setFldOf (s.r pgGPIO o) 11 8 s.wake.toNat
  else s.r pgGPIO o

/-! ### The converter (R496 to R499, R502) -/

def State.updAdc (s : State) (f : Adc → Adc) : State := { s with adc := f s.adc }

/-- A scan starts with the committed sequence. -/
def State.adcBegin (s : State) : State :=
  s.updAdc fun a => { a with
    busy := true, slot := 0,
    seq := (List.range (s.af pgADC 0x040 13 8 + 1)).map fun k => s.af pgADC (0x080 + 4 * k) 4 0 }

/-- After GAP × 10 µs the next scan starts while RUN is 1. -/
def State.adcScan (s : State) : State :=
  if s.adc.busy ∨ s.af pgADC 0x040 0 0 = 0 ∨ s.domRun 1 = false ∨ s.perNow < s.adc.ended + 8000 * s.af pgADC 0x040 31 16 then s
  else s.adcBegin

/-- A result is written, compared and delivered; one that falls into a Seam hold is discarded (01 R21). -/
def State.adcResult (s : State) (ch code : Nat) (ovr unr off settling : Bool) : State :=
  let old := s.r pgADC (0x100 + 4 * ch)
  let s := s.w pgADC (0x100 + 4 * ch) (BitVec.ofNat 32 (code + b2n ovr * 2 ^ 12 + b2n unr * 2 ^ 13 + b2n settling * 2 ^ 14 + 2 ^ 15 +
    fldOf old 15 15 * 2 ^ 16 + b2n off * 2 ^ 17 + (fldOf old 31 24 + 1) % 256 * 2 ^ 24))
  let s := if ovr || unr then s.ev pgADC 2 else s
  let out := ovr || unr || decide (code < s.af pgADC (0x180 + 4 * ch) 11 0) || decide (s.af pgADC (0x180 + 4 * ch) 27 16 < code)
  let s := if !settling && out && s.af pgADC (0x180 + 4 * ch) 31 31 == 1 then s.ev pgADC 1 else s
  if !settling && ch == s.af pgLD 0x04C 4 0 then s.ldNtc code (ovr || unr) else s

/-- A conversion completes: `x` is floor(4,096 V / FS), and `off` says that the sink of AN10 or AN11 was never on. -/
def State.adcDone (s : State) (x : Int) (off : Bool) : State :=
  if s.adc.busy = false ∨ s.domRun 1 = false then s
  else
    let a := s.adc
    let ch := a.seq.getD a.slot 0
    let off := off && (ch == 10 || ch == 11)
    let ovr := !off && decide (4095 < x)
    let unr := !off && decide (x < 0)
    let code := if off ∨ unr then 0 else if ovr then 4095 else x.toNat
    let settling := decide (0 < a.settle)
    let s := if s.seam.hold then s else s.adcResult ch code ovr unr off settling
    let s := s.updAdc fun a => { a with settle := if ovr || unr then 2 else a.settle - 1 }
    if a.slot + 1 < a.seq.length then s.updAdc fun a => { a with slot := a.slot + 1 }
    else ((s.cntWrap pgADC 0x044 31 16).updAdc fun a => { a with busy := false, slot := 0, ended := s.perNow }).ev pgADC 0

def State.adcWrite (s : State) (o : Nat) (v : Word) : State :=
  let s := s.plain pgADC o v
  if o = 0x040 ∧ fldOf v 1 1 = 1 ∧ s.adc.busy = false then s.adcBegin else s

def State.adcRead (s : State) (o : Nat) : State × Word :=
  if o = 0x044 then (s, setFldOf (setFldOf (s.r pgADC o) 0 0 (b2n s.adc.busy)) 12 8 s.adc.slot)
  else if 0x100 ≤ o ∧ o < 0x160 then (s.sf pgADC o 15 15 0, s.r pgADC o)
  else (s, s.r pgADC o)

/-! ### Resets (03 R568) -/

def State.vehReset (s : State) (b : Blk) (p : Nat) : State :=
  match b with
  | .can => s.updCan (p - 0x0D0) fun _ => Can.zero
  | .lin => s.updLin fun _ => Lin.zero
  | .adc => s.updAdc fun _ => Adc.zero
  | .i2c => s.updI2c (p - 0x0D4) fun _ => I2c.zero
  | .spi => s.updSpi (p - 0x0D7) fun _ => Spi.zero
  | .xspi => s.updXs fun _ => ⟨none, false⟩
  | _ => s

end Sys2Proof.Machine
end

