-- ==== Sys2Proof/Machine/Power.lean ====
section
/-! DEFINITION. Machine/Power.lean: the Seam, clocks, supply, sleep states, domains, resets, watchdog, RTC and DRAM control
(01 R20 to R31, R566; 19 R507 to R532). -/

namespace Sys2Proof.Machine

def State.updPwr (s : State) (f : Pwr → Pwr) : State := { s with pwr := f s.pwr }

/-! ### The Seam (01 R20, R21) -/

/-- The logic die takes the power die's supply flags, but in a Seam hold (R21; 19 R509, R510): LOWBAT at each change, SHED where a
shed begins, OV where it rises. -/
def State.supplyTold (s : State) : State :=
  if s.seam.hold then s
  else
    let p := s.pwr
    let s := s.updPwr fun p => { p with lowL := p.low, shedL := p.shed, ovL := p.ov }
    let s := if p.low = p.lowL then s else (s.sf pgLD 0x044 0 0 (b2n p.low)).ev pgPWR 0
    let s := if (p.shed || p.ov) && !(p.shedL || p.ovL) then s.ev pgPWR 1 else s
    if p.ov && !p.ovL then s.ev pgPWR 2 else s

/-- Eight failed transfers in a row put the power die into the hold, and after a recovery into a new one; a hold still waiting
for its recovery goes on. The frames of CAN0 and LIN in progress are lost (R21). -/
def State.seamFault (s : State) : State :=
  let was := s.seam.hold
  let s := if was = true ∧ s.seam.refreshing = false then s else s.err pgSYS 0x6010 0
  let s := if was then s else (s.ev pgLD 3).lightFreeze
  let s := { s with seam := { s.seam with hold := true, refreshing := false, goodUp := 0, goodDown := 0 } }
  if was then s else (s.canSent 0).linDone 0 []

/-- A Seam transfer of one direction, its parity good or not. -/
def State.seamTransfer (s : State) (up ok : Bool) : State :=
  if s.domRun 1 = false then s
  else
    let m := s.seam
    let fail := if ok then 0 else (if up then m.failUp else m.failDown) + 1
    let good := if ok then min 64 ((if up then m.goodUp else m.goodDown) + 1) else 0
    let m := if up then { m with failUp := fail, goodUp := good } else { m with failDown := fail, goodDown := good }
    let m := if fail = 8 then (if up then { m with failUp := 0 } else { m with failDown := 0 }) else m
    let s := { s with seam := m }
    if fail = 8 then s.seamFault else s

/-- 64 good transfers in a row in both directions: the refresh begins. -/
def State.seamRecovered (s : State) : State :=
  if s.seam.hold = true ∧ 64 ≤ s.seam.goodUp ∧ 64 ≤ s.seam.goodDown ∧ s.domRun 1 = true then { s with seam := { s.seam with refreshing := true } }
  else s

/-- The refresh completes and the power die leaves the hold. -/
def State.seamRefreshed (s : State) : State :=
  if s.seam.refreshing then
    (({ s with seam := { s.seam with hold := false, refreshing := false } }.ev pgLD 3).lightThaw).supplyTold
  else s

/-! ### Clocks (01 R29, R566) -/

/-- SYSPLL locks. -/
def State.sysPllLock (s : State) : State :=
  if s.domRun 1 = false ∨ s.clk.xtal = false ∨ s.clk.stopped = true ∨ s.clk.sysPll = true then s
  else { s with clk := { s.clk with sysPll := true, dramPll := true } }

/-- The crystal has stopped for more than 2 µs (R29). -/
def State.crystalLoss (s : State) : State :=
  if s.domRun 1 = false ∨ s.clk.xtal = false then s
  else
    let s := (((s.ppllStop 0).ppllStop 1).refOff).ltbCrystalLoss.skpStop
    { s with clk := { s.clk with xtal := false, stopped := true, sysPll := false, dramPll := false } }.err pgCLK 0x6060 0

/-- Firmware restarts the PLLs once the crystal is back. -/
def State.pllRestart (s : State) : State :=
  if s.domRun 1 = true ∧ s.clk.stopped = true then { s with clk := { s.clk with xtal := true, stopped := false } } else s

/-! ### Registers back to reset values (03 R92, R93) -/

/-- The registers of a page return to their reset values, but the RWL bits where `lk` is true and the offsets `keep` names. -/
def State.clearPage (s : State) (p : Nat) (lk : Bool) (keep : Nat → Bool) : State :=
  let mine := s.regs.filter fun e => e.1 / 4096 == p
  let s := { s with regs := s.regs.filter fun e => !(e.1 / 4096 == p), act := s.act.filter fun e => !(e.1 / 4096 == p) }
  mine.foldl (fun s e =>
    let o := e.1 % 4096
    if keep o then s.w p o e.2
    else match (pageBlk s.grade p).bind fun b => findRow b o with
      | none => s
      | some r =>
        let m : Word := BitVec.ofNat 32 r.lk
        if lk ∧ r.lk ≠ 0 then s.w p o ((resetVal s.grade (rkey p o) &&& ~~~m) ||| (e.2 &&& m)) else s) s

/-- The registers of the eye-safety budget (13 R321), which are RWL with a lock of their own. -/
def ebReg (o : Nat) : Bool := o == 0x048 || o == 0x04C || o == 0x050

/-- The pages a domain holds. -/
def domPages (g : Grade) (d : Nat) : List Nat := (List.range 224).filter fun p => (pageBlk g p).isSome && pageDom p == d

/-! ### Resets of the part (19 R511, R512, R517, R522, R523) -/

/-- The part as a reset of the SYS domain leaves it before the kept registers are put back, every domain in the given state: OTP,
flash, the retention store and, but for a power-on reset, what ALWAYS holds survive. Every other memory has lost its contents. -/
def State.coldBase (s : State) (por : Bool) (doms : List Dom) : State :=
  { State.reset with
    grade := s.grade, fused := s.fused, clk := State.reset.clk, doms := doms,
    mem := Sparse.keep (fun a => memRegion a == some 0 || memRegion a == some 3) s.mem,
    epoch := (s.epoch.zipIdx.map fun e => if e.2 = 0 ∨ e.2 = 3 then e.1 else e.1 + 1),
    grv := { Grv.zero with tileLost := s.grv.tileLost + 1 },
    sec := { Sec.zero with otp := s.sec.otp, prog := s.sec.prog, low := s.sec.low, retLost := s.sec.retLost || por },
    pwr := (if por then { Pwr.por with
        low := s.pwr.low, shed := s.pwr.shed, ov := s.pwr.ov, lowL := s.pwr.low, shedL := s.pwr.shed, ovL := s.pwr.ov }
      else { s.pwr with
        lowL := s.pwr.low, shedL := s.pwr.shed, ovL := s.pwr.ov,
        entering := none, asleep := none, bor := false, latched := [], edge := none, wcause := 0, wdAt := s.time, wdLen := 1000,
        wdOpen := false, refWin := none }),
    resp := s.resp, pins := s.pins, wake := s.wake, now := s.now, osc := s.osc, time := s.time, freeCtr := s.freeCtr, pending := s.pending }

/-- The registers of `s` held in ALWAYS and the retention store, put into `z`: PWR_WKCFG, PWR_RTCALM, SEC_TIME, the issuer windows,
TIME_VALID, WIN_VALID and WK_STAT (R511, R529, 14 R346). -/
def State.keepRegs (z s : State) : State :=
  let regs := [(pgPWR, 0x048), (pgPWR, 0x050), (pgSEC, 0x048)] ++ (List.range 16).map fun i => (pgSEC, 0x080 + 4 * i)
  let z := regs.foldl (fun z k => z.w k.1 k.2 (s.r k.1 k.2)) z
  (z.w pgSEC 0x040 (s.r pgSEC 0x040 &&& 0xFF000002)).sf pgGPIO 0x108 3 0 (s.f pgGPIO 0x108 3 0)

/-- The part as a reset of the SYS domain leaves it. -/
def State.cold (s : State) (por : Bool) (doms : List Dom) : State :=
  let z := s.coldBase por doms
  ((if por then z else z.keepRegs s).sf pgLD 0x044 0 0 (b2n s.pwr.low)).evalUpd

/-- SEC and SYS in Run, the rest Off (R523). -/
def runDoms : List Dom := State.reset.doms
def offDoms : List Dom := List.replicate 12 Dom.off

/-- A system reset with its bit of RST_CAUSE: 2 SYSR, 3 WDG (R522); its wake sequence begins now. -/
def State.sysReset (s : State) (bit : Nat) : State :=
  (s.cold false runDoms).updPwr fun p => { p with rst := p.rst ||| 2 ^ bit, edge := some (s.time, 0) }

/-- A wake from a sleep state, with its bits of PWR_WCAUSE and how long ago the wake edge was (R517, R529). -/
def State.wakeUp (s : State) (bits lead : Nat) : State :=
  (s.cold false runDoms).updPwr fun p => { p with
    rst := p.rst ||| 16, wcause := bits, edge := some (s.time, lead), rtcOn := s.pwr.rtcOn || s.pwr.asleep == some 1 }

/-- What a wake source leaves in its own page: WK_STAT, CAN_WKSTAT with the cause and its event, or the LIN event (R488 to R490). -/
def State.wakeNote (s : State) (src : Nat × Nat) : State :=
  if src.1 < 4 then s.sf pgGPIO 0x108 src.1 src.1 1
  else if src.1 = 5 then (s.sf (pgCAN 0) 0x918 src.2 src.2 1).ev (pgCAN 0) 5
  else if src.1 = 6 then s.ev pgLIN 2 else s

/-- A wake source, its bit of PWR_WCAUSE and its cause, fires: it wakes a sleeping part, and is latched during an entry (R516); a
part that a brown-out put to sleep waits for its supplies (R511). -/
def State.wakeSource (s : State) (bit cause lead : Nat) : State :=
  if s.pwr.asleep.isSome then (if s.pwr.bor then s else (s.wakeUp (2 ^ bit) lead).wakeNote (bit, cause))
  else if s.pwr.entering.isSome then s.updPwr fun p => { p with latched := p.latched ++ [(bit, cause)] }
  else s

/-- Whether a sleep state, in force or being entered, is one of those from `n` on. -/
def State.sleepAt (s : State) (n : Nat) : Bool :=
  match s.pwr.asleep.or s.pwr.entering with
  | some k => decide (n ≤ k)
  | none => false

/-- A power-on reset (R512); its wake sequence begins now. -/
def State.porReset (s : State) : State := (s.cold true runDoms).updPwr fun p => { p with edge := some (s.time, 0) }

/-- A brown-out reset (R511). -/
def State.borReset (s : State) : State :=
  (s.cold false offDoms).updPwr fun p => { p with rst := p.rst ||| 2, asleep := some 1, bor := true }

/-- The edge code of a WAKE input and whether it is enabled, as ALWAYS holds them (R490). -/
def State.wkEdge (s : State) (i : Nat) : Nat := fldOf s.pwr.wkCtrl (2 * i + 9) (2 * i + 8)
def State.wkOn (s : State) (i : Nat) : Bool := s.pwr.wkCtrl.getLsbD i

/-- Deep Rest stops the RTC: the time is valid no more (R514). -/
def State.deepRest (s : State) : State := (s.updPwr fun p => { p with rtcOn := false, rtcv := false }).sf pgSEC 0x040 1 1 0

/-- The supplies have recovered after a BOR. -/
def State.borRestart (s : State) : State :=
  if s.pwr.bor = false then s
  else
    let act := (List.range 4).any fun i => s.wkOn i && ((s.wkEdge i == 1 && s.wake.getLsbD i) || (s.wkEdge i == 2 && !s.wake.getLsbD i))
    if s.f pgPWR 0x048 8 8 = 1 ∨ act = true then (s.cold false runDoms).updPwr fun p => { p with wcause := 2 ^ 8, edge := some (s.time, 0) }
    else s.deepRest.updPwr fun p => { p with bor := false }

/-! ### Supply monitors (R509, R510) -/

def State.setLow (s : State) (v : Bool) : State :=
  if s.pwr.low = v then s else (s.updPwr fun p => { p with low := v }).supplyTold

/-- SHED or OV changes; a shed of the lamp loads begins or ends with it, on the power die alone. -/
def State.setShed (s : State) (shed ov : Bool) : State :=
  let was := s.shedding
  let s := (s.updPwr fun p => { p with shed := shed, ov := ov }).supplyTold
  if was = false ∧ s.shedding = true then s.skpStop.shedStart
  else if was = true ∧ s.shedding = false then s.shedEnd else s

def State.shedSet (s : State) : State := if s.pwr.shed then s else s.setShed true s.pwr.ov
def State.shedClear (s : State) : State := if s.pwr.shed then s.setShed false s.pwr.ov else s
def State.ovSet (s : State) : State := if s.pwr.ov then s else s.setShed s.pwr.shed true
def State.ovClear (s : State) : State := if s.pwr.ov then s.setShed s.pwr.shed false else s

/-! ### Sleep states (R515, R516) -/

/-- A request for sleep state `n`: refused with a reason, or accepted. -/
def State.pwrSleep (s : State) (n : Nat) : State :=
  let cfg := s.r pgPWR 0x048
  let own := (decide (2 ≤ n) && cfg.getLsbD 0) || (decide (n = 3) && (cfg.getLsbD 1 || cfg.getLsbD 2))
  if n = 0 then s
  else if fldOf s.pwr.wkCtrl 3 0 = 0 ∧ own = false then s.err pgPWR 0x1050 1
  else if s.ttgWatch then s.err pgPWR 0x1050 2
  else if s.pwr.entering.isSome then s.err pgPWR 0x1050 3
  else s.updPwr fun p => { p with entering := some n }

/-- The requests held for the domains that go Off are answered DOMAIN_OFF (R516). -/
def State.dropHeld (s : State) : State :=
  if s.waiting.any fun e => e.2.isNone && decide (2 ≤ pageDom e.1.pg) then s.answer .domainOff 0 else s

/-- The entry is complete: every domain is Off and the wake sources are enabled; sources latched meanwhile wake at once. -/
def State.sleepEntered (s : State) : State :=
  match s.pwr.entering with
  | none => s
  | some n =>
    let src := s.pwr.latched
    let s := (s.dropHeld.cold false offDoms).updPwr fun p => { p with asleep := some n }
    let s := if n = 1 then s.deepRest else s.updPwr fun p => { p with rtcOn := true }
    if src = [] then s else src.foldl (fun s e => s.wakeNote e) (s.wakeUp (src.foldl (fun b e => b ||| 2 ^ e.1) 0) 0)

/-- How long the filter of WAKE input `i` takes, in eight-hundredths of a µs: periods of the RTC when it runs, else of the wake
oscillator (R490). -/
def State.wkLead (s : State) (i : Nat) : Nat :=
  fldOf s.pwr.wkFilt (8 * i + 7) (8 * i) * (if s.pwr.rtcOn then 24414 else Config.wakeOscPeriod)

/-- A filtered change of a WAKE input (R490). -/
def State.wakeEdge (s : State) (i : Nat) (level : Bool) : State :=
  if 4 ≤ i ∨ s.wake.getLsbD i = level then s
  else
    let s := { s with wake := s.wake ^^^ BitVec.ofNat 4 (2 ^ i) }
    if s.wkOn i = false ∨ (s.wkEdge i).testBit (if level then 0 else 1) = false then s else s.wakeSource i 0 (s.wkLead i)

/-- The CAN0 transceiver in Listen: a frame, the frame-error count (1) or the wake-up pattern (2) (R488). -/
def State.canWake (s : State) (cause : Nat) (f : CanFrame) : State :=
  let w (i : Nat) : Word := s.pwr.swk.getD i 0
  let ctl := w 0
  let hit := ((f.data.take 8).zipIdx).any fun e => e.1.toNat &&& fldOf (w (4 + e.2 / 4)) (8 * (e.2 % 4) + 7) (8 * (e.2 % 4)) != 0
  let ok :=
    if cause = 0 then
      ctl.getLsbD 0 && !f.fdf && f.ide == (w 1).getLsbD 29 && decide ((w 1 ^^^ BitVec.ofNat 32 f.id) &&& w 2 &&& 0x1FFFFFFF = 0) &&
        f.dlc == fldOf (w 3) 3 0 && hit
    else if cause = 1 then ctl.getLsbD 0 else decide (cause = 2) && ctl.getLsbD 1
  if ok = false ∨ s.sleepAt 3 = false ∨ s.f pgPWR 0x048 1 1 = 0 then s else s.wakeSource 5 cause 0

/-- LIN in Listen: a dominant level of 150 µs or more (R489). -/
def State.linWake (s : State) : State := if s.sleepAt 3 = false ∨ s.f pgPWR 0x048 2 2 = 0 then s else s.wakeSource 6 0 0

/-- The RTC counts a second and advances SEC_TIME (R514). -/
def State.rtcTick (s : State) : State :=
  if s.pwr.rtcOn = false then s
  else (s.updPwr fun p => { p with rtc := p.rtc + 1 }).w pgSEC 0x048 (s.r pgSEC 0x048 + 1)

/-- PWR_RTC equals PWR_RTCALM. -/
def State.rtcAlarm (s : State) : State :=
  if s.pwr.rtc = s.r pgPWR 0x050 ∧ s.sleepAt 2 = true ∧ s.f pgPWR 0x048 0 0 = 1 ∧ s.pwr.rtcOn = true then s.wakeSource 4 0 0 else s

/-- The ROM gives up after 10 s without an unlock: with a wake source at hand it requests Deep Rest (14 R361). -/
def State.bootGiveUp (s : State) : State :=
  match s.sec.winSince with
  | none => s
  | some t =>
    if s.time < t + 8000000000 then s
    else
      let s := s.updSec fun x => { x with winSince := none, booted := true }
      let s := if s.r pgGPIO 0x100 &&& 0xF ≠ 0 then s else s.w pgGPIO 0x100 0xFF0F
      (s.updPwr fun p => { p with wkCtrl := s.r pgGPIO 0x100, wkFilt := s.r pgGPIO 0x104 }).pwrSleep 1

/-- The CAN0 and GPIO pages copy their wake settings to ALWAYS at a commit (R488, R490). -/
def State.alwaysCan (s : State) : State :=
  s.updPwr fun p => { p with swk := [0x900, 0x904, 0x908, 0x90C, 0x910, 0x914].map fun o => s.a (pgCAN 0) o }
def State.alwaysWake (s : State) : State := s.updPwr fun p => { p with wkCtrl := s.r pgGPIO 0x100, wkFilt := s.r pgGPIO 0x104 }

/-! ### Domains (R518 to R521) -/

/-- A domain leaves Run: its blocks stop. -/
def State.domLeave (s : State) (d : Nat) : State :=
  if 2 ≤ d ∧ d ≤ 5 then s.waitPause (d - 2)
  else if d = 6 then s.grvPause else if d = 7 then s.camLeave else if d = 8 then s.skpStop else if d = 9 then s.dispLeave else s

/-- A domain reaches Off: its blocks, registers and memories lose their state (03 R92). -/
def State.domOff (s : State) (d : Nat) : State :=
  let s :=
    if 2 ≤ d ∧ d ≤ 5 then ((s.coreReset (d - 2)).sf pgRST 0x048 (d - 2) (d - 2) 0).loseRegion (4 + (d - 2))
    else if d = 6 then s.ldOff
    else if d = 7 then ((s.capReset 0).capReset 1).ispReset
    else if d = 8 then s.scnReset.sillReset
    else if d = 9 then
      { s with dps := [Dp.zero, Dp.zero], icv := ⟨false, false⟩, clk := { s.clk with ppll0 := false, ppll1 := false } }.loseRegion 2
    else if d = 10 then s.lanesOff
    else if d = 11 then s.loseRegion 9
    else s
  let eb := s.f pgSILL 0x044 0 0
  let s := (domPages s.grade d).foldl (fun s p => s.clearPage p true fun o => p == pgSILL && ebReg o) s
  if d = 6 then s.grvFromOff else if d = 8 then s.sf pgSILL 0x044 0 0 eb else s

/-- A domain reaches Run. -/
def State.domWakeUp (s : State) (d : Nat) : State :=
  if 2 ≤ d ∧ d ≤ 5 then
    (if s.f pgRST 0x048 (d - 2) (d - 2) = 1 ∧ (s.cores.getD (d - 2) CoreSt.zero).inReset = true then s.coreRelease (d - 2) else s.waitResume (d - 2))
  else if d = 6 then s.grvResume
  else s

/-- A transition completes: STATE changes and DOMCHG is raised (R518); a request that waited for the wake then starts (R520). -/
def State.domArrive (s : State) (d : Nat) (dst : PState) : State :=
  let was := s.dom d
  let s := s.updDom d fun x => { x with st := dst, tgt := none }
  let s := if was = .run ∧ dst ≠ .run then s.domLeave d else s
  let s := if dst = .off ∧ was ≠ .off then s.domOff d else s
  let s := if dst = .run ∧ was ≠ .run then s.domWakeUp d else s
  s.ev pgPWR 3

/-- After the held requests have passed, a request that waited for the wake starts. -/
def State.domNext (s : State) (d : Nat) : State :=
  s.updDom d fun x => if x.tgt = none then { x with tgt := x.after, after := none } else x

/-- Whether domain `d`'s transition can complete by itself; DRAM leaves Off through its training (R524). -/
def State.domDue (s : State) (d : Nat) : Option PState :=
  let x := s.doms.getD d Dom.off
  if s.domRun 1 = false ∨ 12 ≤ d then none
  else match x.tgt with
    | none => none
    | some t => if d = 11 ∧ x.st = .off ∧ t = .run then none else some t

/-- Why a domain request is refused (R519). -/
def State.domReason (s : State) (d req : Nat) : Option Nat :=
  let others := (List.range 10).any fun i => s.dom (i + 2) == .run || s.dom (i + 2) == .doze
  if d ≤ 1 ∧ req ≠ 0 ∧ others = true then some 4
  else if d = 9 ∧ req ≠ 0 ∧ s.ttgWatch = true then some 5
  else if d = 5 ∧ s.grade = .zm810 then some 6
  else if d ≤ 1 ∧ req ≠ 0 then some 7
  else none

/-- A write of PWR_DOMd; from Off or Rest the way to Doze, and from Off to Rest, leads through Run (R518). -/
def State.pwrDomWrite (s : State) (d : Nat) (v : Word) : State :=
  let o := 0x080 + 4 * d
  let req := fldOf v 1 0
  match s.domReason d req with
  | some r => s.err pgPWR 0x1050 r
  | none =>
    let bad := fldOf v 27 16 == 0
    let m : Word := if bad then 0x00000303 else 0x0FFF0303
    let s := s.w pgPWR o ((s.r pgPWR o &&& ~~~m) ||| (v &&& m))
    let s := if bad then s.errValue pgPWR o else s
    let dst := PState.ofCode req
    let x := s.doms.getD d Dom.off
    if x.tgt = some .run ∧ dst ≠ .run then s.updDom d fun x => { x with after := some dst }
    else if (x.st = .off ∨ x.st = .rest) ∧ dst ≠ .off ∧ dst ≠ .run ∧ x.st ≠ dst then
      s.updDom d fun x => { x with tgt := some .run, after := some dst, woken := false }
    else if x.tgt = none ∧ x.st = dst then s.updDom d fun x => { x with woken := false }
    else s.updDom d fun x => { x with tgt := some dst, after := none, woken := false }

/-- Whether a domain has active work (R521). -/
def State.domBusy (s : State) (d : Nat) : Bool :=
  (if 2 ≤ d ∧ d ≤ 5 then (s.cores.getD (d - 2) CoreSt.zero).run
   else if d = 6 then decide (s.f pgGRV 0x044 3 0 < 8)
   else if d = 7 then s.caps.any fun c => c.any fun x => x.op
   else if d = 9 then s.dps.any fun x => x.run
   else if d = 10 then s.lanes.any fun l => l.st == .run
   else false) ||
  ((List.range 26).any fun n => niDom n == d && (!(s.ni n).held.isEmpty || !(s.ni n).out.isEmpty))

/-- An AUTO domain that a wake brought to Run has been idle for IDLE µs (R521). -/
def State.domIdle (s : State) (d : Nat) : State :=
  let x := s.doms.getD d Dom.off
  if s.domRun 1 = false ∨ d < 2 ∨ 12 ≤ d ∨ x.st ≠ .run ∨ x.tgt ≠ none ∨ x.woken = false ∨ s.f pgPWR (0x080 + 4 * d) 8 8 = 0 ∨ s.domBusy d = true then s
  else
    let c := s.f pgPWR (0x080 + 4 * d) 9 9 + 1
    (s.sf pgPWR (0x080 + 4 * d) 1 0 c).updDom d fun x => { x with tgt := some (PState.ofCode c), woken := false }

/-! ### DRAM (R524, R525) -/

/-- DRAM reaches Run: `code` is the die temperature code now, `crc` the CRC-32 of the set a full training makes. -/
def State.dramTrained (s : State) (code crc : Nat) : State :=
  let x := s.doms.getD 11 Dom.off
  if s.domRun 1 = false ∨ x.st ≠ .off ∨ x.tgt ≠ some .run then s
  else
    let t := 8 * s.f pgDRAM 0x044 15 8
    let ok := match s.pwr.train with
      | some (_, c) => decide (c ≤ code + t) && decide (code ≤ c + t) && s.f pgDRAM 0x044 0 0 == 0
      | none => false
    let s := if ok then s else s.updPwr fun p => { p with train := some (crc, code) }
    let set := s.pwr.train.getD (0, 0)
    let s := (s.sf pgDRAM 0x040 2 1 (if ok then 1 else 2)).w pgDRAM 0x048 (BitVec.ofNat 32 (set.1 % 65536 + set.2 % 65536 * 65536))
    let s := s.domArrive 11 .run
    if ok then s else s.ev pgDRAM 0

/-- A DRAM_REF event opens a window of `arg` lines, and `n` owed refreshes are placed in it. -/
def State.dramRef (s : State) (arg n : Nat) : State :=
  if s.domRun 11 = false then s
  else (((s.evArrive 7 0 arg).updPwr fun p => { p with refWin := some (arg % 256) })).cntUp pgDRAM 0x04C 15 0 n

/-- Eight refreshes are owed and no window is open: `n` are made at once. -/
def State.dramForced (s : State) (n : Nat) : State :=
  if s.domRun 11 = false ∨ s.pwr.refWin.isSome = true then s
  else ((s.cntUp pgDRAM 0x04C 31 16 n).ev pgDRAM 1).err pgDRAM 0x3C10 0

/-- A line start has passed. -/
def State.dramLine (s : State) : State :=
  s.updPwr fun p => { p with refWin := p.refWin.bind fun k => if k ≤ 1 then none else some (k - 1) }

/-! ### Watchdog (R531) -/

def State.wdMs (s : State) : Nat := (s.time - s.pwr.wdAt) / 800000
def State.wdRestart (s : State) (at_ : Nat) : State := s.updPwr fun p => { p with wdAt := at_, wdLen := s.f pgWDG 0x040 31 16 }

/-- A write of WD_CTRL. -/
def State.wdCtrl (s : State) (v : Word) : State :=
  let en := s.f pgWDG 0x040 0 0 == 1
  let bad := fldOf v 31 16 == 0
  let s' := if bad then s.errValue pgWDG 0x040 else s.sf pgWDG 0x040 31 16 (fldOf v 31 16)
  if en then (if fldOf v 1 0 = s.f pgWDG 0x040 1 0 then s' else s'.errLocked pgWDG 0x040)
  else
    let s' := s'.sf pgWDG 0x040 1 0 (fldOf v 1 0)
    if fldOf v 0 0 = 1 then s'.wdRestart s.time else s'

/-- A write of WD_KICK. -/
def State.wdKick (s : State) (v : Word) : State :=
  if v = 0xA5 ∧ s.pwr.wdOpen = false then s.updPwr fun p => { p with wdOpen := true }
  else if v = 0x5A ∧ s.pwr.wdOpen = true then (s.updPwr fun p => { p with wdOpen := false }).wdRestart s.time
  else (s.updPwr fun p => { p with wdOpen := false }).ev pgWDG 1

/-- The count reaches 0. -/
def State.wdExpire (s : State) : State :=
  if s.domRun 1 = false ∨ s.f pgWDG 0x040 0 0 = 0 ∨ s.wdMs < s.pwr.wdLen then s
  else
    let s := (s.ev pgWDG 0).err pgWDG 0x3090 0
    if s.f pgWDG 0x040 1 1 = 0 then s.sysReset 3 else s.wdRestart (s.pwr.wdAt + 800000 * s.pwr.wdLen)

def State.wdWrite (s : State) (o : Nat) (v : Word) : State :=
  if o = 0x040 then s.wdCtrl v else if o = 0x044 then s.wdKick v else s.plain pgWDG o v

def State.wdRead (s : State) (o : Nat) : Word :=
  if o = 0x048 then BitVec.ofNat 32 (if s.f pgWDG 0x040 0 0 = 1 then s.pwr.wdLen - s.wdMs else 0) else s.r pgWDG o

/-! ### The RST and PWR pages (R529, R530) -/

/-- RELc of one core. -/
def State.relWrite (s : State) (c : Nat) (v : Bool) : State :=
  let old := s.f pgRST 0x048 c c == 1
  if corePresent s.grade c = false ∨ v = old then s
  else if v then
    if s.ten.locked = false ∨ s.coreTnt c = none then s.errLocked pgRST 0x048
    else
      let s := s.sf pgRST 0x048 c c 1
      if s.domRun (2 + c) then s.coreRelease c else s
  else (s.sf pgRST 0x048 c c 0).coreReset c

/-- A write of RST_CORE. -/
def State.rstCore (s : State) (v : Word) : State := (List.range 4).foldl (fun s c => s.relWrite c (v.getLsbD c)) s

def State.rstWrite (s : State) (o : Nat) (v : Word) : State :=
  if o = 0x044 then
    let s := if fldOf v 8 8 = 1 then s.updPwr fun p => { p with rst := 0 } else s
    if fldOf v 0 0 = 1 then s.sysReset 2 else s
  else if o = 0x048 then s.rstCore v
  else s.plain pgRST o v

def State.rstRead (s : State) (o : Nat) : Word := if o = 0x040 then BitVec.ofNat 32 s.pwr.rst else s.r pgRST o

/-- Quiet Run (R513). -/
def State.quiet (s : State) : Bool :=
  s.domRun 0 && s.domRun 1 && s.dom 11 == .rest && (List.range 9).all fun i => s.dom (i + 2) == .rest || s.dom (i + 2) == .off

def State.pwrWrite (s : State) (o : Nat) (v : Word) : State :=
  if o = 0x040 then s.pwrSleep (fldOf v 1 0)
  else if 0x080 ≤ o ∧ o < 0x0B0 ∧ o % 4 = 0 then s.pwrDomWrite ((o - 0x080) / 4) v
  else s.plain pgPWR o v

def State.pwrRead (s : State) (o : Nat) : Word :=
  if o = 0x044 then
    BitVec.ofNat 32 (b2n s.pwr.lowL + 2 * b2n (s.pwr.shedL || s.pwr.ovL) + 4 * b2n s.pwr.ovL + 8 * b2n s.quiet + 16 * b2n s.pwr.rtcv + 32 * b2n s.pwr.entering.isSome)
  else if o = 0x04C then s.pwr.rtc
  else if o = 0x054 then BitVec.ofNat 32 s.pwr.wcause
  else if 0x080 ≤ o ∧ o < 0x0B0 ∧ o % 4 = 0 then
    let x := s.doms.getD ((o - 0x080) / 4) Dom.off
    setFldOf (setFldOf (s.r pgPWR o) 5 4 x.st.code) 6 6 (b2n x.tgt.isSome)
  else s.r pgPWR o

def State.dramRead (s : State) (o : Nat) : Word := if o = 0x040 then setFldOf (s.r pgDRAM o) 0 0 (b2n (s.domRun 11)) else s.r pgDRAM o

/-- The last active pixel of DP0's first frame has left (R527, R529). -/
def State.firstFrame (s : State) : State :=
  match s.pwr.edge with
  | none => s
  | some e => (s.w pgPWR 0x058 (BitVec.ofNat 32 (min ((s.time - e.1 + e.2) / 800) 0xFFFFF))).updPwr fun p => { p with edge := none }

/-- TIME_SET makes the time valid: the RTC runs and is valid (R514). -/
def State.rtcStart (s : State) : State := s.updPwr fun p => { p with rtcOn := true, rtcv := true }

end Sys2Proof.Machine
end

