-- ==== Sys2Proof/Machine/Symbols.lean ====
section
/-! DEFINITION. Machine/Symbols.lean: the symbols of a lane and their 8b/10b code groups (17 R454, R455). The code's tables are
not in the spec (PRESUMED, log entry 111). -/

namespace Sys2Proof.Machine

/-- A symbol: a data byte, or a control symbol by its byte (17 R455). -/
inductive LSym where
  | d (b : Nat)
  | k (b : Nat)
  deriving DecidableEq, Repr

abbrev symCOM : LSym := .k 0xBC
abbrev symTRN : LSym := .k 0x3C
abbrev symSOP : LSym := .k 0xFB
abbrev symEOP : LSym := .k 0xFD
abbrev symLCS : LSym := .k 0x7C
abbrev symEIE : LSym := .k 0xFE
abbrev symDRM : LSym := .k 0xF7

/-- K28.5 D10.2. -/
def idleSet : List LSym := [symCOM, .d 0x4A]

/-- A training burst: 64 symbols. -/
def trainingBurst : List LSym := List.replicate 8 symTRN ++ (List.replicate 28 idleSet).flatten

/-- What a low-power entry sends before the transmitter stops (17 R460). -/
def lpEntry (dormant : Bool) : List LSym := List.replicate 4 (if dormant then symDRM else symEIE)

/-- The symbols of a unit (17 R464, R469, R470). -/
def LUnit.syms : LUnit → List LSym
  | .pkt b _ => symSOP :: (b.map fun x => LSym.d x.toNat) ++ [symEOP]
  | .ctl b => symLCS :: b.map fun x => LSym.d x.toNat

/-- 5b/6b code at negative disparity, the bit sent first highest. -/
def code6 : List Nat :=
  [0b100111, 0b011101, 0b101101, 0b110001, 0b110101, 0b101001, 0b011001, 0b111000,
   0b111001, 0b100101, 0b010101, 0b110100, 0b001101, 0b101100, 0b011100, 0b010111,
   0b011011, 0b100011, 0b010011, 0b110010, 0b001011, 0b101010, 0b011010, 0b111010,
   0b110011, 0b100110, 0b010110, 0b110110, 0b001110, 0b101110, 0b011110, 0b101011]

/-- 3b/4b code at negative disparity, of data and of control symbols. -/
def code4d : List Nat := [0b1011, 0b1001, 0b0101, 0b1100, 0b1101, 0b1010, 0b0110, 0b1110]
def code4k : List Nat := [0b1011, 0b0110, 0b1010, 0b1100, 0b1101, 0b0101, 0b1001, 0b0111]

/-- Ones among the low `n` bits. -/
def onesOf (n x : Nat) : Nat := (List.range n).foldl (fun a i => a + x / 2 ^ i % 2) 0

/-- The block of `n` bits at a disparity: complemented at positive disparity where it is unbalanced or `alt`; and the disparity
after it. -/
def subBlock (n : Nat) (rd alt : Bool) (x : Nat) : Nat × Bool :=
  let bal := decide (2 * onesOf n x = n)
  (if rd && (!bal || alt) then 2 ^ n - 1 - x else x, if bal then rd else !rd)

/-- The code group of a symbol, its first bit highest, and the running disparity after it (true: positive). -/
def codeGroup (rd : Bool) (y : LSym) : Nat × Bool :=
  let b := match y with | .d b => b | .k b => b
  let ctl := match y with | .d _ => false | .k _ => true
  let x := b % 32
  let z := b / 32 % 8
  let a := subBlock 6 rd (x == 7 && !ctl) (if ctl && x == 28 then 0b001111 else code6.getD x 0)
  let a7 := z == 7 && (if a.2 then [11, 13, 14].contains x else [17, 18, 20].contains x)
  let c :=
    if ctl then subBlock 4 a.2 true (code4k.getD z 0)
    else subBlock 4 a.2 (z == 3) (if a7 then 0b0111 else code4d.getD z 0)
  (a.1 * 16 + c.1, c.2)

/-- The code groups of symbols from a running disparity; a training burst starts at negative disparity (17 R454). -/
def codeGroups : Bool → List LSym → List Nat
  | _, [] => []
  | rd, y :: t => let r := codeGroup rd y; r.1 :: codeGroups r.2 t

/-- The code groups of what lane `n` sent last, from the disparity `rd`. -/
def State.laneGroups (s : State) (n : Nat) (rd : Bool) : List Nat := codeGroups rd ((s.ln n).sent.flatMap LUnit.syms)

/-- Symbols of the LANE resource that a unit takes (17 R454). -/
def LUnit.cost (u : LUnit) : Nat := u.syms.length

end Sys2Proof.Machine
end

