-- ==== Sys2Proof/Machine/Pages.lean ====
section
/-! DEFINITION. Machine/Pages.lean: accesses to register pages: the gate (03 R72, R74, R82, R93), the common header (R75 to R77,
R80, R87), commits (R78 to R81) and soft resets (R93, R568). -/

namespace Sys2Proof.Machine

/-! ### The common header (R75 to R77) -/

/-- Pages that ignore EN (R76). -/
def ignoresEn (p : Nat) : Bool := p == pgSYS || p == pgLTB || p == pgTEN || p == pgEVR || p == pgRST

/-- PG_ID.INST: the number in the page's name. A router's name is its place (x, y) and gives none: it shows its page index less
0x010 (DESIGN CHOICE, log entry 6). -/
def pageInstOf (p : Nat) : Nat :=
  if 0x010 ≤ p ∧ p < 0x020 then p - 0x010
  else if 0x020 ≤ p ∧ p < 0x030 then p - 0x020
  else if 0x030 ≤ p ∧ p < 0x03A then (Config.pageInst p).toNat
  else if 0x050 ≤ p ∧ p < 0x054 then p - 0x050
  else if 0x061 ≤ p ∧ p < 0x069 then p - 0x061
  else if p = 0x071 ∨ p = 0x0A1 ∨ p = 0x0D1 ∨ p = 0x0D5 ∨ p = 0x0D8 then 1
  else if p = 0x0D6 then 2
  else if 0x0C0 ≤ p ∧ p < 0x0CC then (p - 0x0C0) % 4
  else 0

/-- EN of a page as it reads. -/
def State.pageEn (s : State) (p : Nat) : Bool :=
  if ignoresEn p then s.domRun 1 else s.f p 0x00C 0 0 == 1

/-- A read in the common header. -/
def State.headRead (s : State) (p o : Nat) : Word :=
  if o = 0x000 then
    BitVec.ofNat 32 (2 ^ 31 + pageInstOf p * 2 ^ 24 + (Config.pageType p).toNat * 2 ^ 16 + pageFamily p * 2 ^ 12 + p)
  else if o = 0x004 then BitVec.ofNat 32 (0xB000 + (Config.pageRev p).toNat)
  else if o = 0x008 then
    BitVec.ofNat 32 (b2n s.ten.locked * 2 ^ 9 + b2n (fixedOwner p || s.ten.locked) * 2 ^ 8 + s.owner p)
  else if o = 0x00C then BitVec.ofNat 32 (b2n (s.pageEn p))
  else if o = 0x010 then
    let d := blockDom p
    BitVec.ofNat 32 (b2n (decide (s.f p 0x028 15 0 ≠ 0)) * 2 ^ 8 + b2n (s.srst.contains p) * 2 ^ 4 + (s.dom d).code * 2 ^ 2 +
      b2n (if ignoresEn p then s.domRun 1 else s.pageEn p && s.domRun d))
  else if o = 0x01C then s.evPend p
  else if o = 0x014 ∨ o = 0x018 ∨ o = 0x020 ∨ o = 0x024 ∨ o = 0x028 ∨ o = 0x02C then s.r p o
  else 0

/-! ### Commits (R78 to R81) -/

/-- The offsets of the MX geometry, whose active copies change only as 16 R424 says. -/
def mxGeom (k : Nat) : Bool := k == rkey pgMX 0x040 || k == rkey pgMX 0x044 || k == rkey pgMX 0x048

/-- Every pending RWS value of the page becomes active; other active copies, such as the Line Event Table's, stay (R78, 02 R60). -/
def State.commitRegs (s : State) (p : Nat) : State :=
  let isSh (k : Nat) : Bool :=
    k / 4096 == p && !mxGeom k && (match (pageBlk s.grade p).bind fun b => findRow b (k % 4096) with
      | some r => decide (r.sh ≠ 0)
      | none => false)
  let mine := s.regs.filter fun e => isSh e.1
  let s := { s with act := s.act.filter fun e => !isSh e.1 }
  mine.foldl (fun s e => s.wa p (e.1 % 4096) e.2) s

/-- What a commit makes the block behind the page do. -/
def State.commitHook (s : State) (p : Nat) (lane prbs : Word) : State :=
  match blkOf p with
  | some .ltb => s.updLtb fun l => { l with mcommit := true }
  | some .mx => s.mxCommit
  | some .lane => s.laneCommit (p - 0x0C0) lane prbs
  | some .can => let s := s.canCommit (p - 0x0D0); if p = 0x0D0 then s.alwaysCan else s
  | some .gpio => s.alwaysWake
  | some .lin => s.linCommit
  | _ => s

/-- One commit: PEND clears, CMT_CNT counts and CMT is set (R77, R80). -/
def State.commitPage (s : State) (p : Nat) : State :=
  let lane := s.a p 0x040
  let prbs := s.a p 0x060
  let s := s.commitRegs p
  let s := (s.sf p 0x024 0 0 0).cntWrap p 0x024 23 16
  (s.ev p 30).commitHook p lane prbs

/-- A write of SH_COMMIT (R80). MODE 0 disarms, 1 commits and disarms, 2 and 3 arm. -/
def State.shWrite (s : State) (p : Nat) (v : Word) : State :=
  let auto := fldOf v 9 8
  let s := if auto = 3 then s.errValue p 0x020 else s.sf p 0x020 9 8 auto
  let mode := fldOf v 1 0
  if mode = 1 then (s.commitPage p).sf p 0x024 2 1 0
  else s.sf p 0x024 2 1 mode

/-- Whether the page commits at a frame boundary, and at a COMMIT event (R80, R81). -/
def State.frameArmed (s : State) (p : Nat) : Bool :=
  s.domRun (blockDom p) && (s.f p 0x024 2 1 == 3 || s.f p 0x020 9 8 == 1)

def State.eventArmed (s : State) (p : Nat) : Bool :=
  s.domRun (blockDom p) && (s.f p 0x024 2 1 == 2 || s.f p 0x020 9 8 == 2)

/-- A commit that consumes the arm of kind `k`, if that is the one held. -/
def State.commitArm (s : State) (p k : Nat) : State :=
  let s := if s.f p 0x024 2 1 = k then s.sf p 0x024 2 1 0 else s
  s.commitPage p

/-- The commits of a frame boundary. -/
def State.frameCommits (s : State) : State :=
  let ps := (List.range 224).filter fun p => (pageBlk s.grade p).isSome && !s.srst.contains p && s.frameArmed p
  ps.foldl (fun s p => s.commitArm p 3) s

/-- A COMMIT line event reaches page `p`. -/
def State.commitEvent (s : State) (p : Nat) : State :=
  let s := s.evArrive 9 p 0
  if (pageBlk s.grade p).isSome = true ∧ s.srst.contains p = false ∧ s.eventArmed p = true then s.commitArm p 2 else s

/-! ### Soft reset (R93, R568) -/

/-- The registers a soft reset of a page keeps beside the locked RWL fields (R568). -/
def srstKeep (b : Blk) (o : Nat) : Bool :=
  o == 0x00C ||
  match b with
  | .ltb => o == 0x044 || o == 0x054 || o == 0x064
  | .adm => o == 0x048
  | .ten => decide (0x060 ≤ o) && decide (o < 0x0A0)
  | .pwr => o == 0x048 || o == 0x050 || (decide (0x080 ≤ o) && decide (o < 0x0B0))
  | .rst => o == 0x048
  | .wdg => o == 0x040
  | .sec => decide (0x040 ≤ o) && (match findRow .sec o with | some r => r.rw ||| r.sh ||| r.wc == 0 | none => true)
  | .svc => decide (0x040 ≤ o) && (match findRow .svc o with | some r => r.rw ||| r.sh ||| r.wc == 0 | none => true)
  | .secin => decide (0x040 ≤ o)
  | .seck => decide (0x040 ≤ o) && (match findRow .seck o with | some r => r.rw ||| r.sh ||| r.wc == 0 | none => true)
  | .ttg => decide (0x100 ≤ o) && decide (o < 0x600) && (match findRow .ttg o with | some r => r.rw ||| r.sh == 0 | none => true)
  | .icv => o == 0x044 || o == 0x048
  | .grv => o == 0x044
  | .gctx => o == 0x040
  | _ => false

/-- The work in progress of the block behind page `p` is abandoned (R568). -/
def State.blockReset (s : State) (p : Nat) (b : Blk) : State :=
  match b with
  | .ltb => (s.sf pgLTB 0x044 8 7 0).updLtb fun l => { l with
      staged := [], fired := [], evs := [], pers := [], mcommit := false, trk0 := ⟨0, 0, 0, false, []⟩, trk1 := ⟨0, 0, 0, false, []⟩ }
  | .adm => { s with adm := { s.adm with
      staged := s.adm.staged.filter fun e => s.admPending e.1, lastOk := 0, lastRef := 0, seqs := List.replicate 16 0 } }
  | .ten => { s with ten := { s.ten with recs := [], vovf := false, lockFail := false, checking := false } }
  | .router => { s with welt := { s.welt with
      arbs := s.welt.arbs.filter fun a => a.out / 8 != p - 0x010,
      flight := s.welt.flight.filter fun f => !f.inRouter (p - 0x010) } }
  | .ni => s.updNi (p - 0x020) fun _ => NiSt.zero
  | .prb => { s with welt := { s.welt with trcBuf := [], trcQ := [], trcOvf := 0 } }
  | .awl => { s with awl := List.replicate 4 AwlInj.zero }
  | .core => if p = 0x054 then (s.coreReset 4).coreRelease 4 else (s.coreReset (p - 0x050)).sf pgRST 0x048 (p - 0x050) (p - 0x050) 0
  | .ald => if 1 ≤ s.ald.phase ∧ s.ald.phase ≤ 3 then s.loadRefuse ⟨20, 0, 0, 0, 0⟩ else s
  | .cap => s.capReset (p - 0x070)
  | .isp => s.ispReset
  | .scn => s.scnReset
  | .sill => s.sillReset
  | .seck => (s.updSec fun x => { x with kop := none }).engLeave .keeper
  | .ld => s.updLight fun l => { l with pwm := l.pwm.zipIdx.map fun e => if e.2 < 16 then { PwmT.zero with dark := e.1.dark, hush := e.1.hush } else e.1 }
  | .mx => s.updLight fun l => { l with
      pwm := (l.pwm.zipIdx.map fun e => if e.2 = 16 then { PwmT.zero with dark := e.1.dark, hush := e.1.hush } else e.1), rowOff := 0 }
  | .bld => s.updLight fun l => { l with scan := none }
  | .cal => s.updLight fun l => { l with calPend := [] }
  | .fg => s.updLight fun l => { l with clrPend := 0 }
  | .lace => s.laceReset
  | .lane => s.laneReset (p - 0x0C0)
  | .link => s.linkReset (p - 0x0C4)
  | .pane => s.paneReset (p - 0x0C8)
  | .can => s.vehReset b p
  | .lin => s.vehReset b p
  | .adc => s.vehReset b p
  | .i2c => s.vehReset b p
  | .spi => s.vehReset b p
  | .xspi => s.vehReset b p
  | .pwr => s.updPwr fun x => { x with wcause := 0 }
  | .wdg => s.updPwr fun x => { x with wdOpen := false }
  | .dram => s.updPwr fun x => { x with refWin := none }
  | _ => s

/-- A write of 1 to SRST: BUSY is set, the block gives up its work, and the page's registers take their reset values; a Seam
fault stays, and so does what EB_CTRL.LOCK locked. -/
def State.softReset (s : State) (p : Nat) : State :=
  match pageBlk s.grade p with
  | none => s
  | some b =>
    let geom := s.act.filter fun e => mxGeom e.1 && b == .mx
    let s := s.blockReset p b
    let fault := p == pgSYS && s.f pgSYS 0x028 15 0 == 0x6010
    let eb := s.f pgSILL 0x044 0 0
    let s := s.clearPage p s.ten.locked fun o => srstKeep b o || (fault && (o == 0x028 || o == 0x02C)) ||
      (b == .sill && eb == 1 && ebReg o) || (b == .ald && o == 0x044 && decide (4 ≤ s.ald.phase) && decide (s.ald.phase ≤ 6))
    let s := if b = .sill then s.sf pgSILL 0x044 0 0 eb else s
    let s := geom.foldl (fun s e => s.wa pgMX (e.1 % 4096) e.2) s
    if s.srst.contains p then s else { s with srst := s.srst ++ [p] }

/-- A write of PG_CTRL: EN, then SRST. -/
def State.pgCtrl (s : State) (p : Nat) (v : Word) : State :=
  let was := s.f p 0x00C 0 0
  let s := if ignoresEn p then s else s.sf p 0x00C 0 0 (fldOf v 0 0)
  let s := if (p = 0x0A0 ∨ p = 0x0A1) ∧ was = 1 ∧ fldOf v 0 0 = 0 then s.dpStop (p - 0x0A0) else s
  if fldOf v 1 1 = 1 then s.softReset p else s

/-- A write in the common header. -/
def State.headWrite (s : State) (p o : Nat) (v : Word) : State :=
  if o = 0x00C then s.pgCtrl p v
  else if o = 0x014 then s.w p o (s.clearW1 p o (s.r p o) v 0xFFFFFFFF)
  else if o = 0x018 then s.w p o v
  else if o = 0x020 then s.shWrite p v
  else if o = 0x028 then (if v.getLsbD 31 then (s.w p 0x028 0).w p 0x02C 0 else s)
  else s

/-- The JTAG register IDCODE: stepping B0, SYS_PART.PART, the code of Kerdoroth and a 1 (21 R558). -/
def State.idcode (s : State) : Word := BitVec.ofNat 32 ((if s.grade = .zm816 then 0x0816 else 0x0810) * 2 ^ 12 + 0x25B * 2 ^ 1 + 1)

/-! ### The registers of each block -/

/-- A write of block register `o` of page `p` by tenant `t` through NI `n`. -/
def State.blockWrite (s : State) (b : Blk) (t n p o : Nat) (v : Word) : State :=
  match b with
  | .sys => s
  | .ltb => s.ltbWrite t o v
  | .adm =>
    if o = 0x040 then s.wdMask (fldOf v 15 0)
    else if o = 0x04C then s.capSelWrite v
    else if 0x400 ≤ o ∧ o < 0x800 ∧ o % 0x40 = 0x10 then s.cpCmd ((o - 0x400) / 0x40) v
    else if 0x400 ≤ o ∧ o < 0x800 ∧ o % 0x40 < 0x10 then s.cpStage ((o - 0x400) / 0x40) o v
    else s.plain pgADM o v
  | .ten => s.tenWrite o v
  | .pwr => s.pwrWrite o v
  | .clk => s
  | .rst => s.rstWrite o v
  | .evr => if 0x400 ≤ o ∧ o < 0x780 then s.evrRouteWrite t ((o - 0x400) / 4) v else s
  | .wdg => s.wdWrite o v
  | .router => s.routerWrite (p - 0x010) o v
  | .ni => s.niWrite (p - 0x020) o v
  | .prb => s.prbWrite o v
  | .stat => s.plain pgSTAT o v
  | .awl => s.awlWrite o v
  | .core => s.coreWrite (p - 0x050) o v
  | .grv => s.grvWrite t o v
  | .gctx => s.gctxWrite (p - 0x061) o v
  | .ald => s.aldWrite t o v
  | .cap => s.capRegWrite (p - 0x070) o v
  | .isp => s.ispRegWrite o v
  | .isp1 => s.plain p o v
  | .isp2 => s.plain p o v
  | .isp3 => s.plain p o v
  | .scn => s.scnRegWrite o v
  | .sill => s.sillWrite t o v
  | .sec => s.secWrite t o v
  | .svc => s.svcWrite o v
  | .secin => s
  | .seck => s.seckWrite o v
  | .dp => s.dpWrite (p - 0x0A0) o v
  | .ttg => s.ttgWrite t o v
  | .icv => s.icvWrite o v
  | .ld => s.ldWrite o v
  | .mx => s.plain pgMX o v
  | .bld => s.bldWrite o v
  | .cal => s.calRegWrite o v
  | .fg => s.fgWrite t n o v
  | .lace => s.laceWrite t n o v
  | .lane => s.laneWrite t (p - 0x0C0) o v
  | .link => s.linkWrite (p - 0x0C4) o v
  | .pane => s.paneWrite (p - 0x0C8) o v
  | .can => s.canWrite (p - 0x0D0) o v
  | .lin => s.linWrite o v
  | .adc => s.adcWrite o v
  | .i2c => s.i2cWrite (p - 0x0D4) o v
  | .spi => s.spiWrite (p - 0x0D7) o v
  | .xspi => s.xsWrite o v
  | .gpio => s.gpWrite t o v
  | .dram => s.plain pgDRAM o v

/-- A read of block register `o` of page `p`: what the read itself changes, and the word. -/
def State.blockRead (s : State) (b : Blk) (p o : Nat) : State × Word :=
  match b with
  | .sys =>
    (s, if o = 0x040 then (if s.grade = .zm816 then 0x00B00816 else 0x00B00810)
      else if o = 0x044 then (if s.grade = .zm816 then 0x0001FF8C else 0x00003788) else 0)
  | .ltb => if o = 0x048 then (s.posRead, s.ltbRead o) else (s, s.ltbRead o)
  | .adm =>
    (s, if o = 0x044 then s.admStat
      else if 0x050 ≤ o ∧ o ≤ 0x058 then s.admCapRead o
      else if 0x400 ≤ o ∧ o < 0x800 ∧ o % 0x40 = 0x14 then s.cpStat ((o - 0x400) / 0x40) else s.r pgADM o)
  | .ten => (s, s.tenRead o)
  | .pwr => (s, s.pwrRead o)
  | .clk => (s, 0)
  | .rst => (s, s.rstRead o)
  | .evr => (s, s.evrRead o)
  | .wdg => (s, s.wdRead o)
  | .router => (s, s.r p o)
  | .ni => (s, s.niRead (p - 0x020) o)
  | .prb => if o = 0x04C then (s.sf pgPRB 0x048 14 2 (s.f pgPRB 0x048 14 2 + 1), s.trcData) else (s, s.prbRead o)
  | .stat => (s, s.r p o)
  | .awl => (s, s.awlRead o)
  | .core => (s, s.coreRead (p - 0x050) o)
  | .grv => (s, s.grvRead o)
  | .gctx => (s, s.gctxRead (p - 0x061) o)
  | .ald => (s, s.r p o)
  | .cap => (s, s.capRead (p - 0x070) o)
  | .isp => (s, s.ispRead o)
  | .isp1 => (s, s.r p o)
  | .isp2 => (s, s.r p o)
  | .isp3 => (s, s.r p o)
  | .scn => (s, s.scnRead o)
  | .sill => (s, s.sillRead o)
  | .sec => (s, s.secRead o)
  | .svc => if o = 0x04C then s.svRnd else (s, s.r p o)
  | .secin => (s, if 0x800 ≤ o then 0 else s.r p o)
  | .seck => (s, s.r p o)
  | .dp => (s, s.dpRead (p - 0x0A0) o)
  | .ttg => (s, s.ttgRead o)
  | .icv => (s, s.r p o)
  | .ld => (s, s.ldRead o)
  | .mx => (s, s.mxRead o)
  | .bld => (s, s.bldRead o)
  | .cal => (s, s.calRead o)
  | .fg => (s, s.fgRead o)
  | .lace => if o = 0x058 then s.lacePop else (s, s.laceRead o)
  | .lane => s.laneRead (p - 0x0C0) o
  | .link => (s, s.linkRead (p - 0x0C4) o)
  | .pane => (s, s.paneRead (p - 0x0C8) o)
  | .can => (s, s.canRead (p - 0x0D0) o)
  | .lin => s.linRead o
  | .adc => s.adcRead o
  | .i2c => s.i2cRead (p - 0x0D4) o
  | .spi => s.spiRead (p - 0x0D7) o
  | .xspi => (s, s.xsRead o)
  | .gpio => (s, s.gpRead o)
  | .dram => (s, s.dramRead o)

/-- A write of a page that is present. -/
def State.pageWrite (s : State) (b : Blk) (t n p o : Nat) (v : Word) : State :=
  if o < 0x040 then s.headWrite p o v else s.blockWrite b t n p o v

/-- A read of a page that is present. -/
def State.pageRead (s : State) (b : Blk) (p o : Nat) : State × Word :=
  if o < 0x040 then (s, s.headRead p o) else s.blockRead b p o

/-! ### The gate (R72, R74, R82, R93) -/

/-- The block's answer to an access: to the mesh packet it came in, whose sequence the once window keeps (06 R150), or to the
sender itself. -/
def State.finish (s : State) (net : Option Pkt) (n : Nat) (st : Sts) (v : Word) (size : Nat) : State :=
  match net with
  | none => s.answer st v
  | some p =>
    let s := if p.h.once then s.updNi n fun x => { x with once := onceMark x.once p.h.src p.h.seq st.code } else s
    s.respond n p st false false (if st = .ok then (leBytes 4 v.toNat ++ List.replicate size 0).take size else [])

/-- The access waits at its page. -/
def State.hold (s : State) (a : Acc) (net : Option Pkt) : State := { s with waiting := s.waiting ++ [(a, net)] }

/-- Whether an access asks for the lock of the tenant table while it is open (04 R104, R106). -/
def State.asksLock (s : State) (b : Blk) (a : Acc) : Bool :=
  b == .ten && a.write && a.off == 0x040 && a.val.getLsbD 0 && !s.ten.locked

/-- The writes of TEN_CTRL.LOCK that wait for the outcome of the lock get their response (04 R105, R106). -/
def State.lockAnswer (s : State) : State :=
  s.lockWait.foldl (fun s e => s.finish e.2 ((niOfPage s.grade e.1.pg).getD 6) .ok 0 4) { s with lockWait := [] }

/-- An access reaches its page (R147 step 5 of chapter 06). An index with no page answers OK and zero. A page in soft reset holds
every access (R93). The intake region takes the scan engine's and the island's writes whoever owns it (14 R367); elsewhere the
page asks ownership first, then size, and holds a write of the tenant table while the lock checks run (04 R105). -/
def State.pageAccess (s : State) (a : Acc) (net : Option Pkt) : State :=
  let n := (niOfPage s.grade a.pg).getD 6
  let done (s : State) (st : Sts) (v : Word) : State := s.finish net n st v a.size
  match pageBlk s.grade a.pg with
  | none => done s .ok 0
  | some b =>
    let intake := b == .secin && decide (0x800 ≤ a.off) && a.write
    if s.srst.contains a.pg = true then s.hold a net
    else if intake = false ∧ s.pageAllows a = false then done (s.violation 7 a.tnt a.ni 0 (0x40000000 + a.pg * 4096 + a.off) true) .owner 0
    else if a.size ≠ 4 ∨ a.off % 4 ≠ 0 then done (s.errSize a.pg a.off) .decode 0
    else if b = .ten ∧ a.write = true ∧ tenTable a.off = true ∧ s.ten.checking = true then s.hold a net
    else if s.asksLock b a then
      let s := s.tenWrite a.off a.val
      { s with lockWait := s.lockWait ++ [(a, net)] }
    else if intake then
      let r := s.intakeWrite a.ni a.off a.val
      done r.1 r.2 0
    else if b = .link ∧ 0x800 ≤ a.off then
      match net with
      | some p => s.aperture (a.pg - 0x0C4) p.h.src p.h.seq p.h.cls a.write (a.off - 0x800) a.val net
      | none =>
        let q := s.f (pgNI a.ni) 0x060 11 0
        (s.cntWrap (pgNI a.ni) 0x060 11 0).aperture (a.pg - 0x0C4) a.ni q 2 a.write (a.off - 0x800) a.val none
    else if a.write then done (s.pageWrite b a.tnt a.ni a.pg a.off a.val) .ok 0
    else
      let r := s.pageRead b a.pg a.off
      done r.1 .ok r.2

/-- An access on its way to a page whose domain may sleep: the bridge judges the domain first. -/
def State.busAccess (s : State) (a : Acc) (net : Option Pkt) : State :=
  let n := (niOfPage s.grade a.pg).getD 6
  let d := if (pageBlk s.grade a.pg).isSome then pageDom a.pg else 1
  let say (s : State) (st : Sts) : State :=
    match net with
    | none => s.answer st 0
    | some p => s.respond n p st false false []
  if s.domRun 1 = false then s
  else match s.bridge d a.tnt with
    | .pass => s.pageAccess a net
    | .off => say s .domainOff
    | .wake => (s.askWake n d).hold a net
    | .deny => say (s.denyWake n d a.tnt a.ni) .wakeDenied

/-- An access as its sender issues it: one whose bytes leave the register pages' row of R70 does not decode (R71), and a tenant in
quarantine is refused at once (04 R109). -/
def State.access (s : State) (a : Acc) : State :=
  if s.domRun 1 = false then s
  else if 224 * 4096 < a.pg * 4096 + a.off + a.size then s.answer .decode 0
  else if a.tnt ≠ 0 ∧ s.ten.quar.getLsbD a.tnt = true then (s.violation 1 a.tnt a.ni 0 0 false).answer .window 0
  else s.busAccess a none

/-- Accesses that waited go on, or wait again. -/
def State.drain (s : State) : State :=
  let w := s.waiting
  w.foldl (fun s e => s.busAccess e.1 e.2) { s with waiting := [] }

/-- The soft reset of page `p` is over. -/
def State.softResetDone (s : State) (p : Nat) : State :=
  if s.srst.contains p then
    let s := { s with srst := s.srst.filter fun q => !(q == p) }
    (if s.ten.checking then s else s.lockAnswer).drain
  else s

/-- The lock checks end (04 R104, R105): the writes of LOCK are answered, and the writes that waited go on. -/
def State.lockChecked (s : State) : State := if s.ten.checking then s.lockOutcome.lockAnswer.drain else s

/-- An access to aperture offset `o` of LINKn with its sender's sequence number and class (17 R475); one that does not reach the
aperture ends as any access to the page. -/
def State.apertureAccess (s : State) (w : By) (n q cls : Nat) (write : Bool) (o : Nat) (v : Word) : State :=
  let a : Acc := ⟨w.tnt, w.ni, pgLINK n, 0x800 + o, 4, write, v⟩
  if s.domRun 1 = true ∧ s.bridge 10 w.tnt = .pass ∧ s.pageAllows a = true ∧ o % 4 = 0 ∧ o < 0x800 ∧ lanePresent s.grade n = true ∧
      s.srst.contains (pgLINK n) = false ∧ (w.tnt.val = 0 ∨ s.ten.quar.getLsbD w.tnt = false) then
    s.aperture n w.ni q cls write o v none
  else s.access a

/-- A 32-bit write by the tenant and initiator `w`. -/
def State.put (s : State) (w : By) (p o : Nat) (v : Word) : State := s.access ⟨w.tnt, w.ni, p, o, 4, true, v⟩

/-- A word with one bit set, and with one bit clear. -/
def withBit (v : Word) (k : Nat) : Word := v ||| BitVec.ofNat 32 (2 ^ k)
def clrBit (v : Word) (k : Nat) : Word := v &&& ~~~(BitVec.ofNat 32 (2 ^ k))

/-- What happens only while SYS is in Run. -/
def State.onSys (s : State) (f : State → State) : State := if s.domRun 1 then f s else s

/-- A 32-bit read. -/
def State.take (s : State) (w : By) (p o : Nat) : State := s.access ⟨w.tnt, w.ni, p, o, 4, false, 0⟩

end Sys2Proof.Machine
end

