-- ==== Sys2Proof/Machine/Frame.lean ====
section
/-! DEFINITION. Machine/Frame.lean: line starts and frame boundaries of the Line Time Base (02 R42 to R58), and what the blocks
do at them. -/

namespace Sys2Proof.Machine

/-- What every line start brings the blocks: Line and Rated credit (06 R141), the LANE_LP windows, the DRAM refresh window. -/
def State.lineHooks (s : State) : State := s.lineCredits.laneLine.dramLine

/-- What a frame boundary brings, the position being at 0:0 already: a committed master first, then the commits of the pages and
of the Line Event Table, the claims in effect, the capacities, and the blocks' own frame work; the FRAME event ends it. -/
def State.frameWork (s : State) : State :=
  let s := s.masterChange.frameCommits.letApply.unreach
  let s := s.admEffect.admRecompute
  let s := s.statFrame.utilFrame.grvFrame.sillFrame.mxFrame
  s.ev pgLTB 0

/-- The position enters line 0, phase 0 of the next frame (R38, R39). -/
def State.frameBoundary (s : State) : State :=
  (s.updLtb fun l => { l with frame := l.frame + 1, line := 0, cyc := 0, fired := [] }).frameWork

/-- A line start that is no re-anchor: what the ending line owes fires, the line is measured where `m` says so, and the position
goes to the next line or wraps (R47, R49). -/
def State.lineStart (s : State) (m : Bool) : State :=
  let s := s.catchUp
  let s := if m then s.measure else s
  let s := if s.vtAct ≤ s.ltb.line + 1 then s.frameBoundary else s.updLtb fun l => { l with line := l.line + 1, cyc := 0 }
  s.lineHooks

/-- VT_ACT from the pipe of a display master, at its frame start (R42). -/
def State.loadVt (s : State) : State :=
  let m := s.actMaster
  if m < 2 then s.w pgLTB 0x054 (BitVec.ofNat 32 (s.view m (s.dp m).cur).vt) else s

/-- Re-anchor with a cause: pending tracker instants are cancelled, once entries of the skipped part fire, RA_INFO and RA_FRM are written, REANCHOR is raised, and the
position enters 0:0 of the next frame (R56, R57). -/
def State.reanchor (s : State) (cause : Nat) (m : Bool) : State :=
  let s := s.trkCancel.skipFire
  let s := if m then s.measure else s
  let l := s.ltb.line
  let s := s.w pgLTB 0x068 (BitVec.ofNat 32 (cause * 2 ^ 29 + l * 2 ^ 16 + (s.vtAct - 1 - l)))
  let s := (s.w pgLTB 0x06C (s.ltb.frame + 1)).ev pgLTB 1
  s.loadVt.frameBoundary.lineHooks

/-- The master's own line start ends coasting and blank-fill. -/
def State.endCoast (s : State) : State := (s.sf pgLTB 0x044 4 4 0).updLtb fun l => { l with gen := 0 }

/-- A line start of raster `m` that is no frame start (R54); one that meets a generated line start is the same (R50). -/
def State.masterLineStart (s : State) (m : Nat) : State :=
  if s.domRun 1 = false ∨ s.mpending = true ∨ s.lost = true ∨ m ≠ s.actMaster ∨ 4 ≤ m then s
  else if s.ltb.cyc = 0 ∧ 0 < s.ltb.gen then s.endCoast
  else
    let late := decide (s.vtAct ≤ s.ltb.line + 1)
    let s := s.endCoast.lineStart true
    if late then s.ev pgLTB 5 else s

/-- A frame start of raster `m` (R54, R55, R58); `mode` says that a pipe marks it as the first of a new mode. One that meets a
generated line start is the same line start (R50): it begins no second line and measures none; off line 0 it re-anchors
(DEDUCED, log entry 27). -/
def State.masterFrameStart (s : State) (m : Nat) (mode : Bool) : State :=
  if s.domRun 1 = false ∨ 4 ≤ m then s
  else if s.mpending then
    if m = s.ltb.mreq then
      let s := (s.sf pgLTB 0x044 2 0 m).sf pgLTB 0x044 6 6 0
      (s.endCoast.updLtb fun l => { l with blankFill := false }).reanchor 3 false
    else s
  else if s.lost = true ∨ m ≠ s.actMaster then s
  else
    let same := decide (s.ltb.cyc = 0) && decide (0 < s.ltb.gen)
    let s := s.endCoast.updLtb fun l => { l with blankFill := false }
    if mode = true ∧ m < 2 then s.reanchor 2 (!same)
    else if s.vtAct ≤ s.ltb.line + 1 ∧ same = false then ((s.loadVt.catchUp.measure).frameBoundary).lineHooks
    else if s.ltb.line = 0 ∧ s.phase = 0 then s.loadVt.updLtb fun l => { l with cyc := 0 }
    else (s.ev pgLTB 4).reanchor 1 (!same)

/-- The virtual raster's line start falls due (R46). -/
def State.virtualLineStart (s : State) : State :=
  if s.domRun 1 = false ∨ s.actMaster ≠ 4 ∨ s.mpending = true ∨ s.ltb.cyc < s.virtLen then s
  else (s.updLtb fun l => { l with virtK := l.virtK + 1 }).lineStart true

/-- When a generated line start falls due (R50, R58). -/
def State.coastAt (s : State) : Nat :=
  if 0 < s.ltb.gen ∨ s.mpending = true then s.ltb.pPrev else s.ltb.pPrev + s.ltb.pPrev / 16

/-- No master line start has come: the LTB generates one (R50). The lines it makes are not measured. -/
def State.coastLineStart (s : State) : State :=
  if s.domRun 1 = false ∨ (s.actMaster = 4 ∧ s.mpending = false) ∨ (s.ltb.blankFill = true ∧ s.mpending = false) ∨
      s.coastMax ≤ s.ltb.gen ∨ s.ltb.cyc < s.coastAt ∨ s.ltb.cyc = 0 then s
  else
    let s := if s.coasting = true ∨ s.mpending = true then s else s.ev pgLTB 2
    ((s.sf pgLTB 0x044 4 4 1).updLtb fun l => { l with gen := l.gen + 1 }).lineStart false

/-- With a camera master, between its frame end and its next frame start (R51). -/
def State.blankLineStart (s : State) : State :=
  if s.domRun 1 = false ∨ s.ltb.blankFill = false ∨ s.mpending = true ∨ s.actMaster < 2 ∨ 4 ≤ s.actMaster ∨
      s.coastMax ≤ s.ltb.gen ∨ s.ltb.cyc < s.coastAt ∨ s.ltb.cyc = 0 then s
  else (s.updLtb fun l => { l with gen := l.gen + 1 }).lineStart false

/-- Whether a start of a receiver is a line start: LINE_SRC says whether line start packets or long packets make them (R42; for
the trackers DEDUCED, log entry 25), with CAM in Run. -/
def State.camLine (s : State) (c : CamStart) : Bool := s.domRun 7 && s.af pgLTB 0x040 8 8 == b2n c.long

/-- Whether a start of a receiver is a frame start: one whose virtual channel stream 0 of the receiver takes (12 R294). -/
def State.camFrame (s : State) (c : CamStart) : Bool := s.domRun 7 && s.strOnVc c.n 0 c.vc

/-- Whether a start of a receiver serves as a camera master's: on CAM_VC (R42). -/
def State.camVc (s : State) (c : CamStart) : Bool := s.af pgLTB 0x040 5 4 == c.vc.val

/-- A line start as it reaches the LTB as a master: a pipe's, or a receiver's. -/
def State.masterLine (s : State) (m : Raster) : State :=
  match m with
  | .pipe p => s.masterLineStart p
  | .cam c => if s.camLine c && s.camVc c then s.masterLineStart (2 + c.n) else s

/-- A frame start as it reaches the LTB as a master: a pipe's, or a receiver's, which marks no new mode. -/
def State.masterFrame (s : State) (m : Raster) (mode : Bool) : State :=
  match m with
  | .pipe p => s.masterFrameStart p mode
  | .cam c => if s.camFrame c && s.camVc c then s.masterFrameStart (2 + c.n) false else s

/-- A camera line start at the tracker of its receiver (R67). -/
def State.trackerLine (s : State) (c : CamStart) : State := if s.camLine c && s.strOnVc c.n 0 c.vc then s.trkLineStart c.n else s

/-- A camera frame start at the tracker of its receiver (R67). -/
def State.trackerFrame (s : State) (c : CamStart) : State := if s.camFrame c then s.trkFrameStart c.n else s

/-- A line start packet, or the start of a long packet, as it serves the Line Time Base: a master first, then the tracker. -/
def State.camLineStart (s : State) (c : CamStart) : State := (s.masterLine (.cam c)).trackerLine c

/-- A CSI-2 frame start packet (12 R294, R299): the Line Time Base first, whose position the streams then stamp. -/
def State.csiFs (s : State) (n : Fin 2) (vc : Fin 4) (num hdr : Nat) : State :=
  (if hdr = 2 then s else (s.masterFrame (.cam ⟨n, vc, false⟩) false).trackerFrame ⟨n, vc, false⟩).frameStartAll n vc num hdr

/-- A CSI-2 long packet; its start is a line start where LINE_SRC says so (R42). -/
def State.csiLong (s : State) (n : Fin 2) (vc : Fin 4) (dt hdr wc : Nat) (payload : List Byte) (crcOk : Bool) (fifo : Option Nat)
    (fill : Nat) : State :=
  (if hdr = 2 then s else s.camLineStart ⟨n, vc, true⟩).csiLongPacket n vc dt hdr wc payload crcOk fifo fill

/-- A pipe latches for the coming frame; the pane of a pipe on a Pane Link follows it. -/
def State.dpFrameLatch (s : State) (p : Nat) : State := if s.dpLatchDue p then (s.dpLatch p).paneLatch p else s

/-- A pipe starts a line; the first line past DP0's active ones ends the first frame (19 R527). -/
def State.dpLineStart (s : State) (p late : Nat) : State :=
  let s' := s.dpLine p late
  if p = 0 ∧ (s.dp 0).line ≠ (s'.dp 0).line ∧ (s'.dp 0).line = (s'.view 0 (s'.dp 0).cur).vact then s'.firstFrame else s'

/-- An interrupt line that pages hold high wakes its core from Doze or Rest where the owner of one of them may wake it (03 R90). -/
def State.irqWake (s : State) : State :=
  (List.range 4).foldl (fun s c =>
    let e := s.domEff (2 + c)
    if (e = .doze ∨ e = .rest) ∧ ((s.routedPages c).any fun p => s.owner p == 0 || s.mayWake (s.owner p) (2 + c)) = true then s.domWake (2 + c) else s) s

/-- One cycle of the LTB clock, which an empty queue of commands lets pass. -/
def State.tick (s : State) : State :=
  { s.irqWake with
    now := s.now + s.tickLen, osc := s.osc + (if s.clk.sysPll then 0 else 1), time := s.time + (if s.onOsc then 20 else 1),
    fresh := [], ltb := { s.ltb with cyc := s.ltb.cyc + 1 } }

end Sys2Proof.Machine
end

