-- ==== Sys2Proof/Machine/Traffic.lean ====
section
/-! DEFINITION. Machine/Traffic.lean: packets on the mesh and at the target NIs (06 R147 to R154), with Awl on their way
(20 R535 to R537), domain transitions that let held requests pass, and the events that end in several blocks. -/

namespace Sys2Proof.Machine

/-! ### Crossing a link (06 R152, R153; 20 R537) -/


/-- Invert a bit of data unit `u` (from 1 on); bytes the request does not name carry nothing. -/
def Pkt.flip (p : Pkt) (u bit : Nat) : Pkt :=
  let i := 16 * (u - 1) + bit / 8
  if i < p.h.addr % 16 then p
  else { p with data := p.data.modify (i - p.h.addr % 16) fun x => x ^^^ BitVec.ofNat 8 (2 ^ (bit % 8)) }

/-- A packet an injector held leaves over its link, where the probes see it (R153). -/
def State.awlLeave (s : State) (i d : Nat) (f : Flight) : State :=
  ((s.updInj i fun x => { x with held := none }).probes d f.pkt).addFlight f

/-- Units of a direction and channel that injectors hold leave after the packet that passes. -/
def State.awlPass (s : State) (d vc : Nat) : State :=
  (List.range 4).foldl (fun s i => match (s.inj i).held with
    | some (.welt d' f) => if d' = d ∧ f.pkt.vc = vc then s.awlLeave i d f else s
    | _ => s) s

/-- A packet crosses the link before its place: what arrives, with the units whose parity Awl left wrong; none where Awl drops
or holds it. -/
def State.cross (s : State) (f : Flight) : State × Option (Pkt × List Nat) :=
  if f.crossed then (s, some (f.pkt, []))
  else
    let d := f.at_.link
    let h := f.pkt.h
    let seen (s : State) : State := (s.probes d f.pkt).awlPass d f.pkt.vc
    let again := Flight.start f.at_ f.pkt true
    match s.awlUnit 0 d [h.cmd, h.tnt, h.cls, h.src, b2n h.once] with
    | (s, none) => (seen s, some (f.pkt, []))
    | (s, some (i, mode)) =>
      if mode = 0 then (s, none)
      else if mode = 1 then
        let u := s.f pgAWL (aiReg i 5) 12 8
        let s := seen s
        if h.len < u then (s, some (f.pkt, []))
        else (s, some (if u = 0 then f.pkt else f.pkt.flip u (s.f pgAWL (aiReg i 5) 6 0), [u]))
      else if mode = 2 then (s.awlHold i (.welt d again), none)
      else (((seen s).probes d f.pkt).addFlight again, some (f.pkt, []))

/-! ### Routers (06 R134, R138, R152, R156) -/

/-- A router drops a packet: which counter, cause and event. -/
def State.rtDrop (s : State) (r port : Nat) (parity : Bool) (h : Hdr) : State :=
  let p := pgRouter r
  let s := s.cntUp p (if parity then 0x040 else 0x044) 15 0 1
  let v := if parity then 2 ^ 28 + port * 2 ^ 24 else 2 * 2 ^ 28 + port * 2 ^ 24 + h.src * 2 ^ 16 + h.tnt * 2 ^ 12
  (s.w p 0x048 (BitVec.ofNat 32 v)).ev p (if parity then 0 else 1)

/-- Take flight `i` out of the mesh. -/
def State.dropFlight (s : State) (i : Nat) : State := { s with welt := { s.welt with flight := s.welt.flight.eraseIdx i } }

/-- The data units whose parity fails, of those the link left wrong and those named. -/
def badUnits (p : Pkt) (u bad : List Nat) : List Nat := ((u ++ bad).filter fun x => decide (1 ≤ x ∧ x ≤ p.h.len)).eraseDups

/-- A packet whose data units `bads` are poisoned. -/
def Pkt.spoil (p : Pkt) (bads : List Nat) : Pkt := { p with pois := p.pois ++ bads.filter fun u => !p.pois.contains u }

/-- The header of a packet is before its router with no parity error: failing data units are poisoned and counted; the packet is
dropped where its code leads nowhere (R152), else it waits for its output. -/
def State.routerTake (s : State) (i : Nat) (f : Flight) (r port k : Nat) (p : Pkt) (bads : List Nat) : State :=
  let s := if bads.isEmpty then s else (s.cntUp (pgRouter r) 0x040 31 16 bads.length).ev (pgRouter r) 0
  let p := p.spoil bads
  if p.h.nc ≤ k ∨ (nextPlace s.grade r k (rtCode p.h.rt k)).isNone = true then s.rtDrop r port false p.h
  else { s with welt := { s.welt with flight := s.welt.flight.insertIdx i { f with pkt := p, crossed := true, ready := true } } }

/-- Flight `i` arrives at its router; `hdrBad` and `bad` name the header and the data units whose parity fails on arrival. A header
that no buffer has room for has not arrived; one that waits for its output waits on. -/
def State.routerPacket (s : State) (i : Nat) (hdrBad : Bool) (bad : List Nat) : State :=
  let s' := s.meshFeed
  match s'.welt.flight[i]? with
  | none => s
  | some f =>
    match f.at_ with
    | .ni _ => s
    | .router r port k =>
      if s.domRun 1 = false ∨ f.entered = false then s
      else if f.ready then s'.meshRun
      else match (s'.dropFlight i).cross f with
        | (s, none) => s.meshRun
        | (s, some (p, u)) =>
          if hdrBad ∨ u.contains 0 then (s.rtDrop r port true p.h).meshRun
          else (s.routerTake i f r port k p (badUnits p u bad)).meshRun

/-! ### Target NIs (06 R144, R147, R150) -/

/-- The block answers a request the bridge lets through. -/
def State.serve (s : State) (n : Nat) (p : Pkt) : State :=
  match regPage p.h.addr with
  | some pg => s.pageAccess ⟨p.h.tnt, p.h.src, pg, p.h.addr % 4096, p.h.size + 1, decide (p.h.cmd = 2), BitVec.ofNat 32 (leNat p.data)⟩ (some p)
  | none =>
    let r := s.memServe p
    let s := if p.h.once then r.1.updNi n fun x => { x with once := onceMark x.once p.h.src p.h.seq r.2.1.code } else r.1
    s.respond n { p with h := r.2.2.1 } r.2.1 false false r.2.2.2

/-- Steps 3 to 5 of R147. -/
def State.admitReq (s : State) (n : Nat) (p : Pkt) : State :=
  let q := s.heldAt n
  if 16 ≤ q ∨ (p.h.cls ≠ 0 ∧ 12 ≤ q) then
    ((s.cntUp (pgNI n) 0x068 15 0 1).ev (pgNI n) 6).respond n p .refused false false []
  else
    let d := s.reqDom n p.h.addr
    match s.bridge d p.h.tnt with
    | .pass => s.serve n p
    | .off => s.respond n p .domainOff false false []
    | .deny => (s.denyWake n d p.h.tnt p.h.src).respond n p .wakeDenied false false []
    | .wake => (s.askWake n d).updNi n fun x => { x with held := x.held ++ [p] }

/-- What the once window makes of a request: go on, or an answer at once (R150). -/
def State.onceGate (s : State) (n : Nat) (p : Pkt) (go : State → State) : State :=
  if p.h.once = false then go s
  else
    let r := onceLook (s.ni n).once p.h.src p.h.seq
    let s := s.updNi n fun x => { x with once := r.1 }
    match r.2 with
    | .fresh => go s
    | .dup st => ((s.cntUp (pgNI n) 0x064 15 0 1).ev (pgNI n) 3).respond n p (stsOf st) false false []
    | .stale => (s.cntUp (pgNI n) 0x064 31 16 1).respond n p .staleSeq false false []

/-- A packet leaves the ejection link of NIn: none where its header fails, else the packet, poisoned where a data unit fails. -/
def State.eject (s : State) (n : Nat) (f : Flight) (hdrBad : Bool) (bad : List Nat) : State × Option Pkt :=
  match s.cross f with
  | (s, none) => (s, none)
  | (s, some (p, u)) =>
    if hdrBad ∨ u.contains 0 then (s.cntUp (pgNI n) 0x068 31 16 1, none)
    else (s, some (p.spoil (badUnits p u bad)))

/-- Whether flight `i` has come to its NI: its header is there, before every later packet of its channel. -/
def State.arrived (s : State) (i : Nat) (f : Flight) : Bool :=
  f.entered && frontAt s.welt.flight i f.at_.link f.pkt.vc

/-- Steps 1 to 5 of R147. -/
def State.targetTake (s : State) (n : Nat) (p : Pkt) : State :=
  if p.poison then (s.ev (pgNI n) 5).respond n p .dataErr false false []
  else if (servingNis s.grade p.h.addr).contains n = false ∨ 3 ≤ p.h.cmd then s.respond n p .decode false false []
  else s.onceGate n p fun s => s.admitReq n p

/-- Flight `i` is a request at its target NI. -/
def State.targetRequest (s : State) (i : Nat) (hdrBad : Bool) (bad : List Nat) : State :=
  let s' := s.meshFeed
  match s'.welt.flight[i]? with
  | none => s
  | some f =>
    match f.at_ with
    | .router _ _ _ => s
    | .ni n =>
      if s.domRun 1 = false ∨ f.pkt.h.resp = true ∨ s'.arrived i f = false then s
      else match (s'.dropFlight i).eject n f hdrBad bad with
        | (s, none) => s.meshRun
        | (s, some p) => (s.targetTake n p).meshRun

/-- A response reaches its initiator's block (R148, R151), and a link's far request it belonged to (17 R476). -/
def State.deliver (s : State) (n : Nat) (p : Pkt) : State := (s.acceptResponse n p).linkSettle n

/-- A response at its initiator NI: a sleeping domain is woken and the response held (R148). -/
def State.responseTake (s : State) (n : Nat) (p : Pkt) : State :=
  let e := s.domEff (niDom n)
  if s.dom (niDom n) ≠ .off ∧ (e = .doze ∨ e = .rest ∨ (e = .run ∧ s.domRun (niDom n) = false)) then
    (s.domWake (niDom n)).updNi n fun x => { x with rheld := x.rheld ++ [p] }
  else s.deliver n p

/-- Flight `i` is a response at its initiator NI. -/
def State.weltResponse (s : State) (i : Nat) (hdrBad : Bool) (bad : List Nat) : State :=
  let s' := s.meshFeed
  match s'.welt.flight[i]? with
  | none => s
  | some f =>
    match f.at_ with
    | .router _ _ _ => s
    | .ni n =>
      if s.domRun 1 = false ∨ f.pkt.h.resp = false ∨ s'.arrived i f = false then s
      else match (s'.dropFlight i).eject n f hdrBad bad with
        | (s, none) => s.meshRun
        | (s, some p) => (s.responseTake n p).meshRun

/-- A response has not come in time (R151). -/
def State.reqTimeout (s : State) (n tid : Nat) : State := if s.domRun 1 then (s.responseTimeout n tid).linkSettle n else s

/-! ### Domains (06 R147; 19 R518, R520) -/

/-- A domain in Run passes what its bridges held: requests, which the once window sees again, then responses; accesses that wait
at its pages go on; last, a request for another state that waited for the wake starts. -/
def State.domPass (s : State) (d : Nat) : State :=
  if s.domRun d = false then s.drain.domNext d
  else
    let s := (List.range 26).foldl (fun s n =>
      let mine := (s.ni n).held.filter fun p => s.reqDom n p.h.addr == d
      if niDom n ≠ d then s
      else
        let s := s.updNi n fun x => { x with held := x.held.filter (fun p => !mine.contains p), wakeAt := none }
        mine.foldl (fun s p => s.onceGate n p fun s => s.serve n p) s) s
    let s := (List.range 26).foldl (fun s n =>
      if niDom n ≠ d then s
      else
        let rs := (s.ni n).rheld
        rs.foldl (fun s p => s.deliver n p) (s.updNi n fun x => { x with rheld := [] })) s
    s.drain.domNext d

/-- The transition of domain `d` completes. -/
def State.domDone (s : State) (d : Nat) : State :=
  match s.domDue d with
  | none => s
  | some dst => (s.domArrive d dst).domPass d

/-- The DRAM controller's training completes and DRAM is in Run (19 R524). -/
def State.dramDone (s : State) (code crc : Nat) : State :=
  let s' := s.dramTrained code crc
  if s'.domRun 11 ∧ s.domRun 11 = false then s'.domPass 11 else s'

/-- 128 µs have passed since NIn asked for a wake: what it holds is answered DOMAIN_OFF. -/
def State.wakeFail (s : State) (n : Nat) : State :=
  match (s.ni n).wakeAt with
  | none => s
  | some t =>
    if s.domRun 1 = false ∨ s.now < t + 102400 then s
    else
      let q := (s.ni n).held
      let d := niDom n
      let late (e : Acc × Option Pkt) : Bool :=
        niOfPage s.grade e.1.pg == some n && pageDom e.1.pg == d && !s.domRun d && (pageBlk s.grade e.1.pg).isSome
      let w := s.waiting.filter late
      let s := { (s.updNi n fun x => { x with held := [], wakeAt := none }) with waiting := s.waiting.filter fun e => !late e }
      let s := q.foldl (fun s p => s.respond n p .domainOff false false []) s
      let s := w.foldl (fun s e => match e.2 with
        | none => s.answer .domainOff 0
        | some p => s.respond n p .domainOff false false []) s
      s.err (pgNI n) 0x6111 d

/-! ### Awl and marks (20 R537, R538; 06 R154) -/

/-- A unit held for reorder leaves after HOLD Welt cycles, or HOLD symbol times of its lane. -/
def State.awlRelease (s : State) (i : Nat) : State :=
  let h := s.f pgAWL (aiReg i 6) 15 0
  let t (x : AwlHeld) : Nat := s.heldClock x - (s.inj i).since
  let s' := s.updInj i fun x => { x with held := none }
  match (s.inj i).held with
  | none => s
  | some (.welt d f) => if t (.welt d f) < h then s else s.awlLeave i d f
  | some (.laneTx n u) => if t (.laneTx n u) * s.laneRate n < h * 64 then s else s'.updLn n fun l => { l with sent := [u] }
  | some (.laneRx n u) => if t (.laneRx n u) * s.laneRate n < h * 64 then s else s'.laneTake n u

/-- A PROBE_MARK line event with its marker. -/
def State.probeMark (s : State) (m : Nat) : State :=
  if s.domRun 1 = false then s
  else
    let s := (s.evArrive 0xB 0 m).awlMark (m % 65536)
    if s.f pgPRB 0x040 0 0 = 1 then s.trcPush ⟨s.trcStamp 2 ++ [0, BitVec.ofNat 32 (m % 65536), 0, 0, 0, 0]⟩ else s

/-! ### Island results that reach other blocks -/

/-- An island command completes; a TIME_SET makes the time valid, which starts the RTC (19 R514). -/
def State.kDone (s : State) : State :=
  let s' := s.islandDone
  match s.sec.kop with
  | some (.timeSet _) => if s'.sec.kop.isNone then s'.rtcStart else s'
  | _ => s'

/-- A credential check completes; a grant it made is loaded into its CAN buffer (14 R376). -/
def State.credDone (s : State) : State := s.credCheckDone.grantLoad false

end Sys2Proof.Machine
end

