-- ==== Sys2Proof/Machine/CmdAgu.lean ====
section
/-! DEFINITION. Machine/CmdAgu.lean: the meanings of the commands of the AGU-slot instructions (09). -/

namespace Sys2Proof.Machine

/-- A bundle with an AGU-slot syllable. -/
def State.aguRow (s : State) (c : Nat) (pre : List Syl) (op : Op) (post : List Syl) : State := s.issueRow c pre ⟨.agu, op⟩ post

/-- AGU_NOP (R221): AGU-slot NOP does nothing. -/
def execIAguNop (c : Fin 5) (pre : List Syl) (post : List Syl) (s : State) : Host.Outcome State Fault Refusal :=
  .next (s.aguRow c pre .nop post)

/-- LD (R222): Load a word from X or Y into a register. -/
def execILd (c : Fin 5) (pre : List Syl) (reg : Nat) (y : Bool) (ptr amod : Nat) (post : List Syl) (s : State) : Host.Outcome State Fault Refusal :=
  .next (s.aguRow c pre (.ld reg y ptr amod) post)

/-- ST (R222): Store a register to X or Y, with optional BX detection. -/
def execISt (c : Fin 5) (pre : List Syl) (reg : Nat) (y : Bool) (ptr amod : Nat) (det : Bool) (post : List Syl) (s : State) : Host.Outcome State Fault Refusal :=
  .next (s.aguRow c pre (.st reg y ptr amod det) post)

/-- LDXY (R222): Load one word from X and one from Y. -/
def execILdxy (c : Fin 5) (pre : List Syl) (dx dy px mx py my : Nat) (post : List Syl) (s : State) : Host.Outcome State Fault Refusal :=
  .next (s.aguRow c pre (.ldxy dx dy px mx py my) post)

/-- PMOD (R222): Modify a pointer without an access. -/
def execIPmod (c : Fin 5) (pre : List Syl) (y : Bool) (ptr amod : Nat) (post : List Syl) (s : State) : Host.Outcome State Fault Refusal :=
  .next (s.aguRow c pre (.pmod y ptr amod) post)

/-- PADDI (R222): Add a signed immediate to a pointer. -/
def execIPaddi (c : Fin 5) (pre : List Syl) (pr : Nat) (simm : Half) (post : List Syl) (s : State) : Host.Outcome State Fault Refusal :=
  .next (s.aguRow c pre (.paddi pr simm) post)

/-- AGU_AMOV (R222): AGU-slot register move. -/
def execIAguAmov (c : Fin 5) (pre : List Syl) (d a : Nat) (post : List Syl) (s : State) : Host.Outcome State Fault Refusal :=
  .next (s.aguRow c pre (.r .mov d a 0 false) post)

/-- AMOVI (R222): AGU-slot 16-bit immediate load. -/
def execIAmovi (c : Fin 5) (pre : List Syl) (d : Nat) (imm : Half) (post : List Syl) (s : State) : Host.Outcome State Fault Refusal :=
  .next (s.aguRow c pre (.movi d imm) post)

/-- QSET (R223): Cancel a queue and set it up from registers and the extension. -/
def execIQset (c : Fin 5) (pre : List Syl) (q : Nat) (dir w32 : Bool) (cls sreg creg : Nat) (ext : Word) (post : List Syl) (s : State) : Host.Outcome State Fault Refusal :=
  .next (s.aguRow c pre (.qset q dir w32 cls sreg creg ext) post)

/-- QSTOP (R223): Cancel a queue. -/
def execIQstop (c : Fin 5) (pre : List Syl) (q : Nat) (post : List Syl) (s : State) : Host.Outcome State Fault Refusal :=
  .next (s.aguRow c pre (.qstop q) post)

/-- QPOP (R224): Pop a word from a queue into a register. -/
def execIQpop (c : Fin 5) (pre : List Syl) (reg q : Nat) (w det : Bool) (post : List Syl) (s : State) : Host.Outcome State Fault Refusal :=
  .next (s.aguRow c pre (.qpop reg q w det) post)

/-- QPUSH (R224): Push a register to a queue. -/
def execIQpush (c : Fin 5) (pre : List Syl) (reg q : Nat) (w : Bool) (post : List Syl) (s : State) : Host.Outcome State Fault Refusal :=
  .next (s.aguRow c pre (.qpush reg q w) post)

/-- QPOPM (R224): Pop a word from a queue into X or Y. -/
def execIQpopm (c : Fin 5) (pre : List Syl) (q : Nat) (w y : Bool) (ptr amod : Nat) (post : List Syl) (s : State) : Host.Outcome State Fault Refusal :=
  .next (s.aguRow c pre (.qpopm q w y ptr amod) post)

/-- QPUSHM (R224): Push a word from X or Y to a queue. -/
def execIQpushm (c : Fin 5) (pre : List Syl) (q : Nat) (w y : Bool) (ptr amod : Nat) (post : List Syl) (s : State) : Host.Outcome State Fault Refusal :=
  .next (s.aguRow c pre (.qpushm q w y ptr amod) post)

/-- QWAIT (R225): Wait until a queue holds k words or has k free slots. -/
def execIQwait (c : Fin 5) (pre : List Syl) (q k : Nat) (post : List Syl) (s : State) : Host.Outcome State Fault Refusal :=
  .next (s.aguRow c pre (.qwait q k) post)

/-- QSYNC (R225): Wait until a queue has no request outstanding. -/
def execIQsync (c : Fin 5) (pre : List Syl) (q : Nat) (post : List Syl) (s : State) : Host.Outcome State Fault Refusal :=
  .next (s.aguRow c pre (.qsync q) post)

end Sys2Proof.Machine
end

