-- ==== Sys2Proof/Machine/CmdCamera.lean ====
section
/-! DEFINITION. Machine/CmdCamera.lean: the meanings of the commands of receivers and the ISP (12). -/

namespace Sys2Proof.Machine

/-- CSI_FRAME_START (R299): A CSI-2 frame start opens a stream's frame in the next free buffer and begins its record. -/
def execCsiFrameStart (n : Fin 2) (vc : Fin 4) (num : BitVec 16) (hdr : Fin 3) (s : State) : Host.Outcome State Fault Refusal :=
  .next (s.onSys fun s => s.csiFs n vc num.toNat hdr)

/-- CSI_LINE_START (R42): A CSI-2 line start packet is received and serves as a camera master line start. -/
def execCsiLineStart (n : Fin 2) (vc : Fin 4) (s : State) : Host.Outcome State Fault Refusal :=
  .next (s.onSys fun s => s.camLineStart ⟨n, vc, false⟩)

/-- CSI_LONG_PACKET (R300): A long packet is sorted to a stream and written into its line slot, padded or cut as needed. -/
def execCsiLongPacket (n : Fin 2) (vc : Fin 4) (dt : BitVec 6) (hdr : Fin 3) (wc : BitVec 16) (payload : List Byte) (crcOk : Bool) (fifo : Option Nat) (fill : Nat) (s : State) : Host.Outcome State Fault Refusal :=
  .next (s.onSys fun s => s.csiLong n vc dt.toNat hdr wc.toNat payload crcOk fifo fill)

/-- CSI_FRAME_END (R300): A frame end closes the stream's frame, padding missing slots. -/
def execCsiFrameEnd (n : Fin 2) (vc : Fin 4) (hdr : Fin 3) (s : State) : Host.Outcome State Fault Refusal :=
  .next (s.onSys fun s => s.csiFrameEnd n vc hdr)

/-- FRAME_END_TIMEOUT (R300): No frame end within CAP_FETMO lines; the frame is closed short with TIMEOUT. -/
def execFrameEndTimeout (n : Fin 2) (k : Fin 4) (s : State) : Host.Outcome State Fault Refusal :=
  .next (s.onSys fun s => s.frameEndTimeout n k)

/-- CAP_FDONE (R300): All padding and the record header are acknowledged; FDONE is raised and the buffer becomes held. -/
def execCapFdone (n : Fin 2) (k : Fin 4) (s : State) : Host.Outcome State Fault Refusal :=
  .next (s.onSys fun s => s.capFdone n k)

/-- STR_REL (R296): A write to STR_REL frees held buffers. -/
def execStrRel (w : By) (n : Fin 2) (k : Fin 4) (m : BitVec 4) (s : State) : Host.Outcome State Fault Refusal :=
  .next (s.put w (pgCAP n) (0x130 + 0x40 * k) (m.zeroExtend 32))

/-- CAP_CLR (R316): CAP_CTRL.CLR clears the receiver counters. -/
def execCapClr (w : By) (n : Fin 2) (v : Word) (s : State) : Host.Outcome State Fault Refusal :=
  .next (s.put w (pgCAP n) 0x040 (withBit v 16))

/-- ISP_SUBMIT (R310): ISP_CTRL.SUBMIT queues the job at ISP_JOBADDR. -/
def execIspSubmit (w : By) (v : Word) (s : State) : Host.Outcome State Fault Refusal :=
  .next (s.put w pgISP 0x040 (withBit v 0))

/-- ISP_ABORT (R317): ISP_CTRL.ABORT ends the running job with reason 8. -/
def execIspAbort (w : By) (v : Word) (s : State) : Host.Outcome State Fault Refusal :=
  .next (s.put w pgISP 0x040 (withBit v 1))

/-- TQ_PUSH (R314): ISP_CTRL.TQ_PUSH adds the staged entry to the frame-tagged queue. -/
def execTqPush (w : By) (v : Word) (s : State) : Host.Outcome State Fault Refusal :=
  .next (s.put w pgISP 0x040 (withBit v 2))

/-- TQ_FLUSH (R314): ISP_CTRL.TQ_FLUSH empties the tag queue and the hold. -/
def execTqFlush (w : By) (v : Word) (s : State) : Host.Outcome State Fault Refusal :=
  .next (s.put w pgISP 0x040 (withBit v 3))

/-- ISP_JOB_START (R311): The ISP starts the next job: it reads the descriptor, checks it, snapshots the parameters and
applies the tag queue. -/
def execIspJobStart (sts : Fin 16) (s : State) : Host.Outcome State Fault Refusal :=
  .next (s.onSys fun s => s.ispJobStart sts)

/-- ISP_JOB_DONE (R311): A job ends; the statistics and STATUS are written, the buffer may be released, and JDONE is raised.
-/
def execIspJobDone (s : State) : Host.Outcome State Fault Refusal :=
  .next (s.onSys fun s => s.ispJobDone)

/-- ISP_XFER_ERROR (R311): A job access is answered with a status other than OK; the job stops with reason 7. -/
def execIspXferError (sts : Fin 16) (s : State) : Host.Outcome State Fault Refusal :=
  .next (s.onSys fun s => s.ispXferError sts)

/-- CAM_TRIGGER (R64): A CAM_TRIG event changes the trigger ball's level. -/
def execCamTrigger (n : Fin 2) (arg : BitVec 8) (s : State) : Host.Outcome State Fault Refusal :=
  .next (s.onSys fun s => s.camTrigger n arg.toNat)

/-- CAM_TRIGGER_END (R64): The trigger pulse width has passed and the trigger ball returns. -/
def execCamTriggerEnd (n : Fin 2) (s : State) : Host.Outcome State Fault Refusal :=
  .next (s.onSys fun s => s.camTriggerEnd n)

end Sys2Proof.Machine
end

