-- ==== Sys2Proof/Machine/CmdCore.lean ====
section
/-! DEFINITION. Machine/CmdCore.lean: the meanings of the commands of the control of Rhoif-16 cores, their queues and interrupts (07). -/

namespace Sys2Proof.Machine

/-- IRQ_EVENT (R187): An IRQ line event sets an interrupt line pending at the core. -/
def execIrqEvent (c : Fin 5) (n : Fin 16) (s : State) : Host.Outcome State Fault Refusal :=
  .next (s.onSys fun s => s.irqEvent c n)

/-- INTERRUPT_ENTRY (R189): The core takes the highest pending enabled interrupt at a bundle boundary and branches to its
vector. -/
def execInterruptEntry (c : Fin 5) (s : State) : Host.Outcome State Fault Refusal :=
  .next (s.onSys fun s => s.interruptEntry c)

/-- RELEASE_EVENT (R193): A RELEASE event releases a line-event wait, is latched, or is counted as lost. -/
def execReleaseEvent (c : Fin 5) (arg : Nat) (s : State) : Host.Outcome State Fault Refusal :=
  .next (s.onSys fun s => s.releaseEvent c arg)

/-- CORE_RUN (R192): CR_CTRL.RUN := 1 starts a halted core from CR_ENTRY. -/
def execCoreRun (w : By) (c : Fin 5) (s : State) : Host.Outcome State Fault Refusal :=
  .next (s.put w (pgCORE c) 0x040 1)

/-- CORE_HALT_REQUEST (R192): CR_CTRL.RUN := 0 halts the core at the next interruptible boundary. -/
def execCoreHaltRequest (w : By) (c : Fin 5) (s : State) : Host.Outcome State Fault Refusal :=
  .next (s.put w (pgCORE c) 0x040 0)

/-- CORE_STEP (R192): CR_CTRL.STEP runs one bundle, or one whole REP, of a halted core. -/
def execCoreStep (w : By) (c : Fin 5) (s : State) : Host.Outcome State Fault Refusal :=
  .next (s.put w (pgCORE c) 0x040 2)

/-- CR_REL_CLR (R192): CR_REL.CLR clears the count of lost RELEASE events. -/
def execCrRelClr (w : By) (c : Fin 5) (s : State) : Host.Outcome State Fault Refusal :=
  .next (s.put w (pgCORE c) 0x060 0x80000000)

/-- QUEUE_READ_ISSUE (R180): An in-queue with room issues its next read, merged where allowed. -/
def execQueueReadIssue (c : Fin 5) (q : Fin 4) (s : State) : Host.Outcome State Fault Refusal :=
  .next (s.queueReadIssue c q)

/-- QUEUE_MERGE_TIMEOUT (R182): An out-queue issues a merged write after 16 cycles without a push. -/
def execQueueMergeTimeout (c : Fin 5) (q : Fin 4) (s : State) : Host.Outcome State Fault Refusal :=
  .next (s.queueMergeTimeout c q)

/-- QUEUE_RESPONSE (R185): A response to a queue request arrives; data is placed in order, or the queue stops on an error. -/
def execQueueResponse (c : Fin 5) (q : Fin 4) (i : Nat) (sts : Fin 16) (dem late : Bool) (data : List Byte) (s : State) : Host.Outcome State Fault Refusal :=
  .next (s.queueResponse c q i sts dem late data)

/-- QUEUE_WAIT_TIMEOUT (R184): A queue wait exceeds CR_QTMO and raises the QTMO fault. -/
def execQueueWaitTimeout (c : Fin 5) (s : State) : Host.Outcome State Fault Refusal :=
  .next (s.queueWaitTimeout c)

/-- WAIT_BUNDLE_ISSUE (R226): A stalled waiting bundle issues whole once its wait condition holds. -/
def execWaitBundleIssue (c : Fin 5) (s : State) : Host.Outcome State Fault Refusal :=
  .next (s.waitBundleIssue c)

end Sys2Proof.Machine
end

