-- ==== Sys2Proof/Machine/CmdCtl.lean ====
section
/-! DEFINITION. Machine/CmdCtl.lean: the meanings of the commands of the CTL-slot instructions (09). -/

namespace Sys2Proof.Machine

/-- A bundle with a CTL-slot syllable. -/
def State.ctlRow (s : State) (c : Nat) (pre : List Syl) (op : Op) (post : List Syl) : State := s.issueRow c pre ⟨.ctl, op⟩ post

/-- CTL_NOP (R228): CTL-slot NOP does nothing. -/
def execICtlNop (c : Fin 5) (pre : List Syl) (post : List Syl) (s : State) : Host.Outcome State Fault Refusal :=
  .next (s.ctlRow c pre .nop post)

/-- SKF (R229): Skip the next bundle on a flag condition. -/
def execISkf (c : Fin 5) (pre : List Syl) (cond q : Nat) (post : List Syl) (s : State) : Host.Outcome State Fault Refusal :=
  .next (s.ctlRow c pre (.skf cond q) post)

/-- SKR (R229): Skip the next bundle on a register condition. -/
def execISkr (c : Fin 5) (pre : List Syl) (rc r bit : Nat) (post : List Syl) (s : State) : Host.Outcome State Fault Refusal :=
  .next (s.ctlRow c pre (.skr rc r bit) post)

/-- BR (R231): Branch to an absolute target. -/
def execIBr (c : Fin 5) (pre : List Syl) (tgt : Nat) (post : List Syl) (s : State) : Host.Outcome State Fault Refusal :=
  .next (s.ctlRow c pre (.br tgt) post)

/-- BRR (R231): Branch to a register target. -/
def execIBrr (c : Fin 5) (pre : List Syl) (r : Nat) (h : Bool) (post : List Syl) (s : State) : Host.Outcome State Fault Refusal :=
  .next (s.ctlRow c pre (.brr r h) post)

/-- CALL (R231): Call an absolute target. -/
def execICall (c : Fin 5) (pre : List Syl) (tgt : Nat) (post : List Syl) (s : State) : Host.Outcome State Fault Refusal :=
  .next (s.ctlRow c pre (.call tgt) post)

/-- CALLR (R231): Call a register target. -/
def execICallr (c : Fin 5) (pre : List Syl) (r : Nat) (h : Bool) (post : List Syl) (s : State) : Host.Outcome State Fault Refusal :=
  .next (s.ctlRow c pre (.callr r h) post)

/-- RET (R231): Return from a call. -/
def execIRet (c : Fin 5) (pre : List Syl) (post : List Syl) (s : State) : Host.Outcome State Fault Refusal :=
  .next (s.ctlRow c pre .ret post)

/-- RTI (R190): Return from interrupt, restoring the flags and resuming any REPI. -/
def execIRti (c : Fin 5) (pre : List Syl) (post : List Syl) (s : State) : Host.Outcome State Fault Refusal :=
  .next (s.ctlRow c pre .rti post)

/-- DO (R232): Open a zero-overhead loop. -/
def execIDo (c : Fin 5) (pre : List Syl) (rt : Bool) (creg : Option Nat) (cimm ofs : Nat) (post : List Syl) (s : State) : Host.Outcome State Fault Refusal :=
  .next (s.ctlRow c pre (.doLoop rt creg cimm ofs) post)

/-- LBRK (R233): Close loop levels. -/
def execILbrk (c : Fin 5) (pre : List Syl) (lv : Nat) (post : List Syl) (s : State) : Host.Outcome State Fault Refusal :=
  .next (s.ctlRow c pre (.lbrk lv) post)

/-- REP (R235): Repeat the next bundle n times without interruption. -/
def execIRep (c : Fin 5) (pre : List Syl) (creg : Option Nat) (cimm : Nat) (post : List Syl) (s : State) : Host.Outcome State Fault Refusal :=
  .next (s.ctlRow c pre (.rep creg cimm) post)

/-- REPI (R235): Repeat the next bundle n times, interruptibly. -/
def execIRepi (c : Fin 5) (pre : List Syl) (creg : Option Nat) (cimm : Nat) (post : List Syl) (s : State) : Host.Outcome State Fault Refusal :=
  .next (s.ctlRow c pre (.repi creg cimm) post)

/-- RRC (R234): Rotate or set the rotating register base. -/
def execIRrc (c : Fin 5) (pre : List Syl) (set : Bool) (k : Nat) (post : List Syl) (s : State) : Host.Outcome State Fault Refusal :=
  .next (s.ctlRow c pre (.rrc set k) post)

/-- LIMX (R236): Load a 32-bit immediate into one or two registers. -/
def execILimx (c : Fin 5) (pre : List Syl) (d : Nat) (d2 : Option Nat) (ext : Word) (post : List Syl) (s : State) : Host.Outcome State Fault Refusal :=
  .next (s.ctlRow c pre (.limx d d2 ext) post)

/-- EI (R237): Enable interrupts. -/
def execIEi (c : Fin 5) (pre : List Syl) (post : List Syl) (s : State) : Host.Outcome State Fault Refusal :=
  .next (s.ctlRow c pre .ei post)

/-- DI (R237): Disable interrupts. -/
def execIDi (c : Fin 5) (pre : List Syl) (post : List Syl) (s : State) : Host.Outcome State Fault Refusal :=
  .next (s.ctlRow c pre .di post)

/-- IHOLD (R237): Set IE and INH, holding interrupts until RTI. -/
def execIIhold (c : Fin 5) (pre : List Syl) (post : List Syl) (s : State) : Host.Outcome State Fault Refusal :=
  .next (s.ctlRow c pre .ihold post)

/-- WAITE (R238): Line-event wait, consuming a latched RELEASE. -/
def execIWaite (c : Fin 5) (pre : List Syl) (post : List Syl) (s : State) : Host.Outcome State Fault Refusal :=
  .next (s.ctlRow c pre .waite post)

/-- HALT (R238): Halt the core after its bundle. -/
def execIHalt (c : Fin 5) (pre : List Syl) (post : List Syl) (s : State) : Host.Outcome State Fault Refusal :=
  .next (s.ctlRow c pre .halt post)

end Sys2Proof.Machine
end

