-- ==== Sys2Proof/Machine/CmdDisplay.lean ====
section
/-! DEFINITION. Machine/CmdDisplay.lean: the meanings of the commands of the displays and the Tell-tale Guard (15). -/

namespace Sys2Proof.Machine

/-- DP_FRAME_LATCH (R387): At line VT − 1 the pipe latches its active values for the coming frame. -/
def execDpFrameLatch (p : Fin 2) (s : State) : Host.Outcome State Fault Refusal :=
  .next (s.onSys fun s => s.dpFrameLatch p)

/-- PPLL_LOCK (R389): A pixel PLL locks and the pipe starts its counter. -/
def execPpllLock (p : Fin 2) (s : State) : Host.Outcome State Fault Refusal :=
  .next (s.onSys fun s => s.ppllLock p)

/-- DP_LINE_START (R391): The pipe starts an active line, composing fetched planes with the Tell-tale Plane. -/
def execDpLineStart (p : Fin 2) (late : BitVec 4) (s : State) : Host.Outcome State Fault Refusal :=
  .next (s.onSys fun s => s.dpLineStart p late.toNat)

/-- ICV_SEAL (R400): ICV_CTRL.SEAL seals the icon vault. -/
def execIcvSeal (w : By) (s : State) : Host.Outcome State Fault Refusal :=
  .next (s.put w pgICV 0x040 1)

/-- ICV_OPEN (R400): ICV_CTRL.OPEN opens the vault, or is refused while proof runs. -/
def execIcvOpen (w : By) (s : State) : Host.Outcome State Fault Refusal :=
  .next (s.put w pgICV 0x040 2)

/-- ICV_FORMAT_CHECK_DONE (R401): After verification, the vault checks the body and sets READY or FMTERR. -/
def execIcvFormatCheckDone (s : State) : Host.Outcome State Fault Refusal :=
  .next (s.onSys fun s => s.icvFormatDone)

/-- GUARD_DECISION (R408): At a pipe's deadline, the Guard decides each region's result and steps its state machine. -/
def execGuardDecision (p : Fin 2) (s : State) : Host.Outcome State Fault Refusal :=
  .next (s.onSys fun s => s.guardDecision p)

/-- GUARD_MISSED_FRAME (R408): The pipe produces no frame start in time; the Guard decides a missed frame. -/
def execGuardMissedFrame (p : Fin 2) (s : State) : Host.Outcome State Fault Refusal :=
  .next (s.onSys fun s => s.guardMissed p)

/-- TTG_RELEASE (R409): RELEASEp moves regions in FALLBACK to RECOVER. -/
def execTtgRelease (w : By) (p : Fin 2) (s : State) : Host.Outcome State Fault Refusal :=
  .next (s.put w pgTTG 0x040 (BitVec.ofNat 32 (2 ^ p.val)))

/-- FORCE_OFF (R409): FORCE_OFF by T0 puts every region in FORCED with fallback off. -/
def execForceOff (w : By) (s : State) : Host.Outcome State Fault Refusal :=
  .next (s.put w pgTTG 0x040 0x100)

end Sys2Proof.Machine
end

