-- ==== Sys2Proof/Machine/CmdGralvo.lean ====
section
/-! DEFINITION. Machine/CmdGralvo.lean: the meanings of the commands of Gralvo and the Array Loader (10, 11). -/

namespace Sys2Proof.Machine

/-- CTX_SWITCH_EVENT (R260): A GRV_CTX line event requests a switch of the array to a context. -/
def execCtxSwitchEvent (e : Fin 256) (n : Fin 8) (lost : Bool) (s : State) : Host.Outcome State Fault Refusal :=
  .next (s.onSys fun s => s.ctxSwitchEvent e n lost)

/-- GRV_SW (R260): GRV_CTRL.SW requests a software switch to SWCTX. -/
def execGrvSw (w : By) (n : Fin 8) (s : State) : Host.Outcome State Fault Refusal :=
  .next (s.put w pgGRV 0x040 (BitVec.ofNat 32 (16 + n * 256)))

/-- QUEUE_TRIGGER (R260): Two cycles after DONE with GC_NEXT.EN = 1, the array switches to the next context. -/
def execQueueTrigger (s : State) : Host.Outcome State Fault Refusal :=
  .next (s.onSys fun s => s.queueTrigger)

/-- GRV_IDLE (R267): GRV_CTRL.IDLE ends the activation and makes the array idle. -/
def execGrvIdle (w : By) (s : State) : Host.Outcome State Fault Refusal :=
  .next (s.put w pgGRV 0x040 1)

/-- GRV_CLR (R267): GRV_CTRL.CLR clears GRV_DISC, GRV_SWCNT and SWLOST. -/
def execGrvClr (w : By) (s : State) : Host.Outcome State Fault Refusal :=
  .next (s.put w pgGRV 0x040 2)

/-- GC_ACTIDX_CLR (R260): GC_ACTIDX.CLR returns the activation index to 0. -/
def execGcActidxClr (w : By) (n : Fin 8) (s : State) : Host.Outcome State Fault Refusal :=
  .next (s.put w (pgGCTX n) 0x04C 0x80000000)

/-- CELL_FIRE (R247): A cell whose operands hold tokens and whose output has room fires. -/
def execCellFire (c : Fin 12) (r : Fin 8) (s : State) : Host.Outcome State Fault Refusal :=
  .next (s.onSys fun s => s.cellFire c r)

/-- PORT_READ_ISSUE (R255): A read port issues its next read, merged, within its buffer limit. -/
def execPortReadIssue (p : Fin 8) (s : State) : Host.Outcome State Fault Refusal :=
  .next (s.onSys fun s => s.portReadIssue p)

/-- WRITE_PORT_MERGE_TIMEOUT (R257): A write port issues its merged write after 16 cycles without a word. -/
def execWritePortMergeTimeout (p : Fin 8) (s : State) : Host.Outcome State Fault Refusal :=
  .next (s.onSys fun s => s.portMergeTimeout p)

/-- PORT_RESPONSE (R258): A response to a port request arrives; the port delivers, completes, or stops on an error. -/
def execPortResponse (p : Fin 8) (i : Nat) (sts : Fin 16) (dem late : Bool) (data : List Byte) (s : State) : Host.Outcome State Fault Refusal :=
  .next (s.onSys fun s => s.portResponse p i sts dem late data)

/-- PORT_REFUSED_RETRY (R258): 64 cycles after a REFUSED response, the port issues the request again. -/
def execPortRefusedRetry (p : Fin 8) (i : Nat) (s : State) : Host.Outcome State Fault Refusal :=
  .next (s.onSys fun s => s.portRetry p i)

/-- ACTIVATION_DONE (R264): Every armed port has finished; DONE is set and the queue trigger may be requested. -/
def execActivationDone (s : State) : Host.Outcome State Fault Refusal :=
  .next (s.onSys fun s => s.activationDone)

/-- ACTIVATION_WATCHDOG (R265): The activation reaches ACT_MAX before DONE and is halted. -/
def execActivationWatchdog (s : State) : Host.Outcome State Fault Refusal :=
  .next (s.onSys fun s => s.activationWatchdog)

/-- LD_START (R285): LD_CTRL.START starts a load of a Last image. -/
def execLdStart (w : By) (s : State) : Host.Outcome State Fault Refusal :=
  .next (s.put w pgALD 0x040 1)

/-- LD_ABORT (R286): LD_CTRL.ABORT ends a load in phases 1 to 3 with reason 20. -/
def execLdAbort (w : By) (s : State) : Host.Outcome State Fault Refusal :=
  .next (s.put w pgALD 0x040 2)

/-- LOAD_READ_DONE (R285): The image has been read and checked; the load goes on to verification or is refused. -/
def execLoadReadDone (sts : Fin 16) (ofs : Nat) (s : State) : Host.Outcome State Fault Refusal :=
  .next (s.onSys fun s => s.loadReadDone sts ofs)

/-- LOAD_VERIFY_DONE (R277): The signature verification completes; the loader places the image or refuses it. -/
def execLoadVerifyDone (s : State) : Host.Outcome State Fault Refusal :=
  .next (s.onSys fun s => s.loadVerifyDone)

/-- LOAD_PART_EVAL_DONE (R284): The evaluation of a part's claim set completes; the loader commits the next part or refuses
and withdraws. -/
def execLoadPartEvalDone (s : State) : Host.Outcome State Fault Refusal :=
  .next (s.onSys fun s => s.loadPartEvalDone)

/-- LOAD_EFFECT (R285): At the frame boundary at which the last set takes effect, the loader starts writing the contexts. -/
def execLoadEffect (s : State) : Host.Outcome State Fault Refusal :=
  .next (s.onSys fun s => s.loadEffect)

/-- LOAD_WRITE_DONE (R285): The store and descriptors are written; VALID and OK are set and DONE is raised. -/
def execLoadWriteDone (s : State) : Host.Outcome State Fault Refusal :=
  .next (s.onSys fun s => s.loadWriteDone)

/-- TRACK_TOKEN_ADVANCE (R250): In each array cycle, tokens move one register stage per switch box, read ports place buffered
words on track 0, and write ports take words from track 0, all under valid/ready backpressure. -/
def execTrackTokenAdvance (s : State) : Host.Outcome State Fault Refusal :=
  .next (s.onSys fun s => s.trackAdvance)

end Sys2Proof.Machine
end

