-- ==== Sys2Proof/Machine/CmdLanes.lean ====
section
/-! DEFINITION. Machine/CmdLanes.lean: the meanings of the commands of the serial lanes (17). -/

namespace Sys2Proof.Machine

/-- LANE_ALIGNED (R456): 16 error-free idle sets align the receiver; the lane goes to Run. -/
def execLaneAligned (n : Fin 4) (s : State) : Host.Outcome State Fault Refusal :=
  .next (s.onSys fun s => s.laneAligned n)

/-- LANE_ALIGN_LOST (R456): Symbol errors or a missing comma lose alignment; the lane retrains. -/
def execLaneAlignLost (n : Fin 4) (errs : Nat) (s : State) : Host.Outcome State Fault Refusal :=
  .next (s.onSys fun s => s.laneLost n errs)

/-- REFLOSS (R458): A received reference shows no edge for 1 µs; every lane goes Down. -/
def execRefloss (s : State) : Host.Outcome State Fault Refusal :=
  .next (s.onSys fun s => s.refLoss)

/-- LANEPLL_LOCK (R458): LANEPLL locks again and enabled lanes train. -/
def execLanepllLock (s : State) : Host.Outcome State Fault Refusal :=
  .next (s.onSys fun s => s.lanePllLock)

/-- LANE_LP_EVENT (R460): A LANE_LP event requests Idle or Dormant entry for the named lanes. -/
def execLaneLpEvent (arg : BitVec 16) (s : State) : Host.Outcome State Fault Refusal :=
  .next (s.onSys fun s => s.laneLp arg.toNat)

/-- LN_LP_IDLE (R460): LN_LP.IDLE requests Idle entry. -/
def execLnLpIdle (w : By) (n : Fin 4) (s : State) : Host.Outcome State Fault Refusal :=
  .next (s.put w (pgLANE n) 0x048 1)

/-- LN_LP_DORMANT (R460): LN_LP.DORMANT requests Dormant entry. -/
def execLnLpDormant (w : By) (n : Fin 4) (s : State) : Host.Outcome State Fault Refusal :=
  .next (s.put w (pgLANE n) 0x048 2)

/-- LN_LP_EXIT (R461): LN_LP.EXIT starts a low-power exit. -/
def execLnLpExit (w : By) (n : Fin 4) (s : State) : Host.Outcome State Fault Refusal :=
  .next (s.put w (pgLANE n) 0x048 4)

/-- FAR_LP_ENTRY (R460): The receiver sees EIE or DRM from the far end and enters the same state for its direction. -/
def execFarLpEntry (n : Fin 4) (s : State) : Host.Outcome State Fault Refusal :=
  .next (s.onSys fun s => s.laneFarLp n)

/-- LP_WINDOW_END (R461): The LANE_LP window's length has passed; the exit begins. -/
def execLpWindowEnd (n : Fin 4) (s : State) : Host.Outcome State Fault Refusal :=
  .next (s.onSys fun s => s.laneWindowEnd n)

/-- LP_EXIT_DONE (R461): The exit's training completes and the lane returns to Run. -/
def execLpExitDone (n : Fin 4) (s : State) : Host.Outcome State Fault Refusal :=
  .next (s.onSys fun s => s.laneExitDone n)

/-- PANE_SEGMENT_SEND (R465): A completed video segment is sent as a VLINE packet, or dropped when both buffers are held. -/
def execPaneSegmentSend (n : Fin 4) (x : Nat) (s : State) : Host.Outcome State Fault Refusal :=
  .next (s.onSys fun s => s.paneSegment n x)

/-- PANE_REPORT_RECEIVE (R467): A PREP packet arrives; it is passed to the Guard, or discarded on a CRC failure. -/
def execPaneReportReceive (n : Fin 4) (b : List Byte) (bad : Bool) (s : State) : Host.Outcome State Fault Refusal :=
  .next (s.onSys fun s => s.laneRx n 1 (.pkt b bad))

/-- HOST_VSTART (R468): A host VSTART closes the previous host frame and opens the next buffer, or drops the frame. -/
def execHostVstart (n : Fin 4) (b : List Byte) (bad : Bool) (s : State) : Host.Outcome State Fault Refusal :=
  .next (s.onSys fun s => s.hostRx n 2 b bad)

/-- HOST_VLINE (R468): A host VLINE's pixels are written into the host buffer. -/
def execHostVline (n : Fin 4) (b : List Byte) (bad : Bool) (s : State) : Host.Outcome State Fault Refusal :=
  .next (s.onSys fun s => s.hostRx n 1 b bad)

/-- HIN_REL (R468): A write of HIN_REL frees host buffers. -/
def execHinRel (w : By) (n : Fin 4) (m : BitVec 4) (s : State) : Host.Outcome State Fault Refusal :=
  .next (s.put w (pgPANE n) 0x074 (m.zeroExtend 32))

/-- WL_DATA_PACKET (R473): A Welt Link data packet is accepted, discarded as a duplicate, or NAKed. -/
def execWlDataPacket (n : Fin 4) (b : List Byte) (bad : Bool) (s : State) : Host.Outcome State Fault Refusal :=
  .next (s.onSys fun s => s.laneRx n 3 (.pkt b bad))

/-- WL_ACK (R472): An ACK frees acknowledged packets from the replay buffer. -/
def execWlAck (n : Fin 4) (b : List Byte) (s : State) : Host.Outcome State Fault Refusal :=
  .next (s.onSys fun s => s.ctlRx n 1 b)

/-- WL_NAK (R472): A NAK acknowledges packets and starts a replay after n. -/
def execWlNak (n : Fin 4) (b : List Byte) (s : State) : Host.Outcome State Fault Refusal :=
  .next (s.onSys fun s => s.ctlRx n 2 b)

/-- WL_INIT (R471): A received INIT is answered with ACK 0xFFF, or takes an UP link down. -/
def execWlInit (n : Fin 4) (b : List Byte) (s : State) : Host.Outcome State Fault Refusal :=
  .next (s.onSys fun s => s.ctlRx n 3 b)

/-- WL_INIT_TIMER (R471): Every 1 µs until the link is up, the lane sends INIT. -/
def execWlInitTimer (n : Fin 4) (s : State) : Host.Outcome State Fault Refusal :=
  .next (s.onSys fun s => s.linkInit n)

/-- WL_REPLAY_TIMEOUT (R472): The oldest held packet waits REPTMO; every held packet is replayed, or the link goes down at the
limit. -/
def execWlReplayTimeout (n : Fin 4) (s : State) : Host.Outcome State Fault Refusal :=
  .next (s.onSys fun s => s.linkTimeout n)

/-- RETRAIN (R474): LK_CTRL2.RETRAIN takes the link down. -/
def execRetrain (w : By) (n : Fin 4) (s : State) : Host.Outcome State Fault Refusal :=
  .next (s.put w (pgLINK n) 0x058 2)

/-- LK_CLR (R481): LK_CTRL2.CLR clears the link counters. -/
def execLkClr (w : By) (n : Fin 4) (s : State) : Host.Outcome State Fault Refusal :=
  .next (s.put w (pgLINK n) 0x058 1)

/-- APERTURE_ACCESS (R475): An access to the LINK aperture becomes a pending request to the far part, or is merged or refused.
-/
def execApertureAccess (w : By) (n : Fin 4) (seq : BitVec 12) (cls : Fin 3) (write : Bool) (o : Fin 2048) (v : Word) (s : State) : Host.Outcome State Fault Refusal :=
  .next (s.apertureAccess w n seq.toNat cls write o v)

/-- PRBS_INJ1 (R478): PR_CTRL.INJ1 inverts the next transmitted PRBS bit. -/
def execPrbsInj1 (w : By) (n : Fin 4) (v : Word) (s : State) : Host.Outcome State Fault Refusal :=
  .next (s.put w (pgLANE n) 0x060 (withBit v 4))

/-- PRBS_LOCK_LOST (R478): The PRBS checker sees 64 errors within 1,024 bits, loses lock, and locks again. -/
def execPrbsLockLost (n : Fin 4) (errs bits : Nat) (s : State) : Host.Outcome State Fault Refusal :=
  .next (s.onSys fun s => s.prbsLost n errs bits)

/-- ES_START (R479): ES_CTRL.START starts an eye-scan measurement at PH and VOFF. -/
def execEsStart (w : By) (n : Fin 4) (v : Word) (s : State) : Host.Outcome State Fault Refusal :=
  .next (s.put w (pgLANE n) 0x080 (withBit v 0))

/-- ES_DONE (R479): 2^LOG2N bits have been compared; ES_ERR is final and ES_DONE is raised. -/
def execEsDone (n : Fin 4) (errs : Nat) (s : State) : Host.Outcome State Fault Refusal :=
  .next (s.onSys fun s => s.esDone n errs)

/-- PRBS_CHECKER_LOCK (R478): The PRBS checker sees 64 consecutive correct bits, locks, and starts counting errored bits. -/
def execPrbsCheckerLock (n : Fin 4) (s : State) : Host.Outcome State Fault Refusal :=
  .next (s.onSys fun s => s.prbsLock n)

end Sys2Proof.Machine
end

