-- ==== Sys2Proof/Machine/CmdLight.lean ====
section
/-! DEFINITION. Machine/CmdLight.lean: the meanings of the commands of the light drive and Lace (16). -/

namespace Sys2Proof.Machine

/-- LAMP_SYNC (R420): A LAMP_SYNC event restarts the PWM period of a group's direct sinks, and of the matrix if named. -/
def execLampSync (g : Fin 16) (s : State) : Host.Outcome State Fault Refusal :=
  .next (s.onSys fun s => s.lampSync g)

/-- PWM_PERIOD_START (R420): A free-running PWM period starts and the lamps take their new scales. -/
def execPwmPeriodStart (t : Fin 17) (s : State) : Host.Outcome State Fault Refusal :=
  .next (s.onSys fun s => s.pwmPeriod t)

/-- BL_SCAN (R428): A BL_SCAN event starts the backlight zone scan. -/
def execBlScan (arg : BitVec 16) (s : State) : Host.Outcome State Fault Refusal :=
  .next (s.onSys fun s => s.blScan arg.toNat)

/-- SCAN_MISS_REPEAT (R428): No BL_SCAN within VT_ACT lines; the last schedule repeats and SCAN_MISS is raised. -/
def execScanMissRepeat (s : State) : Host.Outcome State Fault Refusal :=
  .next (s.onSys fun s => s.scanMiss)

/-- LACE_LATCH_EVENT (R445): A LACE_LATCH event requests the broadcast latch. -/
def execLaceLatchEvent (s : State) : Host.Outcome State Fault Refusal :=
  .next (s.onSys fun s => s.laceLatch)

/-- CAL_NOW (R431): CAL_CTRL.NOW makes the pending calibration entries active at once. -/
def execCalNow (w : By) (s : State) : Host.Outcome State Fault Refusal :=
  .next (s.put w pgCAL 0x040 1)

/-- SINK_HEADROOM_LOW (R419): A sink's headroom falls below V_HRMIN while it is on; HRLOW is raised. -/
def execSinkHeadroomLow (n : Fin 24) (s : State) : Host.Outcome State Fault Refusal :=
  .next (s.onSys fun s => s.headroomLow n)

/-- LAMP_FAULT_DECLARED (R435): FCNT consecutive tested pulses meet a fault condition; the lamp fault is latched and acted on.
-/
def execLampFaultDeclared (c : Fin 156) (short : Bool) (s : State) : Host.Outcome State Fault Refusal :=
  .next (s.onSys fun s => s.lampFault c short)

/-- ROW_OVERCURRENT (R435): A row switch exceeds 1.5 A and is switched off for the rest of the period. -/
def execRowOvercurrent (r : Fin 8) (s : State) : Host.Outcome State Fault Refusal :=
  .next (s.onSys fun s => s.rowOver r)

/-- MX_ADMISSION_RESULT (R424): The MX claim evaluation completes; the geometry becomes pending-active, or REF is set. -/
def execMxAdmissionResult (s : State) : Host.Outcome State Fault Refusal :=
  .next (s.onSys fun s => s.mxResult)

/-- BOOST_OVP (R426): The boost output exceeds VMAX + 2 V; switching stops and OVP is recorded. -/
def execBoostOvp (v : Fin 256) (s : State) : Host.Outcome State Fault Refusal :=
  .next (s.onSys fun s => s.boostOvp v)

/-- OVPCLR (R426): BL_CTRL.OVPCLR clears OVP and lets the boost restart. -/
def execOvpclr (w : By) (v : Word) (s : State) : Host.Outcome State Fault Refusal :=
  .next (s.put w pgBLD 0x040 (withBit v 31))

/-- FG_CFG_WRITE (R432): A write of a group's settings is checked against group holdings. -/
def execFgCfgWrite (w : By) (g : Fin 16) (v : Word) (s : State) : Host.Outcome State Fault Refusal :=
  .next (s.put w pgFG (0x080 + 4 * g) v)

/-- FG_CLR (R436): FG_CTRL.CLR clears a group's latched fault and lets it resume. -/
def execFgClr (w : By) (m : BitVec 16) (s : State) : Host.Outcome State Fault Refusal :=
  .next (s.put w pgFG 0x040 (m.zeroExtend 32))

/-- LD_FCLR (R435): LD_FCLR clears every latched lamp fault and restarts testing. -/
def execLdFclr (w : By) (s : State) : Host.Outcome State Fault Refusal :=
  .next (s.put w pgLD 0x0F0 1)

/-- SEAM_HOLD_FALLBACK_TICK (R438): During a Seam hold, the power die's 1 kHz timer drives the fallback lamps. -/
def execSeamHoldFallbackTick (s : State) : Host.Outcome State Fault Refusal :=
  .next (s.onSys fun s => s.holdTick)

/-- LACE_PUSH (R446): LACE_QCMD.PUSH queues a transaction, or refuses it. -/
def execLacePush (w : By) (v : Word) (s : State) : Host.Outcome State Fault Refusal :=
  .next (s.put w pgLACE 0x050 (clrBit (withBit v 0) 1))

/-- LACE_FLUSH (R453): LACE_QCMD.FLUSH completes queued transactions with result 4. -/
def execLaceFlush (w : By) (s : State) : Host.Outcome State Fault Refusal :=
  .next (s.put w pgLACE 0x050 2)

/-- LACE_TRANSACTION_START (R446): After 12 idle bit times, the bus starts the next frame in serving order. -/
def execLaceTransactionStart (s : State) : Host.Outcome State Fault Refusal :=
  .next (s.onSys fun s => s.laceStart)

/-- LACE_RESPONSE (R443): An eyelet response arrives and is checked; the transaction completes or is retried. -/
def execLaceResponse (bytes : List Byte) (s : State) : Host.Outcome State Fault Refusal :=
  .next (s.onSys fun s => s.laceAnswer bytes)

/-- LACE_RESPONSE_TIMEOUT (R443): No response has started after RTMO bit times; the attempt ends and is retried. -/
def execLaceResponseTimeout (readback : Bool) (s : State) : Host.Outcome State Fault Refusal :=
  .next (s.onSys fun s => s.laceTimeout readback)

/-- LACE_ONLINE_WRITE (R444): Writing 1 to an offline bit sends SEQSYNC and sets the bit if the eyelet answers. -/
def execLaceOnlineWrite (w : By) (i : Fin 2) (v : Word) (s : State) : Host.Outcome State Fault Refusal :=
  .next (s.put w pgLACE (0x060 + 4 * i) v)

/-- LACE_POLL (R447): Every POLL ms, the part reads STATUS of every online eyelet. -/
def execLacePoll (s : State) : Host.Outcome State Fault Refusal :=
  .next (s.onSys fun s => s.lacePoll)

/-- LACE_RESPONSE_POP (R453): A read of LACE_RSPB removes the response entry. -/
def execLaceResponsePop (w : By) (s : State) : Host.Outcome State Fault Refusal :=
  .next (s.take w pgLACE 0x058)

/-- PWM_SUB_PERIOD_START (R422): A PWM sub-period or matrix row window starts, and its sub-pulses, row switches and column
currents switch on and off on the 12.5 ns tick. -/
def execPwmSubPeriodStart (t : Fin 17) (s : State) : Host.Outcome State Fault Refusal :=
  .next (s.onSys fun s => s.pwmSub t)

end Sys2Proof.Machine
end

