-- ==== Sys2Proof/Machine/CmdMac.lean ====
section
/-! DEFINITION. Machine/CmdMac.lean: the meanings of the commands of the MAC-slot instructions (08). -/

namespace Sys2Proof.Machine

/-- A bundle with a MAC-slot syllable: `hi` names the second slot (07 R165). -/
def State.macRow (s : State) (c : Nat) (pre : List Syl) (hi : Bool) (op : Op) (post : List Syl) : State :=
  s.issueRow c pre ⟨if hi then .mac1 else .mac0, op⟩ post

/-- MAC_NOP (R204): MAC-slot NOP does nothing. -/
def execIMacNop (c : Fin 5) (pre : List Syl) (hi : Bool) (post : List Syl) (s : State) : Host.Outcome State Fault Refusal :=
  .next (s.macRow c pre hi .nop post)

/-- MPY (R205): Fractional multiply into an accumulator. -/
def execIMpy (c : Fin 5) (pre : List Syl) (hi : Bool) (acd : Nat) (a b : MOp) (post : List Syl) (s : State) : Host.Outcome State Fault Refusal :=
  .next (s.macRow c pre hi (.m .mpy acd a b) post)

/-- MAC (R205): Fractional multiply-accumulate. -/
def execIMac (c : Fin 5) (pre : List Syl) (hi : Bool) (acd : Nat) (a b : MOp) (post : List Syl) (s : State) : Host.Outcome State Fault Refusal :=
  .next (s.macRow c pre hi (.m .mac acd a b) post)

/-- MSU (R205): Fractional multiply-subtract. -/
def execIMsu (c : Fin 5) (pre : List Syl) (hi : Bool) (acd : Nat) (a b : MOp) (post : List Syl) (s : State) : Host.Outcome State Fault Refusal :=
  .next (s.macRow c pre hi (.m .msu acd a b) post)

/-- MACS (R205): Fractional multiply-accumulate, saturating at 32 bits. -/
def execIMacs (c : Fin 5) (pre : List Syl) (hi : Bool) (acd : Nat) (a b : MOp) (post : List Syl) (s : State) : Host.Outcome State Fault Refusal :=
  .next (s.macRow c pre hi (.m .macs acd a b) post)

/-- MSUS (R205): Fractional multiply-subtract, saturating at 32 bits. -/
def execIMsus (c : Fin 5) (pre : List Syl) (hi : Bool) (acd : Nat) (a b : MOp) (post : List Syl) (s : State) : Host.Outcome State Fault Refusal :=
  .next (s.macRow c pre hi (.m .msus acd a b) post)

/-- MPYI (R205): Integer multiply. -/
def execIMpyi (c : Fin 5) (pre : List Syl) (hi : Bool) (acd : Nat) (a b : MOp) (post : List Syl) (s : State) : Host.Outcome State Fault Refusal :=
  .next (s.macRow c pre hi (.m .mpyi acd a b) post)

/-- MACI (R205): Integer multiply-accumulate. -/
def execIMaci (c : Fin 5) (pre : List Syl) (hi : Bool) (acd : Nat) (a b : MOp) (post : List Syl) (s : State) : Host.Outcome State Fault Refusal :=
  .next (s.macRow c pre hi (.m .maci acd a b) post)

/-- MSUI (R205): Integer multiply-subtract. -/
def execIMsui (c : Fin 5) (pre : List Syl) (hi : Bool) (acd : Nat) (a b : MOp) (post : List Syl) (s : State) : Host.Outcome State Fault Refusal :=
  .next (s.macRow c pre hi (.m .msui acd a b) post)

/-- MPYU (R205): Unsigned multiply. -/
def execIMpyu (c : Fin 5) (pre : List Syl) (hi : Bool) (acd : Nat) (a b : MOp) (post : List Syl) (s : State) : Host.Outcome State Fault Refusal :=
  .next (s.macRow c pre hi (.m .mpyu acd a b) post)

/-- MACU (R205): Unsigned multiply-accumulate. -/
def execIMacu (c : Fin 5) (pre : List Syl) (hi : Bool) (acd : Nat) (a b : MOp) (post : List Syl) (s : State) : Host.Outcome State Fault Refusal :=
  .next (s.macRow c pre hi (.m .macu acd a b) post)

/-- MPYSU (R205): Signed-by-unsigned multiply. -/
def execIMpysu (c : Fin 5) (pre : List Syl) (hi : Bool) (acd : Nat) (a b : MOp) (post : List Syl) (s : State) : Host.Outcome State Fault Refusal :=
  .next (s.macRow c pre hi (.m .mpysu acd a b) post)

/-- MACSU (R205): Signed-by-unsigned multiply-accumulate. -/
def execIMacsu (c : Fin 5) (pre : List Syl) (hi : Bool) (acd : Nat) (a b : MOp) (post : List Syl) (s : State) : Host.Outcome State Fault Refusal :=
  .next (s.macRow c pre hi (.m .macsu acd a b) post)

/-- PERM (R215): Builds a word from selected bytes of A and D. -/
def execIPerm (c : Fin 5) (pre : List Syl) (hi : Bool) (d a imm : Nat) (post : List Syl) (s : State) : Host.Outcome State Fault Refusal :=
  .next (s.macRow c pre hi (.i .perm d a imm) post)

/-- BXCLR (R216): Sets BX := 15. -/
def execIBxclr (c : Fin 5) (pre : List Syl) (hi : Bool) (post : List Syl) (s : State) : Host.Outcome State Fault Refusal :=
  .next (s.macRow c pre hi .bxclr post)

/-- BXDET (R216): Lowers BX to the redundant sign bits of A. -/
def execIBxdet (c : Fin 5) (pre : List Syl) (hi : Bool) (d a b : Nat) (det : Bool) (post : List Syl) (s : State) : Host.Outcome State Fault Refusal :=
  .next (s.macRow c pre hi (.r .bxdet d a b det) post)

/-- ACLR (R206): Clears an accumulator. -/
def execIAclr (c : Fin 5) (pre : List Syl) (hi : Bool) (acd acs r : Nat) (sbx : Bool) (sh : Nat) (det : Bool) (post : List Syl) (s : State) : Host.Outcome State Fault Refusal :=
  .next (s.macRow c pre hi (.a .aclr acd acs r sbx sh det) post)

/-- AMOV (R206): Copies one accumulator to another. -/
def execIAmov (c : Fin 5) (pre : List Syl) (hi : Bool) (acd acs r : Nat) (sbx : Bool) (sh : Nat) (det : Bool) (post : List Syl) (s : State) : Host.Outcome State Fault Refusal :=
  .next (s.macRow c pre hi (.a .amov acd acs r sbx sh det) post)

/-- AADD (R206): Adds accumulators. -/
def execIAadd (c : Fin 5) (pre : List Syl) (hi : Bool) (acd acs r : Nat) (sbx : Bool) (sh : Nat) (det : Bool) (post : List Syl) (s : State) : Host.Outcome State Fault Refusal :=
  .next (s.macRow c pre hi (.a .aadd acd acs r sbx sh det) post)

/-- ASUB (R206): Subtracts accumulators. -/
def execIAsub (c : Fin 5) (pre : List Syl) (hi : Bool) (acd acs r : Nat) (sbx : Bool) (sh : Nat) (det : Bool) (post : List Syl) (s : State) : Host.Outcome State Fault Refusal :=
  .next (s.macRow c pre hi (.a .asub acd acs r sbx sh det) post)

/-- ANEG (R206): Negates an accumulator. -/
def execIAneg (c : Fin 5) (pre : List Syl) (hi : Bool) (acd acs r : Nat) (sbx : Bool) (sh : Nat) (det : Bool) (post : List Syl) (s : State) : Host.Outcome State Fault Refusal :=
  .next (s.macRow c pre hi (.a .aneg acd acs r sbx sh det) post)

/-- AABS (R206): Takes the absolute value of an accumulator. -/
def execIAabs (c : Fin 5) (pre : List Syl) (hi : Bool) (acd acs r : Nat) (sbx : Bool) (sh : Nat) (det : Bool) (post : List Syl) (s : State) : Host.Outcome State Fault Refusal :=
  .next (s.macRow c pre hi (.a .aabs acd acs r sbx sh det) post)

/-- ASH (R206): Shifts an accumulator by SH or BX. -/
def execIAsh (c : Fin 5) (pre : List Syl) (hi : Bool) (acd acs r : Nat) (sbx : Bool) (sh : Nat) (det : Bool) (post : List Syl) (s : State) : Host.Outcome State Fault Refusal :=
  .next (s.macRow c pre hi (.a .ash acd acs r sbx sh det) post)

/-- ASHV (R206): Shifts an accumulator by a register count. -/
def execIAshv (c : Fin 5) (pre : List Syl) (hi : Bool) (acd acs r : Nat) (sbx : Bool) (sh : Nat) (det : Bool) (post : List Syl) (s : State) : Host.Outcome State Fault Refusal :=
  .next (s.macRow c pre hi (.a .ashv acd acs r sbx sh det) post)

/-- ASAT (R206): Saturates an accumulator to 32 bits. -/
def execIAsat (c : Fin 5) (pre : List Syl) (hi : Bool) (acd acs r : Nat) (sbx : Bool) (sh : Nat) (det : Bool) (post : List Syl) (s : State) : Host.Outcome State Fault Refusal :=
  .next (s.macRow c pre hi (.a .asat acd acs r sbx sh det) post)

/-- ALD (R206): Loads a Q15 word into accumulator bits [31:16]. -/
def execIAld (c : Fin 5) (pre : List Syl) (hi : Bool) (acd acs r : Nat) (sbx : Bool) (sh : Nat) (det : Bool) (post : List Syl) (s : State) : Host.Outcome State Fault Refusal :=
  .next (s.macRow c pre hi (.a .ald acd acs r sbx sh det) post)

/-- ALDW (R206): Loads an integer word into accumulator bits [15:0]. -/
def execIAldw (c : Fin 5) (pre : List Syl) (hi : Bool) (acd acs r : Nat) (sbx : Bool) (sh : Nat) (det : Bool) (post : List Syl) (s : State) : Host.Outcome State Fault Refusal :=
  .next (s.macRow c pre hi (.a .aldw acd acs r sbx sh det) post)

/-- ACMP (R206): Compares accumulators and sets the flags. -/
def execIAcmp (c : Fin 5) (pre : List Syl) (hi : Bool) (acd acs r : Nat) (sbx : Bool) (sh : Nat) (det : Bool) (post : List Syl) (s : State) : Host.Outcome State Fault Refusal :=
  .next (s.macRow c pre hi (.a .acmp acd acs r sbx sh det) post)

/-- NARR (R207): Shifts and narrows an accumulator to a register, with saturation and optional BX detection. -/
def execINarr (c : Fin 5) (pre : List Syl) (hi : Bool) (acd acs r : Nat) (sbx : Bool) (sh : Nat) (det : Bool) (post : List Syl) (s : State) : Host.Outcome State Fault Refusal :=
  .next (s.macRow c pre hi (.a .narr acd acs r sbx sh det) post)

/-- AEXP (R208): Writes the normalising shift of an accumulator. -/
def execIAexp (c : Fin 5) (pre : List Syl) (hi : Bool) (acd acs r : Nat) (sbx : Bool) (sh : Nat) (det : Bool) (post : List Syl) (s : State) : Host.Outcome State Fault Refusal :=
  .next (s.macRow c pre hi (.a .aexp acd acs r sbx sh det) post)

/-- ADD (R209): 16-bit add. -/
def execIAdd (c : Fin 5) (pre : List Syl) (hi : Bool) (d a b : Nat) (det : Bool) (post : List Syl) (s : State) : Host.Outcome State Fault Refusal :=
  .next (s.macRow c pre hi (.r .add d a b det) post)

/-- ADDS (R209): Saturating 16-bit add. -/
def execIAdds (c : Fin 5) (pre : List Syl) (hi : Bool) (d a b : Nat) (det : Bool) (post : List Syl) (s : State) : Host.Outcome State Fault Refusal :=
  .next (s.macRow c pre hi (.r .adds d a b det) post)

/-- ADC (R209): Add with carry. -/
def execIAdc (c : Fin 5) (pre : List Syl) (hi : Bool) (d a b : Nat) (det : Bool) (post : List Syl) (s : State) : Host.Outcome State Fault Refusal :=
  .next (s.macRow c pre hi (.r .adc d a b det) post)

/-- SUB (R209): 16-bit subtract. -/
def execISub (c : Fin 5) (pre : List Syl) (hi : Bool) (d a b : Nat) (det : Bool) (post : List Syl) (s : State) : Host.Outcome State Fault Refusal :=
  .next (s.macRow c pre hi (.r .sub d a b det) post)

/-- SUBS (R209): Saturating 16-bit subtract. -/
def execISubs (c : Fin 5) (pre : List Syl) (hi : Bool) (d a b : Nat) (det : Bool) (post : List Syl) (s : State) : Host.Outcome State Fault Refusal :=
  .next (s.macRow c pre hi (.r .subs d a b det) post)

/-- SBC (R209): Subtract with borrow. -/
def execISbc (c : Fin 5) (pre : List Syl) (hi : Bool) (d a b : Nat) (det : Bool) (post : List Syl) (s : State) : Host.Outcome State Fault Refusal :=
  .next (s.macRow c pre hi (.r .sbc d a b det) post)

/-- CMP (R209): Compares two registers by subtraction and sets the flags. -/
def execICmp (c : Fin 5) (pre : List Syl) (hi : Bool) (d a b : Nat) (det : Bool) (post : List Syl) (s : State) : Host.Outcome State Fault Refusal :=
  .next (s.macRow c pre hi (.r .cmp d a b det) post)

/-- NEG (R209): Negates a register. -/
def execINeg (c : Fin 5) (pre : List Syl) (hi : Bool) (d a b : Nat) (det : Bool) (post : List Syl) (s : State) : Host.Outcome State Fault Refusal :=
  .next (s.macRow c pre hi (.r .neg d a b det) post)

/-- ABS (R209): Absolute value of a register. -/
def execIAbs (c : Fin 5) (pre : List Syl) (hi : Bool) (d a b : Nat) (det : Bool) (post : List Syl) (s : State) : Host.Outcome State Fault Refusal :=
  .next (s.macRow c pre hi (.r .abs d a b det) post)

/-- MIN (R209): Signed minimum. -/
def execIMin (c : Fin 5) (pre : List Syl) (hi : Bool) (d a b : Nat) (det : Bool) (post : List Syl) (s : State) : Host.Outcome State Fault Refusal :=
  .next (s.macRow c pre hi (.r .min d a b det) post)

/-- MAX (R209): Signed maximum. -/
def execIMax (c : Fin 5) (pre : List Syl) (hi : Bool) (d a b : Nat) (det : Bool) (post : List Syl) (s : State) : Host.Outcome State Fault Refusal :=
  .next (s.macRow c pre hi (.r .max d a b det) post)

/-- AND (R210): Bitwise AND. -/
def execIAnd (c : Fin 5) (pre : List Syl) (hi : Bool) (d a b : Nat) (det : Bool) (post : List Syl) (s : State) : Host.Outcome State Fault Refusal :=
  .next (s.macRow c pre hi (.r .and d a b det) post)

/-- OR (R210): Bitwise OR. -/
def execIOr (c : Fin 5) (pre : List Syl) (hi : Bool) (d a b : Nat) (det : Bool) (post : List Syl) (s : State) : Host.Outcome State Fault Refusal :=
  .next (s.macRow c pre hi (.r .or d a b det) post)

/-- XOR (R210): Bitwise XOR. -/
def execIXor (c : Fin 5) (pre : List Syl) (hi : Bool) (d a b : Nat) (det : Bool) (post : List Syl) (s : State) : Host.Outcome State Fault Refusal :=
  .next (s.macRow c pre hi (.r .xor d a b det) post)

/-- ANDN (R210): AND with complement. -/
def execIAndn (c : Fin 5) (pre : List Syl) (hi : Bool) (d a b : Nat) (det : Bool) (post : List Syl) (s : State) : Host.Outcome State Fault Refusal :=
  .next (s.macRow c pre hi (.r .andn d a b det) post)

/-- TST (R210): AND that sets the flags only. -/
def execITst (c : Fin 5) (pre : List Syl) (hi : Bool) (d a b : Nat) (det : Bool) (post : List Syl) (s : State) : Host.Outcome State Fault Refusal :=
  .next (s.macRow c pre hi (.r .tst d a b det) post)

/-- SHL (R211): Logical shift left by a register count. -/
def execIShl (c : Fin 5) (pre : List Syl) (hi : Bool) (d a b : Nat) (det : Bool) (post : List Syl) (s : State) : Host.Outcome State Fault Refusal :=
  .next (s.macRow c pre hi (.r .shl d a b det) post)

/-- SHR (R211): Logical shift right by a register count. -/
def execIShr (c : Fin 5) (pre : List Syl) (hi : Bool) (d a b : Nat) (det : Bool) (post : List Syl) (s : State) : Host.Outcome State Fault Refusal :=
  .next (s.macRow c pre hi (.r .shr d a b det) post)

/-- ASR (R211): Arithmetic shift right by a register count. -/
def execIAsr (c : Fin 5) (pre : List Syl) (hi : Bool) (d a b : Nat) (det : Bool) (post : List Syl) (s : State) : Host.Outcome State Fault Refusal :=
  .next (s.macRow c pre hi (.r .asr d a b det) post)

/-- ROL (R211): Rotate left by a register count. -/
def execIRol (c : Fin 5) (pre : List Syl) (hi : Bool) (d a b : Nat) (det : Bool) (post : List Syl) (s : State) : Host.Outcome State Fault Refusal :=
  .next (s.macRow c pre hi (.r .rol d a b det) post)

/-- SHLI (R211): Logical shift left by an immediate. -/
def execIShli (c : Fin 5) (pre : List Syl) (hi : Bool) (d a imm : Nat) (post : List Syl) (s : State) : Host.Outcome State Fault Refusal :=
  .next (s.macRow c pre hi (.i .shli d a imm) post)

/-- SHRI (R211): Logical shift right by an immediate. -/
def execIShri (c : Fin 5) (pre : List Syl) (hi : Bool) (d a imm : Nat) (post : List Syl) (s : State) : Host.Outcome State Fault Refusal :=
  .next (s.macRow c pre hi (.i .shri d a imm) post)

/-- ASRI (R211): Arithmetic shift right by an immediate. -/
def execIAsri (c : Fin 5) (pre : List Syl) (hi : Bool) (d a imm : Nat) (post : List Syl) (s : State) : Host.Outcome State Fault Refusal :=
  .next (s.macRow c pre hi (.i .asri d a imm) post)

/-- ROLI (R211): Rotate left by an immediate. -/
def execIRoli (c : Fin 5) (pre : List Syl) (hi : Bool) (d a imm : Nat) (post : List Syl) (s : State) : Host.Outcome State Fault Refusal :=
  .next (s.macRow c pre hi (.i .roli d a imm) post)

/-- ASLS (R211): Saturating arithmetic shift left. -/
def execIAsls (c : Fin 5) (pre : List Syl) (hi : Bool) (d a imm : Nat) (post : List Syl) (s : State) : Host.Outcome State Fault Refusal :=
  .next (s.macRow c pre hi (.i .asls d a imm) post)

/-- ADDI (R209): Add a sign-extended 9-bit immediate. -/
def execIAddi (c : Fin 5) (pre : List Syl) (hi : Bool) (d a imm : Nat) (post : List Syl) (s : State) : Host.Outcome State Fault Refusal :=
  .next (s.macRow c pre hi (.i .addi d a imm) post)

/-- MOVI (R212): Load a 16-bit immediate into a register. -/
def execIMovi (c : Fin 5) (pre : List Syl) (hi : Bool) (d : Nat) (imm : Half) (post : List Syl) (s : State) : Host.Outcome State Fault Refusal :=
  .next (s.macRow c pre hi (.movi d imm) post)

/-- MOV (R212): Move a register, with optional BX detection. -/
def execIMov (c : Fin 5) (pre : List Syl) (hi : Bool) (d a b : Nat) (det : Bool) (post : List Syl) (s : State) : Host.Outcome State Fault Refusal :=
  .next (s.macRow c pre hi (.r .mov d a b det) post)

/-- CLZ (R213): Count leading zeros. -/
def execIClz (c : Fin 5) (pre : List Syl) (hi : Bool) (d a b : Nat) (det : Bool) (post : List Syl) (s : State) : Host.Outcome State Fault Refusal :=
  .next (s.macRow c pre hi (.r .clz d a b det) post)

/-- CLS (R213): Count redundant sign bits. -/
def execICls (c : Fin 5) (pre : List Syl) (hi : Bool) (d a b : Nat) (det : Bool) (post : List Syl) (s : State) : Host.Outcome State Fault Refusal :=
  .next (s.macRow c pre hi (.r .cls d a b det) post)

/-- BFX (R214): Extract a bit field. -/
def execIBfx (c : Fin 5) (pre : List Syl) (hi : Bool) (d a imm : Nat) (post : List Syl) (s : State) : Host.Outcome State Fault Refusal :=
  .next (s.macRow c pre hi (.i .bfx d a imm) post)

/-- BFI (R214): Insert a bit field. -/
def execIBfi (c : Fin 5) (pre : List Syl) (hi : Bool) (d a imm : Nat) (post : List Syl) (s : State) : Host.Outcome State Fault Refusal :=
  .next (s.macRow c pre hi (.i .bfi d a imm) post)

end Sys2Proof.Machine
end

