-- ==== Sys2Proof/Machine/CmdPower.lean ====
section
/-! DEFINITION. Machine/CmdPower.lean: the meanings of the commands of power, resets, DRAM and Awl (19, 20). -/

namespace Sys2Proof.Machine

/-- LOWBAT_SET (R509): VBAT stays below 9.0 V for 10 µs; LOWBAT is set. -/
def execLowbatSet (s : State) : Host.Outcome State Fault Refusal :=
  .next (s.setLow true)

/-- LOWBAT_CLEAR (R509): VBAT stays above 9.2 V for 1 ms; LOWBAT clears. -/
def execLowbatClear (s : State) : Host.Outcome State Fault Refusal :=
  .next (s.setLow false)

/-- SHED_SET (R509): VBAT or VPRE stays low for 2 µs; lamp loads are shed. -/
def execShedSet (s : State) : Host.Outcome State Fault Refusal :=
  .next (s.shedSet)

/-- SHED_CLEAR (R509): The supplies recover for 1 ms; the lamps resume at their next period. -/
def execShedClear (s : State) : Host.Outcome State Fault Refusal :=
  .next (s.shedClear)

/-- OV_SET (R509): VBAT stays above 62 V for 1 µs; the pre-regulator stops and lamps are shed. -/
def execOvSet (s : State) : Host.Outcome State Fault Refusal :=
  .next (s.ovSet)

/-- OV_CLEAR (R509): VBAT stays below 61 V for 1 ms; the over-voltage condition clears. -/
def execOvClear (s : State) : Host.Outcome State Fault Refusal :=
  .next (s.ovClear)

/-- BROWN_OUT_RESET (R511): VPRE stays below 3.9 V for 4 µs; every domain except ALWAYS goes Off. -/
def execBrownOutReset (s : State) : Host.Outcome State Fault Refusal :=
  .next (s.borReset)

/-- BOR_RESTART (R511): The supplies recover after a BOR; the wake sequence starts if allowed. -/
def execBorRestart (s : State) : Host.Outcome State Fault Refusal :=
  .next (s.borRestart)

/-- POWER_ON_RESET (R512): VBAT recovers above 4.5 V for 1 ms after falling below 3.0 V; everything resets and the wake
sequence runs. -/
def execPowerOnReset (s : State) : Host.Outcome State Fault Refusal :=
  .next (s.porReset)

/-- PWR_SLEEP (R515): PWR_CTRL.SLEEP requests a sleep state, or is refused. -/
def execPwrSleep (w : By) (n : Fin 4) (s : State) : Host.Outcome State Fault Refusal :=
  .next (s.put w pgPWR 0x040 (BitVec.ofNat 32 n))

/-- SLEEP_ENTRY_DONE (R516): The sleep entry completes and the wake sources are enabled. -/
def execSleepEntryDone (s : State) : Host.Outcome State Fault Refusal :=
  .next (s.sleepEntered)

/-- RTC_TICK (R514): The RTC counts a second and advances SEC_TIME. -/
def execRtcTick (s : State) : Host.Outcome State Fault Refusal :=
  .next (s.rtcTick)

/-- RTC_ALARM (R529): PWR_RTC equals PWR_RTCALM and wakes the part. -/
def execRtcAlarm (s : State) : Host.Outcome State Fault Refusal :=
  .next (s.rtcAlarm)

/-- PWR_DOM_WRITE (R518): A write of PWR_DOMd.REQ requests a domain state, or is refused. -/
def execPwrDomWrite (w : By) (d : Fin 12) (v : Word) (s : State) : Host.Outcome State Fault Refusal :=
  .next (s.put w pgPWR (0x080 + 4 * d) v)

/-- DOMAIN_TRANSITION_DONE (R518): A domain transition completes; STATE changes, DOMCHG is raised, and held requests pass. -/
def execDomainTransitionDone (d : Fin 12) (s : State) : Host.Outcome State Fault Refusal :=
  .next (s.domDone d)

/-- DOMAIN_AUTO_IDLE (R521): An AUTO domain has been idle for IDLE µs and returns to Doze or Rest. -/
def execDomainAutoIdle (d : Fin 12) (s : State) : Host.Outcome State Fault Refusal :=
  .next (s.domIdle d)

/-- RST_SYSR (R522): RST_CTRL.SYSR causes a system reset. -/
def execRstSysr (w : By) (s : State) : Host.Outcome State Fault Refusal :=
  .next (s.put w pgRST 0x044 1)

/-- RST_CCLR (R530): RST_CTRL.CCLR clears RST_CAUSE. -/
def execRstCclr (w : By) (s : State) : Host.Outcome State Fault Refusal :=
  .next (s.put w pgRST 0x044 0x100)

/-- RST_CORE_WRITE (R530): A write of RST_CORE releases or resets cores, subject to the lock. -/
def execRstCoreWrite (w : By) (v : Word) (s : State) : Host.Outcome State Fault Refusal :=
  .next (s.put w pgRST 0x048 v)

/-- WD_CTRL_WRITE (R531): A write of WD_CTRL enables the watchdog or sets TIME; EN and ACT are fixed once set. -/
def execWdCtrlWrite (w : By) (v : Word) (s : State) : Host.Outcome State Fault Refusal :=
  .next (s.put w pgWDG 0x040 v)

/-- WD_KICK (R531): A write of WD_KICK opens or completes a kick pair, or raises BADKICK. -/
def execWdKick (w : By) (v : Word) (s : State) : Host.Outcome State Fault Refusal :=
  .next (s.put w pgWDG 0x044 v)

/-- WDG_EXPIRE (R531): The watchdog count reaches 0; EXPIRE is raised and, with ACT 0, a system reset follows. -/
def execWdgExpire (s : State) : Host.Outcome State Fault Refusal :=
  .next (s.wdExpire)

/-- DRAM_TRAIN_DONE (R524): DRAM reaches Run after restored or full training. -/
def execDramTrainDone (code : BitVec 16) (crc : Word) (s : State) : Host.Outcome State Fault Refusal :=
  .next (s.dramDone code.toNat crc.toNat)

/-- DRAM_REF_EVENT (R525): A DRAM_REF event opens a refresh window at the controller. -/
def execDramRefEvent (arg : BitVec 16) (n : Nat) (s : State) : Host.Outcome State Fault Refusal :=
  .next (s.onSys fun s => s.dramRef arg.toNat n)

/-- DRAM_FORCED_REFRESH (R525): Eight refreshes are owed with no window open; the controller refreshes at once. -/
def execDramForcedRefresh (n : Nat) (s : State) : Host.Outcome State Fault Refusal :=
  .next (s.onSys fun s => s.dramForced n)

/-- AWL_DISARM (R540): AWL_CTRL.DISARM clears every ARM. -/
def execAwlDisarm (w : By) (s : State) : Host.Outcome State Fault Refusal :=
  .next (s.put w pgAWL 0x040 1)

/-- AWL_CLR (R540): AWL_CTRL.CLR clears the injector counters. -/
def execAwlClr (w : By) (s : State) : Host.Outcome State Fault Refusal :=
  .next (s.put w pgAWL 0x040 2)

/-- AWL_ARM (R540): A write of AIi_CTRL.ARM arms an injector, or is refused. -/
def execAwlArm (w : By) (i : Fin 4) (v : Word) (s : State) : Host.Outcome State Fault Refusal :=
  .next (s.put w pgAWL (0x100 + 0x20 * i) (withBit v 31))

/-- AWL_HOLD_RELEASE (R537): A unit held for reorder is released after HOLD. -/
def execAwlHoldRelease (i : Fin 4) (s : State) : Host.Outcome State Fault Refusal :=
  .next (s.onSys fun s => s.awlRelease i)

/-- PROBE_MARK (R154): A PROBE_MARK event writes a marker record to the trace buffer and may trigger Awl. -/
def execProbeMark (m : BitVec 16) (s : State) : Host.Outcome State Fault Refusal :=
  .next (s.probeMark m.toNat)

/-- PLL_RESTART (R29): Firmware restarts the PLLs through the CLK page after the crystal returns. -/
def execPllRestart (s : State) : Host.Outcome State Fault Refusal :=
  .next (s.pllRestart)

end Sys2Proof.Machine
end

