-- ==== Sys2Proof/Machine/CmdScan.lean ====
section
/-! DEFINITION. Machine/CmdScan.lean: the meanings of the commands of the scan engine (13). -/

namespace Sys2Proof.Machine

/-- STROBE_ARM (R323): A STROBE event is checked against the mode and the budget; the pulse is armed and charged, or denied.
-/
def execStrobeArm (e : Fin 256) (arg : BitVec 16) (s : State) : Host.Outcome State Fault Refusal :=
  .next (s.onSys fun s => s.strobeArm e arg.toNat)

/-- PULSE_START (R318): An armed pulse reaches its start time and SKP sinks CURRENT. -/
def execPulseStart (s : State) : Host.Outcome State Fault Refusal :=
  .next (s.onSys fun s => s.pulseStart)

/-- PULSE_END (R318): The pulse reaches its width and SKP switches off. -/
def execPulseEnd (s : State) : Host.Outcome State Fault Refusal :=
  .next (s.onSys fun s => s.pulseEnd)

/-- BUDGET_TICK (R322): Each µs tick refills the global and tenant budget buckets. -/
def execBudgetTick (s : State) : Host.Outcome State Fault Refusal :=
  .next (s.onSys fun s => s.budgetTick)

/-- EB_LOCK (R321): EB_CTRL.LOCK by T0 locks the eye-safety budget and initialises the buckets. -/
def execEbLock (w : By) (s : State) : Host.Outcome State Fault Refusal :=
  .next (s.put w pgSILL 0x040 1)

/-- SKPCLR (R320): EB_CTRL.SKPCLR clears the SKP fault and allows arming again. -/
def execSkpclr (w : By) (s : State) : Host.Outcome State Fault Refusal :=
  .next (s.put w pgSILL 0x040 2)

/-- SKP_FAULT (R320): A fault reported on SKP sets SKPF and stops arming. -/
def execSkpFault (s : State) : Host.Outcome State Fault Refusal :=
  .next (s.onSys fun s => s.skpFault)

/-- SCAN_RUN (R342): SCN_CTRL.RUN := 1 is checked and starts following the stream, or is refused. -/
def execScanRun (w : By) (v : Word) (s : State) : Host.Outcome State Fault Refusal :=
  .next (s.put w pgSCN 0x040 (clrBit (withBit v 0) 1))

/-- SCAN_CANCEL (R342): CANCEL stops the current frame or job, closes held codes and stops arming. -/
def execScanCancel (w : By) (v : Word) (s : State) : Host.Outcome State Fault Refusal :=
  .next (s.put w pgSCN 0x040 (withBit v 1))

/-- SCAN_SUBMIT (R341): SUBMIT scans a stored frame in job mode. -/
def execScanSubmit (w : By) (v : Word) (s : State) : Host.Outcome State Fault Refusal :=
  .next (s.put w pgSCN 0x040 (withBit v 2))

/-- SCAN_LINE_READ (R327): The engine reads a line slot once the receiver's write of it is acknowledged, and binarises and
locates. -/
def execScanLineRead (s : State) : Host.Outcome State Fault Refusal :=
  .next (s.onSys fun s => s.scanLineRead)

/-- SCAN_READOUT_END (R329): The response for line Y1 arrives; readout ends and final location, sampling and decoding run. -/
def execScanReadoutEnd (s : State) : Host.Outcome State Fault Refusal :=
  .next (s.onSys fun s => s.scanReadoutEnd)

/-- SCAN_RECORD_DONE (R337): A result slot has all its responses; RESULT is raised. -/
def execScanRecordDone (s : State) : Host.Outcome State Fault Refusal :=
  .next (s.onSys fun s => s.scanRecordDone)

/-- SCAN_FRAME_DONE (R343): The frame or job is finished, with hold-off updates, and FRAME_DONE is raised. -/
def execScanFrameDone (s : State) : Host.Outcome State Fault Refusal :=
  .next (s.onSys fun s => s.scanFrameDone)

/-- HOLD_EXPIRE (R338): A held code passes SCN_HOLD ms without a sighting and closes with STATE 3. -/
def execHoldExpire (i : Nat) (s : State) : Host.Outcome State Fault Refusal :=
  .next (s.onSys fun s => s.holdExpire i)

/-- FORWARD_RESPONSE (R340): A response to a credential forwarding write arrives; FWD_OK or FWD_FAIL is set when all are
answered. -/
def execForwardResponse (sts : Fin 16) (s : State) : Host.Outcome State Fault Refusal :=
  .next (s.onSys fun s => s.forwardResponse sts)

/-- FORWARD_RETRY (R340): 64 cycles after a REFUSED forwarding write, the engine sends it again. -/
def execForwardRetry (s : State) : Host.Outcome State Fault Refusal :=
  .next (s.onSys fun s => s.forwardRetry)

/-- SCAN_XFER_ERR (R342): A read not answered OK stops the frame with ERR. -/
def execScanXferErr (sts : Fin 16) (s : State) : Host.Outcome State Fault Refusal :=
  .next (s.onSys fun s => s.scanXferErr sts)

/-- RING_CONSUME (R339): A write of SCN_RRD consumes result slots. -/
def execRingConsume (w : By) (v : Word) (s : State) : Host.Outcome State Fault Refusal :=
  .next (s.put w pgSCN 0x070 v)

end Sys2Proof.Machine
end

