-- ==== Sys2Proof/Machine/CmdSecurity.lean ====
section
/-! DEFINITION. Machine/CmdSecurity.lean: the meanings of the commands of the security island (14). -/

namespace Sys2Proof.Machine

/-- HASH (R348): Island command: SHA hash. -/
def execHash (bits : Nat) (src len dst : Word) (s : State) : Host.Outcome State Fault Refusal :=
  .next (s.onSys fun s => s.kCmd (.hash bits src.toNat len.toNat dst.toNat))

/-- HMAC (R348): Island command: HMAC-SHA-256 with a slot key. -/
def execHmac (slot : Fin 32) (src len dst : Word) (s : State) : Host.Outcome State Fault Refusal :=
  .next (s.onSys fun s => s.kCmd (.hmac slot src.toNat len.toNat dst.toNat))

/-- AES (R348): Island command: AES in CTR, GCM or CMAC with a slot key. -/
def execAes (slot : Fin 32) (mode : Nat) (iv src len dst : Word) (dec : Bool) (s : State) : Host.Outcome State Fault Refusal :=
  .next (s.onSys fun s => s.kCmd (.aes slot mode iv.toNat src.toNat len.toNat dst.toNat dec))

/-- ECDSA_SIGN (R348): Island command: ECDSA signing with a slot key. -/
def execEcdsaSign (slot : Fin 32) (dg dst : Word) (s : State) : Host.Outcome State Fault Refusal :=
  .next (s.onSys fun s => s.kCmd (.sign slot dg.toNat dst.toNat))

/-- ECDSA_VERIFY (R348): Island command: ECDSA verification with a slot key. -/
def execEcdsaVerify (slot : Fin 32) (dg sig : Word) (s : State) : Host.Outcome State Fault Refusal :=
  .next (s.onSys fun s => s.kCmd (.verify slot dg.toNat sig.toNat))

/-- ECDH (R348): Island command: ECDH with a slot key. -/
def execEcdh (slot : Fin 32) (pub dst : Word) (s : State) : Host.Outcome State Fault Refusal :=
  .next (s.onSys fun s => s.kCmd (.ecdh slot pub.toNat dst.toNat))

/-- KS_SET (R351): Island command: load a key slot with a value and attributes, subject to the usage rules. -/
def execKsSet (slot : Fin 32) (attr src : Word) (s : State) : Host.Outcome State Fault Refusal :=
  .next (s.onSys fun s => s.kCmd (.ksSet slot attr src.toNat))

/-- KS_WRAP (R352): Island command: make a key bundle entry under the die's wrap key. -/
def execKsWrap (slot : Fin 32) (dst : Word) (s : State) : Host.Outcome State Fault Refusal :=
  .next (s.onSys fun s => s.kCmd (.ksWrap slot dst.toNat))

/-- KS_UNWRAP (R352): Island command: unwrap a key bundle entry into its slot. -/
def execKsUnwrap (src : Word) (s : State) : Host.Outcome State Fault Refusal :=
  .next (s.onSys fun s => s.kCmd (.ksUnwrap src.toNat))

/-- KS_CLEAR (R351): Island command: clear a key slot. -/
def execKsClear (slot : Fin 32) (s : State) : Host.Outcome State Fault Refusal :=
  .next (s.onSys fun s => s.kCmd (.ksClear slot))

/-- KS_FREEZE (R353): Island command: set KLOCK, refusing later slot loads and clears. -/
def execKsFreeze (s : State) : Host.Outcome State Fault Refusal :=
  .next (s.onSys fun s => s.kCmd (.ksFreeze))

/-- KS_READPUB (R351): Island command: read a public key from a slot. -/
def execKsReadpub (slot : Fin 32) (dst : Word) (s : State) : Host.Outcome State Fault Refusal :=
  .next (s.onSys fun s => s.kCmd (.ksReadPub slot dst.toNat))

/-- OTP_READ (R355): Island command: read an OTP word. -/
def execOtpRead (word : Fin 512) (dst : Word) (s : State) : Host.Outcome State Fault Refusal :=
  .next (s.onSys fun s => s.kCmd (.otpRead word dst.toNat))

/-- OTP_PROG (R355): Island command: program an OTP word or thermometer bit. -/
def execOtpProg (word : Fin 512) (v : Word) (supplyOk : Bool) (s : State) : Host.Outcome State Fault Refusal :=
  .next (s.onSys fun s => s.kCmd (.otpProg word v supplyOk))

/-- LC_PROD (R356): Island command: move the lifecycle to PROD. -/
def execLcProd (s : State) : Host.Outcome State Fault Refusal :=
  .next (s.onSys fun s => s.kCmd (.lcProd))

/-- LC_END (R356): Island command: move the lifecycle to END. -/
def execLcEnd (s : State) : Host.Outcome State Fault Refusal :=
  .next (s.onSys fun s => s.kCmd (.lcEnd))

/-- IMG_CHECK (R362): Island command: check a class 1 to 3 image against KS1 and anti-rollback. -/
def execImgCheck (src : Word) (s : State) : Host.Outcome State Fault Refusal :=
  .next (s.onSys fun s => s.imgCheckAccept src.toNat)

/-- ARB_ADVANCE (R363): Island command: advance ARBc to the last passed version. -/
def execArbAdvance (c : Fin 4) (s : State) : Host.Outcome State Fault Refusal :=
  .next (s.onSys fun s => s.kCmd (.arbAdvance c))

/-- MC_INC (R357): Island command: increment a monotonic counter. -/
def execMcInc (n : Fin 8) (s : State) : Host.Outcome State Fault Refusal :=
  .next (s.onSys fun s => s.kCmd (.mcInc n))

/-- TIME_SET (R358): Island command: set SEC_TIME and make it valid. -/
def execTimeSet (v : Word) (s : State) : Host.Outcome State Fault Refusal :=
  .next (s.onSys fun s => s.kCmd (.timeSet v))

/-- WIN_SET (R372): Island command: set an invalid issuer window. -/
def execWinSet (i : Fin 8) (v : Word) (s : State) : Host.Outcome State Fault Refusal :=
  .next (s.onSys fun s => s.kCmd (.winSet i v))

/-- WIN_RAISE (R372): Island command: raise an issuer window as an acceptance of counter v. -/
def execWinRaise (i : Fin 8) (v : Word) (s : State) : Host.Outcome State Fault Refusal :=
  .next (s.onSys fun s => s.kCmd (.winRaise i v))

/-- CRYPTO_OP_DONE (R348): An island command completes and KSTAT shows its result. -/
def execCryptoOpDone (s : State) : Host.Outcome State Fault Refusal :=
  .next (s.onSys fun s => s.kDone)

/-- TRNG_STARTUP_DONE (R349): The TRNG start-up test completes and output starts. -/
def execTrngStartupDone (s : State) : Host.Outcome State Fault Refusal :=
  .next (s.onSys fun s => s.trngStartupDone)

/-- TRNG_HEALTH_FAIL (R349): A TRNG health test fails; output stops and the start-up test runs again, or the TRNG stays
stopped after the third failure. -/
def execTrngHealthFail (s : State) : Host.Outcome State Fault Refusal :=
  .next (s.onSys fun s => s.trngHealthFail)

/-- BOOT_ROM_START (R360): At SEC release the boot ROM reads, checks and starts the first stage. -/
def execBootRomStart (s : State) : Host.Outcome State Fault Refusal :=
  .next (s.onSys fun s => s.bootRomStart)

/-- BOOT_UNLOCK_WINDOW_EXPIRE (R361): No unlock within 10 s after a boot failure; the ROM requests Deep Rest. -/
def execBootUnlockWindowExpire (s : State) : Host.Outcome State Fault Refusal :=
  .next (s.onSys fun s => s.bootGiveUp)

/-- DBG_REQUEST (R365): A debugger request through SEC_MBX is answered with a challenge. -/
def execDbgRequest (perm : BitVec 8) (s : State) : Host.Outcome State Fault Refusal :=
  .next (s.onSys fun s => s.dbgRequest perm.toNat)

/-- DBG_TOKEN (R365): The debugger returns a key and signature, and the island starts checking the token. -/
def execDbgToken (key sig : List Byte) (s : State) : Host.Outcome State Fault Refusal :=
  .next (s.onSys fun s => s.dbgToken key sig)

/-- DBG_VERIFY_DONE (R366): The token check completes; the unlock grants PERM, or is refused. -/
def execDbgVerifyDone (s : State) : Host.Outcome State Fault Refusal :=
  .next (s.onSys fun s => s.dbgVerifyDone)

/-- INTAKE_SLOT_CLOSE (R367): The write of header word 0x00 closes an intake slot. -/
def execIntakeSlotClose (w : By) (k : Fin 4) (v : Word) (s : State) : Host.Outcome State Fault Refusal :=
  .next (s.put w pgSECIN (0x800 + 0x200 * k) v)

/-- CRED_CHECK_START (R373): The sequencer takes the next closed slot or verify request. -/
def execCredCheckStart (s : State) : Host.Outcome State Fault Refusal :=
  .next (s.onSys fun s => s.credCheckStart)

/-- CRED_CHECK_DONE (R371): The credential checks complete with acceptance or a refusal reason. -/
def execCredCheckDone (s : State) : Host.Outcome State Fault Refusal :=
  .next (s.onSys fun s => s.credDone)

/-- SV_VERIFY (R374): SV_CTRL.VERIFY submits a credential for verification only. -/
def execSvVerify (w : By) (s : State) : Host.Outcome State Fault Refusal :=
  .next (s.put w pgSVC 0x040 1)

/-- SV_RND_READ (R383): A read of SV_RND waits for a conditioned random word, or returns 0 with the TRNG stopped. -/
def execSvRndRead (w : By) (s : State) : Host.Outcome State Fault Refusal :=
  .next (s.take w pgSVC 0x04C)

/-- GRANT_TIMEOUT (R377): SEC_GTMO expires for a grant not sent; a RESEND attempt is counted, or GRANT_FAIL is set. -/
def execGrantTimeout (s : State) : Host.Outcome State Fault Refusal :=
  .next (s.onSys fun s => s.grantExpire)

end Sys2Proof.Machine
end

