-- ==== Sys2Proof/Machine/CmdSystem.lean ====
section
/-! DEFINITION. Machine/CmdSystem.lean: the meanings of the commands of the Line Time Base, register pages, tenants and Admission (01 to 05). -/

namespace Sys2Proof.Machine

/-- SEAM_TRANSFER (R20): A Seam transfer arrives in its 10 ns slot. A transfer that fails parity is discarded and repeated in
the next slot. -/
def execSeamTransfer (up ok : Bool) (s : State) : Host.Outcome State Fault Refusal :=
  .next (s.seamTransfer up ok)

/-- SEAM_RECOVERED (R21): After 64 consecutive good transfers in both directions, the Seam counts as recovered and the two
dies start the full refresh. -/
def execSeamRecovered (s : State) : Host.Outcome State Fault Refusal :=
  .next (s.seamRecovered)

/-- SEAM_REFRESH_DONE (R21): The refresh exchange completes; the power die leaves the hold and LD_STAT.[2] clears. -/
def execSeamRefreshDone (s : State) : Host.Outcome State Fault Refusal :=
  .next (s.seamRefreshed)

/-- SYSPLL_LOCK (R566): SYSPLL locks; each derived clock returns from the internal oscillator to SYSPLL at one of its own
cycle boundaries. -/
def execSyspllLock (s : State) : Host.Outcome State Fault Refusal :=
  .next (s.sysPllLock)

/-- CRYSTAL_LOSS (R29): The crystal has stopped for more than 2 µs; SYS and SEC move to the oscillator, the PLLs stop, and the
crystal-loss fault is set. -/
def execCrystalLoss (s : State) : Host.Outcome State Fault Refusal :=
  .next (s.crystalLoss)

/-- POS_LP_READ (R40): A read of POS_LP returns line and phase and copies FRAME into POS_FRM. -/
def execPosLpRead (w : By) (s : State) : Host.Outcome State Fault Refusal :=
  .next (s.take w pgLTB 0x048)

/-- LTB_CLOCK_CHANGE (R41): At a line start, the LTB changes between the Welt clock and the oscillator without a jump in the
count. -/
def execLtbClockChange (s : State) : Host.Outcome State Fault Refusal :=
  .next (s.onSys fun s => s.ltbClockChange)

/-- MASTER_LINE_START (R54): A master line start arrives; the LTB goes to the next line, or wraps and raises LATE. -/
def execMasterLineStart (m : Raster) (s : State) : Host.Outcome State Fault Refusal :=
  .next (s.masterLine m)

/-- MASTER_FRAME_START (R55): A master frame start arrives; the LTB wraps, restarts line 0, or re-anchors. -/
def execMasterFrameStart (m : Raster) (mode : Bool) (s : State) : Host.Outcome State Fault Refusal :=
  .next (s.masterFrame m mode)

/-- VIRTUAL_LINE_START (R46): The virtual raster generates a line start at its computed cycle. -/
def execVirtualLineStart (s : State) : Host.Outcome State Fault Refusal :=
  .next (s.virtualLineStart)

/-- COAST_LINE_START (R50): No master line start arrived within P_prev + P_prev/16; the LTB generates one and sets COASTING.
-/
def execCoastLineStart (s : State) : Host.Outcome State Fault Refusal :=
  .next (s.coastLineStart)

/-- BLANK_FILL_LINE_START (R51): With a camera master, the LTB generates a line start between the camera's frame end and its
next frame start. -/
def execBlankFillLineStart (s : State) : Host.Outcome State Fault Refusal :=
  .next (s.blankLineStart)

/-- MASTER_LOST (R52): COAST_MAX generated lines are reached; the LTB declares the master lost and continues on the virtual
raster. -/
def execMasterLost (s : State) : Host.Outcome State Fault Refusal :=
  .next (s.onSys fun s => s.masterLost)

/-- LET_ENTRY_FIRE (R63): The LTB reaches the LINE:PHASE of an enabled entry whose frame condition holds, and the entry fires.
-/
def execLetEntryFire (n : Fin 256) (s : State) : Host.Outcome State Fault Refusal :=
  .next (s.onSys fun s => s.letEntryFire n)

/-- LET_A_WRITE (R60): A write to LET_A holds the pending first word of an entry. -/
def execLetAWrite (w : By) (n : Fin 256) (v : Word) (s : State) : Host.Outcome State Fault Refusal :=
  .next (s.put w pgLTB (0x400 + 8 * n) v)

/-- LET_B_WRITE (R62): A write to LET_B checks the pair and stages it, or refuses it and raises LET_ERR. -/
def execLetBWrite (w : By) (n : Fin 256) (v : Word) (s : State) : Host.Outcome State Fault Refusal :=
  .next (s.put w pgLTB (0x404 + 8 * n) v)

/-- CLR_MISS (R69): Writing LTB_CTRL.CLR_MISS clears EVT_MISS. -/
def execClrMiss (w : By) (v : Word) (s : State) : Host.Outcome State Fault Refusal :=
  .next (s.put w pgLTB 0x040 (withBit v 12))

/-- TRACKER_FRAME_START (R67): At a camera frame start, an enabled tracker latches the master position and increments CFCNT.
-/
def execTrackerFrameStart (n : CamStart) (s : State) : Host.Outcome State Fault Refusal :=
  .next (s.onSys fun s => s.trackerFrame n)

/-- TRACKER_LINE_START (R67): A camera line start advances the tracker's period measurement over the first 64 lines. -/
def execTrackerLineStart (n : CamStart) (s : State) : Host.Outcome State Fault Refusal :=
  .next (s.onSys fun s => s.trackerLine n)

/-- TRK_ENTRY_FIRE (R68): A tracker-based entry reaches its computed instant and fires. -/
def execTrkEntryFire (n : Fin 2) (e : Fin 256) (s : State) : Host.Outcome State Fault Refusal :=
  .next (s.onSys fun s => s.trkFire n e)

/-- REGISTER_WRITE (R82): A write to a register with no behaviour of its own, judged by ownership, size and range. -/
def execRegisterWrite (w : By) (p : Fin 224) (o : Fin 4096) (size : Nat) (v : Word) (s : State) : Host.Outcome State Fault Refusal :=
  .next (s.access ⟨w.tnt, w.ni, p, o, size, true, v⟩)

/-- SH_DISARM (R80): SH_COMMIT.MODE 0 disarms the page. -/
def execShDisarm (w : By) (p : Fin 224) (auto : Fin 4) (s : State) : Host.Outcome State Fault Refusal :=
  .next (s.put w p 0x020 (BitVec.ofNat 32 (auto * 256)))

/-- SH_COMMIT_NOW (R80): SH_COMMIT.MODE 1 commits every pending value of the page at once. -/
def execShCommitNow (w : By) (p : Fin 224) (auto : Fin 4) (s : State) : Host.Outcome State Fault Refusal :=
  .next (s.put w p 0x020 (BitVec.ofNat 32 (auto * 256 + 1)))

/-- SH_ARM_LINE_EVENT (R80): SH_COMMIT.MODE 2 arms the page for the next COMMIT line event that targets it. -/
def execShArmLineEvent (w : By) (p : Fin 224) (auto : Fin 4) (s : State) : Host.Outcome State Fault Refusal :=
  .next (s.put w p 0x020 (BitVec.ofNat 32 (auto * 256 + 2)))

/-- SH_ARM_FRAME (R80): SH_COMMIT.MODE 3 arms the page for the next frame boundary. -/
def execShArmFrame (w : By) (p : Fin 224) (auto : Fin 4) (s : State) : Host.Outcome State Fault Refusal :=
  .next (s.put w p 0x020 (BitVec.ofNat 32 (auto * 256 + 3)))

/-- SH_AUTO_SET (R80): A write of SH_COMMIT.AUTO sets the automatic commit mode; the value 3 is refused. -/
def execShAutoSet (w : By) (p : Fin 224) (auto mode : Fin 4) (s : State) : Host.Outcome State Fault Refusal :=
  .next (s.put w p 0x020 (BitVec.ofNat 32 (auto * 256 + mode)))

/-- COMMIT_EVENT (R80): A COMMIT line event reaches a page; the page commits if armed with MODE 2 or set to AUTO 2. -/
def execCommitEvent (p : Fin 224) (s : State) : Host.Outcome State Fault Refusal :=
  .next (s.onSys fun s => s.commitEvent p)

/-- ERR_CODE_CLR (R87): ERR_CODE.CLR clears CODE, COUNT, OVR and ERR_INFO. -/
def execErrCodeClr (w : By) (p : Fin 224) (s : State) : Host.Outcome State Fault Refusal :=
  .next (s.put w p 0x028 0x80000000)

/-- EV_RAW_CLEAR (R90): A W1C write to EV_RAW clears event bits; the response is sent only once the interrupt line has fallen.
-/
def execEvRawClear (w : By) (p : Fin 224) (v : Word) (s : State) : Host.Outcome State Fault Refusal :=
  .next (s.put w p 0x014 v)

/-- SOFT_RESET (R568): PG_CTRL.SRST resets the page's registers and abandons the block's work, keeping the listed state. -/
def execSoftReset (w : By) (p : Fin 224) (v : Word) (s : State) : Host.Outcome State Fault Refusal :=
  .next (s.put w p 0x00C (withBit v 1))

/-- SOFT_RESET_DONE (R93): The soft reset completes and BUSY clears; waiting accesses proceed. -/
def execSoftResetDone (p : Fin 224) (s : State) : Host.Outcome State Fault Refusal :=
  .next (s.onSys fun s => s.softResetDone p)

/-- EVR_ROUTE_WRITE (R89): A write of EVR_ROUTEi is checked against the owner of page i and applied or refused. -/
def execEvrRouteWrite (w : By) (i : Fin 224) (v : Word) (s : State) : Host.Outcome State Fault Refusal :=
  .next (s.put w pgEVR (0x400 + 4 * i) v)

/-- TEN_LOCK (R104): TEN_CTRL.LOCK freezes the tenant table and starts the lock checks. -/
def execTenLock (w : By) (s : State) : Host.Outcome State Fault Refusal :=
  .next (s.put w pgTEN 0x040 1)

/-- LOCK_CHECK_DONE (R104): The lock checks finish; the lock is refused with a reason, or it proceeds to the lock cycle. -/
def execLockCheckDone (s : State) : Host.Outcome State Fault Refusal :=
  .next (s.onSys fun s => s.lockChecked)

/-- TEN_POP (R107): TEN_CTRL.POP removes the oldest violation record. -/
def execTenPop (w : By) (s : State) : Host.Outcome State Fault Refusal :=
  .next (s.put w pgTEN 0x040 0x100)

/-- TEN_WA_WRITE (R100): A write of a window's attributes with EN = 1 checks the window and enables it or refuses it. -/
def execTenWaWrite (w : By) (t : Fin 16) (i : Fin 8) (v : Word) (s : State) : Host.Outcome State Fault Refusal :=
  .next (s.put w pgTEN (0x404 + 0x40 * t + 8 * i) v)

/-- TEN_WB_WRITE (R100): A write of a window's base while the window is enabled disables the window. -/
def execTenWbWrite (w : By) (t : Fin 16) (i : Fin 8) (v : Word) (s : State) : Host.Outcome State Fault Refusal :=
  .next (s.put w pgTEN (0x400 + 0x40 * t + 8 * i) v)

/-- CP_PUSH (R116): PUSH appends the four staging words to the tenant's staged set. -/
def execCpPush (w : By) (t : Fin 16) (s : State) : Host.Outcome State Fault Refusal :=
  .next (s.put w pgADM (0x410 + 0x40 * t) 1)

/-- CP_CLEAR (R116): CLEAR empties the staged set. -/
def execCpClear (w : By) (t : Fin 16) (s : State) : Host.Outcome State Fault Refusal :=
  .next (s.put w pgADM (0x410 + 0x40 * t) 2)

/-- CP_COMMIT (R116): COMMIT queues the staged set of source 0 for evaluation; an empty set is a withdrawal. -/
def execCpCommit (w : By) (t : Fin 16) (s : State) : Host.Outcome State Fault Refusal :=
  .next (s.put w pgADM (0x410 + 0x40 * t) 4)

/-- WD_MASK_WITHDRAW (R124): ADM_CTRL.WD_MASK withdraws every claim of each tenant named and discards its queued commits. -/
def execWdMaskWithdraw (w : By) (m : BitVec 16) (s : State) : Host.Outcome State Fault Refusal :=
  .next (s.put w pgADM 0x040 (m.zeroExtend 32))

/-- ADM_EVAL_START (R123): The Admission Unit starts evaluating the next queued commit. -/
def execAdmEvalStart (s : State) : Host.Outcome State Fault Refusal :=
  .next (s.onSys fun s => s.admStart)

/-- ADM_EVAL_DONE (R122): An evaluation completes with acceptance, or with refusal and a report. -/
def execAdmEvalDone (s : State) : Host.Outcome State Fault Refusal :=
  .next (s.onSys fun s => s.admDone)

end Sys2Proof.Machine
end

