-- ==== Sys2Proof/Machine/CmdVehicle.lean ====
section
/-! DEFINITION. Machine/CmdVehicle.lean: the meanings of the commands of the vehicle interfaces and the converter (18). -/

namespace Sys2Proof.Machine

/-- CAN_TX_REQUEST (R485): Writing TX_REQ bits requests transmission of buffers. -/
def execCanTxRequest (w : By) (n : Fin 2) (m : BitVec 16) (s : State) : Host.Outcome State Fault Refusal :=
  .next (s.put w (pgCAN n) 0x600 (m.zeroExtend 32))

/-- CAN_TX_ABORT (R500): TX_ABORT aborts pending buffers. -/
def execCanTxAbort (w : By) (n : Fin 2) (m : BitVec 16) (s : State) : Host.Outcome State Fault Refusal :=
  .next (s.put w (pgCAN n) 0x604 (m.zeroExtend 32))

/-- CAN_TX_DONE (R485): A buffer's frame is sent; TX_DONE is set. -/
def execCanTxDone (n : Fin 2) (s : State) : Host.Outcome State Fault Refusal :=
  .next (s.onSys fun s => s.canSent n)

/-- CAN_FRAME_RECEIVED (R486): A received frame is filtered, stamped and placed in the FIFO, or discarded. -/
def execCanFrameReceived (n : Fin 2) (f : CanFrame) (s : State) : Host.Outcome State Fault Refusal :=
  .next (s.onSys fun s => s.canReceive n f)

/-- CAN_BUSOFF (R485): The controller enters bus-off; BUSOFF is raised and recovery starts if AUTO_REC is set. -/
def execCanBusoff (n : Fin 2) (s : State) : Host.Outcome State Fault Refusal :=
  .next (s.onSys fun s => s.canBusOff n)

/-- CAN_REC (R485): CAN_CTRL.REC starts bus-off recovery. -/
def execCanRec (w : By) (n : Fin 2) (v : Word) (s : State) : Host.Outcome State Fault Refusal :=
  .next (s.put w (pgCAN n) 0x040 (withBit v 8))

/-- RXF_POP (R500): RXF_POP removes the head frame of the receive FIFO. -/
def execRxfPop (w : By) (n : Fin 2) (s : State) : Host.Outcome State Fault Refusal :=
  .next (s.put w (pgCAN n) 0x850 1)

/-- CAN_WKSTAT_CLR (R500): CAN_WKSTAT.CLR clears the recorded wake cause. -/
def execCanWkstatClr (w : By) (s : State) : Host.Outcome State Fault Refusal :=
  .next (s.put w (pgCAN 0) 0x918 0x80000000)

/-- CAN_SELECTIVE_WAKE (R488): In Listen, a matching wake frame, FEC or WUP wakes the part. -/
def execCanSelectiveWake (cause : Fin 3) (f : CanFrame) (s : State) : Host.Outcome State Fault Refusal :=
  .next (s.canWake cause f)

/-- LIN_SCHEDULE_SLOT (R489): The commander schedule's delay expires and the next slot's frame is sent. -/
def execLinScheduleSlot (s : State) : Host.Outcome State Fault Refusal :=
  .next (s.onSys fun s => s.linSchedule)

/-- LIN_HEADER_RECEIVED (R489): As responder, a received header is answered from the matching slot. -/
def execLinHeaderReceived (pid : BitVec 8) (s : State) : Host.Outcome State Fault Refusal :=
  .next (s.onSys fun s => s.linHeader pid.toNat)

/-- LIN_WKTX (R489): LIN_CTRL.WKTX sends a 1 ms wake pulse. -/
def execLinWktx (w : By) (v : Word) (s : State) : Host.Outcome State Fault Refusal :=
  .next (s.put w pgLIN 0x040 (withBit v 4))

/-- LIN_BUS_WAKE (R489): In Listen, a dominant level of 150 µs or more wakes the part. -/
def execLinBusWake (s : State) : Host.Outcome State Fault Refusal :=
  .next (s.linWake)

/-- WAKE_EDGE (R490): A filtered edge on an enabled WAKE input wakes the part. -/
def execWakeEdge (i : Fin 4) (level : Bool) (s : State) : Host.Outcome State Fault Refusal :=
  .next (s.wakeEdge i level)

/-- WK_CLR (R490): WK_CLR clears the recorded wake causes. -/
def execWkClr (w : By) (s : State) : Host.Outcome State Fault Refusal :=
  .next (s.put w pgGPIO 0x108 0x80000000)

/-- I2C_START (R491): I²C command START. -/
def execI2cStart (w : By) (n : Fin 3) (adr : BitVec 12) (s : State) : Host.Outcome State Fault Refusal :=
  .next (s.put w (pgI2C n) 0x048 (BitVec.ofNat 32 (adr.toNat * 2 ^ 16)))

/-- I2C_WRITE (R491): I²C command: write n bytes. -/
def execI2cWrite (w : By) (n : Fin 3) (k : BitVec 8) (s : State) : Host.Outcome State Fault Refusal :=
  .next (s.put w (pgI2C n) 0x048 (BitVec.ofNat 32 (1 + k.toNat * 16)))

/-- I2C_READ (R491): I²C command: read n bytes. -/
def execI2cRead (w : By) (n : Fin 3) (k : BitVec 8) (s : State) : Host.Outcome State Fault Refusal :=
  .next (s.put w (pgI2C n) 0x048 (BitVec.ofNat 32 (2 + k.toNat * 16)))

/-- I2C_STOP (R491): I²C command STOP. -/
def execI2cStop (w : By) (n : Fin 3) (s : State) : Host.Outcome State Fault Refusal :=
  .next (s.put w (pgI2C n) 0x048 3)

/-- I2C_TXD_WRITE (R503): A write of I2C_TXD pushes a byte into the transmit FIFO. -/
def execI2cTxdWrite (w : By) (n : Fin 3) (b : Byte) (s : State) : Host.Outcome State Fault Refusal :=
  .next (s.put w (pgI2C n) 0x04C (b.zeroExtend 32))

/-- I2C_RXD_READ (R503): A read of I2C_RXD takes a byte from the receive FIFO. -/
def execI2cRxdRead (w : By) (n : Fin 3) (s : State) : Host.Outcome State Fault Refusal :=
  .next (s.take w (pgI2C n) 0x050)

/-- I2C_CMD_DONE (R491): An I²C command completes, or stops on a NACK, lost arbitration or bus error. -/
def execI2cCmdDone (n : Fin 3) (outcome : Fin 4) (data : List Byte) (s : State) : Host.Outcome State Fault Refusal :=
  .next (s.onSys fun s => s.i2cDone n outcome data)

/-- I2C_STUCK (R491): SCL is held low for TLOW_MAX; the controller releases the bus and sends nine clocks and a STOP. -/
def execI2cStuck (n : Fin 3) (s : State) : Host.Outcome State Fault Refusal :=
  .next (s.onSys fun s => s.i2cStuck n)

/-- I2C_TARGET_ADDRESSED (R503): The controller is addressed as a target. -/
def execI2cTargetAddressed (n : Fin 3) (write : Bool) (data : List Byte) (k : Nat) (s : State) : Host.Outcome State Fault Refusal :=
  .next (s.onSys fun s => s.i2cTarget n write data k)

/-- SPI_TXD_WRITE (R504): A write of SPI_TXD queues a frame to send. -/
def execSpiTxdWrite (w : By) (n : Fin 2) (v : Word) (s : State) : Host.Outcome State Fault Refusal :=
  .next (s.put w (pgSPI n) 0x044 v)

/-- SPI_RXD_READ (R504): A read of SPI_RXD removes the oldest received frame. -/
def execSpiRxdRead (w : By) (n : Fin 2) (s : State) : Host.Outcome State Fault Refusal :=
  .next (s.take w (pgSPI n) 0x048)

/-- SPI_FRAME_DONE (R492): An SPI frame has been shifted; the received frame is stored, or lost when the FIFO is full. -/
def execSpiFrameDone (n : Fin 2) (v : Word) (s : State) : Host.Outcome State Fault Refusal :=
  .next (s.onSys fun s => s.spiDone n v)

/-- XS_CMD_GO (R493): XS_CMD.GO starts a flash command. -/
def execXsCmdGo (w : By) (v : Word) (s : State) : Host.Outcome State Fault Refusal :=
  .next (s.put w pgXSPI 0x048 (withBit v 0))

/-- XSPI_CMD_DONE (R493): The flash command completes and CMDDONE is raised. -/
def execXspiCmdDone (data : List Byte) (flash : List (Nat × List Byte)) (s : State) : Host.Outcome State Fault Refusal :=
  .next (s.onSys fun s => s.xsDone data flash)

/-- XSPI_POLL_READY (R493): The status poll shows the flash ready and window reads resume. -/
def execXspiPollReady (s : State) : Host.Outcome State Fault Refusal :=
  .next (s.onSys fun s => s.xsReady)

/-- GP_SET (R506): GP_SET sets output levels. -/
def execGpSet (w : By) (m : Word) (s : State) : Host.Outcome State Fault Refusal :=
  .next (s.put w pgGPIO 0x048 m)

/-- GP_CLR (R506): GP_CLR clears output levels. -/
def execGpClr (w : By) (m : Word) (s : State) : Host.Outcome State Fault Refusal :=
  .next (s.put w pgGPIO 0x04C m)

/-- GPIO_EVENT (R495): A GPIO line event sets the output level of a pin. -/
def execGpioEvent (pin : Fin 32) (arg : BitVec 16) (s : State) : Host.Outcome State Fault Refusal :=
  .next (s.onSys fun s => s.gpEvent pin arg.toNat)

/-- GPIO_INPUT_EDGE (R495): An input edge of the selected kind sets its GP_IFLAG bit. -/
def execGpioInputEdge (pin : Fin 32) (level : Bool) (s : State) : Host.Outcome State Fault Refusal :=
  .next (s.gpEdge pin level)

/-- ADC_SINGLE (R499): AD_CTRL.SINGLE runs the sequence once. -/
def execAdcSingle (w : By) (v : Word) (s : State) : Host.Outcome State Fault Refusal :=
  .next (s.put w pgADC 0x040 (withBit v 1))

/-- ADC_SCAN_START (R499): After GAP, the converter starts the next scan with the committed sequence. -/
def execAdcScanStart (s : State) : Host.Outcome State Fault Refusal :=
  .next (s.onSys fun s => s.adcScan)

/-- ADC_CONVERSION_DONE (R497): A conversion completes; its code, flags and SETTLING mark are written and the window is
compared. -/
def execAdcConversionDone (x : Int) (off : Bool) (s : State) : Host.Outcome State Fault Refusal :=
  .next (s.onSys fun s => s.adcDone x off)

/-- AD_RES_READ (R502): A read of AD_RESn returns the result and clears NEW. -/
def execAdResRead (w : By) (n : Fin 24) (s : State) : Host.Outcome State Fault Refusal :=
  .next (s.take w pgADC (0x100 + 4 * n))

/-- CAN_BUS_ERROR (R485): A CAN bus error or lost arbitration occurs during a frame; the error counters change, PASSIVE may be
raised, and the buffer awaits retransmission. -/
def execCanBusError (n : Fin 2) (lost : Bool) (dTec dRec : Nat) (s : State) : Host.Outcome State Fault Refusal :=
  .next (s.onSys fun s => s.canError n lost dTec dRec)

/-- CAN_BUSOFF_RECOVERED (R485): Bus-off recovery completes under ISO 11898-1 and the controller returns to error active. -/
def execCanBusoffRecovered (n : Fin 2) (s : State) : Host.Outcome State Fault Refusal :=
  .next (s.onSys fun s => s.canRecovered n)

/-- LIN_FRAME_DONE (R489): A LIN frame completes on the bus, or ends with a bit, checksum, framing, sync or no-response error;
LIN_STAT is written and FRAME or LERR is raised. -/
def execLinFrameDone (errs : Nat) (data : List Byte) (s : State) : Host.Outcome State Fault Refusal :=
  .next (s.onSys fun s => s.linDone errs data)

end Sys2Proof.Machine
end

