-- ==== Sys2Proof/Machine/CmdWelt.lean ====
section
/-! DEFINITION. Machine/CmdWelt.lean: the meanings of the commands of the on-chip network (06). -/

namespace Sys2Proof.Machine

/-- WELT_REQUEST (R139): An initiator NI takes a request from its block: it decodes, checks, routes, applies the class rules,
and issues. What tenant the sender claims to be plays no part: the NI stamps its own (04 R95). -/
def execWeltRequest (n : Fin 26) (sub : Fin 4) (_claim : Fin 16) (cmd cls : Nat) (a : Word) (size : Nat) (data : List Byte) (s : State) : Host.Outcome State Fault Refusal :=
  .next (s.onSys fun s => s.weltRequest n sub cmd cls a.toNat size data)

/-- RTE_WRITE (R135): A write to a route table entry is checked and applied or refused; a latched index becomes STALE. -/
def execRteWrite (w : By) (n : Fin 26) (i : Fin 64) (v : Word) (s : State) : Host.Outcome State Fault Refusal :=
  .next (s.put w (pgNI n) (0x200 + 4 * i) v)

/-- RLINV (R137): NI_CTRL.RLINV empties the route latch after the packet being formed has been sent. -/
def execRlinv (w : By) (n : Fin 26) (s : State) : Host.Outcome State Fault Refusal :=
  .next (s.put w (pgNI n) 0x040 1)

/-- NI_COUNTER_CLEAR (R157): NI_CTRL.CLR clears the NI counters. -/
def execNiCounterClear (w : By) (n : Fin 26) (s : State) : Host.Outcome State Fault Refusal :=
  .next (s.put w (pgNI n) 0x040 2)

/-- ROUTER_PACKET (R152): A packet arrives at a router; parity is checked, the packet is poisoned or dropped if needed, and it
is forwarded. -/
def execRouterPacket (i : Nat) (hdrBad : Bool) (bad : List Nat) (s : State) : Host.Outcome State Fault Refusal :=
  .next (s.routerPacket i hdrBad bad)

/-- TRACE_RECORD_WRITE (R154): A queued trace record is written to the trace buffer, or dropped with an overflow record. -/
def execTraceRecordWrite (s : State) : Host.Outcome State Fault Refusal :=
  .next (s.onSys fun s => s.trcWrite)

/-- TARGET_REQUEST (R147): A request arrives at its target NI and passes the poison, once-window, queue and domain checks to
the block. -/
def execTargetRequest (i : Nat) (hdrBad : Bool) (bad : List Nat) (s : State) : Host.Outcome State Fault Refusal :=
  .next (s.targetRequest i hdrBad bad)

/-- WAKE_FAIL_TIMEOUT (R147): A woken domain has not reached Run within 128 µs; the held requests are answered DOMAIN_OFF. -/
def execWakeFailTimeout (n : Fin 26) (s : State) : Host.Outcome State Fault Refusal :=
  .next (s.wakeFail n)

/-- WELT_RESPONSE (R151): A response arrives at the initiator NI, is matched by TID and SEQ, and completes its request. -/
def execWeltResponse (i : Nat) (hdrBad : Bool) (bad : List Nat) (s : State) : Host.Outcome State Fault Refusal :=
  .next (s.weltResponse i hdrBad bad)

/-- RESPONSE_TIMEOUT (R151): NI_TMO expires without a response; the request is sent again or ends with TIMEOUT. -/
def execResponseTimeout (n : Fin 26) (tid : Fin 64) (s : State) : Host.Outcome State Fault Refusal :=
  .next (s.reqTimeout n tid)

/-- TRC_CLR (R158): TRC_CTRL.CLR empties the trace buffer and clears TRC_DROP. -/
def execTrcClr (w : By) (v : Word) (s : State) : Host.Outcome State Fault Refusal :=
  .next (s.put w pgPRB 0x040 (withBit v 8))

/-- TRC_DATA_READ (R158): A read of TRC_DATA returns the word at TRC_RPTR and advances the pointer. -/
def execTrcDataRead (w : By) (s : State) : Host.Outcome State Fault Refusal :=
  .next (s.take w pgPRB 0x04C)

/-- RT_CTRL_CLR (R156): RT_CTRL.CLR clears the router's drop counters and RT_LAST. -/
def execRtCtrlClr (w : By) (r : Fin 16) (s : State) : Host.Outcome State Fault Refusal :=
  .next (s.put w (pgRouter r) 0x04C 1)

/-- PROBE_CTRL_WRITE (R158): A write to PRm_CTRL configures the probe and clears its counters. -/
def execProbeCtrlWrite (w : By) (m : Fin 8) (v : Word) (s : State) : Host.Outcome State Fault Refusal :=
  .next (s.put w pgPRB (0x100 + 0x20 * m) v)

end Sys2Proof.Machine
end

