-- ==== Sys2Proof/Machine/Dispatch.lean ====
section
/-! DEFINITION. Machine/Dispatch.lean: what each command does, one arm per constructor. -/

namespace Sys2Proof.Machine

def exec (i : Instr) (s : State) : Host.Outcome State Fault Refusal :=
  match i with
  | .seamTransfer up ok => Sys2Proof.Machine.execSeamTransfer up ok s
  | .seamRecovered => Sys2Proof.Machine.execSeamRecovered s
  | .seamRefreshDone => Sys2Proof.Machine.execSeamRefreshDone s
  | .syspllLock => Sys2Proof.Machine.execSyspllLock s
  | .crystalLoss => Sys2Proof.Machine.execCrystalLoss s
  | .posLpRead w => Sys2Proof.Machine.execPosLpRead w s
  | .ltbClockChange => Sys2Proof.Machine.execLtbClockChange s
  | .masterLineStart m => Sys2Proof.Machine.execMasterLineStart m s
  | .masterFrameStart m mode => Sys2Proof.Machine.execMasterFrameStart m mode s
  | .virtualLineStart => Sys2Proof.Machine.execVirtualLineStart s
  | .coastLineStart => Sys2Proof.Machine.execCoastLineStart s
  | .blankFillLineStart => Sys2Proof.Machine.execBlankFillLineStart s
  | .masterLost => Sys2Proof.Machine.execMasterLost s
  | .letEntryFire n => Sys2Proof.Machine.execLetEntryFire n s
  | .letAWrite w n v => Sys2Proof.Machine.execLetAWrite w n v s
  | .letBWrite w n v => Sys2Proof.Machine.execLetBWrite w n v s
  | .clrMiss w v => Sys2Proof.Machine.execClrMiss w v s
  | .trackerFrameStart n => Sys2Proof.Machine.execTrackerFrameStart n s
  | .trackerLineStart n => Sys2Proof.Machine.execTrackerLineStart n s
  | .trkEntryFire n e => Sys2Proof.Machine.execTrkEntryFire n e s
  | .registerWrite w p o size v => Sys2Proof.Machine.execRegisterWrite w p o size v s
  | .shDisarm w p auto => Sys2Proof.Machine.execShDisarm w p auto s
  | .shCommitNow w p auto => Sys2Proof.Machine.execShCommitNow w p auto s
  | .shArmLineEvent w p auto => Sys2Proof.Machine.execShArmLineEvent w p auto s
  | .shArmFrame w p auto => Sys2Proof.Machine.execShArmFrame w p auto s
  | .shAutoSet w p auto mode => Sys2Proof.Machine.execShAutoSet w p auto mode s
  | .commitEvent p => Sys2Proof.Machine.execCommitEvent p s
  | .errCodeClr w p => Sys2Proof.Machine.execErrCodeClr w p s
  | .evRawClear w p v => Sys2Proof.Machine.execEvRawClear w p v s
  | .softReset w p v => Sys2Proof.Machine.execSoftReset w p v s
  | .softResetDone p => Sys2Proof.Machine.execSoftResetDone p s
  | .evrRouteWrite w j v => Sys2Proof.Machine.execEvrRouteWrite w j v s
  | .tenLock w => Sys2Proof.Machine.execTenLock w s
  | .lockCheckDone => Sys2Proof.Machine.execLockCheckDone s
  | .tenPop w => Sys2Proof.Machine.execTenPop w s
  | .tenWaWrite w t j v => Sys2Proof.Machine.execTenWaWrite w t j v s
  | .tenWbWrite w t j v => Sys2Proof.Machine.execTenWbWrite w t j v s
  | .cpPush w t => Sys2Proof.Machine.execCpPush w t s
  | .cpClear w t => Sys2Proof.Machine.execCpClear w t s
  | .cpCommit w t => Sys2Proof.Machine.execCpCommit w t s
  | .wdMaskWithdraw w m => Sys2Proof.Machine.execWdMaskWithdraw w m s
  | .admEvalStart => Sys2Proof.Machine.execAdmEvalStart s
  | .admEvalDone => Sys2Proof.Machine.execAdmEvalDone s
  | .weltRequest n sub loadT cmd cls a size data => Sys2Proof.Machine.execWeltRequest n sub loadT cmd cls a size data s
  | .rteWrite w n j v => Sys2Proof.Machine.execRteWrite w n j v s
  | .rlinv w n => Sys2Proof.Machine.execRlinv w n s
  | .niCounterClear w n => Sys2Proof.Machine.execNiCounterClear w n s
  | .routerPacket j hdrBad bad => Sys2Proof.Machine.execRouterPacket j hdrBad bad s
  | .traceRecordWrite => Sys2Proof.Machine.execTraceRecordWrite s
  | .targetRequest j hdrBad bad => Sys2Proof.Machine.execTargetRequest j hdrBad bad s
  | .wakeFailTimeout n => Sys2Proof.Machine.execWakeFailTimeout n s
  | .weltResponse j hdrBad bad => Sys2Proof.Machine.execWeltResponse j hdrBad bad s
  | .responseTimeout n tid => Sys2Proof.Machine.execResponseTimeout n tid s
  | .trcClr w v => Sys2Proof.Machine.execTrcClr w v s
  | .trcDataRead w => Sys2Proof.Machine.execTrcDataRead w s
  | .rtCtrlClr w r => Sys2Proof.Machine.execRtCtrlClr w r s
  | .probeCtrlWrite w m v => Sys2Proof.Machine.execProbeCtrlWrite w m v s
  | .irqEvent c n => Sys2Proof.Machine.execIrqEvent c n s
  | .interruptEntry c => Sys2Proof.Machine.execInterruptEntry c s
  | .releaseEvent c arg => Sys2Proof.Machine.execReleaseEvent c arg s
  | .coreRun w c => Sys2Proof.Machine.execCoreRun w c s
  | .coreHaltRequest w c => Sys2Proof.Machine.execCoreHaltRequest w c s
  | .coreStep w c => Sys2Proof.Machine.execCoreStep w c s
  | .crRelClr w c => Sys2Proof.Machine.execCrRelClr w c s
  | .queueReadIssue c q => Sys2Proof.Machine.execQueueReadIssue c q s
  | .queueMergeTimeout c q => Sys2Proof.Machine.execQueueMergeTimeout c q s
  | .queueResponse c q j sts dem late data => Sys2Proof.Machine.execQueueResponse c q j sts dem late data s
  | .queueWaitTimeout c => Sys2Proof.Machine.execQueueWaitTimeout c s
  | .iMacNop c pre hi post => Sys2Proof.Machine.execIMacNop c pre hi post s
  | .iMpy c pre hi acd a b post => Sys2Proof.Machine.execIMpy c pre hi acd a b post s
  | .iMac c pre hi acd a b post => Sys2Proof.Machine.execIMac c pre hi acd a b post s
  | .iMsu c pre hi acd a b post => Sys2Proof.Machine.execIMsu c pre hi acd a b post s
  | .iMacs c pre hi acd a b post => Sys2Proof.Machine.execIMacs c pre hi acd a b post s
  | .iMsus c pre hi acd a b post => Sys2Proof.Machine.execIMsus c pre hi acd a b post s
  | .iMpyi c pre hi acd a b post => Sys2Proof.Machine.execIMpyi c pre hi acd a b post s
  | .iMaci c pre hi acd a b post => Sys2Proof.Machine.execIMaci c pre hi acd a b post s
  | .iMsui c pre hi acd a b post => Sys2Proof.Machine.execIMsui c pre hi acd a b post s
  | .iMpyu c pre hi acd a b post => Sys2Proof.Machine.execIMpyu c pre hi acd a b post s
  | .iMacu c pre hi acd a b post => Sys2Proof.Machine.execIMacu c pre hi acd a b post s
  | .iMpysu c pre hi acd a b post => Sys2Proof.Machine.execIMpysu c pre hi acd a b post s
  | .iMacsu c pre hi acd a b post => Sys2Proof.Machine.execIMacsu c pre hi acd a b post s
  | .iPerm c pre hi d a imm post => Sys2Proof.Machine.execIPerm c pre hi d a imm post s
  | .iBxclr c pre hi post => Sys2Proof.Machine.execIBxclr c pre hi post s
  | .iBxdet c pre hi d a b det post => Sys2Proof.Machine.execIBxdet c pre hi d a b det post s
  | .iAclr c pre hi acd acs r sbx sh det post => Sys2Proof.Machine.execIAclr c pre hi acd acs r sbx sh det post s
  | .iAmov c pre hi acd acs r sbx sh det post => Sys2Proof.Machine.execIAmov c pre hi acd acs r sbx sh det post s
  | .iAadd c pre hi acd acs r sbx sh det post => Sys2Proof.Machine.execIAadd c pre hi acd acs r sbx sh det post s
  | .iAsub c pre hi acd acs r sbx sh det post => Sys2Proof.Machine.execIAsub c pre hi acd acs r sbx sh det post s
  | .iAneg c pre hi acd acs r sbx sh det post => Sys2Proof.Machine.execIAneg c pre hi acd acs r sbx sh det post s
  | .iAabs c pre hi acd acs r sbx sh det post => Sys2Proof.Machine.execIAabs c pre hi acd acs r sbx sh det post s
  | .iAsh c pre hi acd acs r sbx sh det post => Sys2Proof.Machine.execIAsh c pre hi acd acs r sbx sh det post s
  | .iAshv c pre hi acd acs r sbx sh det post => Sys2Proof.Machine.execIAshv c pre hi acd acs r sbx sh det post s
  | .iAsat c pre hi acd acs r sbx sh det post => Sys2Proof.Machine.execIAsat c pre hi acd acs r sbx sh det post s
  | .iAld c pre hi acd acs r sbx sh det post => Sys2Proof.Machine.execIAld c pre hi acd acs r sbx sh det post s
  | .iAldw c pre hi acd acs r sbx sh det post => Sys2Proof.Machine.execIAldw c pre hi acd acs r sbx sh det post s
  | .iAcmp c pre hi acd acs r sbx sh det post => Sys2Proof.Machine.execIAcmp c pre hi acd acs r sbx sh det post s
  | .iNarr c pre hi acd acs r sbx sh det post => Sys2Proof.Machine.execINarr c pre hi acd acs r sbx sh det post s
  | .iAexp c pre hi acd acs r sbx sh det post => Sys2Proof.Machine.execIAexp c pre hi acd acs r sbx sh det post s
  | .iAdd c pre hi d a b det post => Sys2Proof.Machine.execIAdd c pre hi d a b det post s
  | .iAdds c pre hi d a b det post => Sys2Proof.Machine.execIAdds c pre hi d a b det post s
  | .iAdc c pre hi d a b det post => Sys2Proof.Machine.execIAdc c pre hi d a b det post s
  | .iSub c pre hi d a b det post => Sys2Proof.Machine.execISub c pre hi d a b det post s
  | .iSubs c pre hi d a b det post => Sys2Proof.Machine.execISubs c pre hi d a b det post s
  | .iSbc c pre hi d a b det post => Sys2Proof.Machine.execISbc c pre hi d a b det post s
  | .iCmp c pre hi d a b det post => Sys2Proof.Machine.execICmp c pre hi d a b det post s
  | .iNeg c pre hi d a b det post => Sys2Proof.Machine.execINeg c pre hi d a b det post s
  | .iAbs c pre hi d a b det post => Sys2Proof.Machine.execIAbs c pre hi d a b det post s
  | .iMin c pre hi d a b det post => Sys2Proof.Machine.execIMin c pre hi d a b det post s
  | .iMax c pre hi d a b det post => Sys2Proof.Machine.execIMax c pre hi d a b det post s
  | .iAnd c pre hi d a b det post => Sys2Proof.Machine.execIAnd c pre hi d a b det post s
  | .iOr c pre hi d a b det post => Sys2Proof.Machine.execIOr c pre hi d a b det post s
  | .iXor c pre hi d a b det post => Sys2Proof.Machine.execIXor c pre hi d a b det post s
  | .iAndn c pre hi d a b det post => Sys2Proof.Machine.execIAndn c pre hi d a b det post s
  | .iTst c pre hi d a b det post => Sys2Proof.Machine.execITst c pre hi d a b det post s
  | .iShl c pre hi d a b det post => Sys2Proof.Machine.execIShl c pre hi d a b det post s
  | .iShr c pre hi d a b det post => Sys2Proof.Machine.execIShr c pre hi d a b det post s
  | .iAsr c pre hi d a b det post => Sys2Proof.Machine.execIAsr c pre hi d a b det post s
  | .iRol c pre hi d a b det post => Sys2Proof.Machine.execIRol c pre hi d a b det post s
  | .iShli c pre hi d a imm post => Sys2Proof.Machine.execIShli c pre hi d a imm post s
  | .iShri c pre hi d a imm post => Sys2Proof.Machine.execIShri c pre hi d a imm post s
  | .iAsri c pre hi d a imm post => Sys2Proof.Machine.execIAsri c pre hi d a imm post s
  | .iRoli c pre hi d a imm post => Sys2Proof.Machine.execIRoli c pre hi d a imm post s
  | .iAsls c pre hi d a imm post => Sys2Proof.Machine.execIAsls c pre hi d a imm post s
  | .iAddi c pre hi d a imm post => Sys2Proof.Machine.execIAddi c pre hi d a imm post s
  | .iMovi c pre hi d imm post => Sys2Proof.Machine.execIMovi c pre hi d imm post s
  | .iMov c pre hi d a b det post => Sys2Proof.Machine.execIMov c pre hi d a b det post s
  | .iClz c pre hi d a b det post => Sys2Proof.Machine.execIClz c pre hi d a b det post s
  | .iCls c pre hi d a b det post => Sys2Proof.Machine.execICls c pre hi d a b det post s
  | .iBfx c pre hi d a imm post => Sys2Proof.Machine.execIBfx c pre hi d a imm post s
  | .iBfi c pre hi d a imm post => Sys2Proof.Machine.execIBfi c pre hi d a imm post s
  | .iAguNop c pre post => Sys2Proof.Machine.execIAguNop c pre post s
  | .iLd c pre reg y ptr amod post => Sys2Proof.Machine.execILd c pre reg y ptr amod post s
  | .iSt c pre reg y ptr amod det post => Sys2Proof.Machine.execISt c pre reg y ptr amod det post s
  | .iLdxy c pre dx dy px mx py my post => Sys2Proof.Machine.execILdxy c pre dx dy px mx py my post s
  | .iPmod c pre y ptr amod post => Sys2Proof.Machine.execIPmod c pre y ptr amod post s
  | .iPaddi c pre pr simm post => Sys2Proof.Machine.execIPaddi c pre pr simm post s
  | .iAguAmov c pre d a post => Sys2Proof.Machine.execIAguAmov c pre d a post s
  | .iAmovi c pre d imm post => Sys2Proof.Machine.execIAmovi c pre d imm post s
  | .iQset c pre q dir w32 cls sreg creg ext post => Sys2Proof.Machine.execIQset c pre q dir w32 cls sreg creg ext post s
  | .iQstop c pre q post => Sys2Proof.Machine.execIQstop c pre q post s
  | .iQpop c pre reg q w det post => Sys2Proof.Machine.execIQpop c pre reg q w det post s
  | .iQpush c pre reg q w post => Sys2Proof.Machine.execIQpush c pre reg q w post s
  | .iQpopm c pre q w y ptr amod post => Sys2Proof.Machine.execIQpopm c pre q w y ptr amod post s
  | .iQpushm c pre q w y ptr amod post => Sys2Proof.Machine.execIQpushm c pre q w y ptr amod post s
  | .iQwait c pre q k post => Sys2Proof.Machine.execIQwait c pre q k post s
  | .iQsync c pre q post => Sys2Proof.Machine.execIQsync c pre q post s
  | .waitBundleIssue c => Sys2Proof.Machine.execWaitBundleIssue c s
  | .iCtlNop c pre post => Sys2Proof.Machine.execICtlNop c pre post s
  | .iSkf c pre cond q post => Sys2Proof.Machine.execISkf c pre cond q post s
  | .iSkr c pre rc r bit post => Sys2Proof.Machine.execISkr c pre rc r bit post s
  | .iBr c pre tgt post => Sys2Proof.Machine.execIBr c pre tgt post s
  | .iBrr c pre r h post => Sys2Proof.Machine.execIBrr c pre r h post s
  | .iCall c pre tgt post => Sys2Proof.Machine.execICall c pre tgt post s
  | .iCallr c pre r h post => Sys2Proof.Machine.execICallr c pre r h post s
  | .iRet c pre post => Sys2Proof.Machine.execIRet c pre post s
  | .iRti c pre post => Sys2Proof.Machine.execIRti c pre post s
  | .iDo c pre rt creg cimm ofs post => Sys2Proof.Machine.execIDo c pre rt creg cimm ofs post s
  | .iLbrk c pre lv post => Sys2Proof.Machine.execILbrk c pre lv post s
  | .iRep c pre creg cimm post => Sys2Proof.Machine.execIRep c pre creg cimm post s
  | .iRepi c pre creg cimm post => Sys2Proof.Machine.execIRepi c pre creg cimm post s
  | .iRrc c pre set k post => Sys2Proof.Machine.execIRrc c pre set k post s
  | .iLimx c pre d d2 ext post => Sys2Proof.Machine.execILimx c pre d d2 ext post s
  | .iEi c pre post => Sys2Proof.Machine.execIEi c pre post s
  | .iDi c pre post => Sys2Proof.Machine.execIDi c pre post s
  | .iIhold c pre post => Sys2Proof.Machine.execIIhold c pre post s
  | .iWaite c pre post => Sys2Proof.Machine.execIWaite c pre post s
  | .iHalt c pre post => Sys2Proof.Machine.execIHalt c pre post s
  | .ctxSwitchEvent e n lost => Sys2Proof.Machine.execCtxSwitchEvent e n lost s
  | .grvSw w n => Sys2Proof.Machine.execGrvSw w n s
  | .queueTrigger => Sys2Proof.Machine.execQueueTrigger s
  | .grvIdle w => Sys2Proof.Machine.execGrvIdle w s
  | .grvClr w => Sys2Proof.Machine.execGrvClr w s
  | .gcActidxClr w n => Sys2Proof.Machine.execGcActidxClr w n s
  | .cellFire c r => Sys2Proof.Machine.execCellFire c r s
  | .portReadIssue p => Sys2Proof.Machine.execPortReadIssue p s
  | .writePortMergeTimeout p => Sys2Proof.Machine.execWritePortMergeTimeout p s
  | .portResponse p j sts dem late data => Sys2Proof.Machine.execPortResponse p j sts dem late data s
  | .portRefusedRetry p j => Sys2Proof.Machine.execPortRefusedRetry p j s
  | .activationDone => Sys2Proof.Machine.execActivationDone s
  | .activationWatchdog => Sys2Proof.Machine.execActivationWatchdog s
  | .ldStart w => Sys2Proof.Machine.execLdStart w s
  | .ldAbort w => Sys2Proof.Machine.execLdAbort w s
  | .loadReadDone sts ofs => Sys2Proof.Machine.execLoadReadDone sts ofs s
  | .loadVerifyDone => Sys2Proof.Machine.execLoadVerifyDone s
  | .loadPartEvalDone => Sys2Proof.Machine.execLoadPartEvalDone s
  | .loadEffect => Sys2Proof.Machine.execLoadEffect s
  | .loadWriteDone => Sys2Proof.Machine.execLoadWriteDone s
  | .csiFrameStart n vc num hdr => Sys2Proof.Machine.execCsiFrameStart n vc num hdr s
  | .csiLineStart n vc => Sys2Proof.Machine.execCsiLineStart n vc s
  | .csiLongPacket n vc dt hdr wc payload crcOk fifo fill => Sys2Proof.Machine.execCsiLongPacket n vc dt hdr wc payload crcOk fifo fill s
  | .csiFrameEnd n vc hdr => Sys2Proof.Machine.execCsiFrameEnd n vc hdr s
  | .frameEndTimeout n k => Sys2Proof.Machine.execFrameEndTimeout n k s
  | .capFdone n k => Sys2Proof.Machine.execCapFdone n k s
  | .strRel w n k m => Sys2Proof.Machine.execStrRel w n k m s
  | .capClr w n v => Sys2Proof.Machine.execCapClr w n v s
  | .ispSubmit w v => Sys2Proof.Machine.execIspSubmit w v s
  | .ispAbort w v => Sys2Proof.Machine.execIspAbort w v s
  | .tqPush w v => Sys2Proof.Machine.execTqPush w v s
  | .tqFlush w v => Sys2Proof.Machine.execTqFlush w v s
  | .ispJobStart sts => Sys2Proof.Machine.execIspJobStart sts s
  | .ispJobDone => Sys2Proof.Machine.execIspJobDone s
  | .ispXferError sts => Sys2Proof.Machine.execIspXferError sts s
  | .camTrigger n arg => Sys2Proof.Machine.execCamTrigger n arg s
  | .camTriggerEnd n => Sys2Proof.Machine.execCamTriggerEnd n s
  | .strobeArm e arg => Sys2Proof.Machine.execStrobeArm e arg s
  | .pulseStart => Sys2Proof.Machine.execPulseStart s
  | .pulseEnd => Sys2Proof.Machine.execPulseEnd s
  | .budgetTick => Sys2Proof.Machine.execBudgetTick s
  | .ebLock w => Sys2Proof.Machine.execEbLock w s
  | .skpclr w => Sys2Proof.Machine.execSkpclr w s
  | .skpFault => Sys2Proof.Machine.execSkpFault s
  | .scanRun w v => Sys2Proof.Machine.execScanRun w v s
  | .scanCancel w v => Sys2Proof.Machine.execScanCancel w v s
  | .scanSubmit w v => Sys2Proof.Machine.execScanSubmit w v s
  | .scanLineRead => Sys2Proof.Machine.execScanLineRead s
  | .scanReadoutEnd => Sys2Proof.Machine.execScanReadoutEnd s
  | .scanRecordDone => Sys2Proof.Machine.execScanRecordDone s
  | .scanFrameDone => Sys2Proof.Machine.execScanFrameDone s
  | .holdExpire j => Sys2Proof.Machine.execHoldExpire j s
  | .forwardResponse sts => Sys2Proof.Machine.execForwardResponse sts s
  | .forwardRetry => Sys2Proof.Machine.execForwardRetry s
  | .scanXferErr sts => Sys2Proof.Machine.execScanXferErr sts s
  | .ringConsume w v => Sys2Proof.Machine.execRingConsume w v s
  | .hash bits src len dst => Sys2Proof.Machine.execHash bits src len dst s
  | .hmac slot src len dst => Sys2Proof.Machine.execHmac slot src len dst s
  | .aes slot mode iv src len dst dec => Sys2Proof.Machine.execAes slot mode iv src len dst dec s
  | .ecdsaSign slot dg dst => Sys2Proof.Machine.execEcdsaSign slot dg dst s
  | .ecdsaVerify slot dg sig => Sys2Proof.Machine.execEcdsaVerify slot dg sig s
  | .ecdh slot pub dst => Sys2Proof.Machine.execEcdh slot pub dst s
  | .ksSet slot attr src => Sys2Proof.Machine.execKsSet slot attr src s
  | .ksWrap slot dst => Sys2Proof.Machine.execKsWrap slot dst s
  | .ksUnwrap src => Sys2Proof.Machine.execKsUnwrap src s
  | .ksClear slot => Sys2Proof.Machine.execKsClear slot s
  | .ksFreeze => Sys2Proof.Machine.execKsFreeze s
  | .ksReadpub slot dst => Sys2Proof.Machine.execKsReadpub slot dst s
  | .otpRead word dst => Sys2Proof.Machine.execOtpRead word dst s
  | .otpProg word v supplyOk => Sys2Proof.Machine.execOtpProg word v supplyOk s
  | .lcProd => Sys2Proof.Machine.execLcProd s
  | .lcEnd => Sys2Proof.Machine.execLcEnd s
  | .imgCheck src => Sys2Proof.Machine.execImgCheck src s
  | .arbAdvance c => Sys2Proof.Machine.execArbAdvance c s
  | .mcInc n => Sys2Proof.Machine.execMcInc n s
  | .timeSet v => Sys2Proof.Machine.execTimeSet v s
  | .winSet j v => Sys2Proof.Machine.execWinSet j v s
  | .winRaise j v => Sys2Proof.Machine.execWinRaise j v s
  | .cryptoOpDone => Sys2Proof.Machine.execCryptoOpDone s
  | .trngStartupDone => Sys2Proof.Machine.execTrngStartupDone s
  | .trngHealthFail => Sys2Proof.Machine.execTrngHealthFail s
  | .bootRomStart => Sys2Proof.Machine.execBootRomStart s
  | .bootUnlockWindowExpire => Sys2Proof.Machine.execBootUnlockWindowExpire s
  | .dbgRequest perm => Sys2Proof.Machine.execDbgRequest perm s
  | .dbgToken key sig => Sys2Proof.Machine.execDbgToken key sig s
  | .dbgVerifyDone => Sys2Proof.Machine.execDbgVerifyDone s
  | .intakeSlotClose w k v => Sys2Proof.Machine.execIntakeSlotClose w k v s
  | .credCheckStart => Sys2Proof.Machine.execCredCheckStart s
  | .credCheckDone => Sys2Proof.Machine.execCredCheckDone s
  | .svVerify w => Sys2Proof.Machine.execSvVerify w s
  | .svRndRead w => Sys2Proof.Machine.execSvRndRead w s
  | .grantTimeout => Sys2Proof.Machine.execGrantTimeout s
  | .dpFrameLatch p => Sys2Proof.Machine.execDpFrameLatch p s
  | .ppllLock p => Sys2Proof.Machine.execPpllLock p s
  | .dpLineStart p late => Sys2Proof.Machine.execDpLineStart p late s
  | .icvSeal w => Sys2Proof.Machine.execIcvSeal w s
  | .icvOpen w => Sys2Proof.Machine.execIcvOpen w s
  | .icvFormatCheckDone => Sys2Proof.Machine.execIcvFormatCheckDone s
  | .guardDecision p => Sys2Proof.Machine.execGuardDecision p s
  | .guardMissedFrame p => Sys2Proof.Machine.execGuardMissedFrame p s
  | .ttgRelease w p => Sys2Proof.Machine.execTtgRelease w p s
  | .forceOff w => Sys2Proof.Machine.execForceOff w s
  | .lampSync g => Sys2Proof.Machine.execLampSync g s
  | .pwmPeriodStart t => Sys2Proof.Machine.execPwmPeriodStart t s
  | .blScan arg => Sys2Proof.Machine.execBlScan arg s
  | .scanMissRepeat => Sys2Proof.Machine.execScanMissRepeat s
  | .laceLatchEvent => Sys2Proof.Machine.execLaceLatchEvent s
  | .calNow w => Sys2Proof.Machine.execCalNow w s
  | .sinkHeadroomLow n => Sys2Proof.Machine.execSinkHeadroomLow n s
  | .lampFaultDeclared c short => Sys2Proof.Machine.execLampFaultDeclared c short s
  | .rowOvercurrent r => Sys2Proof.Machine.execRowOvercurrent r s
  | .mxAdmissionResult => Sys2Proof.Machine.execMxAdmissionResult s
  | .boostOvp v => Sys2Proof.Machine.execBoostOvp v s
  | .ovpclr w v => Sys2Proof.Machine.execOvpclr w v s
  | .fgCfgWrite w g v => Sys2Proof.Machine.execFgCfgWrite w g v s
  | .fgClr w m => Sys2Proof.Machine.execFgClr w m s
  | .ldFclr w => Sys2Proof.Machine.execLdFclr w s
  | .seamHoldFallbackTick => Sys2Proof.Machine.execSeamHoldFallbackTick s
  | .lacePush w v => Sys2Proof.Machine.execLacePush w v s
  | .laceFlush w => Sys2Proof.Machine.execLaceFlush w s
  | .laceTransactionStart => Sys2Proof.Machine.execLaceTransactionStart s
  | .laceResponse bytes => Sys2Proof.Machine.execLaceResponse bytes s
  | .laceResponseTimeout readback => Sys2Proof.Machine.execLaceResponseTimeout readback s
  | .laceOnlineWrite w j v => Sys2Proof.Machine.execLaceOnlineWrite w j v s
  | .lacePoll => Sys2Proof.Machine.execLacePoll s
  | .laceResponsePop w => Sys2Proof.Machine.execLaceResponsePop w s
  | .laneAligned n => Sys2Proof.Machine.execLaneAligned n s
  | .laneAlignLost n errs => Sys2Proof.Machine.execLaneAlignLost n errs s
  | .refloss => Sys2Proof.Machine.execRefloss s
  | .lanepllLock => Sys2Proof.Machine.execLanepllLock s
  | .laneLpEvent arg => Sys2Proof.Machine.execLaneLpEvent arg s
  | .lnLpIdle w n => Sys2Proof.Machine.execLnLpIdle w n s
  | .lnLpDormant w n => Sys2Proof.Machine.execLnLpDormant w n s
  | .lnLpExit w n => Sys2Proof.Machine.execLnLpExit w n s
  | .farLpEntry n => Sys2Proof.Machine.execFarLpEntry n s
  | .lpWindowEnd n => Sys2Proof.Machine.execLpWindowEnd n s
  | .lpExitDone n => Sys2Proof.Machine.execLpExitDone n s
  | .paneSegmentSend n x => Sys2Proof.Machine.execPaneSegmentSend n x s
  | .paneReportReceive n b bad => Sys2Proof.Machine.execPaneReportReceive n b bad s
  | .hostVstart n b bad => Sys2Proof.Machine.execHostVstart n b bad s
  | .hostVline n b bad => Sys2Proof.Machine.execHostVline n b bad s
  | .hinRel w n m => Sys2Proof.Machine.execHinRel w n m s
  | .wlDataPacket n b bad => Sys2Proof.Machine.execWlDataPacket n b bad s
  | .wlAck n b => Sys2Proof.Machine.execWlAck n b s
  | .wlNak n b => Sys2Proof.Machine.execWlNak n b s
  | .wlInit n b => Sys2Proof.Machine.execWlInit n b s
  | .wlInitTimer n => Sys2Proof.Machine.execWlInitTimer n s
  | .wlReplayTimeout n => Sys2Proof.Machine.execWlReplayTimeout n s
  | .retrain w n => Sys2Proof.Machine.execRetrain w n s
  | .lkClr w n => Sys2Proof.Machine.execLkClr w n s
  | .apertureAccess w n seq cls write o v => Sys2Proof.Machine.execApertureAccess w n seq cls write o v s
  | .prbsInj1 w n v => Sys2Proof.Machine.execPrbsInj1 w n v s
  | .prbsLockLost n errs bits => Sys2Proof.Machine.execPrbsLockLost n errs bits s
  | .esStart w n v => Sys2Proof.Machine.execEsStart w n v s
  | .esDone n errs => Sys2Proof.Machine.execEsDone n errs s
  | .canTxRequest w n m => Sys2Proof.Machine.execCanTxRequest w n m s
  | .canTxAbort w n m => Sys2Proof.Machine.execCanTxAbort w n m s
  | .canTxDone n => Sys2Proof.Machine.execCanTxDone n s
  | .canFrameReceived n f => Sys2Proof.Machine.execCanFrameReceived n f s
  | .canBusoff n => Sys2Proof.Machine.execCanBusoff n s
  | .canRec w n v => Sys2Proof.Machine.execCanRec w n v s
  | .rxfPop w n => Sys2Proof.Machine.execRxfPop w n s
  | .canWkstatClr w => Sys2Proof.Machine.execCanWkstatClr w s
  | .canSelectiveWake cause f => Sys2Proof.Machine.execCanSelectiveWake cause f s
  | .linScheduleSlot => Sys2Proof.Machine.execLinScheduleSlot s
  | .linHeaderReceived pid => Sys2Proof.Machine.execLinHeaderReceived pid s
  | .linWktx w v => Sys2Proof.Machine.execLinWktx w v s
  | .linBusWake => Sys2Proof.Machine.execLinBusWake s
  | .wakeEdge j level => Sys2Proof.Machine.execWakeEdge j level s
  | .wkClr w => Sys2Proof.Machine.execWkClr w s
  | .i2cStart w n adr => Sys2Proof.Machine.execI2cStart w n adr s
  | .i2cWrite w n k => Sys2Proof.Machine.execI2cWrite w n k s
  | .i2cRead w n k => Sys2Proof.Machine.execI2cRead w n k s
  | .i2cStop w n => Sys2Proof.Machine.execI2cStop w n s
  | .i2cTxdWrite w n b => Sys2Proof.Machine.execI2cTxdWrite w n b s
  | .i2cRxdRead w n => Sys2Proof.Machine.execI2cRxdRead w n s
  | .i2cCmdDone n outcome data => Sys2Proof.Machine.execI2cCmdDone n outcome data s
  | .i2cStuck n => Sys2Proof.Machine.execI2cStuck n s
  | .i2cTargetAddressed n write data k => Sys2Proof.Machine.execI2cTargetAddressed n write data k s
  | .spiTxdWrite w n v => Sys2Proof.Machine.execSpiTxdWrite w n v s
  | .spiRxdRead w n => Sys2Proof.Machine.execSpiRxdRead w n s
  | .spiFrameDone n v => Sys2Proof.Machine.execSpiFrameDone n v s
  | .xsCmdGo w v => Sys2Proof.Machine.execXsCmdGo w v s
  | .xspiCmdDone data flash => Sys2Proof.Machine.execXspiCmdDone data flash s
  | .xspiPollReady => Sys2Proof.Machine.execXspiPollReady s
  | .gpSet w m => Sys2Proof.Machine.execGpSet w m s
  | .gpClr w m => Sys2Proof.Machine.execGpClr w m s
  | .gpioEvent pin arg => Sys2Proof.Machine.execGpioEvent pin arg s
  | .gpioInputEdge pin level => Sys2Proof.Machine.execGpioInputEdge pin level s
  | .adcSingle w v => Sys2Proof.Machine.execAdcSingle w v s
  | .adcScanStart => Sys2Proof.Machine.execAdcScanStart s
  | .adcConversionDone x off => Sys2Proof.Machine.execAdcConversionDone x off s
  | .adResRead w n => Sys2Proof.Machine.execAdResRead w n s
  | .lowbatSet => Sys2Proof.Machine.execLowbatSet s
  | .lowbatClear => Sys2Proof.Machine.execLowbatClear s
  | .shedSet => Sys2Proof.Machine.execShedSet s
  | .shedClear => Sys2Proof.Machine.execShedClear s
  | .ovSet => Sys2Proof.Machine.execOvSet s
  | .ovClear => Sys2Proof.Machine.execOvClear s
  | .brownOutReset => Sys2Proof.Machine.execBrownOutReset s
  | .borRestart => Sys2Proof.Machine.execBorRestart s
  | .powerOnReset => Sys2Proof.Machine.execPowerOnReset s
  | .pwrSleep w n => Sys2Proof.Machine.execPwrSleep w n s
  | .sleepEntryDone => Sys2Proof.Machine.execSleepEntryDone s
  | .rtcTick => Sys2Proof.Machine.execRtcTick s
  | .rtcAlarm => Sys2Proof.Machine.execRtcAlarm s
  | .pwrDomWrite w d v => Sys2Proof.Machine.execPwrDomWrite w d v s
  | .domainTransitionDone d => Sys2Proof.Machine.execDomainTransitionDone d s
  | .domainAutoIdle d => Sys2Proof.Machine.execDomainAutoIdle d s
  | .rstSysr w => Sys2Proof.Machine.execRstSysr w s
  | .rstCclr w => Sys2Proof.Machine.execRstCclr w s
  | .rstCoreWrite w v => Sys2Proof.Machine.execRstCoreWrite w v s
  | .wdCtrlWrite w v => Sys2Proof.Machine.execWdCtrlWrite w v s
  | .wdKick w v => Sys2Proof.Machine.execWdKick w v s
  | .wdgExpire => Sys2Proof.Machine.execWdgExpire s
  | .dramTrainDone code crc => Sys2Proof.Machine.execDramTrainDone code crc s
  | .dramRefEvent arg n => Sys2Proof.Machine.execDramRefEvent arg n s
  | .dramForcedRefresh n => Sys2Proof.Machine.execDramForcedRefresh n s
  | .awlDisarm w => Sys2Proof.Machine.execAwlDisarm w s
  | .awlClr w => Sys2Proof.Machine.execAwlClr w s
  | .awlArm w j v => Sys2Proof.Machine.execAwlArm w j v s
  | .awlHoldRelease j => Sys2Proof.Machine.execAwlHoldRelease j s
  | .probeMark m => Sys2Proof.Machine.execProbeMark m s
  | .trackTokenAdvance => Sys2Proof.Machine.execTrackTokenAdvance s
  | .pwmSubPeriodStart t => Sys2Proof.Machine.execPwmSubPeriodStart t s
  | .pllRestart => Sys2Proof.Machine.execPllRestart s
  | .prbsCheckerLock n => Sys2Proof.Machine.execPrbsCheckerLock n s
  | .canBusError n lost dTec dRec => Sys2Proof.Machine.execCanBusError n lost dTec dRec s
  | .canBusoffRecovered n => Sys2Proof.Machine.execCanBusoffRecovered n s
  | .linFrameDone errs data => Sys2Proof.Machine.execLinFrameDone errs data s

end Sys2Proof.Machine
end

