-- ==== Sys2Proof/Machine/RhoifEnc.lean ====
section
/-! DEFINITION. Machine/RhoifEnc.lean: the words of a syllable (07 R165, R166; 08 R197, R204; 09 R219 to R228). -/

namespace Sys2Proof.Machine

/-! ### Field widths -/

/-- An operand of format M fits its fields. -/
def MOp.fits : MOp → Bool
  | .reg k => decide (k < 128)
  | .mem ptr md => decide (ptr < 4) && decide (md < 4)

/-- A count register or an immediate count of at most `top`, never both. -/
def cntFits (creg : Option Nat) (cimm top : Nat) : Bool :=
  match creg with
  | some r => decide (r < 128) && decide (cimm = 0)
  | none => decide (cimm ≤ top)

/-- Every operand of a syllable fits its field, and fields an instruction ignores hold 0 (R198). -/
def opFits : Op → Bool
  | .m _ acd a b => decide (acd < 4) && MOp.fits a && MOp.fits b
  | .a _ acd acs r _ sh _ => decide (acd < 4) && decide (acs < 4) && decide (r < 128) && decide (sh < 64)
  | .r _ d a b _ => decide (d < 128) && decide (a < 128) && decide (b < 128)
  | .i _ d a imm => decide (d < 128) && decide (a < 128) && decide (imm < 512)
  | .movi d _ => decide (d < 128)
  | .ld reg _ ptr amod => decide (reg < 128) && decide (ptr < 4) && decide (amod < 8)
  | .st reg _ ptr amod _ => decide (reg < 128) && decide (ptr < 4) && decide (amod < 8)
  | .ldxy dx dy px mx py my =>
    decide (dx < 128) && decide (dy < 128) && decide (px < 4) && decide (mx < 4) && decide (py < 4) && decide (my < 4)
  | .pmod _ ptr amod => decide (ptr < 4) && decide (amod < 8)
  | .paddi pr _ => decide (pr < 8)
  | .qset q _ _ cls sreg creg _ => decide (q < 4) && decide (cls < 4) && decide (sreg < 128) && decide (creg < 128)
  | .qstop q => decide (q < 4)
  | .qpop reg q _ _ => decide (reg < 128) && decide (q < 4)
  | .qpush reg q _ => decide (reg < 128) && decide (q < 4)
  | .qpopm q _ _ ptr amod => decide (q < 4) && decide (ptr < 4) && decide (amod < 8)
  | .qpushm q _ _ ptr amod => decide (q < 4) && decide (ptr < 4) && decide (amod < 8)
  | .qwait q k => decide (q < 4) && decide (k < 16)
  | .qsync q => decide (q < 4)
  | .skf cond q => decide (cond < 32) && decide (q < 4)
  | .skr rc r bit => decide (rc < 8) && decide (r < 128) && decide (bit < 16)
  | .br tgt => decide (tgt < 131072)
  | .brr r _ => decide (r < 128)
  | .call tgt => decide (tgt < 131072)
  | .callr r _ => decide (r < 128)
  | .doLoop _ creg cimm ofs => cntFits creg cimm 1023 && decide (ofs < 2048)
  | .lbrk lv => decide (lv < 4)
  | .rep creg cimm => cntFits creg cimm 4095
  | .repi creg cimm => cntFits creg cimm 4095
  | .rrc _ k => decide (k < 32)
  | .limx d d2 _ => decide (d < 128) && (match d2 with | some e => decide (e < 128) | none => true)
  | _ => true

/-- A move of the AGU names one source and no detection (R221 format AR). -/
def aguMovOk (y : Syl) : Bool :=
  match y.slot, y.op with
  | .agu, .r _ _ _ b det => decide (b = 0) && !det
  | _, _ => true

/-! ### Opcodes (R204, R221, R228) -/

def mulCode : MKind → Nat
  | .mpy => 0x01 | .mac => 0x02 | .msu => 0x03 | .macs => 0x04 | .msus => 0x05 | .mpyi => 0x06 | .maci => 0x07 | .msui => 0x08
  | .mpyu => 0x09 | .macu => 0x0A | .mpysu => 0x0B | .macsu => 0x0C

def accCode : AKind → Nat
  | .aclr => 0x10 | .amov => 0x11 | .aadd => 0x12 | .asub => 0x13 | .aneg => 0x14 | .aabs => 0x15 | .ash => 0x16 | .ashv => 0x17
  | .asat => 0x18 | .ald => 0x19 | .aldw => 0x1A | .acmp => 0x1B | .narr => 0x1C | .aexp => 0x1D

def regCode : RKind → Nat
  | .add => 0x20 | .adds => 0x21 | .adc => 0x22 | .sub => 0x23 | .subs => 0x24 | .sbc => 0x25 | .cmp => 0x26 | .neg => 0x27
  | .abs => 0x28 | .min => 0x29 | .max => 0x2A | .and => 0x2B | .or => 0x2C | .xor => 0x2D | .andn => 0x2E | .tst => 0x2F
  | .shl => 0x30 | .shr => 0x31 | .asr => 0x32 | .rol => 0x33 | .mov => 0x3B | .clz => 0x3C | .cls => 0x3D | .bxdet => 0x0F

def immCode : IKind → Nat
  | .perm => 0x0D | .shli => 0x34 | .shri => 0x35 | .asri => 0x36 | .roli => 0x37 | .asls => 0x38 | .addi => 0x39
  | .bfx => 0x3E | .bfi => 0x3F

/-- The opcode of a syllable in its slot; a reserved syllable takes the slot's last reserved opcode. -/
def opCode (y : Syl) : Nat :=
  match y.op with
  | .nop => 0
  | .m k .. => mulCode k
  | .a k .. => accCode k
  | .r k .. => if y.slot = .agu then 0x06 else regCode k
  | .i k .. => immCode k
  | .movi .. => if y.slot = .agu then 0x07 else 0x3A
  | .bxclr => 0x0E
  | .ld .. => 0x01
  | .st .. => 0x02
  | .ldxy .. => 0x03
  | .pmod .. => 0x04
  | .paddi .. => 0x05
  | .qset .. => 0x08
  | .qstop .. => 0x09
  | .qpop .. => 0x0A
  | .qpush .. => 0x0B
  | .qpopm .. => 0x0C
  | .qpushm .. => 0x0D
  | .qwait .. => 0x0E
  | .qsync .. => 0x0F
  | .skf .. => 0x01
  | .skr .. => 0x02
  | .br .. => 0x03
  | .brr .. => 0x04
  | .call .. => 0x05
  | .callr .. => 0x06
  | .ret => 0x07
  | .rti => 0x08
  | .doLoop .. => 0x09
  | .lbrk .. => 0x0A
  | .rep .. => 0x0B
  | .repi .. => 0x0C
  | .rrc .. => 0x0D
  | .limx .. => 0x0E
  | .ei => 0x0F
  | .di => 0x10
  | .ihold => 0x11
  | .waite => 0x12
  | .halt => 0x13
  | .reserved => if y.slot = .mac0 ∨ y.slot = .mac1 then 0x1F else 0x3F

/-! ### Operand fields -/

/-- An operand of format M with its memory bit, in the eight bits from its register field up. -/
def mopBits : MOp → Nat
  | .reg k => k
  | .mem ptr md => 128 + ptr * 32 + md * 8

/-- A count register with its select bit at `bit`. -/
def cregBits (bit : Nat) : Option Nat → Nat
  | some r => 2 ^ bit + r * 2 ^ 14
  | none => 0

/-- Bits [22:0] of a syllable. -/
def opBits : Op → Nat
  | .m _ acd a b => acd * 2 ^ 21 + mopBits a * 2 ^ 13 + mopBits b * 2 ^ 5
  | .a _ acd acs r sbx sh det => acd * 2 ^ 21 + acs * 2 ^ 19 + r * 2 ^ 12 + b2n sbx * 2 ^ 11 + sh * 2 ^ 5 + b2n det * 2 ^ 4
  | .r _ d a b det => d * 2 ^ 16 + a * 2 ^ 9 + b * 2 ^ 2 + b2n det * 2
  | .i _ d a imm => d * 2 ^ 16 + a * 2 ^ 9 + imm
  | .movi d imm => d * 2 ^ 16 + imm.toNat
  | .ld reg y ptr amod => reg * 2 ^ 16 + b2n y * 2 ^ 15 + ptr * 2 ^ 13 + amod * 2 ^ 10
  | .st reg y ptr amod det => reg * 2 ^ 16 + b2n y * 2 ^ 15 + ptr * 2 ^ 13 + amod * 2 ^ 10 + b2n det * 2 ^ 9
  | .ldxy dx dy px mx py my => dx * 2 ^ 16 + dy * 2 ^ 9 + px * 2 ^ 7 + mx * 2 ^ 5 + py * 2 ^ 3 + my * 2
  | .pmod y ptr amod => b2n y * 2 ^ 15 + ptr * 2 ^ 13 + amod * 2 ^ 10
  | .paddi pr simm => pr * 2 ^ 20 + simm.toNat
  | .qset q dir w32 cls sreg creg _ =>
    q * 2 ^ 21 + b2n dir * 2 ^ 20 + b2n w32 * 2 ^ 19 + cls * 2 ^ 17 + sreg * 2 ^ 10 + creg * 2 ^ 3
  | .qstop q => q * 2 ^ 21
  | .qpop reg q w det => reg * 2 ^ 16 + q * 2 ^ 14 + b2n w * 2 ^ 13 + b2n det * 2 ^ 12
  | .qpush reg q w => reg * 2 ^ 16 + q * 2 ^ 14 + b2n w * 2 ^ 13
  | .qpopm q w y ptr amod => q * 2 ^ 21 + b2n w * 2 ^ 20 + b2n y * 2 ^ 15 + ptr * 2 ^ 13 + amod * 2 ^ 10
  | .qpushm q w y ptr amod => q * 2 ^ 21 + b2n w * 2 ^ 20 + b2n y * 2 ^ 15 + ptr * 2 ^ 13 + amod * 2 ^ 10
  | .qwait q k => q * 2 ^ 21 + k
  | .qsync q => q * 2 ^ 21
  | .skf cond q => cond * 2 ^ 18 + q * 2 ^ 16
  | .skr rc r bit => rc * 2 ^ 20 + r * 2 ^ 13 + bit * 2 ^ 9
  | .br tgt => tgt
  | .brr r h => r * 2 ^ 16 + b2n h * 2 ^ 15
  | .call tgt => tgt
  | .callr r h => r * 2 ^ 16 + b2n h * 2 ^ 15
  | .doLoop rt creg cimm ofs => b2n rt * 2 ^ 22 + cregBits 21 creg + cimm * 2 ^ 11 + ofs
  | .lbrk lv => lv
  | .rep creg cimm => cregBits 22 creg + cimm
  | .repi creg cimm => cregBits 22 creg + cimm
  | .rrc set k => b2n set * 2 ^ 5 + k
  | .limx d d2 _ => d * 2 ^ 16 + (match d2 with | some e => e * 2 ^ 9 + 2 ^ 8 | none => 0)
  | _ => 0

/-- The word of a syllable; `stop` ends its bundle. -/
def encodeSyl (y : Syl) (stop : Bool) : Word :=
  BitVec.ofNat 32 (b2n stop * 2 ^ 31 + y.slot.num * 2 ^ 29 + opCode y * 2 ^ 23 + opBits y.op)

/-- The extension of a syllable, or 0 (R219). -/
def extOf (y : Syl) : Word :=
  match y.op with
  | .qset _ _ _ _ _ _ ext => ext
  | .limx _ _ ext => ext
  | _ => 0

end Sys2Proof.Machine
end

