-- ==== Sys2Proof/WellFormed.lean ====
section
/-! DEFINITION. WellFormed.lean: the commands whose operands fit the fields the spec gives them. Most operands are bounded by
their types; these are the checks on the others. A command that fails them still has its meaning: no statement rests on this. -/

namespace Sys2Proof

open Sys2Proof.Machine

/-- A syllable whose operands fit their fields (08 R197, 09 R221, R228). -/
def Syl.wf (y : Syl) : Bool := opFits y.op && aguMovOk y

/-- A bundle's syllables. -/
def sylsWf (l : List Syl) : Bool := l.all Syl.wf

/-- A CAN frame: the identifier fits its format, and DLC gives the number of data bytes (18 R500). -/
def CanFrame.wf (f : CanFrame) : Bool :=
  decide (f.id < if f.ide then 2 ^ 29 else 2 ^ 11) && decide (f.dlc < 16) && decide (f.data.length = dlcLen f.fdf f.dlc)

/-- A row of the Rhoif-16: the syllables before and after it, and its own. -/
def rowWf (pre : List Syl) (o : Op) (post : List Syl) : Bool := sylsWf pre && opFits o && sylsWf post

/-- The command fits. -/
def Instr.wf : Instr → Bool
  | .registerWrite _ _ _ size _ => decide (1 ≤ size) && decide (size ≤ 256)
  | .weltRequest _ _ _ cmd cls _ size data =>
    decide (cmd < 16) && decide (cls < 4) && decide (data.length = if cmd = 2 then size else 0)
  | .queueResponse _ _ _ _ _ _ data => decide (data.length ≤ 256)
  | .portResponse _ _ _ _ _ data => decide (data.length ≤ 256)
  | .csiLongPacket _ _ _ _ wc payload _ _ _ => decide (payload.length = wc.toNat)
  | .hash bits _ _ _ => decide (bits = 256) || decide (bits = 384) || decide (bits = 512)
  | .aes _ mode _ _ _ _ _ => decide (mode < 3)
  | .canFrameReceived _ f => f.wf
  | .canSelectiveWake _ f => f.wf
  | .canBusError _ _ dTec dRec => decide (dTec ≤ 8) && decide (dRec ≤ 8)
  | .linFrameDone errs data => decide (errs < 32) && decide (data.length ≤ 8)
  | .xspiCmdDone data flash => decide (data.length ≤ 256) && flash.all fun e => decide (e.1 + e.2.length ≤ 0x10000000)
  | .wlAck _ b => decide (b.length = 3)
  | .wlNak _ b => decide (b.length = 3)
  | .wlInit _ b => decide (b.length = 3)
  | .iMacNop _ pre _ post => rowWf pre .nop post
  | .iMpy _ pre _ acd a b post => rowWf pre (.m .mpy acd a b) post
  | .iMac _ pre _ acd a b post => rowWf pre (.m .mac acd a b) post
  | .iMsu _ pre _ acd a b post => rowWf pre (.m .msu acd a b) post
  | .iMacs _ pre _ acd a b post => rowWf pre (.m .macs acd a b) post
  | .iMsus _ pre _ acd a b post => rowWf pre (.m .msus acd a b) post
  | .iMpyi _ pre _ acd a b post => rowWf pre (.m .mpyi acd a b) post
  | .iMaci _ pre _ acd a b post => rowWf pre (.m .maci acd a b) post
  | .iMsui _ pre _ acd a b post => rowWf pre (.m .msui acd a b) post
  | .iMpyu _ pre _ acd a b post => rowWf pre (.m .mpyu acd a b) post
  | .iMacu _ pre _ acd a b post => rowWf pre (.m .macu acd a b) post
  | .iMpysu _ pre _ acd a b post => rowWf pre (.m .mpysu acd a b) post
  | .iMacsu _ pre _ acd a b post => rowWf pre (.m .macsu acd a b) post
  | .iPerm _ pre _ d a imm post => rowWf pre (.i .perm d a imm) post
  | .iBxclr _ pre _ post => rowWf pre .bxclr post
  | .iBxdet _ pre _ d a b det post => rowWf pre (.r .bxdet d a b det) post
  | .iAclr _ pre _ acd acs r sbx sh det post => rowWf pre (.a .aclr acd acs r sbx sh det) post
  | .iAmov _ pre _ acd acs r sbx sh det post => rowWf pre (.a .amov acd acs r sbx sh det) post
  | .iAadd _ pre _ acd acs r sbx sh det post => rowWf pre (.a .aadd acd acs r sbx sh det) post
  | .iAsub _ pre _ acd acs r sbx sh det post => rowWf pre (.a .asub acd acs r sbx sh det) post
  | .iAneg _ pre _ acd acs r sbx sh det post => rowWf pre (.a .aneg acd acs r sbx sh det) post
  | .iAabs _ pre _ acd acs r sbx sh det post => rowWf pre (.a .aabs acd acs r sbx sh det) post
  | .iAsh _ pre _ acd acs r sbx sh det post => rowWf pre (.a .ash acd acs r sbx sh det) post
  | .iAshv _ pre _ acd acs r sbx sh det post => rowWf pre (.a .ashv acd acs r sbx sh det) post
  | .iAsat _ pre _ acd acs r sbx sh det post => rowWf pre (.a .asat acd acs r sbx sh det) post
  | .iAld _ pre _ acd acs r sbx sh det post => rowWf pre (.a .ald acd acs r sbx sh det) post
  | .iAldw _ pre _ acd acs r sbx sh det post => rowWf pre (.a .aldw acd acs r sbx sh det) post
  | .iAcmp _ pre _ acd acs r sbx sh det post => rowWf pre (.a .acmp acd acs r sbx sh det) post
  | .iNarr _ pre _ acd acs r sbx sh det post => rowWf pre (.a .narr acd acs r sbx sh det) post
  | .iAexp _ pre _ acd acs r sbx sh det post => rowWf pre (.a .aexp acd acs r sbx sh det) post
  | .iAdd _ pre _ d a b det post => rowWf pre (.r .add d a b det) post
  | .iAdds _ pre _ d a b det post => rowWf pre (.r .adds d a b det) post
  | .iAdc _ pre _ d a b det post => rowWf pre (.r .adc d a b det) post
  | .iSub _ pre _ d a b det post => rowWf pre (.r .sub d a b det) post
  | .iSubs _ pre _ d a b det post => rowWf pre (.r .subs d a b det) post
  | .iSbc _ pre _ d a b det post => rowWf pre (.r .sbc d a b det) post
  | .iCmp _ pre _ d a b det post => rowWf pre (.r .cmp d a b det) post
  | .iNeg _ pre _ d a b det post => rowWf pre (.r .neg d a b det) post
  | .iAbs _ pre _ d a b det post => rowWf pre (.r .abs d a b det) post
  | .iMin _ pre _ d a b det post => rowWf pre (.r .min d a b det) post
  | .iMax _ pre _ d a b det post => rowWf pre (.r .max d a b det) post
  | .iAnd _ pre _ d a b det post => rowWf pre (.r .and d a b det) post
  | .iOr _ pre _ d a b det post => rowWf pre (.r .or d a b det) post
  | .iXor _ pre _ d a b det post => rowWf pre (.r .xor d a b det) post
  | .iAndn _ pre _ d a b det post => rowWf pre (.r .andn d a b det) post
  | .iTst _ pre _ d a b det post => rowWf pre (.r .tst d a b det) post
  | .iShl _ pre _ d a b det post => rowWf pre (.r .shl d a b det) post
  | .iShr _ pre _ d a b det post => rowWf pre (.r .shr d a b det) post
  | .iAsr _ pre _ d a b det post => rowWf pre (.r .asr d a b det) post
  | .iRol _ pre _ d a b det post => rowWf pre (.r .rol d a b det) post
  | .iShli _ pre _ d a imm post => rowWf pre (.i .shli d a imm) post
  | .iShri _ pre _ d a imm post => rowWf pre (.i .shri d a imm) post
  | .iAsri _ pre _ d a imm post => rowWf pre (.i .asri d a imm) post
  | .iRoli _ pre _ d a imm post => rowWf pre (.i .roli d a imm) post
  | .iAsls _ pre _ d a imm post => rowWf pre (.i .asls d a imm) post
  | .iAddi _ pre _ d a imm post => rowWf pre (.i .addi d a imm) post
  | .iMovi _ pre _ d imm post => rowWf pre (.movi d imm) post
  | .iMov _ pre _ d a b det post => rowWf pre (.r .mov d a b det) post
  | .iClz _ pre _ d a b det post => rowWf pre (.r .clz d a b det) post
  | .iCls _ pre _ d a b det post => rowWf pre (.r .cls d a b det) post
  | .iBfx _ pre _ d a imm post => rowWf pre (.i .bfx d a imm) post
  | .iBfi _ pre _ d a imm post => rowWf pre (.i .bfi d a imm) post
  | .iAguNop _ pre post => rowWf pre .nop post
  | .iLd _ pre reg y ptr amod post => rowWf pre (.ld reg y ptr amod) post
  | .iSt _ pre reg y ptr amod det post => rowWf pre (.st reg y ptr amod det) post
  | .iLdxy _ pre dx dy px mx py my post => rowWf pre (.ldxy dx dy px mx py my) post
  | .iPmod _ pre y ptr amod post => rowWf pre (.pmod y ptr amod) post
  | .iPaddi _ pre pr simm post => rowWf pre (.paddi pr simm) post
  | .iAguAmov _ pre d a post => rowWf pre (.r .mov d a 0 false) post
  | .iAmovi _ pre d imm post => rowWf pre (.movi d imm) post
  | .iQset _ pre q dir w32 cls sreg creg ext post => rowWf pre (.qset q dir w32 cls sreg creg ext) post
  | .iQstop _ pre q post => rowWf pre (.qstop q) post
  | .iQpop _ pre reg q w det post => rowWf pre (.qpop reg q w det) post
  | .iQpush _ pre reg q w post => rowWf pre (.qpush reg q w) post
  | .iQpopm _ pre q w y ptr amod post => rowWf pre (.qpopm q w y ptr amod) post
  | .iQpushm _ pre q w y ptr amod post => rowWf pre (.qpushm q w y ptr amod) post
  | .iQwait _ pre q k post => rowWf pre (.qwait q k) post
  | .iQsync _ pre q post => rowWf pre (.qsync q) post
  | .iCtlNop _ pre post => rowWf pre .nop post
  | .iSkf _ pre cond q post => rowWf pre (.skf cond q) post
  | .iSkr _ pre rc r bit post => rowWf pre (.skr rc r bit) post
  | .iBr _ pre tgt post => rowWf pre (.br tgt) post
  | .iBrr _ pre r h post => rowWf pre (.brr r h) post
  | .iCall _ pre tgt post => rowWf pre (.call tgt) post
  | .iCallr _ pre r h post => rowWf pre (.callr r h) post
  | .iRet _ pre post => rowWf pre .ret post
  | .iRti _ pre post => rowWf pre .rti post
  | .iDo _ pre rt creg cimm ofs post => rowWf pre (.doLoop rt creg cimm ofs) post
  | .iLbrk _ pre lv post => rowWf pre (.lbrk lv) post
  | .iRep _ pre creg cimm post => rowWf pre (.rep creg cimm) post
  | .iRepi _ pre creg cimm post => rowWf pre (.repi creg cimm) post
  | .iRrc _ pre set k post => rowWf pre (.rrc set k) post
  | .iLimx _ pre d d2 ext post => rowWf pre (.limx d d2 ext) post
  | .iEi _ pre post => rowWf pre .ei post
  | .iDi _ pre post => rowWf pre .di post
  | .iIhold _ pre post => rowWf pre .ihold post
  | .iWaite _ pre post => rowWf pre .waite post
  | .iHalt _ pre post => rowWf pre .halt post
  | _ => true

end Sys2Proof
end

