-- ==== Sys2Proof/Safety.lean ====
section
/-! DEFINITION. Safety.lean: the terms the statements use: the canonical form of the stores, and what lets a command act. -/

namespace Sys2Proof.Machine

/-- The registers, their active copies and memory are in canonical form, so that equal contents are equal data. -/
abbrev State.Canon (s : State) : Prop :=
  Sparse.wf (resetVal s.grade) s.regs = true ∧ Sparse.wf (resetVal s.grade) s.act = true ∧ Memory.wf s.epoch s.mem

/-- A 32-bit write by `w` of offset `o` of page `p` reaches the block `b` behind the page: SYS runs, its bytes lie in the row of
the register pages, the page is present and its domain passes, the owner's rules allow it, no soft reset or lock check holds it,
and its tenant is in no quarantine (03 R71, R72, R74, R82, R93; 04 R105, R109; 06 R147). -/
abbrev State.Writes (s : State) (w : By) (b : Blk) (p o : Nat) : Prop :=
  s.domRun 1 = true ∧ p * 4096 + o + 4 ≤ 224 * 4096 ∧ pageBlk s.grade p = some b ∧ s.bridge (pageDom p) w.tnt = .pass ∧
    s.pageAllows ⟨w.tnt, w.ni, p, o, 4, true, 0⟩ = true ∧ p ∉ s.srst ∧ s.ten.checking = false ∧
    (w.tnt.val = 0 ∨ s.ten.quar.getLsbD w.tnt = false)

/-- A 32-bit read by `w` reaches the block. -/
abbrev State.Reads (s : State) (w : By) (b : Blk) (p o : Nat) : Prop :=
  s.domRun 1 = true ∧ p * 4096 + o + 4 ≤ 224 * 4096 ∧ pageBlk s.grade p = some b ∧ s.bridge (pageDom p) w.tnt = .pass ∧
    s.pageAllows ⟨w.tnt, w.ni, p, o, 4, false, 0⟩ = true ∧ p ∉ s.srst ∧ (w.tnt.val = 0 ∨ s.ten.quar.getLsbD w.tnt = false)

/-- Core `c` is about to issue the bundle `b`: it runs in a running domain and waits for nothing, the bundle is legal there, no
skip squashes it, no repeat is on, and none of its syllables waits or faults (07 R167, R170, R191; 09 R226). -/
abbrev State.Issues (s : State) (c : Nat) (b : List Syl) : Prop :=
  c < 5 ∧ (s.core c).run = true ∧ (s.core c).wait = none ∧ s.domRun (coreDom c) = true ∧ (s.core c).squash = false ∧
    (s.core c).rep = none ∧ decodeFault (s.core c) c b = none ∧ b.all (s.waitOver c) = true ∧
    b.all (fun y => (s.issueFault c ((s.core c).pc + bundleLen b) y).isNone) = true

/-- The lists have the lengths the spec gives: five cores with 0x6C register codes, four accumulators, four queues and three loop
levels, of which LLV counts those open (07 R161, R164, R171, R179), 26 NIs (06 R134), eight ports and eight contexts (10 R253,
R259), two receivers with four streams and a trigger each (12 R291, R294), 32 key slots and eight counters (14 R350, R357), two
pipes (15 R385), 17 generators (16 R420), four lanes and links (17 R480), two CAN, three I2C and two SPI units (18 R483),
twelve domains (19 R511), and four injectors (20 R535). -/
abbrev State.Shape (s : State) : Prop :=
  (s.cores.length = 5 ∧ ∀ k ∈ s.cores, k.rf.length = 0x6C ∧ k.acc.length = 4 ∧ k.qs.length = 4 ∧ k.rot.length = 3 ∧ k.llv ≤ 3) ∧
    s.welt.nis.length = 26 ∧ (s.grv.ports.length = 8 ∧ s.grv.store.length = 8) ∧
    (s.caps.length = 2 ∧ (∀ l ∈ s.caps, l.length = 4) ∧ s.trig.length = 2) ∧ (s.sec.ks.length = 32 ∧ s.sec.low.length = 8) ∧
    s.dps.length = 2 ∧ s.light.pwm.length = 17 ∧ (s.lanes.length = 4 ∧ s.links.length = 4) ∧
    (s.cans.length = 2 ∧ s.i2cs.length = 3 ∧ s.spis.length = 2) ∧ s.doms.length = 12 ∧ s.awl.length = 4

/-- Core `c` is about to issue the well-formed bundle `b`, whose PC is the end of no open loop. -/
abbrev State.Straight (s : State) (c : Nat) (b : List Syl) : Prop :=
  s.Shape ∧ sylsWf b = true ∧ s.Issues c b ∧ openLe (s.core c) (s.core c).pc = false

/-- Between `s` and `t` nothing changed but core `c`'s registers `regs`, accumulators `accs`, flags, PC, stack, queues and control
state, the bytes of memory at `stored`, and its page. -/
def State.Same (s t : State) (c : Nat) (regs accs stored : List Nat) : Prop :=
  (t.core c).irq = (s.core c).irq ∧
    (∀ k, k ∉ regs.map (physCode (s.core c)) → (t.core c).rf.getD k 0 = (s.core c).rf.getD k 0) ∧
    (∀ k, k ∉ accs → accOf (t.core c) k = accOf (s.core c) k) ∧
    (∀ d, d ≠ c → t.core d = s.core d) ∧ (∀ a, a ∉ stored → t.rdByte a = s.rdByte a) ∧
    (∀ p o, o < 4096 → p ≠ pgCORE c → t.r p o = s.r p o) ∧ t.act = s.act ∧ t.ltb = s.ltb ∧ t.welt = s.welt

/-- As `Same`, and the core went on to the next bundle, `n` syllables on, its stack and queues unchanged. -/
def State.Kept (s t : State) (c n : Nat) (regs accs stored : List Nat) : Prop :=
  (t.core c).pc = (s.core c).pc + n ∧ (t.core c).rstk = (s.core c).rstk ∧ (t.core c).qs = (s.core c).qs ∧
    s.Same t c regs accs stored

/-- The array has switched from `s` to `t` into context `n`: its configuration runs, no token, output or port word of the old
activation is left but what the context primes, and the counts have gone on (10 R260, R262). -/
def State.Switched (s t : State) (n cause : Nat) : Prop :=
  t.actx = n ∧ t.grv.act = s.grv.store.getD n GCtx.zero ∧ t.grv.tok = [] ∧ t.grv.acc = [] ∧ t.grv.ovf = 0 ∧ t.grv.trig = false ∧
    (∀ p, p < 8 → (t.gport p).buf = [] ∧ (t.gport p).issued = 0 ∧ (t.gport p).stopped = false) ∧
    t.f pgGRV 0x044 5 4 = 0 ∧ t.f pgGRV 0x05C 3 0 = s.actx ∧ t.f pgGRV 0x05C 7 4 = n ∧ t.f pgGRV 0x05C 11 8 = cause ∧
    t.r pgGRV 0x054 = s.r pgGRV 0x054 + 1 ∧ t.f (pgGCTX n) 0x04C 11 0 = (s.f (pgGCTX n) 0x04C 11 0 + 1) % 4096 ∧
    t.f pgGRV 0x014 0 0 = 1 ∧ t.grv.tile = s.grv.tile ∧ t.grv.store = s.grv.store ∧ t.mem = s.mem ∧ t.act = s.act

/-- The number of a master, as LTB_CTRL.MASTER names it (02 R42). -/
def rasterNum : Raster → Nat
  | .pipe p => p
  | .cam c => 2 + c.n

/-- A line start of a raster serves as a master's: a pipe's does; a receiver's where LINE_SRC and CAM_VC say so (02 R42). -/
def State.lineOf (s : State) : Raster → Bool
  | .pipe _ => true
  | .cam c => s.camLine c && s.camVc c

/-- A frame start of a raster serves as a master's: a pipe's does; a receiver's on stream 0 and CAM_VC (02 R42; 12 R294). -/
def State.frameOf (s : State) : Raster → Bool
  | .pipe _ => true
  | .cam c => s.camFrame c && s.camVc c

/-- No injector is armed or holds a unit, and no probe is enabled: packets cross the links as they are (06 R153; 20 R535). -/
abbrev State.Clean (s : State) : Prop :=
  (∀ i, i < 4 → s.armed i = false ∧ (s.inj i).held = none) ∧ ∀ m, m < 8 → s.f pgPRB (0x100 + 0x20 * m) 31 31 = 0

/-- Packet `f`, number `i` in the mesh once the senders have fed it, stands before router `r` at input `port`, its next code being
number `k` of its route; the router has not taken it yet (06 R152). -/
abbrev State.Before (s : State) (i r port k : Nat) (f : Flight) : Prop :=
  s.meshFeed.welt.flight[i]? = some f ∧ f.at_ = .router r port k ∧ f.entered = true ∧ f.ready = false

/-- Packet `f`, number `i`, has come to NI `n` over the ejection link (06 R147, R148). -/
abbrev State.At (s : State) (i n : Nat) (f : Flight) : Prop :=
  s.meshFeed.welt.flight[i]? = some f ∧ f.at_ = .ni n ∧ s.meshFeed.arrived i f = true

/-- The logic die knows the supply flags of the power die, as it does outside a Seam hold (01 R21; 19 R509, R510). -/
abbrev State.Told (s : State) : Prop := s.pwr.lowL = s.pwr.low ∧ s.pwr.shedL = s.pwr.shed ∧ s.pwr.ovL = s.pwr.ov

/-- A register write that waits for the outcome of the lock, as TEN_LOCK sends it (04 R105). -/
def lockAcc (w : By) : Acc := ⟨w.tnt, w.ni, pgTEN, 0x040, 4, true, 1⟩

/-- The two MAC slots: `hi` names MAC1 (07 R165). -/
def macSlot (hi : Bool) : Slot := if hi then .mac1 else .mac0

/-- What register code `d` of core `c` holds once its write in this bundle is done, for a code the rotation does not touch or
touches as it stood before the bundle (07 R175). -/
def State.regAfter (s t : State) (c d : Nat) : Half := (t.core c).rf.getD (physCode (s.core c) d) 0

/-- The state of a proof region after a decision for `reason`, 0 for a match (15 R409). -/
def State.regionNext (s : State) (p k reason : Nat) : Nat :=
  let st := s.rst p k
  if st = 0 ∨ st = 5 then st
  else if reason = 0 then
    (if st = 4 then (if s.f pgTTG (rsOff p k) 15 8 + 1 = s.f pgTTG 0x048 31 24 then 1 else 4) else if st = 3 then 3 else 1)
  else if st = 4 ∨ st = 3 then 3
  else if s.f pgTTG (rsOff p k) 5 4 + 1 < s.f pgTTG 0x048 (2 * p + 5) (2 * p + 4) + 1 then 2 else 3

/-- A unit `u` reaches lane `n`'s receiver under protocol `pr`, and Awl lets one unit `x` pass, leaving the state `r` (17 R456,
R459; 20 R535). -/
abbrev State.Arrives (s r : State) (n pr : Nat) (u x : LUnit) : Prop :=
  s.domRun 1 = true ∧ s.laneOn n = true ∧ s.laneProto n = pr ∧ (s.ln n).st ≠ .down ∧ (s.ln n).aligned = true ∧
    s.awlLane true n pr u = (r, [x])

/-- A Welt Link data packet as R469 frames it: 1 to 17 units, its length, and its CRC (17 R469, R473). -/
def dataPktOk (b : List Byte) : Bool :=
  let nu := (b.getD 2 0).toNat
  decide (1 ≤ nu) && decide (nu ≤ 17) && b.length == 8 + 16 * nu && leNat (b.drop (b.length - 4)) == crc32 (b.take (b.length - 4))

/-- A link-control set whose length and CRC are good (17 R470). -/
def ctlOk (b : List Byte) : Bool := b.length == 3 && (b.getD 2 0).toNat == crc8 (b.take 2)

/-- LSEQ and TYPE of a link-control set (17 R470). -/
def ctlSeq (b : List Byte) : Nat := leNat (b.take 2) % 4096
def ctlType (b : List Byte) : Nat := leNat (b.take 2) / 4096

end Sys2Proof.Machine
end

