-- ==== Sys2Proof/Certificates/Slice0/Obligations.lean ====
section
/-! DEFINITION. Certificates/Slice0/Obligations.lean: the statements. Each `s.Writes w b p o` says that a register write reaches
the block behind its page, so what follows is the command's own effect; an equation with the next state says what changes and
that nothing else does. -/

open Sys2Proof Sys2Proof.Machine

/-- One step takes the command at the front of the queue and runs exec on the state with the queue's rest. Rests on R116,
95_what_each_step_holds.md. -/
def Obligations.StepRunsTheFrontCommand : Prop :=
  ∀ (s : State) (c : Instr) (rest : List Instr), s.pending = c :: rest →
    step s = exec c { s with pending := rest }

/-- On an empty queue one LTB cycle passes, 20 Welt cycles where the LTB still runs on the oscillator beside a locked SYSPLL,
answered with a next state and an empty queue (the model's choice, log entry 1). Rests on R41, R566. -/
def Obligations.EmptyQueueIsOneCycle : Prop :=
  ∀ s : State, s.pending = [] → ∃ t, step s = .next t ∧ t.ltb.cyc = s.ltb.cyc + 1 ∧
    t.now = s.now + (if s.onOsc = true ∧ s.clk.sysPll = true then 20 else 1) ∧
    t.time = s.time + (if s.onOsc then 20 else 1) ∧ t.fresh = [] ∧ t.ltb.frame = s.ltb.frame ∧ t.ltb.line = s.ltb.line ∧
    (∀ p o, t.r p o = s.r p o) ∧ (∀ a, t.rdByte a = s.rdByte a) ∧ t.pending = []

/-- Every command answers a next state in every state: no command faults and none is refused. Rests on R82, R108, R116. -/
def Obligations.EveryCommandAnswersANextState : Prop :=
  ∀ (i : Instr) (s : State), ∃ t, exec i s = .next t

/-- No command changes the queue, the grade of the die or its fused column. Rests on R1, R242, 00_scope.md. -/
def Obligations.NoCommandTouchesTheQueue : Prop :=
  ∀ (i : Instr) (s t : State), exec i s = .next t → t.pending = s.pending ∧ t.grade = s.grade ∧ t.fused = s.fused

/-- Every step keeps the registers, their active copies and memory in canonical form. Rests on R70, R72, R78. -/
def Obligations.EveryStepKeepsCanon : Prop :=
  ∀ s t : State, s.Canon → step s = .next t → t.Canon

/-- Every step keeps the number of cores, registers, NIs, ports, streams, pipes, generators, lanes and other units, and LLV at
most 3. Rests on R161, R164, R171, R179, R253, R259, R385, R420, R480, R483, R511, R535. -/
def Obligations.EveryStepKeepsShape : Prop :=
  ∀ s t : State, s.Shape → step s = .next t → t.Shape

/-- Decoding the words of any syllable of the Rhoif-16 gives the syllable back, whatever its operands and stop bit. Rests on
R165, R166, R197, R204, R219, R221, R228. -/
def Obligations.SyllablesDecodeAsEncoded : Prop :=
  ∀ (y : Syl) (stop : Bool), y.wf = true → slotOk y = true →
    decodeSyl (encodeSyl y stop) (extOf y) = y ∧ (encodeSyl y stop).msb = stop

/-- After a power-on reset SEC and SYS are in Run, every other domain is Off, nothing waits, and the cores are held in reset.
Rests on R70, R92, R511, R512, R523, R530. -/
def Obligations.ResetState : Prop :=
  State.reset.Canon ∧ State.reset.Shape ∧
  State.reset.dom 0 = .run ∧ State.reset.dom 1 = .run ∧ (∀ d, 2 ≤ d → d < 12 → State.reset.dom d = .off) ∧
  (∀ c, c < 4 → (State.reset.core c).inReset = true ∧ (State.reset.core c).run = false) ∧
  State.reset.mem = [] ∧ State.reset.regs = [] ∧ State.reset.act = [] ∧ State.reset.waiting = [] ∧ State.reset.pending = [] ∧
  State.reset.rstRead 0x040 = 1 ∧ State.reset.ltb.frame = 0 ∧ State.reset.ltb.line = 0 ∧ State.reset.onOsc = true ∧
  State.reset.actMaster = 4

/-- SEAM_TRANSFER counts good and failed transfers per direction, the eighth failure in a row sets the fault and the hold, and
the refresh after recovery ends it. Rests on R20, R21, 01_the_part_whole.md. -/
def Obligations.SeamTransfersAndHold : Prop :=
  (∀ (s : State) (up : Bool), s.domRun 1 = true →
    exec (.seamTransfer up true) s = .next { s with seam :=
      (if up then { s.seam with failUp := 0, goodUp := min 64 (s.seam.goodUp + 1) }
       else { s.seam with failDown := 0, goodDown := min 64 (s.seam.goodDown + 1) }) }) ∧
  (∀ (s : State) (up : Bool), s.domRun 1 = true → (if up then s.seam.failUp else s.seam.failDown) + 1 ≠ 8 →
    exec (.seamTransfer up false) s = .next { s with seam :=
      (if up then { s.seam with failUp := s.seam.failUp + 1, goodUp := 0 }
       else { s.seam with failDown := s.seam.failDown + 1, goodDown := 0 }) }) ∧
  (∀ (s : State) (up : Bool), s.domRun 1 = true → (if up then s.seam.failUp else s.seam.failDown) + 1 = 8 →
    ∃ t, exec (.seamTransfer up false) s = .next t ∧ t.seam.hold = true ∧ t.seam.refreshing = false ∧
      (s.seam.hold = false ∨ s.seam.refreshing = true → t.f pgSYS 0x028 15 0 = 0x6010 ∧ t.f pgSYS 0x014 31 31 = 1) ∧
      (s.seam.hold = true → s.seam.refreshing = false → t.regs = s.regs) ∧ t.mem = s.mem ∧ t.ltb = s.ltb) ∧
  (∀ s : State, s.domRun 1 = true → s.seam.hold = true → 64 ≤ s.seam.goodUp → 64 ≤ s.seam.goodDown →
    exec .seamRecovered s = .next { s with seam := { s.seam with refreshing := true } }) ∧
  (∀ s : State, s.seam.refreshing = true →
    ∃ t, exec .seamRefreshDone s = .next t ∧ t.seam.hold = false ∧ t.seam.refreshing = false ∧ t.light.hold = [] ∧
      t.f pgLD 0x014 3 3 = 1 ∧ t.mem = s.mem ∧ t.ltb = s.ltb)

/-- SYSPLL_LOCK, CRYSTAL_LOSS, PLL_RESTART and LTB_CLOCK_CHANGE change the clocks; POS_LP_READ answers line and phase and
copies FRAME. Rests on R29, R40, R41, R53, R566. -/
def Obligations.ClocksLockFailAndChange : Prop :=
  (∀ s : State, s.domRun 1 = true → s.clk.xtal = true → s.clk.stopped = false → s.clk.sysPll = false →
    exec .syspllLock s = .next { s with clk := { s.clk with sysPll := true, dramPll := true } }) ∧
  (∀ s : State, s.domRun 1 = true → s.clk.xtal = true →
    ∃ t, exec .crystalLoss s = .next t ∧ t.clk.xtal = false ∧ t.clk.stopped = true ∧ t.clk.sysPll = false ∧
      t.clk.dramPll = false ∧ t.clk.ppll0 = false ∧ t.clk.ppll1 = false ∧ t.f pgCLK 0x028 15 0 = 0x6060 ∧ t.actMaster = 4 ∧
      t.onOsc = true ∧ t.lost = true ∧ t.ltb.frame = s.ltb.frame ∧ t.ltb.line = s.ltb.line ∧
      t.ltb.pPrev = s.f pgLTB 0x05C 11 0 ∧
      t.mem = s.mem) ∧
  (∀ s : State, s.domRun 1 = true → s.clk.stopped = true →
    exec .pllRestart s = .next { s with clk := { s.clk with xtal := true, stopped := false } }) ∧
  (∀ (s : State) (w : By), s.Reads w .ltb pgLTB 0x048 →
    exec (.posLpRead w) s = .next ((s.w pgLTB 0x04C s.ltb.frame).answer .ok (BitVec.ofNat 32 s.posLP))) ∧
  (∀ s : State, s.domRun 1 = true → s.ltb.cyc = 0 → s.onOsc = s.clk.sysPll →
    exec .ltbClockChange s = .next { (s.sf pgLTB 0x044 3 3 (b2n !s.clk.sysPll)) with ltb := { s.ltb with virtK := 0 } })

/-- A due line start of the master, the virtual raster, coasting or blank-fill below the last line goes to the next line of
the same frame. Rests on R46, R50, R51, R54. -/
def Obligations.LineStartsMoveThePosition : Prop :=
  (∀ (s : State) (m : Raster), s.domRun 1 = true → s.mpending = false → s.lost = false → s.actMaster = rasterNum m → s.lineOf m = true →
    ¬(s.ltb.cyc = 0 ∧ 0 < s.ltb.gen) → s.ltb.line + 1 < s.vtAct →
    ∃ t, exec (.masterLineStart m) s = .next t ∧ t.ltb.line = s.ltb.line + 1 ∧ t.ltb.cyc = 0 ∧ t.ltb.frame = s.ltb.frame ∧
      t.coasting = false ∧ t.ltb.gen = 0 ∧ t.ltb.pPrev = s.ltb.cyc) ∧
  (∀ s : State, s.domRun 1 = true → s.actMaster = 4 → s.mpending = false → s.virtLen ≤ s.ltb.cyc → s.ltb.line + 1 < s.vtAct →
    ∃ t, exec .virtualLineStart s = .next t ∧ t.ltb.line = s.ltb.line + 1 ∧ t.ltb.cyc = 0 ∧ t.ltb.frame = s.ltb.frame ∧
      t.ltb.virtK = s.ltb.virtK + 1) ∧
  (∀ s : State, s.domRun 1 = true → s.actMaster < 4 → s.mpending = false → s.ltb.blankFill = false → s.ltb.gen < s.coastMax →
    s.coastAt ≤ s.ltb.cyc → s.ltb.cyc ≠ 0 → s.ltb.line + 1 < s.vtAct →
    ∃ t, exec .coastLineStart s = .next t ∧ t.ltb.line = s.ltb.line + 1 ∧ t.ltb.cyc = 0 ∧ t.ltb.frame = s.ltb.frame ∧
      t.coasting = true ∧ t.ltb.gen = s.ltb.gen + 1) ∧
  (∀ s : State, s.domRun 1 = true → 2 ≤ s.actMaster → s.actMaster < 4 → s.mpending = false → s.ltb.blankFill = true →
    s.ltb.gen < s.coastMax → s.coastAt ≤ s.ltb.cyc → s.ltb.cyc ≠ 0 → s.ltb.line + 1 < s.vtAct →
    ∃ t, exec .blankFillLineStart s = .next t ∧ t.ltb.line = s.ltb.line + 1 ∧ t.ltb.cyc = 0 ∧ t.ltb.frame = s.ltb.frame ∧
      t.coasting = s.coasting ∧ t.ltb.gen = s.ltb.gen + 1)

/-- A master frame start enters line 0 of the next frame, whether it is due or re-anchors; a lost master leaves ACT_MASTER 4,
LOST and the LOST event. Rests on R38, R39, R52, R54, R56. -/
def Obligations.FrameStartsWrapAndReanchor : Prop :=
  (∀ (s : State) (m : Raster), s.domRun 1 = true → s.mpending = false → s.lost = false → s.actMaster = rasterNum m → s.frameOf m = true →
    s.vtAct ≤ s.ltb.line + 1 → (s.ltb.line ≠ 0 ∨ s.ltb.gen = 0) →
    ∃ t, exec (.masterFrameStart m false) s = .next t ∧ t.ltb.frame = s.ltb.frame + 1 ∧ t.ltb.line = 0 ∧ t.ltb.cyc = 0) ∧
  (∀ (s : State) (m : Raster), s.domRun 1 = true → s.mpending = false → s.lost = false → s.actMaster = rasterNum m → s.frameOf m = true →
    s.ltb.line + 1 < s.vtAct → s.ltb.line ≠ 0 →
    ∃ t, exec (.masterFrameStart m false) s = .next t ∧ t.ltb.frame = s.ltb.frame + 1 ∧ t.ltb.line = 0 ∧ t.ltb.cyc = 0) ∧
  (∀ s : State, s.domRun 1 = true → s.coastMax ≤ s.ltb.gen → s.actMaster ≠ 4 →
    ∃ t, exec .masterLost s = .next t ∧ t.actMaster = 4 ∧ t.lost = true ∧ t.f pgLTB 0x014 3 3 = 1 ∧
      t.ltb.frame = s.ltb.frame ∧ t.ltb.line = s.ltb.line ∧ t.ltb.cyc = s.ltb.cyc ∧ t.mem = s.mem)

/-- A LET_A write holds the first word; a LET_B write stages a pair no reason of R62 refuses and refuses the others; CLR_MISS
clears EVT_MISS. Rests on R60, R62, R69. -/
def Obligations.LetEntriesAreStaged : Prop :=
  (∀ (s : State) (w : By) (n : Fin 256) (v : Word), s.Writes w .ltb pgLTB (letA n) →
    exec (.letAWrite w n v) s = .next ((s.w pgLTB (letA n) (v &&& 0xFF0FFFFF)).answer .ok 0)) ∧
  (∀ (s : State) (w : By) (n : Fin 256) (v : Word), s.Writes w .ltb pgLTB (letB n) →
    s.letReason w.tnt n (s.r pgLTB (letA n)) (v &&& 0x7FFFFFFF) = none →
    exec (.letBWrite w n v) s = .next ({ (s.w pgLTB (letB n) (v &&& 0x7FFFFFFF)) with ltb := { s.ltb with
      staged := (s.ltb.staged.filter fun e : Nat × Word × Word => !(e.1 == n.val)) ++ [(n.val, s.r pgLTB (letA n), v &&& 0x7FFFFFFF)] } }.answer .ok 0)) ∧
  (∀ (s : State) (w : By) (n : Fin 256) (v : Word) (r : Nat), s.Writes w .ltb pgLTB (letB n) →
    s.letReason w.tnt n (s.r pgLTB (letA n)) (v &&& 0x7FFFFFFF) = some r →
    ∃ t, exec (.letBWrite w n v) s = .next t ∧ t.f pgLTB 0x028 15 0 = 0x1020 ∧
      t.r pgLTB 0x02C = BitVec.ofNat 32 (n + w.tnt.val * 2 ^ 8 + r * 2 ^ 12) ∧ t.f pgLTB 0x014 9 9 = 1 ∧ t.ltb = s.ltb ∧
      t.mem = s.mem ∧ (∀ k, t.r pgLTB (letB k) = s.r pgLTB (letB k))) ∧
  (∀ (s : State) (w : By) (v : Word), s.Writes w .ltb pgLTB 0x040 →
    ∃ t, exec (.clrMiss w v) s = .next t ∧ t.r pgLTB 0x070 = 0 ∧ t.ltb = s.ltb ∧ t.mem = s.mem ∧ t.act = s.act)

/-- The dispatcher's next entry fires once and its event goes out or is counted as missed; trackers latch, count lines and
fire their entries. Rests on R63, R65, R66, R67, R68. -/
def Obligations.EntriesFireAndTrackersFollow : Prop :=
  (∀ (s : State) (n : Fin 256), s.domRun 1 = true → s.letNext = some n.val →
    s.domRun (evDom (fldOf (s.a pgLTB (letA n)) 27 24) (evTgt (fldOf (s.a pgLTB (letA n)) 27 24) (fldOf (s.a pgLTB (letB n)) 23 16))) = true →
    exec (.letEntryFire n) s = .next { s with ltb := { s.ltb with
      fired := s.ltb.fired ++ [n.val],
      evs := s.ltb.evs ++ [⟨n, fldOf (s.a pgLTB (letA n)) 27 24,
        evTgt (fldOf (s.a pgLTB (letA n)) 27 24) (fldOf (s.a pgLTB (letB n)) 23 16),
        evArg (fldOf (s.a pgLTB (letA n)) 27 24) (fldOf (s.a pgLTB (letB n)) 15 0)⟩] } }) ∧
  (∀ (s : State) (n : Fin 256), s.domRun 1 = true → s.letNext = some n.val →
    s.domRun (evDom (fldOf (s.a pgLTB (letA n)) 27 24) (evTgt (fldOf (s.a pgLTB (letA n)) 27 24) (fldOf (s.a pgLTB (letB n)) 23 16))) = false →
    ∃ t, exec (.letEntryFire n) s = .next t ∧ t.ltb = { s.ltb with fired := s.ltb.fired ++ [n.val] } ∧
      t.f pgLTB 0x070 15 0 = min 0xFFFF (s.f pgLTB 0x070 15 0 + 1) ∧ t.f pgLTB 0x014 8 8 = 1 ∧
      t.r pgLTB 0x02C = BitVec.ofNat 32 n ∧ t.mem = s.mem) ∧
  (∀ (s : State) (c : CamStart), s.domRun 1 = true → s.f pgLTB (0x080 + 0x10 * c.n) 0 0 = 1 → s.camFrame c = true →
    ∃ t, exec (.trackerFrameStart c) s = .next t ∧ t.r pgLTB (0x084 + 0x10 * c.n) = s.ltb.frame ∧
      t.r pgLTB (0x088 + 0x10 * c.n) = BitVec.ofNat 32 s.posLP ∧
      t.f pgLTB (0x080 + 0x10 * c.n) 31 16 = (s.f pgLTB (0x080 + 0x10 * c.n) 31 16 + 1) % 65536 ∧ (t.trk c.n).lines = 0 ∧ t.mem = s.mem) ∧
  (∀ (s : State) (c : CamStart), s.domRun 1 = true → s.f pgLTB (0x080 + 0x10 * c.n) 0 0 = 1 → s.camLine c = true →
    s.strOnVc c.n 0 c.vc = true → (s.trk c.n).lines = 0 →
    exec (.trackerLineStart c) s = .next (s.updTrk c.n fun t => { t with lines := 1, startFrm := s.ltb.frame.toNat, startPh := s.posLP })) ∧
  (∀ (s : State) (n : Fin 2) (e : Fin 256) (i : TrkInst), s.domRun 1 = true →
    ((s.trk n).insts.find? fun i : TrkInst => i.entry == e.val) = some i → i.frame = s.ltb.frame.toNat → i.line * 256 + i.phase ≤ s.posLP →
    s.trkLocked n = true → s.trkEntry n e = true →
    exec (.trkEntryFire n e) s = .next ((s.updTrk n fun t => { t with insts := t.insts.erase i }).letSend e)) ∧
  (∀ (s : State) (n : Fin 2) (e : Fin 256) (i : TrkInst), s.domRun 1 = true →
    ((s.trk n).insts.find? fun i : TrkInst => i.entry == e.val) = some i → i.frame = s.ltb.frame.toNat → i.line * 256 + i.phase ≤ s.posLP →
    s.trkLocked n = false →
    exec (.trkEntryFire n e) s = .next (s.updTrk n fun t => { t with insts := t.insts.erase i }))

/-- SH_DISARM, SH_ARM_LINE_EVENT, SH_ARM_FRAME and SH_AUTO_SET set the armed mode and AUTO; AUTO 3 is refused and the mode
acts all the same. Rests on R80, 03_register_pages.md. -/
def Obligations.CommitModesArmAndDisarm : Prop :=
  ∀ (s : State) (w : By) (b : Blk) (p : Fin 224) (auto : Fin 4), s.Writes w b p 0x020 →
    let st := if auto = 3 then s.errValue p 0x020 else s.sf p 0x020 9 8 auto
    exec (.shDisarm w p auto) s = .next ((st.sf p 0x024 2 1 0).answer .ok 0) ∧
    exec (.shArmLineEvent w p auto) s = .next ((st.sf p 0x024 2 1 2).answer .ok 0) ∧
    exec (.shArmFrame w p auto) s = .next ((st.sf p 0x024 2 1 3).answer .ok 0) ∧
    (∀ mode : Fin 4, mode ≠ 1 → exec (.shAutoSet w p auto mode) s = .next ((st.sf p 0x024 2 1 mode).answer .ok 0))

/-- A commit, at once by SH_COMMIT_NOW or by a COMMIT event at an armed page, makes every pending RWS value active, clears
PEND, counts and raises CMT. Rests on R77, R78, R80, R81. -/
def Obligations.CommitsMakePendingValuesActive : Prop :=
  (∀ (s : State) (w : By) (b : Blk) (p : Fin 224) (auto : Fin 4), s.Writes w b p 0x020 →
    ∃ t, exec (.shCommitNow w p auto) s = .next t ∧ t.f p 0x024 0 0 = 0 ∧ t.f p 0x024 2 1 = 0 ∧
      t.f p 0x024 23 16 = (s.f p 0x024 23 16 + 1) % 256 ∧ t.f p 0x014 30 30 = 1 ∧
      ∀ o r, o < 4096 → findRow b o = some r → r.sh ≠ 0 → mxGeom (rkey p o) = false → t.a p o = s.r p o) ∧
  (∀ (s : State) (b : Blk) (p : Fin 224), s.domRun 1 = true → pageBlk s.grade p = some b → p.val ∉ s.srst →
    s.eventArmed p = true →
    ∃ t, exec (.commitEvent p) s = .next t ∧ t.f p 0x024 0 0 = 0 ∧ t.f p 0x024 2 1 ≠ 2 ∧
      t.f p 0x024 23 16 = (s.f p 0x024 23 16 + 1) % 256 ∧ t.f p 0x014 30 30 = 1 ∧
      ∀ o r, o < 4096 → findRow b o = some r → r.sh ≠ 0 → mxGeom (rkey p o) = false → t.a p o = s.r p o) ∧
  (∀ (s : State) (p : Fin 224), s.domRun 1 = true → s.eventArmed p = false →
    exec (.commitEvent p) s = .next (s.evArrive 9 p 0))

/-- ERR_CODE_CLR and EV_RAW_CLEAR clear what they name, but for bits set in the same cycle; SOFT_RESET clears the page's header and
sets BUSY; SOFT_RESET_DONE clears BUSY. Rests on R14, R87, R90, R93, R568. -/
def Obligations.HeaderClearsAndSoftReset : Prop :=
  (∀ (s : State) (w : By) (b : Blk) (p : Fin 224), s.Writes w b p 0x028 →
    exec (.errCodeClr w p) s = .next (((s.w p 0x028 0).w p 0x02C 0).answer .ok 0)) ∧
  (∀ (s : State) (w : By) (b : Blk) (p : Fin 224) (v : Word), s.Writes w b p 0x014 →
    exec (.evRawClear w p v) s = .next ((s.w p 0x014 (s.r p 0x014 &&& ~~~(v &&& ~~~(s.freshBits p 0x014)))).answer .ok 0) ∧
    (s.fresh = [] → exec (.evRawClear w p v) s = .next ((s.w p 0x014 (s.r p 0x014 &&& ~~~v)).answer .ok 0))) ∧
  (∀ (s : State) (w : By) (b : Blk) (p : Fin 224) (v : Word), s.Writes w b p 0x00C →
    ∃ t, exec (.softReset w p v) s = .next t ∧ p.val ∈ t.srst ∧ t.r p 0x014 = 0 ∧ t.r p 0x018 = 0 ∧ t.r p 0x020 = 0 ∧
      t.r p 0x024 = 0 ∧
      (if p.val = pgSYS ∧ s.f pgSYS 0x028 15 0 = 0x6010 then t.r p 0x028 = s.r p 0x028 ∧ t.r p 0x02C = s.r p 0x02C
       else t.r p 0x028 = 0 ∧ t.r p 0x02C = 0) ∧
      (ignoresEn p = false → t.f p 0x00C 0 0 = fldOf v 0 0)) ∧
  (∀ (s : State) (p : Fin 224), s.domRun 1 = true → p.val ∈ s.srst → s.waiting = [] → s.lockWait = [] →
    exec (.softResetDone p) s = .next { s with srst := s.srst.filter fun q => !(q == p.val) })

/-- Recording an error writes CODE and ERR_INFO, sets OVR over an earlier code, counts and raises ERR; after a clear COUNT
reads 1. R87. -/
def Obligations.ErrorsAreRecorded : Prop :=
  (∀ (s : State) (p code info : Nat),
    (s.err p code info).f p 0x028 15 0 = code % 65536 ∧ (s.err p code info).r p 0x02C = BitVec.ofNat 32 info ∧
    (s.err p code info).f p 0x028 30 30 = (if s.f p 0x028 15 0 = 0 then s.f p 0x028 30 30 else 1) ∧
    (s.err p code info).f p 0x028 23 16 = min 255 (s.f p 0x028 23 16 + 1) ∧ (s.err p code info).f p 0x014 31 31 = 1) ∧
  (∀ (s : State) (p code info : Nat),
    (((s.w p 0x028 0).w p 0x02C 0).err p code info).f p 0x028 15 0 = code % 65536 ∧
    (((s.w p 0x028 0).w p 0x02C 0).err p code info).f p 0x028 23 16 = 1)

/-- REGISTER_WRITE: no page answers OK and changes nothing, a stranger gets OWNER and a violation, a wrong size DECODE, EV_MASK
takes the word, a page in soft reset holds the access, and one that leaves the register pages gets DECODE. Rests on R71, R72, R74,
R77, R82, R93, R109. -/
def Obligations.RegisterWritesPassTheGate : Prop :=
  (∀ (s : State) (w : By) (p : Fin 224) (o : Fin 4096) (size : Nat) (v : Word), s.domRun 1 = true → (w.tnt.val = 0 ∨ s.ten.quar.getLsbD w.tnt = false) →
    p.val * 4096 + o.val + size ≤ 224 * 4096 → pageBlk s.grade p = none →
    exec (.registerWrite w p o size v) s = .next (s.answer .ok 0)) ∧
  (∀ (s : State) (w : By) (b : Blk) (p : Fin 224) (o : Fin 4096) (size : Nat) (v : Word), s.domRun 1 = true →
    (w.tnt.val = 0 ∨ s.ten.quar.getLsbD w.tnt = false) → pageBlk s.grade p = some b → (b ≠ .secin ∨ o.val < 0x800) → s.bridge (pageDom p) w.tnt = .pass →
    p.val * 4096 + o.val + size ≤ 224 * 4096 → p.val ∉ s.srst → s.pageAllows ⟨w.tnt, w.ni, p, o, size, true, v⟩ = false →
    exec (.registerWrite w p o size v) s =
      .next ((s.violation 7 w.tnt w.ni 0 (0x40000000 + p * 4096 + o) true).answer .owner 0)) ∧
  (∀ (s : State) (w : By) (b : Blk) (p : Fin 224) (o : Fin 4096) (size : Nat) (v : Word), s.domRun 1 = true →
    (w.tnt.val = 0 ∨ s.ten.quar.getLsbD w.tnt = false) → pageBlk s.grade p = some b → s.bridge (pageDom p) w.tnt = .pass →
    p.val * 4096 + o.val + size ≤ 224 * 4096 → p.val ∉ s.srst → s.pageAllows ⟨w.tnt, w.ni, p, o, size, true, v⟩ = true →
    (size ≠ 4 ∨ o.val % 4 ≠ 0) →
    exec (.registerWrite w p o size v) s = .next ((s.errSize p o).answer .decode 0)) ∧
  (∀ (s : State) (w : By) (b : Blk) (p : Fin 224) (v : Word), s.Writes w b p 0x018 →
    exec (.registerWrite w p 0x018 4 v) s = .next ((s.w p 0x018 v).answer .ok 0)) ∧
  (∀ (s : State) (w : By) (p : Fin 224) (o : Fin 4096) (size : Nat) (v : Word), s.domRun 1 = true → w.tnt.val ≠ 0 →
    s.ten.quar.getLsbD w.tnt = true → p.val * 4096 + o.val + size ≤ 224 * 4096 →
    exec (.registerWrite w p o size v) s = .next ((s.violation 1 w.tnt w.ni 0 0 false).answer .window 0)) ∧
  (∀ (s : State) (w : By) (b : Blk) (p : Fin 224) (o : Fin 4096) (size : Nat) (v : Word), s.domRun 1 = true →
    (w.tnt.val = 0 ∨ s.ten.quar.getLsbD w.tnt = false) → pageBlk s.grade p = some b → s.bridge (pageDom p) w.tnt = .pass →
    p.val * 4096 + o.val + size ≤ 224 * 4096 → p.val ∈ s.srst →
    exec (.registerWrite w p o size v) s =
      .next { s with waiting := s.waiting ++ [(⟨w.tnt, w.ni, p, o, size, true, v⟩, none)] }) ∧
  (∀ (s : State) (w : By) (p : Fin 224) (o : Fin 4096) (size : Nat) (v : Word), s.domRun 1 = true →
    224 * 4096 < p.val * 4096 + o.val + size → exec (.registerWrite w p o size v) s = .next (s.answer .decode 0))

/-- A register write of VT_CFG takes values from 16 to 4095; any other leaves the field and records the refusal in ERR_CODE.
R45. -/
def Obligations.VtCfgRangeIsKept : Prop :=
  (∀ (s : State) (w : By) (v : Word), s.Writes w .ltb pgLTB 0x050 → 16 ≤ v.toNat → v.toNat ≤ 4095 →
    ∃ t, exec (.registerWrite w 1 0x050 4 v) s = .next t ∧ t.f pgLTB 0x050 11 0 = v.toNat ∧ t.f pgLTB 0x024 0 0 = 1 ∧
      t.r pgLTB 0x028 = s.r pgLTB 0x028 ∧ t.mem = s.mem ∧ t.ltb = s.ltb ∧ t.act = s.act) ∧
  (∀ (s : State) (w : By) (v : Word), s.Writes w .ltb pgLTB 0x050 → (v.toNat < 16 ∨ 4095 < v.toNat) →
    ∃ t, exec (.registerWrite w 1 0x050 4 v) s = .next t ∧ t.f pgLTB 0x050 11 0 = s.f pgLTB 0x050 11 0 ∧
      t.f pgLTB 0x028 15 0 = 0x1003 ∧ t.r pgLTB 0x02C = 0x050 ∧ t.mem = s.mem ∧ t.ltb = s.ltb ∧ t.act = s.act)

/-- EVR_ROUTE_WRITE applies or refuses a route; TEN_WA_WRITE enables a sound window and refuses others; TEN_WB_WRITE disables;
TEN_POP drops the oldest record. Rests on R89, R98, R100, R107. -/
def Obligations.RoutesAndTenantTable : Prop :=
  (∀ (s : State) (w : By) (i : Fin 224) (v : Word), s.Writes w .evr pgEVR (0x400 + 4 * i) →
    exec (.evrRouteWrite w i v) s = .next ((if (w.tnt = 0 ∨ w.tnt = s.owner i) ∧ s.routeAllowed i (fldOf v 2 0) = true
      then s.w pgEVR (0x400 + 4 * i) (v &&& 0x1F7) else s.err pgEVR 0x1080 (i + w.tnt.val * 4096)).answer .ok 0)) ∧
  (∀ (s : State) (w : By) (t : Fin 16) (i : Fin 8) (v : Word), s.Writes w .ten pgTEN (0x404 + 0x40 * t + 8 * i) → t ≠ 0 →
    s.ten.locked = false → fldOf v 31 31 = 1 →
    exec (.tenWaWrite w t i v) s = .next (
      (if windowOk s.grade (s.r pgTEN (0x400 + 0x40 * t + 8 * i)).toNat (fldOf v 4 0) = true
        then s.w pgTEN (0x404 + 0x40 * t + 8 * i) (v &&& 0x8000071F)
        else (s.sf pgTEN (0x404 + 0x40 * t + 8 * i) 31 31 0).err pgTEN 0x1003
          (t + (0x404 + 0x40 * t + 8 * i) / 4 * 16)).answer .ok 0)) ∧
  (∀ (s : State) (w : By) (t : Fin 16) (i : Fin 8) (v : Word), s.Writes w .ten pgTEN (0x400 + 0x40 * t + 8 * i) → t ≠ 0 →
    s.ten.locked = false →
    exec (.tenWbWrite w t i v) s = .next (((s.w pgTEN (0x400 + 0x40 * t + 8 * i) (v &&& 0xFFFFF000)).sf pgTEN
      (0x404 + 0x40 * t + 8 * i) 31 31 0).answer .ok 0)) ∧
  (∀ (s : State) (w : By), s.Writes w .ten pgTEN 0x040 →
    exec (.tenPop w) s = .next ({ s with ten := { s.ten with recs := s.ten.recs.tail, vovf := false } }.answer .ok 0))

/-- TEN_LOCK starts the lock checks, its answer open, and LOCK_CHECK_DONE refuses the lock with the first failing reason or locks
the table, and answers. Rests on R104, R105, R106. -/
def Obligations.TenantLock : Prop :=
  (∀ (s : State) (w : By), s.Writes w .ten pgTEN 0x040 → s.ten.locked = false →
    exec (.tenLock w) s = .next { s with ten := { s.ten with checking := true }, lockWait := s.lockWait ++ [(lockAcc w, none)] }) ∧
  (∀ (s : State) (w : By), s.Writes w .ten pgTEN 0x040 → s.ten.locked = true →
    exec (.tenLock w) s = .next ((s.errLocked pgTEN 0x040).answer .ok 0)) ∧
  (∀ (s : State) (r a b : Nat), s.domRun 1 = true → s.ten.checking = true → s.waiting = [] → s.lockFailure = some (r, a, b) →
    exec .lockCheckDone s = .next ((({ s with ten := { s.ten with checking := false, lockFail := true } } : State).err
      pgTEN 0x1040 (r <<< 12 + a <<< 4 + b)).lockAnswer)) ∧
  (∀ s : State, s.domRun 1 = true → s.ten.checking = true → s.waiting = [] → s.lockFailure = none →
    ∃ t, exec .lockCheckDone s = .next t ∧ t.ten.locked = true ∧ t.ten.checking = false ∧ t.ten.lockFail = false ∧
      t.f pgTEN 0x014 2 2 = 1 ∧ t.adm.com = s.adm.com.map s.retagged ∧ t.mem = s.mem ∧ t.cores = s.cores ∧ t.lockWait = [] ∧
      ∀ a, s.lockWait = [(a, none)] → t.resp.sts = .ok)

/-- CP_PUSH, CP_CLEAR and CP_COMMIT act on the port's staged set and queue it; a busy port or a full set is refused;
WD_MASK_WITHDRAW queues the withdrawal. Rests on R116, R124. -/
def Obligations.ClaimPorts : Prop :=
  (∀ (s : State) (w : By) (t : Fin 16), s.Writes w .adm pgADM (0x410 + 0x40 * t) → s.admPending t = false →
    exec (.cpPush w t) s = .next (
      (if 64 ≤ (s.adm.staged.filter fun e : Nat × ClaimW => e.1 == t.val).length then s.errCap pgADM (0x410 + 0x40 * t)
       else { s with adm := { s.adm with staged := s.adm.staged ++ [(t.val, ⟨s.r pgADM (0x400 + 0x40 * t),
         s.r pgADM (0x404 + 0x40 * t), s.r pgADM (0x408 + 0x40 * t), s.r pgADM (0x40C + 0x40 * t)⟩)] } }).answer .ok 0) ∧
    exec (.cpClear w t) s = .next ({ s with adm := { s.adm with
      staged := s.adm.staged.filter fun e : Nat × ClaimW => !(e.1 == t.val) } }.answer .ok 0) ∧
    exec (.cpCommit w t) s = .next ({ s with adm := { s.adm with
      queue := s.adm.queue ++ [Commit.set t 0 ((s.adm.staged.filter fun e : Nat × ClaimW => e.1 == t.val).map fun e : Nat × ClaimW => e.2)] } }.answer .ok 0)) ∧
  (∀ (s : State) (w : By) (t : Fin 16), s.Writes w .adm pgADM (0x410 + 0x40 * t) → s.admPending t = true →
    exec (.cpPush w t) s = .next ((s.errBusy pgADM (0x410 + 0x40 * t)).answer .ok 0) ∧
    exec (.cpClear w t) s = .next ((s.errBusy pgADM (0x410 + 0x40 * t)).answer .ok 0) ∧
    exec (.cpCommit w t) s = .next ((s.errBusy pgADM (0x410 + 0x40 * t)).answer .ok 0)) ∧
  (∀ (s : State) (w : By) (m : BitVec 16), s.Writes w .adm pgADM 0x040 →
    ∃ t, exec (.wdMaskWithdraw w m) s = .next t ∧ t.regs = s.regs ∧ t.mem = s.mem ∧ t.adm.com = s.adm.com ∧
      t.adm.staged = s.adm.staged ∧
      (s.adm.wait = [] → (s.adm.queue.any fun c : Commit => match c with | Commit.mask _ => true | Commit.set .. => false) = false →
        t.adm.queue = (s.adm.queue.filter fun c : Commit => match c with
          | Commit.set k _ _ => !((m.toNat >>> k) % 2 == 1)
          | Commit.mask _ => true) ++ (if m = 0 then [] else [Commit.mask m.toNat])) ∧
      (∀ k src cl, Commit.set k src cl ∈ t.adm.queue → m.toNat.testBit k = false) ∧
      (m ≠ 0 → ∃ j, Commit.mask j ∈ t.adm.queue ∧ j &&& m.toNat = m.toNat) ∧
      ∀ k, k < 16 → (s.adm.queue ++ s.adm.wait).any (fun c : Commit => match c with | Commit.set j _ _ => j == k | _ => false) = true →
        m.getLsbD k = true → t.adm.lastRef.getLsbD k = true ∧ t.adm.lastOk.getLsbD k = false)

/-- ADM_EVAL_START takes the next commit; ADM_EVAL_DONE accepts it into the committed set, or refuses it with a report, or
withdraws the tenants named. Rests on R122, R123, R124, R125. -/
def Obligations.EvaluationsOfClaims : Prop :=
  (∀ (s : State) (c : Commit) (q : List Commit), s.domRun 1 = true → s.ten.checking = false → s.adm.eval = none →
    s.adm.queue = c :: q →
    exec .admEvalStart s = .next { s with adm := ({ s.adm with eval := some c, queue := q } : Adm).refill }) ∧
  (∀ (s : State) (tn src : Nat) (cl : List ClaimW), s.domRun 1 = true → s.ten.checking = false →
    s.adm.eval = some (Commit.set tn src cl) →
    (cl = [] ∨ (s.withMxCap src).admCheck (s.admResult tn src cl).1 (s.admResult tn src cl).2 tn = none) →
    ∃ t, exec .admEvalDone s = .next t ∧ t.adm.com = (s.admResult tn src cl).1 ∧ t.adm.eval = none ∧ t.adm.effPend = true ∧
      t.adm.queue = s.adm.queue ∧ t.f pgADM 0x014 0 0 = 1 ∧ (src = 0 → tn < 16 → t.adm.lastOk.getLsbD tn = true) ∧
      t.mem = s.mem) ∧
  (∀ (s : State) (tn src : Nat) (cl : List ClaimW) (rep : AdmRep), s.domRun 1 = true → s.ten.checking = false →
    s.adm.eval = some (Commit.set tn src cl) → cl ≠ [] →
    (s.withMxCap src).admCheck (s.admResult tn src cl).1 (s.admResult tn src cl).2 tn = some rep →
    ∃ t, exec .admEvalDone s = .next t ∧ t.adm.com = s.adm.com ∧ t.adm.eval = none ∧ t.adm.queue = s.adm.queue ∧
      t.f pgADM 0x014 0 0 = 1 ∧ t.f pgADM 0x014 1 1 = 1 ∧ t.f pgADM 0x028 15 0 = 0x1030 ∧
      (src = 0 → tn < 16 → t.adm.lastRef.getLsbD tn = true ∧ t.adm.lastOk.getLsbD tn = false) ∧ t.mem = s.mem) ∧
  (∀ (s : State) (m : Nat), s.domRun 1 = true → s.ten.checking = false → s.adm.eval = some (Commit.mask m) →
    ∃ t, exec .admEvalDone s = .next t ∧ t.adm.eval = none ∧ t.adm.effPend = true ∧
      t.adm.com = (s.adm.com.filter fun k => !((m >>> k.tnt) % 2 == 1)) ∧ t.f pgADM 0x014 0 0 = 1 ∧ t.mem = s.mem)

/-- RTE_WRITE stores sound routes and refuses others; RLINV, NI_COUNTER_CLEAR, RT_CTRL_CLR, TRC_CLR, TRC_DATA_READ and
PROBE_CTRL_WRITE act on their registers. Rests on R135, R137, R154, R156, R157, R158. -/
def Obligations.NetworkPages : Prop :=
  (∀ (s : State) (w : By) (n : Fin 26) (i : Fin 64) (v : Word), s.Writes w .ni (pgNI n) (0x200 + 4 * i) →
    fldOf v 27 24 < 9 → (fldOf v 31 31 = 1 → (routeOf s.grade n (fldOf v 27 24) (fldOf v 23 0)).isSome = true) →
    ((s.ni n).latch.any fun e : Option LatchEnt => match e with | some e => e.idx == i.val | none => false) = false →
    exec (.rteWrite w n i v) s = .next ((s.w (pgNI n) (0x200 + 4 * i) v).answer .ok 0)) ∧
  (∀ (s : State) (w : By) (n : Fin 26) (i : Fin 64) (v : Word), s.Writes w .ni (pgNI n) (0x200 + 4 * i) →
    (9 ≤ fldOf v 27 24 ∨ (fldOf v 31 31 = 1 ∧ routeOf s.grade n (fldOf v 27 24) (fldOf v 23 0) = none)) →
    exec (.rteWrite w n i v) s = .next (((s.err (pgNI n) 0x1110 i).ev (pgNI n) 1).answer .ok 0)) ∧
  (∀ (s : State) (w : By) (n : Fin 26), s.Writes w .ni (pgNI n) 0x040 →
    exec (.rlinv w n) s = .next ((s.updNi n fun x => { x with latch := [none, none, none, none] }).answer .ok 0) ∧
    exec (.niCounterClear w n) s =
      .next ((((s.w (pgNI n) 0x064 0).w (pgNI n) 0x068 0).w (pgNI n) 0x06C 0).answer .ok 0)) ∧
  (∀ (s : State) (w : By) (r : Fin 16), s.Writes w .router (pgRouter r) 0x04C →
    exec (.rtCtrlClr w r) s =
      .next ((((s.w (pgRouter r) 0x040 0).w (pgRouter r) 0x044 0).w (pgRouter r) 0x048 0).answer .ok 0)) ∧
  (∀ (s : State) (w : By) (m : Fin 8) (v : Word), s.Writes w .prb pgPRB (0x100 + 0x20 * m) →
    exec (.probeCtrlWrite w m v) s = .next ((((s.w pgPRB (0x100 + 0x20 * m) (v &&& 0xC07F01FF)).w pgPRB
      (0x110 + 0x20 * m) 0).w pgPRB (0x114 + 0x20 * m) 0).answer .ok 0)) ∧
  (∀ (s : State) (w : By) (v : Word), s.Writes w .prb pgPRB 0x040 →
    ∃ t, exec (.trcClr w v) s = .next t ∧ t.welt.trcBuf = [] ∧ t.welt.trcQ = [] ∧ t.r pgPRB 0x050 = 0 ∧
      t.welt.flight = s.welt.flight ∧ t.mem = s.mem) ∧
  (∀ (s : State) (w : By), s.Reads w .prb pgPRB 0x04C →
    exec (.trcDataRead w) s = .next ((s.sf pgPRB 0x048 14 2 (s.f pgPRB 0x048 14 2 + 1)).answer .ok s.trcData))

/-- WELT_REQUEST of one part becomes one outstanding packet with the stamped header; an address nobody serves ends at once;
trace records are written. Rests on R131, R139, R144, R149, R154. -/
def Obligations.RequestsEnterTheNetwork : Prop :=
  (∀ (s : State) (n : Fin 26) (sub : Fin 4) (lt : Fin 16) (cmd cls : Nat) (a : Word) (size : Nat) (data : List Byte)
      (t idx : Nat) (w : Word), s.domRun 1 = true → s.stamp n sub = some t → niPresent s.grade n = true → cmd < 16 → cmd ≠ 8 →
    cmd ≠ 9 → cls < 3 →
    0 < size → a.toNat % 256 + size ≤ 256 → (servingNis s.grade a.toNat).isEmpty = false → oneRow s.grade a.toNat size = true →
    memRow s.grade a.toNat ≠ some 0 → memRow s.grade a.toNat ≠ some 8 → (t = 0 ∨ s.ten.quar.getLsbD t = false) →
    (memRow s.grade a.toNat ≠ none → s.winCheck t a.toNat size (decide (cmd = 2)) = none) →
    (s.selectRoute n (servingNis s.grade a.toNat) cls).2 = some (idx, w) →
    (s.ni n).out.length < s.f pgTEN (0x100 + 0x20 * t) 21 16 → n.val < s.welt.nis.length →
    ∃ e f, exec (.weltRequest n sub lt cmd cls a size data) s = .next e ∧ (e.ni n).out.length = (s.ni n).out.length + 1 ∧
      e.welt.flight = s.welt.flight ++ [f] ∧ f.pkt.h.cmd = cmd ∧ f.pkt.h.tnt = t ∧ f.pkt.h.addr = a.toNat ∧
      f.pkt.h.size = size - 1 ∧ f.pkt.h.src = n.val ∧ f.pkt.h.seq = s.f (pgNI n) 0x060 11 0 ∧ f.pkt.h.nc = fldOf w 27 24 ∧
      f.pkt.h.rt = fldOf w 23 0 ∧
      f.pkt.h.once = (decide (cmd = 2) && ((regPage a.toNat).isSome || s.touchesSE a.toNat size)) ∧
      e.f (pgNI n) 0x060 11 0 = (s.f (pgNI n) 0x060 11 0 + 1) % 4096 ∧ e.mem = s.mem) ∧
  (∀ (s : State) (n : Fin 26) (sub : Fin 4) (lt : Fin 16) (cmd cls : Nat) (a : Word) (size : Nat) (data : List Byte) (t : Nat),
    s.domRun 1 = true → s.stamp n sub = some t → niPresent s.grade n = true → cmd < 16 → cls < 3 → 0 < size →
    a.toNat % 256 + size ≤ 256 → servingNis s.grade a.toNat = [] → n.val < s.welt.nis.length →
    (s.ni n).blk.all (fun b => b.id != s.welt.grp) = true →
    ∃ e, exec (.weltRequest n sub lt cmd cls a size data) s = .next e ∧ e.resp.sts = .decode ∧
      e.welt.flight = s.welt.flight ∧ (e.ni n).out = (s.ni n).out ∧ e.mem = s.mem) ∧
  (∀ (s : State) (r : TrcRec) (q : List TrcRec), s.domRun 1 = true → s.welt.trcOvf = 0 → s.welt.trcQ = r :: q →
    s.welt.trcBuf.length < 1024 →
    exec .traceRecordWrite s = .next { s with welt := { s.welt with trcQ := q, trcBuf := s.welt.trcBuf ++ [r] } })

/-- On links with no injector and no probe, ROUTER_PACKET hands a packet on or drops it, TARGET_REQUEST serves it or answers why
not, WELT_RESPONSE and RESPONSE_TIMEOUT end or resend requests, and WAKE_FAIL_TIMEOUT ends those held. Rests on R134, R138, R143,
R147, R151, R152. -/
def Obligations.PacketsAreRoutedAndServed : Prop :=
  (∀ (s : State) (i r port k : Nat) (f : Flight) (np : Place), s.domRun 1 = true → s.Clean → s.Before i r port k f → k < f.pkt.h.nc →
    nextPlace s.grade r k (rtCode f.pkt.h.rt k) = some np →
    exec (.routerPacket i false []) s = .next (({ s with welt := { s.meshFeed.welt with
      flight := s.meshFeed.welt.flight.set i { f with crossed := true, ready := true } } } : State).meshRun)) ∧
  (∀ (s : State) (r port k d : Nat) (f : Flight) (np : Place), s.domRun 1 = true → s.Clean → s.welt.flight = [f] →
    f.at_ = .router r port k → f.ready = false → f.units = [(d, 1)] → f.src = 0 → f.pkt.h.cls < 2 → k < f.pkt.h.nc →
    nextPlace s.grade r k (rtCode f.pkt.h.rt k) = some np →
    ∃ t, exec (.routerPacket 0 false []) s = .next t ∧
      t.welt.flight = [⟨np, f.pkt, false, false, [(8 * r + rtCode f.pkt.h.rt k, 1), (d, 0)], 0⟩] ∧
      t.welt.util = utilUp s.welt.util (8 * r + rtCode f.pkt.h.rt k) ∧ t.welt.nis = s.welt.nis ∧ t.regs = s.regs ∧ t.mem = s.mem) ∧
  (∀ (s : State) (i r port k : Nat) (f : Flight) (bad : List Nat), s.domRun 1 = true → s.Clean → s.Before i r port k f →
    exec (.routerPacket i true bad) s = .next (((s.meshFeed.dropFlight i).rtDrop r port true f.pkt.h).meshRun)) ∧
  (∀ (s : State) (i r port k : Nat) (f : Flight), s.domRun 1 = true → s.Clean → s.Before i r port k f →
    (f.pkt.h.nc ≤ k ∨ nextPlace s.grade r k (rtCode f.pkt.h.rt k) = none) →
    exec (.routerPacket i false []) s = .next (((s.meshFeed.dropFlight i).rtDrop r port false f.pkt.h).meshRun)) ∧
  (∀ (s : State) (i n : Nat) (f : Flight), s.domRun 1 = true → s.Clean → s.At i n f → f.pkt.h.cmd = 2 → f.pkt.h.once = false →
    f.pkt.pois = [] → (servingNis s.grade f.pkt.h.addr).contains n = true → memRow s.grade f.pkt.h.addr = some 1 →
    regPage f.pkt.h.addr = none → oneRow s.grade f.pkt.h.addr (f.pkt.h.size + 1) = true → s.heldAt n < 12 →
    s.bridge (niDom n) f.pkt.h.tnt = .pass →
    exec (.targetRequest i false []) s =
      .next ((((s.meshFeed.dropFlight i).wrBytes f.pkt.h.addr f.pkt.data).respond n f.pkt .ok false false []).meshRun)) ∧
  (∀ (s : State) (i n : Nat) (f : Flight), s.domRun 1 = true → s.Clean → s.At i n f → f.pkt.h.cmd < 3 → f.pkt.h.once = false →
    f.pkt.pois = [] → (servingNis s.grade f.pkt.h.addr).contains n = true → s.heldAt n < 12 →
    s.bridge (s.reqDom n f.pkt.h.addr) f.pkt.h.tnt = .off →
    exec (.targetRequest i false []) s = .next (((s.meshFeed.dropFlight i).respond n f.pkt .domainOff false false []).meshRun)) ∧
  (∀ (s : State) (i n : Nat) (f : Flight), s.domRun 1 = true → s.Clean → s.At i n f → f.pkt.h.resp = true →
    s.dom (niDom n) = .run → s.domEff (niDom n) = .run →
    exec (.weltResponse i false []) s = .next (((s.meshFeed.dropFlight i).deliver n f.pkt).meshRun) ∧
    (n ≠ 0 → n ≠ 5 → ∀ o, ((s.ni n).out.find? fun o : Outst => o.pkt.h.tid == f.pkt.h.tid && o.pkt.h.seq == f.pkt.h.seq) = some o →
      ∃ t, exec (.weltResponse i false []) s = .next t ∧
        (t.ni n).out = ((s.ni n).out.filter fun q : Outst => !(q.pkt.h.tid == f.pkt.h.tid)) ∧ t.mem = s.mem)) ∧
  (∀ (s : State) (n : Fin 26) (tid : Fin 64) (o : Outst), s.domRun 1 = true → n.val < s.welt.nis.length →
    ((s.ni n).out.find? fun o : Outst => o.pkt.h.tid == tid.val) = some o → s.f (pgNI n) 0x048 23 0 ≤ s.now - o.sent →
    exec (.responseTimeout n tid) s = .next ((s.responseTimeout n tid).linkSettle n) ∧
    (o.again = true → o.attempts < s.f (pgNI n) 0x04C 7 0 →
      (s.responseTimeout n tid).welt.flight = s.welt.flight ++ [Flight.start
        (.router (4 * (niPlace n).2.1 + (niPlace n).1) (4 + (niPlace n).2.2) 0) o.pkt false] ∧
      (s.responseTimeout n tid).regs = s.regs ∧ (s.responseTimeout n tid).mem = s.mem ∧
      ((s.responseTimeout n tid).ni n).out = (s.ni n).out.map fun q : Outst =>
        if q.pkt.h.tid = tid.val then { q with sent := s.now, attempts := q.attempts + 1 } else q) ∧
    ((o.again = false ∨ s.f (pgNI n) 0x04C 7 0 ≤ o.attempts) →
      (s.responseTimeout n tid).f (pgNI n) 0x014 2 2 = 1 ∧ (s.responseTimeout n tid).mem = s.mem ∧
      ((s.responseTimeout n tid).ni n).out = (s.ni n).out.filter fun q : Outst => !(q.pkt.h.tid == tid.val))) ∧
  (∀ (s : State) (n : Fin 26) (t0 : Nat), s.domRun 1 = true → (s.ni n).wakeAt = some t0 → t0 + 102400 ≤ s.now →
    n.val < s.welt.nis.length →
    ∃ e, exec (.wakeFailTimeout n) s = .next e ∧ (e.ni n).held = [] ∧ (e.ni n).wakeAt = none ∧ e.f (pgNI n) 0x028 15 0 = 0x6111 ∧
      e.r (pgNI n) 0x02C = BitVec.ofNat 32 (niDom n) ∧ e.mem = s.mem ∧
      (s.waiting = [] → e.welt.flight.length = s.welt.flight.length + (s.ni n).held.length ∧ e.waiting = []))

/-- The twelve multiplies of the Rhoif-16 write the exact product, sum or difference into the accumulator, in any bundle.
Rests on R161, R162, R199, R201, R205. -/
def Obligations.MultiplyInstructions : Prop :=
  ∀ (s : State) (c : Fin 5) (pre : List Syl) (hi : Bool) (acd : Nat) (a b : MOp) (post : List Syl),
    let x := (s.mop c false a).1
    let y := (s.mop c true b).1
    let z := (accOf (s.core c) acd).toInt
    let ptrs := (s.mop c false a).2 ++ (s.mop c true b).2
    let mk := fun f : Fin 5 → List Syl → Bool → Nat → MOp → MOp → List Syl → Instr => f c pre hi acd a b post
    ∀ e ∈ ([(mk .iMpy, .mpy, x.toInt * y.toInt * 2, 0), (mk .iMac, .mac, z + x.toInt * y.toInt * 2, 40),
        (mk .iMsu, .msu, z - x.toInt * y.toInt * 2, 40), (mk .iMacs, .macs, z + x.toInt * y.toInt * 2, 32),
        (mk .iMsus, .msus, z - x.toInt * y.toInt * 2, 32), (mk .iMpyi, .mpyi, x.toInt * y.toInt, 0),
        (mk .iMaci, .maci, z + x.toInt * y.toInt, 40), (mk .iMsui, .msui, z - x.toInt * y.toInt, 40),
        (mk .iMpyu, .mpyu, (x.toNat : Int) * y.toNat, 0), (mk .iMacu, .macu, z + (x.toNat : Int) * y.toNat, 40),
        (mk .iMpysu, .mpysu, x.toInt * y.toNat, 0), (mk .iMacsu, .macsu, z + x.toInt * y.toNat, 40)] :
        List (Instr × MKind × Int × Nat)),
      s.Straight c (pre ++ ⟨macSlot hi, .m e.2.1 acd a b⟩ :: post) →
      let r := BitVec.ofInt 40 (if e.2.2.2 = 32 then clip 32 e.2.2.1 else e.2.2.1)
      let v := if e.2.2.2 = 0 then false else ovf e.2.2.2 e.2.2.1
      ∃ t, exec e.1 s = .next t ∧ accOf (t.core c) acd = r ∧ (∀ q ∈ ptrs, s.regAfter t c q.1 = q.2) ∧
        (pre = [] → post = [] →
          (t.core c).flg = { (s.core c).flg with z := r == 0, n := r.msb, v := v, av := (s.core c).flg.av || v } ∧
          s.Kept t c 1 (ptrs.map fun q => q.1) [acd] [])

/-- ACLR to AEXP compute their accumulator or register from the accumulators, the register and the shift count, in any bundle.
Rests on R203, R206, R207, R208. -/
def Obligations.AccumulatorInstructions : Prop :=
  ∀ (s : State) (c : Fin 5) (pre : List Syl) (hi : Bool) (acd acs r : Nat) (sbx : Bool) (sh : Nat) (det : Bool) (post : List Syl),
    let d := (accOf (s.core c) acd).toInt
    let a := (accOf (s.core c) acs).toInt
    let x := s.rg c r
    let n : Int := if sbx then ((s.rg c 0x56).toNat : Int) else sgn 6 sh
    let f := (s.core c).flg
    let mk := fun g : Fin 5 → List Syl → Bool → Nat → Nat → Nat → Bool → Nat → Bool → List Syl → Instr =>
      g c pre hi acd acs r sbx sh det post
    let bundle := fun k : AKind => pre ++ ⟨macSlot hi, .a k acd acs r sbx sh det⟩ :: post
    (∀ e ∈ ([(mk .iAclr, .aclr, 0), (mk .iAmov, .amov, a), (mk .iAld, .ald, x.toInt * 65536), (mk .iAldw, .aldw, x.toInt)] :
        List (Instr × AKind × Int)), s.Straight c (bundle e.2.1) →
      ∃ t, exec e.1 s = .next t ∧ accOf (t.core c) acd = BitVec.ofInt 40 e.2.2 ∧
        (pre = [] → post = [] → (t.core c).flg = f ∧ s.Kept t c 1 [] [acd] [])) ∧
    (∀ e ∈ ([(mk .iAadd, .aadd, d + a, 40), (mk .iAsub, .asub, d - a, 40), (mk .iAneg, .aneg, -a, 40), (mk .iAabs, .aabs, (a.natAbs : Int), 40),
        (mk .iAsh, .ash, shiftInt a n, 40), (mk .iAshv, .ashv, shiftInt a (min (max x.toInt (-40)) 40), 40),
        (mk .iAsat, .asat, a, 32)] : List (Instr × AKind × Int × Nat)), s.Straight c (bundle e.2.1) →
      let w := BitVec.ofInt 40 (if e.2.2.2 = 32 then clip 32 e.2.2.1 else e.2.2.1)
      let v := ovf e.2.2.2 e.2.2.1
      ∃ t, exec e.1 s = .next t ∧ accOf (t.core c) acd = w ∧
        (pre = [] → post = [] → (t.core c).flg = { f with z := w == 0, n := w.msb, v := v, av := f.av || v } ∧
          s.Kept t c 1 [] [acd] [])) ∧
    (s.Straight c (bundle .acmp) → ∃ t, exec (mk .iAcmp) s = .next t ∧
      (pre = [] → post = [] → (t.core c).flg = ⟨decide (d = a), (BitVec.ofInt 40 (d - a)).msb, ovf 40 (d - a),
        decide ((accOf (s.core c) acs).toNat ≤ (accOf (s.core c) acd).toNat), f.av || ovf 40 (d - a), f.qe⟩ ∧ s.Kept t c 1 [] [] [])) ∧
    (s.Straight c (bundle .narr) → r < 0x48 →
      let w := narrow (shiftInt a n)
      ∃ t, exec (mk .iNarr) s = .next t ∧ s.regAfter t c r = w ∧
        (pre = [] → post = [] → (t.core c).flg = ⟨w == 0, w.msb, ovf 32 (shiftInt a n), f.c,
          f.av || ovf 32 (shiftInt a n), f.qe⟩ ∧
          (t.core c).rf.getD 0x56 0 = (if det then BitVec.ofNat 16 (min ((s.core c).rf.getD 0x56 0).toNat (rsb16 w))
            else (s.core c).rf.getD 0x56 0) ∧ s.Kept t c 1 [r, 0x56] [] [])) ∧
    (s.Straight c (bundle .aexp) → r < 0x48 →
      ∃ t, exec (mk .iAexp) s = .next t ∧ s.regAfter t c r = BitVec.ofInt 16 ((rsb40 (accOf (s.core c) acs) : Int) - 8) ∧
        (pre = [] → post = [] → (t.core c).flg = f ∧ s.Kept t c 1 [r] [] []))

/-- ADD to ROL, CLZ, CLS and the immediate forms SHLI to ADDI write r and the flags that R209 to R211 and R213 give, in any
bundle. Rests on R201, R209, R210, R211, R213. -/
def Obligations.RegisterArithmeticAndShifts : Prop :=
  ∀ (s : State) (c : Fin 5) (pre : List Syl) (hi : Bool) (d a b : Nat) (det : Bool) (imm : Nat) (post : List Syl),
    let x := s.rg c a
    let y := s.rg c b
    let ci := b2n (s.core c).flg.c
    let sx := x.toInt
    let sy := y.toInt
    let k := BitVec.ofInt 16 (sgn 9 imm)
    let f := (s.core c).flg
    let shl := fun n : Nat => (x <<< n, some false, some (decide (1 ≤ n ∧ n ≤ 16) && x.getLsbD (16 - n)))
    let shr := fun n : Nat => (x >>> n, some false, some (decide (1 ≤ n ∧ n ≤ 16) && x.getLsbD (n - 1)))
    let asr := fun n : Nat => (x.sshiftRight n, some false,
      some (if n = 0 then false else if n ≤ 16 then x.getLsbD (n - 1) else x.msb))
    let rol := fun n : Nat => (x.rotateLeft n, some false, if n = 0 then none else some ((x.rotateLeft n).getLsbD 0))
    let mk := fun g : Fin 5 → List Syl → Bool → Nat → Nat → Nat → Bool → List Syl → Instr => g c pre hi d a b det post
    let mi := fun g : Fin 5 → List Syl → Bool → Nat → Nat → Nat → List Syl → Instr => g c pre hi d a imm post
    let r := fun k : RKind => Op.r k d a b det
    let i := fun k : IKind => Op.i k d a imm
    ∀ e ∈ ([(mk .iAdd, r .add, x + y, some (ovf 16 (sx + sy)), some (decide (65536 ≤ x.toNat + y.toNat))),
        (mk .iAdds, r .adds, BitVec.ofInt 16 (clip 16 (sx + sy)), some (ovf 16 (sx + sy)), some (decide (65536 ≤ x.toNat + y.toNat))),
        (mk .iAdc, r .adc, x + y + BitVec.ofNat 16 ci, some (ovf 16 (sx + sy + ci)), some (decide (65536 ≤ x.toNat + y.toNat + ci))),
        (mk .iSub, r .sub, x - y, some (ovf 16 (sx - sy)), some (decide (y.toNat ≤ x.toNat))),
        (mk .iSubs, r .subs, BitVec.ofInt 16 (clip 16 (sx - sy)), some (ovf 16 (sx - sy)), some (decide (y.toNat ≤ x.toNat))),
        (mk .iSbc, r .sbc, x - y - BitVec.ofNat 16 (1 - ci), some (ovf 16 (sx - sy - (1 - (ci : Int)))),
          some (decide (y.toNat + 1 ≤ x.toNat + ci))),
        (mk .iCmp, r .cmp, x - y, some (ovf 16 (sx - sy)), some (decide (y.toNat ≤ x.toNat))),
        (mk .iNeg, r .neg, -x, some (x == 0x8000), some (x == 0)),
        (mk .iAbs, r .abs, BitVec.ofInt 16 (sx.natAbs : Int), some (x == 0x8000), none),
        (mk .iMin, r .min, BitVec.ofInt 16 (min sx sy), none, none), (mk .iMax, r .max, BitVec.ofInt 16 (max sx sy), none, none),
        (mk .iAnd, r .and, x &&& y, some false, none), (mk .iOr, r .or, x ||| y, some false, none),
        (mk .iXor, r .xor, x ^^^ y, some false, none), (mk .iAndn, r .andn, x &&& ~~~y, some false, none),
        (mk .iTst, r .tst, x &&& y, some false, none), (mk .iShl, r .shl, shl (y.toNat % 32)),
        (mk .iShr, r .shr, shr (y.toNat % 32)), (mk .iAsr, r .asr, asr (y.toNat % 32)), (mk .iRol, r .rol, rol (y.toNat % 32)),
        (mk .iClz, r .clz, BitVec.ofNat 16 (if x = 0 then 16 else 15 - x.toNat.log2), none, none),
        (mk .iCls, r .cls, BitVec.ofNat 16 (rsb16 x), none, none),
        (mi .iShli, i .shli, shl (imm % 32)), (mi .iShri, i .shri, shr (imm % 32)), (mi .iAsri, i .asri, asr (imm % 32)),
        (mi .iRoli, i .roli, rol (imm % 32)),
        (mi .iAsls, i .asls, BitVec.ofInt 16 (clip 16 (sx * (2 ^ (imm % 32) : Nat))), some (ovf 16 (sx * (2 ^ (imm % 32) : Nat))), none),
        (mi .iAddi, i .addi, x + k, some (ovf 16 (sx + k.toInt)), some (decide (65536 ≤ x.toNat + k.toNat)))] :
        List (Instr × Op × Half × Option Bool × Option Bool)),
      s.Straight c (pre ++ ⟨macSlot hi, e.2.1⟩ :: post) → d < 0x48 →
      let wr := !(e.2.1 == r .cmp || e.2.1 == r .tst)
      ∃ t, exec e.1 s = .next t ∧ (wr = true → s.regAfter t c d = e.2.2.1) ∧
        (pre = [] → post = [] →
          (t.core c).flg = ⟨e.2.2.1 == 0, e.2.2.1.msb, e.2.2.2.1.getD f.v, e.2.2.2.2.getD f.c, f.av || e.2.2.2.1.getD false, f.qe⟩ ∧
          s.Kept t c 1 (if wr then [d] else []) [] [])

/-- MOV, MOVI, AMOV and AMOVI write any register code as that code takes it; MAC_NOP, AGU_NOP and CTL_NOP change no register.
Rests on R164, R175, R198, R202, R212, R221, R222. -/
def Obligations.MovesReachEveryRegisterCode : Prop :=
  (∀ (s : State) (c : Fin 5) (hi : Bool) (d a b : Nat) (det : Bool) (imm : Half),
    ∀ e ∈ ([(Instr.iMov c [] hi d a b det [], ⟨macSlot hi, .r .mov d a b det⟩, s.rg c a, det),
        (Instr.iMovi c [] hi d imm [], ⟨macSlot hi, .movi d imm⟩, imm, false),
        (Instr.iAguAmov c [] d a [], ⟨.agu, .r .mov d a 0 false⟩, s.rg c a, false),
        (Instr.iAmovi c [] d imm [], ⟨.agu, .movi d imm⟩, imm, false)] : List (Instr × Syl × Half × Bool)),
      s.Straight c [e.2.1] → (s.core c).llv = 0 →
      let v := e.2.2.1
      let old := fun n => accOf (s.core c) n
      ∃ t, exec e.1 s = .next t ∧
        (e.2.2.2 = false →
          (d = 0x67 ∨ d = 0x6B → s.Kept t c 1 [] [] [] ∧ (t.core c).flg = (s.core c).flg) ∧
          (d < 0x55 ∨ d = 0x64 ∨ d = 0x65 ∨ 0x68 ≤ d ∧ d < 0x6B → s.regAfter t c d = v ∧ s.Kept t c 1 [d] [] [] ∧
            (t.core c).flg = (s.core c).flg) ∧
          (d = 0x55 → s.Kept t c 1 [] [] [] ∧ (t.core c).flg =
            ⟨v.getLsbD 0, v.getLsbD 1, v.getLsbD 2, v.getLsbD 3, v.getLsbD 4, (s.core c).flg.qe &&& v.extractLsb' 12 4⟩) ∧
          (d = 0x56 → (t.core c).rf.getD 0x56 0 = v &&& 0xF ∧ s.Kept t c 1 [0x56] [] []) ∧
          (d = 0x57 → (t.core c).rf.getD 0x57 0 = v &&& 0x1F ∧ s.Kept t c 1 [0x57] [] []) ∧
          (d = 0x66 → (t.core c).rf.getD 0x66 0 = v &&& 3 ∧ s.Kept t c 1 [0x66] [] []) ∧
          (∀ n, n < 4 → d = 0x58 + n → accOf (t.core c) n = (old n).extractLsb' 16 24 ++ v ∧ s.Kept t c 1 [] [n] []) ∧
          (∀ n, n < 4 → d = 0x5C + n →
            accOf (t.core c) n = (old n).extractLsb' 32 8 ++ v ++ (old n).extractLsb' 0 16 ∧ s.Kept t c 1 [] [n] []) ∧
          (∀ n, n < 4 → d = 0x60 + n →
            accOf (t.core c) n = v.extractLsb' 0 8 ++ (old n).extractLsb' 0 32 ∧ s.Kept t c 1 [] [n] [])) ∧
        (e.2.2.2 = true → d < 0x48 → s.regAfter t c d = v ∧
          (t.core c).rf.getD 0x56 0 = BitVec.ofNat 16 (min ((s.core c).rf.getD 0x56 0).toNat (rsb16 v)) ∧
          s.Kept t c 1 [d, 0x56] [] [])) ∧
  (∀ (s : State) (c : Fin 5) (hi : Bool),
    ∀ e ∈ ([(Instr.iMacNop c [] hi [], macSlot hi), (Instr.iAguNop c [] [], .agu), (Instr.iCtlNop c [] [], .ctl)] :
        List (Instr × Slot)), s.Straight c [⟨e.2, .nop⟩] →
      ∃ t, exec e.1 s = .next t ∧ s.Kept t c 1 [] [] [] ∧ (t.core c).flg = (s.core c).flg)

/-- BFX, BFI and PERM write the field, the inserted field and the bytes selected; BXCLR sets BX to 15, BXDET lowers it. Rests
on R202, R203, R214, R215, R216. -/
def Obligations.BitFieldsBytesAndDetection : Prop :=
  (∀ (s : State) (c : Fin 5) (pre : List Syl) (hi : Bool) (d a imm : Nat) (post : List Syl),
    let x := s.rg c a
    let pos := imm / 32 % 16
    let w := min (imm / 2 % 16 + 1) (16 - pos)
    let bundle := fun k : IKind => pre ++ ⟨macSlot hi, .i k d a imm⟩ :: post
    let done := fun (t : State) (r : Half) => s.regAfter t c d = r ∧ (pre = [] → post = [] →
      (t.core c).flg = { (s.core c).flg with z := r == 0, n := r.msb } ∧ s.Kept t c 1 [d] [] [])
    (s.Straight c (bundle .bfx) → d < 0x48 → ∃ t r, exec (.iBfx c pre hi d a imm post) s = .next t ∧ done t r ∧
      ∀ i, i < 16 → r.getLsbD i = (if i < w then x.getLsbD (pos + i) else decide (imm % 2 = 1) && x.getLsbD (pos + w - 1))) ∧
    (s.Straight c (bundle .bfi) → d < 0x48 → ∃ t r, exec (.iBfi c pre hi d a imm post) s = .next t ∧ done t r ∧
      ∀ i, i < 16 → r.getLsbD i = (if pos ≤ i ∧ i < pos + w then x.getLsbD (i - pos) else (s.rg c d).getLsbD i)) ∧
    (s.Straight c (bundle .perm) → d < 0x48 → ∃ t, exec (.iPerm c pre hi d a imm post) s = .next t ∧
      done t (permByte (imm / 64 % 8) x (s.rg c d) ++ permByte (imm / 8 % 8) x (s.rg c d)))) ∧
  (∀ (s : State) (c : Fin 5) (hi : Bool), s.Straight c [⟨macSlot hi, .bxclr⟩] →
    ∃ t, exec (.iBxclr c [] hi []) s = .next t ∧ (t.core c).rf.getD 0x56 0 = 15 ∧ (t.core c).flg = (s.core c).flg ∧
      s.Kept t c 1 [0x56] [] []) ∧
  (∀ (s : State) (c : Fin 5) (hi : Bool) (d a b : Nat) (det : Bool), s.Straight c [⟨macSlot hi, .r .bxdet d a b det⟩] →
    ∃ t, exec (.iBxdet c [] hi d a b det []) s = .next t ∧
      (t.core c).rf.getD 0x56 0 = BitVec.ofNat 16 (min ((s.core c).rf.getD 0x56 0).toNat (rsb16 (s.rg c a))) ∧
      (t.core c).flg = (s.core c).flg ∧ s.Kept t c 1 [0x56] [] [])

/-- LD, LDXY, ST, PMOD and PADDI read or write the word their pointer names and update the pointers, in any bundle. Rests on
R161, R176, R202, R220, R222. -/
def Obligations.LoadsStoresAndPointers : Prop :=
  (∀ (s : State) (c : Fin 5) (pre : List Syl) (reg : Nat) (y : Bool) (ptr amod : Nat) (post : List Syl),
    s.Straight c (pre ++ ⟨.agu, .ld reg y ptr amod⟩ :: post) → reg < 0x48 →
    let e := s.ea c y ptr amod
    ∃ t, exec (.iLd c pre reg y ptr amod post) s = .next t ∧ s.regAfter t c reg = s.xy c y e.1 ∧
      (∀ q ∈ e.2, s.regAfter t c q.1 = q.2) ∧ (∀ a, t.rdByte a = s.rdByte a) ∧
      (pre = [] → post = [] → (t.core c).flg = (s.core c).flg ∧ s.Kept t c 1 (reg :: e.2.map fun q => q.1) [] [])) ∧
  (∀ (s : State) (c : Fin 5) (pre : List Syl) (reg : Nat) (y : Bool) (ptr amod : Nat) (det : Bool) (post : List Syl),
    s.Straight c (pre ++ ⟨.agu, .st reg y ptr amod det⟩ :: post) →
    let e := s.ea c y ptr amod
    let w := wordAddr c y e.1
    ∃ t, exec (.iSt c pre reg y ptr amod det post) s = .next t ∧ t.rd16 w = (s.rg c reg).toNat ∧
      (∀ a, a ≠ w → a ≠ w + 1 → t.rdByte a = s.rdByte a) ∧ (∀ q ∈ e.2, s.regAfter t c q.1 = q.2) ∧
      (pre = [] → post = [] → (t.core c).flg = (s.core c).flg ∧
        (t.core c).rf.getD 0x56 0 = (if det then BitVec.ofNat 16 (min ((s.core c).rf.getD 0x56 0).toNat (rsb16 (s.rg c reg)))
          else (s.core c).rf.getD 0x56 0) ∧ s.Kept t c 1 (0x56 :: e.2.map fun q => q.1) [] [w, w + 1])) ∧
  (∀ (s : State) (c : Fin 5) (pre : List Syl) (dx dy px mx py my : Nat) (post : List Syl),
    s.Straight c (pre ++ ⟨.agu, .ldxy dx dy px mx py my⟩ :: post) → dx < 0x48 → dy < 0x48 →
    let a := s.mop c false (.mem px mx)
    let b := s.mop c true (.mem py my)
    ∃ t, exec (.iLdxy c pre dx dy px mx py my post) s = .next t ∧ s.regAfter t c dx = a.1 ∧ s.regAfter t c dy = b.1 ∧
      (∀ q ∈ a.2 ++ b.2, s.regAfter t c q.1 = q.2) ∧ (∀ a, t.rdByte a = s.rdByte a) ∧
      (pre = [] → post = [] → (t.core c).flg = (s.core c).flg ∧
        s.Kept t c 1 (dx :: dy :: (a.2 ++ b.2).map fun q => q.1) [] [])) ∧
  (∀ (s : State) (c : Fin 5) (pre : List Syl) (y : Bool) (ptr amod : Nat) (post : List Syl),
    s.Straight c (pre ++ ⟨.agu, .pmod y ptr amod⟩ :: post) →
    let e := s.ea c y ptr amod
    ∃ t, exec (.iPmod c pre y ptr amod post) s = .next t ∧ (∀ q ∈ e.2, s.regAfter t c q.1 = q.2) ∧
      (∀ a, t.rdByte a = s.rdByte a) ∧
      (pre = [] → post = [] → (t.core c).flg = (s.core c).flg ∧ s.Kept t c 1 (e.2.map fun q => q.1) [] [])) ∧
  (∀ (s : State) (c : Fin 5) (pre : List Syl) (pr : Nat) (simm : Half) (post : List Syl),
    s.Straight c (pre ++ ⟨.agu, .paddi pr simm⟩ :: post) →
    ∃ t, exec (.iPaddi c pre pr simm post) s = .next t ∧ (t.core c).rf.getD (0x30 + pr) 0 = s.bump c pr simm ∧
      (∀ a, t.rdByte a = s.rdByte a) ∧
      (pre = [] → post = [] → (t.core c).flg = (s.core c).flg ∧ s.Kept t c 1 [0x30 + pr] [] []))

/-- QSET, QSTOP, QPOP, QPOPM, QPUSH, QPUSHM, QWAIT and QSYNC act on their queue; a bundle that waits stalls whole and issues
when its wait is over. Rests on R179, R184, R186, R223, R224, R225, R226. -/
def Obligations.QueueInstructions : Prop :=
  (∀ (s : State) (c : Fin 5) (q : Nat) (dir w32 : Bool) (cls sreg creg : Nat) (ext : Word),
    s.Straight c [⟨.agu, .qset q dir w32 cls sreg creg ext⟩] →
    ∃ t x, exec (.iQset c [] q dir w32 cls sreg creg ext []) s = .next t ∧ (t.core c).queue q = x ∧ x.addr = ext.toNat ∧
      x.stride = s.rg c sreg ∧ x.cnt = (s.rg c creg).toNat ∧ x.dir = dir ∧ x.w32 = w32 ∧ x.cls = cls ∧ x.arm = true ∧
      x.buf = [] ∧ x.sts = 0 ∧ x.under = false ∧ x.ovr = false ∧ x.dirErr = false ∧ x.misal = false ∧
      (t.core c).flg.qe = (s.core c).flg.qe &&& ~~~(BitVec.ofNat 4 (2 ^ q)) ∧ (∀ p, p ≠ q → (t.core c).queue p = (s.core c).queue p) ∧
      (t.core c).pc = (s.core c).pc + 2 ∧ s.Same t c [] [] []) ∧
  (∀ (s : State) (c : Fin 5) (q : Nat), s.Straight c [⟨.agu, .qstop q⟩] →
    ∃ t, exec (.iQstop c [] q []) s = .next t ∧ ((t.core c).queue q).arm = false ∧ ((t.core c).queue q).buf = [] ∧
      (∀ r ∈ ((t.core c).queue q).fly, r.void = true) ∧ ((t.core c).queue q).fly.length = ((s.core c).queue q).fly.length ∧
      (∀ p, p ≠ q → (t.core c).queue p = (s.core c).queue p) ∧ (t.core c).flg = (s.core c).flg ∧
      (t.core c).pc = (s.core c).pc + 1 ∧ s.Same t c [] [] []) ∧
  (∀ (s : State) (c : Fin 5) (reg q : Nat) (w det : Bool), s.Straight c [⟨.agu, .qpop reg q w det⟩] → reg < 0x48 →
    let x := (s.core c).queue q
    ∃ t, exec (.iQpop c [] reg q w det []) s = .next t ∧ s.regAfter t c reg = (if x.dir then 0 else x.buf.headD 0) ∧
      ((t.core c).queue q).buf = (if x.dir then x.buf else x.buf.tail) ∧
      ((t.core c).queue q).dirErr = (x.dirErr || x.dir) ∧ ((t.core c).queue q).under = (x.under || (!x.dir && x.buf.isEmpty)) ∧
      (t.core c).flg.qe = (if x.dir || x.buf.isEmpty then (s.core c).flg.qe ||| BitVec.ofNat 4 (2 ^ q) else (s.core c).flg.qe) ∧
      (t.core c).pc = (s.core c).pc + 1 ∧ s.Same t c [reg, 0x56] [] []) ∧
  (∀ (s : State) (c : Fin 5) (q : Nat) (w y : Bool) (ptr amod : Nat), s.Straight c [⟨.agu, .qpopm q w y ptr amod⟩] →
    let e := s.ea c y ptr amod
    let a := wordAddr c y e.1
    ∃ t, exec (.iQpopm c [] q w y ptr amod []) s = .next t ∧ t.rd16 a = ((s.core c).queue q).front.toNat ∧
      ((t.core c).queue q).buf = (if ((s.core c).queue q).dir then ((s.core c).queue q).buf else ((s.core c).queue q).buf.tail) ∧
      (∀ p ∈ e.2, s.regAfter t c p.1 = p.2) ∧ (t.core c).pc = (s.core c).pc + 1 ∧
      s.Same t c (e.2.map fun p => p.1) [] [a, a + 1]) ∧
  (∀ (s : State) (c : Fin 5) (reg q : Nat) (w : Bool), s.Straight c [⟨.agu, .qpush reg q w⟩] →
    ∃ t, exec (.iQpush c [] reg q w []) s = .next t ∧ (t.core c).queue q =
        (((s.updCore c fun k => k.pushQ q (s.rg c reg) s.rhoNow).qDrain 32 c q false).core c).queue q ∧
      (∀ p, p ≠ q → (t.core c).queue p = (s.core c).queue p) ∧ (t.core c).rf = (s.core c).rf ∧
      (t.core c).pc = (s.core c).pc + 1 ∧ (∀ a, t.rdByte a = s.rdByte a)) ∧
  (∀ (s : State) (c : Fin 5) (q : Nat) (w y : Bool) (ptr amod : Nat), s.Straight c [⟨.agu, .qpushm q w y ptr amod⟩] →
    let e := s.ea c y ptr amod
    ∃ t, exec (.iQpushm c [] q w y ptr amod []) s = .next t ∧
      (t.core c).queue q = (((s.updCore c fun k => k.pushQ q (s.xy c y e.1) s.rhoNow).qDrain 32 c q false).core c).queue q ∧
      (∀ p, p ≠ q → (t.core c).queue p = (s.core c).queue p) ∧ (∀ p ∈ e.2, s.regAfter t c p.1 = p.2) ∧
      (t.core c).pc = (s.core c).pc + 1 ∧ (∀ a, t.rdByte a = s.rdByte a)) ∧
  (∀ (s : State) (c : Fin 5) (q k : Nat), s.Straight c [⟨.agu, .qwait q k⟩] →
    ∃ t, exec (.iQwait c [] q k []) s = .next t ∧ s.Kept t c 1 [] [] [] ∧ (t.core c).flg = (s.core c).flg) ∧
  (∀ (s : State) (c : Fin 5) (q : Nat), s.Straight c [⟨.agu, .qsync q⟩] →
    ∃ t, exec (.iQsync c [] q []) s = .next t ∧ s.Kept t c 1 [] [] [] ∧ (t.core c).flg = (s.core c).flg) ∧
  (∀ (s : State) (c : Fin 5) (q k : Nat) (pre post : List Syl), s.Shape → (s.core c).run = true → (s.core c).wait = none →
    s.domRun (coreDom c) = true → (s.core c).squash = false → (s.core c).rep = none →
    decodeFault (s.core c) c (pre ++ ⟨.agu, .qwait q k⟩ :: post) = none → s.waitOver c ⟨.agu, .qwait q k⟩ = false →
    ∃ t, exec (.iQwait c pre q k post) s = .next t ∧ (t.core c).wait = some ⟨pre ++ ⟨.agu, .qwait q k⟩ :: post, s.rhoNow, 0⟩ ∧
      (t.core c).pc = (s.core c).pc ∧ (t.core c).rf = (s.core c).rf ∧ (t.core c).acc = (s.core c).acc ∧ t.mem = s.mem) ∧
  (∀ (s : State) (c : Fin 5) (w : Waiting), (s.core c).wait = some w → s.domRun (coreDom c) = true →
    w.syls.all (s.waitOver c) = true →
    exec (.waitBundleIssue c) s = .next ((s.waitEnd c).issueNow c w.syls))

/-- SKF and SKR decide the next bundle, BR and BRR branch, CALL and CALLR push the return, RET pops it, RTI restores flags,
repeat, INH and the PC. Rests on R170, R171, R190, R229, R230, R231. -/
def Obligations.SkipsBranchesAndReturns : Prop :=
  (∀ (s : State) (c : Fin 5) (cond q : Nat), s.Straight c [⟨.ctl, .skf cond q⟩] →
    ∃ t, exec (.iSkf c [] cond q []) s = .next t ∧ (t.core c).pair = true ∧
      (t.core c).squash = skfHolds (s.core c).flg (s.core c).qa cond q ∧ (t.core c).flg = (s.core c).flg ∧ s.Kept t c 1 [] [] []) ∧
  (∀ (s : State) (c : Fin 5) (rc r bit : Nat), s.Straight c [⟨.ctl, .skr rc r bit⟩] →
    ∃ t, exec (.iSkr c [] rc r bit []) s = .next t ∧ (t.core c).pair = true ∧
      (t.core c).squash = skrHolds rc (s.rg c r) bit ∧ (t.core c).flg = (s.core c).flg ∧ s.Kept t c 1 [] [] []) ∧
  (∀ (s : State) (c : Fin 5) (tgt r : Nat) (h : Bool),
    ∀ e ∈ ([(Instr.iBr c [] tgt [], .br tgt, tgt, []), (Instr.iBrr c [] r h [], .brr r h, b2n h * 65536 + (s.rg c r).toNat, []),
        (Instr.iCall c [] tgt [], .call tgt, tgt, [(s.core c).pc + 1]),
        (Instr.iCallr c [] r h [], .callr r h, b2n h * 65536 + (s.rg c r).toNat, [(s.core c).pc + 1])] :
        List (Instr × Op × Nat × List Nat)), s.Straight c [⟨.ctl, e.2.1⟩] →
      ∃ t, exec e.1 s = .next t ∧ (t.core c).pc = e.2.2.1 ∧ (t.core c).rstk = e.2.2.2 ++ (s.core c).rstk ∧
        (t.core c).qs = (s.core c).qs ∧ (t.core c).flg = (s.core c).flg ∧ s.Same t c [] [] []) ∧
  (∀ (s : State) (c : Fin 5), s.Straight c [⟨.ctl, .ret⟩] →
    ∃ t, exec (.iRet c [] []) s = .next t ∧ (t.core c).pc :: (t.core c).rstk = (s.core c).rstk ∧
      (t.core c).qs = (s.core c).qs ∧ (t.core c).flg = (s.core c).flg ∧ s.Same t c [] [] []) ∧
  (∀ (s : State) (c : Fin 5), s.Straight c [⟨.ctl, .rti⟩] →
    let f := s.rg c 0x69
    let n := (s.rg c 0x6A).toNat
    ∃ t, exec (.iRti c [] []) s = .next t ∧ (t.core c).pc = (s.rg c 0x68).toNat + b2n (s.core c).ipcHi * 65536 ∧
      (t.core c).flg = ⟨f.getLsbD 0, f.getLsbD 1, f.getLsbD 2, f.getLsbD 3, f.getLsbD 4, f.extractLsb' 12 4⟩ ∧
      (t.core c).rep = (if f.getLsbD 7 = true ∧ 0 < n then some ⟨n, true⟩ else none) ∧
      s.rg c 0x66 &&& 1 = t.rg c 0x66 ∧ (t.core c).rstk = (s.core c).rstk ∧ (t.core c).qs = (s.core c).qs ∧
      s.Same t c [0x66] [] [])

/-- DO, LBRK, REP, REPI, RRC, LIMX, EI, DI, IHOLD, WAITE and HALT do to the core what R232 to R238 say. Rests on R171, R172,
R173, R174, R192, R232, R233, R235, R236, R237, R238. -/
def Obligations.LoopsRepeatsAndControl : Prop :=
  (∀ (s : State) (c : Fin 5) (rt : Bool) (creg : Option Nat) (cimm ofs : Nat), s.Straight c [⟨.ctl, .doLoop rt creg cimm ofs⟩] →
    let n := match creg with | some r => (s.rg c r).toNat | none => cimm
    let l := (s.core c).llv
    let nxt := (s.core c).pc + 1
    ∃ t, exec (.iDo c [] rt creg cimm ofs []) s = .next t ∧
      (n = 0 → (t.core c).pc = nxt + ofs + s.lenAt c 4 (nxt + ofs) ∧ (t.core c).rstk = (s.core c).rstk ∧ s.Same t c [] [] []) ∧
      (0 < n → t.rg c (0x48 + l) = BitVec.ofNat 16 nxt ∧ t.rg c (0x4C + l) = BitVec.ofNat 16 (nxt + ofs) ∧
        t.rg c (0x50 + l) = BitVec.ofNat 16 n ∧ (t.core c).llv = l + 1 ∧ (t.core c).rot.getD l false = rt ∧
        s.Kept t c 1 [0x48 + l, 0x4C + l, 0x50 + l, 0x6B] [] [])) ∧
  (∀ (s : State) (c : Fin 5) (lv : Nat), s.Straight c [⟨.ctl, .lbrk lv⟩] →
    ∃ t, exec (.iLbrk c [] lv []) s = .next t ∧ (t.core c).llv = (s.core c).llv - lv ∧
      (∀ l, (s.core c).llv - lv ≤ l → l < (s.core c).llv → t.rg c (0x50 + l) = 0) ∧
      s.Kept t c 1 [0x50, 0x51, 0x52, 0x6B] [] []) ∧
  (∀ (s : State) (c : Fin 5) (creg : Option Nat) (cimm : Nat),
    let n := match creg with | some r => (s.rg c r).toNat | none => cimm
    ∀ e ∈ ([(Instr.iRep c [] creg cimm [], .rep creg cimm, false), (Instr.iRepi c [] creg cimm [], .repi creg cimm, true)] :
        List (Instr × Op × Bool)), s.Straight c [⟨.ctl, e.2.1⟩] →
      ∃ t, exec e.1 s = .next t ∧ (t.core c).rep = some ⟨n, e.2.2⟩ ∧ t.rg c 0x54 = BitVec.ofNat 16 n ∧ s.Kept t c 1 [0x54] [] []) ∧
  (∀ (s : State) (c : Fin 5) (set : Bool) (k : Nat), s.Straight c [⟨.ctl, .rrc set k⟩] →
    ∃ t, exec (.iRrc c [] set k []) s = .next t ∧
      t.rg c 0x57 = (if set then BitVec.ofNat 16 k else s.rg c 0x57 - BitVec.ofNat 16 k) &&& 0x1F ∧ s.Kept t c 1 [0x57] [] []) ∧
  (∀ (s : State) (c : Fin 5) (pre : List Syl) (d : Nat) (d2 : Option Nat) (ext : Word) (post : List Syl),
    s.Straight c (pre ++ ⟨.ctl, .limx d d2 ext⟩ :: post) → d < 0x48 → (∀ e ∈ d2, e < 0x48) →
    ∃ t, exec (.iLimx c pre d d2 ext post) s = .next t ∧ s.regAfter t c d = ext.extractLsb' 0 16 ∧
      (∀ e ∈ d2, s.regAfter t c e = ext.extractLsb' 16 16) ∧
      (pre = [] → post = [] → (t.core c).flg = (s.core c).flg ∧ s.Kept t c 2 (d :: d2.toList) [] [])) ∧
  (∀ (s : State) (c : Fin 5),
    ∀ e ∈ ([(Instr.iEi c [] [], .ei, 1), (Instr.iDi c [] [], .di, 0), (Instr.iIhold c [] [], .ihold, 3)] : List (Instr × Op × Half)),
      s.Straight c [⟨.ctl, e.2.1⟩] → ∃ t, exec e.1 s = .next t ∧ t.rg c 0x66 = e.2.2 ∧ s.Kept t c 1 [0x66] [] []) ∧
  (∀ (s : State) (c : Fin 5), s.Straight c [⟨.ctl, .waite⟩] →
    ∃ t, exec (.iWaite c [] []) s = .next t ∧ (t.core c).rel = false ∧ s.Kept t c 1 [] [] []) ∧
  (∀ (s : State) (c : Fin 5), s.Straight c [⟨.ctl, .halt⟩] →
    ∃ t, exec (.iHalt c [] []) s = .next t ∧ (t.core c).run = false ∧ t.f (pgCORE c) 0x040 0 0 = 0 ∧
      t.f (pgCORE c) 0x014 1 1 = 1 ∧ s.Kept t c 1 [] [] [])

/-- IRQ and RELEASE events, interrupt entry, CORE_RUN, CORE_HALT_REQUEST, CORE_STEP and CR_REL_CLR act on their core and
nothing else. Rests on R187, R188, R189, R192, R193. -/
def Obligations.CoresRunHaltAndTakeEvents : Prop :=
  (∀ (s : State) (c : Fin 5) (n : Fin 16), s.domRun 1 = true → (s.core c).inReset = false → s.domRun (coreDom c) = true →
    exec (.irqEvent c n) s =
      .next ((s.evArrive 0 c n).updCore c fun k => { k with irq := k.irq ||| BitVec.ofNat 16 (2 ^ n.val) })) ∧
  (∀ (s : State) (c : Fin 5) (arg : Nat), s.domRun 1 = true → (s.core c).inReset = false → s.domRun (coreDom c) = true →
    exec (.releaseEvent c arg) s = .next (
      if (s.core c).rel then ((s.evArrive 1 c arg).cntUp (pgCORE c) 0x060 15 0 1).ev (pgCORE c) 3
      else (s.evArrive 1 c arg).updCore c fun k => { k with rel := true })) ∧
  (∀ (s : State) (c : Fin 5) (n : Nat), s.Shape → s.domRun 1 = true → s.domRun (coreDom c) = true → (s.core c).run = true →
    (s.core c).stepping = false → interruptible (s.core c) = true → s.rg c 0x66 &&& 3 = 1 →
    n < 16 → (s.rg c 0x67 &&& s.rg c 0x65).getLsbD n = true →
    (∀ m, n < m → (s.rg c 0x67 &&& s.rg c 0x65).getLsbD m = false) → pcOk c ((s.rg c 0x64).toNat + 8 * n) = true →
    ∃ t, exec (.interruptEntry c) s = .next t ∧ (t.core c).pc = (s.rg c 0x64).toNat + 8 * n ∧
      t.rg c 0x68 = BitVec.ofNat 16 (s.core c).pc ∧ (t.core c).ipcHi = decide (65536 ≤ (s.core c).pc) ∧
      t.rg c 0x69 &&& 0x1F = (s.core c).flgWord &&& 0x1F ∧ (t.rg c 0x69).getLsbD 7 = (s.core c).rep.isSome ∧
      t.rg c 0x6A = BitVec.ofNat 16 (((s.core c).rep.map Rep.left).getD 0) ∧ (t.rg c 0x66).getLsbD 1 = true ∧
      (t.core c).irq = (s.core c).irq &&& ~~~(BitVec.ofNat 16 (2 ^ n)) ∧ (t.core c).rep = none ∧ (t.core c).wait = none ∧
      (t.core c).acc = (s.core c).acc ∧ (∀ k, k < 0x66 → (t.core c).rf.getD k 0 = (s.core c).rf.getD k 0) ∧
      (∀ d, d ≠ c.val → t.core d = s.core d) ∧ t.mem = s.mem ∧ t.regs = (s.waitEnd c).regs) ∧
  (∀ (s : State) (w : By) (c : Fin 5), s.Writes w .core (pgCORE c) 0x040 → s.Shape → (s.core c).run = false →
    (s.core c).inReset = false → s.keeperHeld c = false → (c = 4 ∨ s.f (pgCORE c) 0x048 15 0 ≤ 0x7FFF) →
    ∃ t, exec (.coreRun w c) s = .next t ∧ (t.core c).run = true ∧
      (t.core c).pc = (if c = 4 then 0x10000 else s.f (pgCORE c) 0x048 15 0) ∧ t.f (pgCORE c) 0x040 0 0 = 1 ∧
      (t.core c).rf = (s.core c).rf ∧ (∀ d, d ≠ c.val → t.core d = s.core d) ∧ t.mem = s.mem) ∧
  (∀ (s : State) (w : By) (c : Fin 5), s.Writes w .core (pgCORE c) 0x040 → s.Shape → (s.core c).run = true →
    interruptible (s.core c) = true →
    ∃ t, exec (.coreHaltRequest w c) s = .next t ∧ (t.core c).run = false ∧ (t.core c).pc = (s.core c).pc ∧
      t.f (pgCORE c) 0x040 0 0 = 0 ∧ t.f (pgCORE c) 0x014 1 1 = 1 ∧ (t.core c).rf = (s.core c).rf ∧
      (∀ d, d ≠ c.val → t.core d = s.core d) ∧ t.mem = s.mem) ∧
  (∀ (s : State) (w : By) (c : Fin 5), s.Writes w .core (pgCORE c) 0x040 → s.Shape → (s.core c).run = false →
    (s.core c).inReset = false → s.keeperHeld c = false → (s.core c).fresh = false → (s.core c).wait = none → s.domRun (coreDom c) = true →
    let u := (s.sf (pgCORE c) 0x040 0 0 0).updCore c fun k => { k with run := true, stepping := true }
    ((u.issue c (u.bundleAt c 5 (s.core c).pc)).core c).run = false →
    exec (.coreStep w c) s = .next ((u.issue c (u.bundleAt c 5 (s.core c).pc)).answer .ok 0)) ∧
  (∀ (s : State) (w : By) (c : Fin 5), s.Writes w .core (pgCORE c) 0x060 →
    exec (.crRelClr w c) s = .next ((s.sf (pgCORE c) 0x060 15 0 0).answer .ok 0))

/-- Queues read, merge, take their answers and time out: QUEUE_READ_ISSUE, QUEUE_MERGE_TIMEOUT, QUEUE_RESPONSE and
QUEUE_WAIT_TIMEOUT. Rests on R180, R182, R184, R185, R191. -/
def Obligations.QueueRequestsAndAnswers : Prop :=
  (∀ (s : State) (c : Fin 5) (q : Fin 4), s.Shape → s.domRun (coreDom c) = true →
    let x := (s.core c).queue q
    x.arm = true → x.dir = false → 0 < x.cnt → x.ew ≤ 32 - (x.buf.length + x.owed) → s.qRoom c = true →
    x.fly.all (fun r => !r.se || r.void) = true → x.addr % x.eb = 0 → s.touchesSE x.addr x.eb = false →
    ∃ t m, exec (.queueReadIssue c q) s = .next t ∧ 0 < m ∧ m ≤ x.cnt ∧ ((t.core c).queue q).cnt = x.cnt - m ∧
      ((t.core c).queue q).addr = (BitVec.ofInt 32 ((x.addr : Int) + m * x.stride.toInt)).toNat ∧
      ((t.core c).queue q).fly = x.fly ++ [⟨x.addr, m * x.ew, false, none, false, false⟩] ∧ ((t.core c).queue q).buf = x.buf ∧
      t.mem = s.mem) ∧
  (∀ (s : State) (c : Fin 5) (q : Fin 4), s.Shape → s.domRun (coreDom c) = true →
    let x := (s.core c).queue q
    x.pushed + 32 ≤ s.rhoNow → x.arm = true → x.dir = true → 0 < x.cnt → x.ew ≤ x.buf.length → s.qRoom c = true →
    x.addr % x.eb = 0 → s.touchesSE x.addr x.eb = false →
    ∃ t m, exec (.queueMergeTimeout c q) s = .next t ∧ 0 < m ∧ ((t.core c).queue q).cnt = x.cnt - m ∧
      ((t.core c).queue q).buf = x.buf.drop (m * x.ew) ∧ ((t.core c).queue q).fly.length = x.fly.length + 1 ∧ t.mem = s.mem) ∧
  (∀ (s : State) (c : Fin 5) (q : Fin 4) (r : QReq) (dem late : Bool) (data : List Byte), s.Shape →
    let x := (s.core c).queue q
    x.fly = [r] → r.data = none → r.void = false → r.wr = false → x.dir = false →
    ∃ t, exec (.queueResponse c q 0 0 dem late data) s = .next t ∧ ((t.core c).queue q).buf = x.buf ++ halves r.words data ∧
      ((t.core c).queue q).fly = [] ∧ ((t.core c).queue q).dem = (x.dem || dem) ∧ ((t.core c).queue q).late = (x.late || late) ∧
      ((t.core c).queue q).arm = x.arm ∧ t.mem = s.mem) ∧
  (∀ (s : State) (c : Fin 5) (q : Fin 4) (r : QReq) (sts : Fin 16) (dem late : Bool) (data : List Byte), s.Shape →
    let x := (s.core c).queue q
    x.fly = [r] → r.data = none → (r.wr = true ∨ r.void = false) → sts ≠ 0 →
    ∃ t, exec (.queueResponse c q 0 sts dem late data) s = .next t ∧ ((t.core c).queue q).arm = false ∧
      ((t.core c).queue q).sts = sts ∧ (t.core c).flg.qe.getLsbD q = true ∧
      ((t.core c).queue q).buf = x.buf ++ (if r.wr then [] else List.replicate r.words 0) ∧ t.f (pgCORE c) 0x014 2 2 = 1 ∧
      t.f (pgCORE c) 0x028 15 0 = 0x4311 ∧ t.mem = s.mem) ∧
  (∀ (s : State) (c : Fin 5) (w : Waiting), s.Shape → (s.core c).wait = some w → 0 < s.f (pgCORE c) 0x050 23 0 →
    s.f (pgCORE c) 0x050 23 0 < s.waitRan c w → w.syls.all (s.waitOver c) = false → w.syls.any isQueueWait = true →
    ∃ t, exec (.queueWaitTimeout c) s = .next t ∧ (t.core c).run = false ∧ (t.core c).wait = none ∧
      t.r (pgCORE c) 0x04C = BitVec.ofNat 32 (7 * 2 ^ 28 + (s.core c).pc % 2 ^ 17) ∧ t.f (pgCORE c) 0x014 0 0 = 1 ∧
      t.f (pgCORE c) 0x028 15 0 = 0x4310 ∧ (t.core c).rf = (s.core c).rf ∧ t.mem = s.mem)

/-- CTX_SWITCH_EVENT, GRV_SW and QUEUE_TRIGGER switch the array or are refused; GRV_IDLE, GRV_CLR, GC_ACTIDX_CLR,
ACTIVATION_DONE and ACTIVATION_WATCHDOG act. Rests on R259, R260, R261, R262, R264, R265, R267. -/
def Obligations.ContextSwitches : Prop :=
  (∀ (s : State) (e : Fin 256) (n : Fin 8) (lost : Bool), s.domRun 1 = true → s.arrayOn = true → s.Shape →
    s.switchReason (s.letOwner e) n = none →
    ∃ t, exec (.ctxSwitchEvent e n lost) s = .next t ∧ s.Switched t n 1 ∧
      (lost = true ∨ s.grv.trig = true → t.f pgGRV 0x044 6 6 = 1)) ∧
  (∀ (s : State) (w : By) (n : Fin 8), s.Writes w .grv pgGRV 0x040 → s.Shape → s.switchReason w.tnt n = none →
    ∃ t, exec (.grvSw w n) s = .next t ∧ s.Switched t n 2 ∧ (s.grv.trig = true → t.f pgGRV 0x044 6 6 = 1)) ∧
  (∀ (s : State) (w : By) (n : Fin 8) (r : Nat), s.Writes w .grv pgGRV 0x040 → s.switchReason w.tnt n = some r →
    ∃ t, exec (.grvSw w n) s = .next t ∧ t.grv = { s.grv with trig := false } ∧ t.actx = s.actx ∧ t.f pgGRV 0x014 6 6 = 1 ∧
      (s.grv.trig = true → t.f pgGRV 0x044 6 6 = 1) ∧
      t.f pgGRV 0x028 15 0 = 0x1410 ∧ t.mem = s.mem) ∧
  (∀ (s : State) (n : Nat), s.domRun 1 = true → s.Shape → s.actx < 8 → s.f pgGRV 0x044 4 4 = 1 → s.grv.trig = true →
    s.f (pgGCTX s.actx) 0x048 2 0 = n → s.switchReason (s.ctxHolder s.actx) n = none →
    ∃ t, exec .queueTrigger s = .next t ∧ s.Switched t n 3) ∧
  (∀ (s : State) (w : By), s.Writes w .grv pgGRV 0x040 → s.actx < 8 →
    ∃ t, exec (.grvIdle w) s = .next t ∧ t.actx = 8 ∧ t.f pgGRV 0x044 5 4 = 0 ∧ t.grv.act = GCtx.zero ∧ t.grv.tok = [] ∧
      t.grv.out = [] ∧ t.grv.rf = [] ∧ t.grv.tile = s.grv.tile ∧ t.grv.store = s.grv.store ∧ t.mem = s.mem) ∧
  (∀ (s : State) (w : By), s.Writes w .grv pgGRV 0x040 →
    exec (.grvClr w) s = .next ((((s.w pgGRV 0x050 0).w pgGRV 0x054 0).sf pgGRV 0x044 6 6 0).answer .ok 0)) ∧
  (∀ (s : State) (w : By) (n : Fin 8), s.Writes w .gctx (pgGCTX n) 0x04C →
    exec (.gcActidxClr w n) s = .next ((s.sf (pgGCTX n) 0x04C 11 0 0).answer .ok 0)) ∧
  (∀ (s : State) (p : Nat), s.domRun 1 = true → s.portsRun = true → s.f pgGRV 0x044 4 4 ≠ 1 → p < 8 → (s.gport p).arm = true →
    (∀ q, q < 8 → (s.gport q).arm = true → (s.gport q).finished q = true) →
    exec .activationDone s =
      .next (((s.updGrv fun g => { g with trig := decide (s.f (pgGCTX s.actx) 0x048 3 3 = 1) }).sf pgGRV 0x044 4 4 1).ev pgGRV 1)) ∧
  (∀ s : State, s.domRun 1 = true → s.portsRun = true → s.f pgGRV 0x044 4 4 ≠ 1 → 0 < s.f (pgGCTX s.actx) 0x044 23 0 →
    s.f (pgGCTX s.actx) 0x044 23 0 ≤ s.actCyc →
    ∃ t, exec .activationWatchdog s = .next t ∧ t.f pgGRV 0x044 5 5 = 1 ∧ t.f pgGRV 0x014 2 2 = 1 ∧
      t.f pgGRV 0x028 15 0 = 0x3411 ∧ (∀ p, 4 ≤ p → p < 8 → (t.gport p).buf = []) ∧ t.grv.tok = s.grv.tok ∧ t.mem = s.mem)

/-- CELL_FIRE consumes its operands' tokens and sends its function's result; tokens advance; ports read, merge, take answers
and retry. Rests on R246, R247, R250, R253, R255, R257, R258. -/
def Obligations.CellsTokensAndPorts : Prop :=
  (∀ (s : State) (c : Fin 12) (r : Fin 8),
    let cell := cellKey c r
    let w := s.cellRec cell
    let op := recF w 127 122
    let v := fun n => s.srcVal cell ((opSrcs w).getD n 25)
    let tile := s.tileOf cell
    let rd := Sparse.get (tileDefault s.grv.tileLost) s.grv.tile (tile * 8192 + (v 0).toNat % 8192)
    let f := fireOp w (v 0) (v 1) (v 2) (mapGet 0 s.grv.acc cell) (mapGet 0 s.grv.cnt cell) tile rd
    s.domRun 1 = true → s.portsRun = true → c.val < gcols s.grade → s.isFused cell = false → (opArity op).2 = true → op < 0x1A →
    (∀ k ∈ opSrcs w, k < 16 → mapGet [] s.grv.tok (cell * 16 + k) ≠ [] ∧
      s.sinksRoom cell (s.trackSinks cell (k / 4) (k % 4)) = true) →
    (mapGet [] s.grv.out cell).length < 2 → mapGet [] s.grv.dup cell = [] →
    ∃ t, exec (.cellFire c r) s = .next t ∧ mapGet 0 t.grv.acc cell = f.acc ∧ mapGet 0 t.grv.cnt cell = f.cnt ∧
      mapGet [] t.grv.out cell = mapGet [] s.grv.out cell ++ f.o.toList ∧
      (∀ k ∈ opSrcs w, k < 16 → mapGet [] t.grv.tok (cell * 16 + k) = (mapGet [] s.grv.tok (cell * 16 + k)).tail) ∧
      (∀ e ∈ ([(0x01, v 0), (0x02, v 0 + v 1), (0x03, v 0 - v 1), (0x06, v 0 &&& v 1), (0x07, v 0 ||| v 1), (0x08, v 0 ^^^ v 1),
          (0x0C, if (v 0).toInt ≤ (v 1).toInt then v 0 else v 1), (0x0D, if (v 0).toInt ≤ (v 1).toInt then v 1 else v 0),
          (0x0F, if v 2 ≠ 0 then v 0 else v 1), (0x10, if (v 0).toInt < (v 1).toInt then 1 else 0), (0x16, rd)] : List (Nat × Half)),
        op = e.1 → f.o = some e.2) ∧
      t.mem = s.mem ∧ t.regs = s.regs) ∧
  (∀ (s : State) (key d i k : Nat) (v : Half), s.domRun 1 = true → s.portsRun = true → s.grv.tok = [(key, [v])] → s.grv.out = [] →
    s.grv.dup = [] → (∀ p, p < 8 → (s.gport p).buf = []) → s.trackSinks (key / 16) (key % 16 / 4) (key % 4) = [(d, i)] →
    (s.cellUses (key / 16) (key % 16 / 4) (key % 4) = false ∨ s.isFused (key / 16) = true) → s.hop (key / 16) d i = .track k →
    exec .trackTokenAdvance s = .next { s with grv := { s.grv with tok := [(k, [v])] } }) ∧
  (∀ (s : State) (p : Fin 8), s.domRun 1 = true → s.Shape → s.portsRun = true → p.val < 4 →
    let q := s.gport p
    q.arm = true → q.stopped = false → q.issued < q.cnt → q.ew ≤ 64 - (q.buf.length + q.inFly) → s.portRoom p = true →
    q.fly.all (fun r => !r.se) = true → q.addr q.issued % q.eb = 0 → s.touchesSE (q.addr q.issued) q.eb = false →
    ∃ t m, exec (.portReadIssue p) s = .next t ∧ 0 < m ∧ (t.gport p).issued = q.issued + m ∧ (t.gport p).buf = q.buf ∧
      (t.gport p).fly = q.fly ++ [⟨s.actx, q.issued, m, false, none, 0, none, false, []⟩] ∧ t.mem = s.mem) ∧
  (∀ (s : State) (p : Fin 8), s.domRun 1 = true → s.Shape → s.portsRun = true → 4 ≤ p.val →
    let q := s.gport p
    q.last + 48 ≤ s.grvNow → q.arm = true → q.stopped = false → q.ew ≤ q.buf.length → s.portRoom p = true →
    q.addr q.issued % q.eb = 0 → s.touchesSE (q.addr q.issued) q.eb = false →
    ∃ t m, exec (.writePortMergeTimeout p) s = .next t ∧ 0 < m ∧ (t.gport p).issued = q.issued + m ∧
      (t.gport p).buf = q.buf.drop (m * q.ew) ∧ (t.gport p).fly.length = q.fly.length + 1 ∧ t.mem = s.mem) ∧
  (∀ (s : State) (p : Fin 8) (r : GReq) (sts : Fin 16) (dem late : Bool) (data : List Byte), s.domRun 1 = true → s.Shape →
    p.val < 4 → (s.gport p).fly = [r] → (s.gport p).stopped = false → r.data = none → r.refused = none → r.old = false →
    ∃ t, exec (.portResponse p 0 sts dem late data) s = .next t ∧ t.mem = s.mem ∧
      (sts = 0 → (t.gport p).buf = (s.gport p).buf ++ halves (r.n * (s.gport p).ew) data ∧ (t.gport p).fly = [] ∧
        (t.gport p).stopped = false) ∧
      (sts = 1 → r.tries < 4 → (t.gport p).fly = [{ r with refused := some s.grvNow }] ∧ t.regs = s.regs) ∧
      (2 ≤ sts.val → (t.gport p).stopped = true ∧ (r.ctx < 8 → t.f (pgGCTX r.ctx) (gpStat p) 10 10 = 1 ∧
        t.f (pgGCTX r.ctx) (gpStat p) 15 12 = sts) ∧ t.f pgGRV 0x014 4 4 = 1)) ∧
  (∀ (s : State) (p : Fin 8) (i : Nat) (r : GReq) (t0 : Nat), s.domRun 1 = true → s.Shape → s.portsRun = true →
    (s.gport p).fly[i]? = some r → r.refused = some t0 → t0 + 192 ≤ s.grvNow → (s.gport p).stopped = false → r.old = false → r.ctx < 8 →
    ∃ t, exec (.portRefusedRetry p i) s = .next t ∧
      (t.gport p).fly[i]? = some { r with refused := none, tries := r.tries + 1 } ∧
      t.f (pgGCTX r.ctx) (gpStat p) 23 16 = min 255 (s.f (pgGCTX r.ctx) (gpStat p) 23 16 + 1) ∧ t.mem = s.mem)

/-- A load goes through its phases: LD_START, LOAD_READ_DONE, LOAD_VERIFY_DONE, LOAD_PART_EVAL_DONE, LOAD_EFFECT,
LOAD_WRITE_DONE; LD_ABORT and refusals end it. Rests on R277, R284, R285, R286, R287. -/
def Obligations.LoadsOfImages : Prop :=
  (∀ (s : State) (w : By) (c : Nat) (cs : List Nat), s.Writes w .ald pgALD 0x040 → s.ald.phase = 0 →
    maskBits (s.f pgALD 0x050 7 0) 8 = c :: cs → (∀ d ∈ cs, s.ctxHolder d = s.ctxHolder c) →
    (w.tnt.val = s.ctxHolder c ∨ w.tnt = 0) →
    ∃ t, exec (.ldStart w) s = .next t ∧ t.ald = { Ald.zero with tnt := s.ctxHolder c, phase := 1 } ∧ t.f pgALD 0x044 2 0 = 1 ∧
      t.f pgALD 0x044 6 4 = 1 ∧ t.mem = s.mem) ∧
  (∀ (s : State) (w : By), s.Writes w .ald pgALD 0x040 → 1 ≤ s.ald.phase → s.ald.phase ≤ 3 →
    ∃ t, exec (.ldAbort w) s = .next t ∧ t.ald = Ald.zero ∧ t.f pgALD 0x044 2 2 = 1 ∧ t.f pgALD 0x044 0 0 = 0 ∧
      t.r pgALD 0x070 = 20 ∧ t.f pgALD 0x028 15 0 = 0x1412 ∧ t.f pgALD 0x014 1 1 = 1 ∧ t.mem = s.mem ∧ t.grv = s.grv) ∧
  (∀ (s : State) (sts : Fin 16) (ofs : Nat), s.domRun 1 = true → s.ald.phase = 1 → s.arrayOn = true →
    let rd := s.engReadAt s.ald.tnt 17 2 (s.r pgALD 0x048).toNat (s.f pgALD 0x04C 17 0)
    let m := rd.1.rdBytes (s.r pgALD 0x048).toNat (s.f pgALD 0x04C 17 0)
    ∃ t, exec (.loadReadDone sts ofs) s = .next t ∧ t.mem = s.mem ∧ t.grv = s.grv ∧
      (sts ≠ 0 → t.ald = Ald.zero ∧ t.f pgALD 0x044 2 2 = 1 ∧ t.f pgALD 0x070 7 0 = 19 ∧ t.f pgALD 0x028 15 0 = 0x1412) ∧
      (∀ k, sts = 0 → rd.2 = some k → t.ald = Ald.zero ∧ t.f pgALD 0x070 7 0 = 19 ∧ t.f pgALD 0x074 15 0 = k / 4 % 65536) ∧
      (sts = 0 → rd.2 = none → rd.1.imageRef m = none → s.f pgALD 0x05C 0 0 = 1 → t.ald = { s.ald with img := m, phase := 2 } ∧
        t.f pgALD 0x044 6 4 = 2)) ∧
  (∀ s : State, s.domRun 1 = true → s.ald.phase = 2 → s.arrayOn = true → s.engTurn .loader = true →
    exec .loadVerifyDone s = .next (if s.sigOk s.ald.img then (s.engLeave .loader).loadPlace else s.loadRefuse ⟨3, 0, 0, 0, 0⟩)) ∧
  (∀ (s : State) (p q : LPart), s.domRun 1 = true → s.ald.phase = 4 → s.arrayOn = true → s.ald.parts[s.ald.part]? = some p →
    s.adm.aldRes = some (p.src, true) → s.ald.parts[s.ald.part + 1]? = some q →
    exec .loadPartEvalDone s = .next { s with
      ald := { s.ald with part := s.ald.part + 1 },
      adm := { s.adm with aldRes := none }.enq (.set s.ald.tnt q.src q.claims) }) ∧
  (∀ (s : State) (p : LPart), s.domRun 1 = true → s.ald.phase = 4 → s.arrayOn = true → s.ald.parts[s.ald.part]? = some p →
    s.adm.aldRes = some (p.src, true) → s.ald.parts[s.ald.part + 1]? = none →
    ∃ t, exec .loadPartEvalDone s = .next t ∧ t.ald = { s.ald with phase := 5 } ∧ t.f pgALD 0x044 6 4 = 5 ∧
      t.adm = { s.adm with aldRes := none } ∧ t.mem = s.mem) ∧
  (∀ (s : State) (p : LPart), s.domRun 1 = true → s.ald.phase = 4 → s.arrayOn = true → s.ald.parts[s.ald.part]? = some p →
    s.adm.aldRes = some (p.src, false) →
    ∃ t, exec .loadPartEvalDone s = .next t ∧ t.ald = Ald.zero ∧ t.f pgALD 0x070 7 0 = 18 ∧ t.f pgALD 0x028 15 0 = 0x1412 ∧
      t.adm = (s.ald.parts.take s.ald.part).foldl (fun a q => a.enq (.set s.ald.tnt q.src [])) { s.adm with aldRes := none } ∧
      t.mem = s.mem) ∧
  (∀ (s : State) (p : LPart) (x : Nat × Bool), s.domRun 1 = true → s.ald.phase = 4 → s.ald.parts[s.ald.part]? = some p →
    s.adm.aldRes = some x → x.1 ≠ p.src → exec .loadPartEvalDone s = .next s) ∧
  (∀ s : State, s.domRun 1 = true → s.ald.phase = 5 → s.arrayOn = true → (∀ p ∈ s.ald.parts, p.src ∉ s.adm.effSrc) →
    ∃ t, exec .loadEffect s = .next t ∧ t.ald = { s.ald with phase := 6 } ∧
      (∀ p ∈ s.ald.parts, t.f (pgGCTX p.ctx) 0x040 0 0 = 0) ∧ t.f pgALD 0x044 6 4 = 6 ∧ t.mem = s.mem ∧ t.grv = s.grv) ∧
  (∀ (s : State) (p : LPart), s.domRun 1 = true → s.Shape → s.ald.phase = 6 → s.arrayOn = true → s.ald.parts = [p] → p.ctx < 8 →
    ∃ t, exec .loadWriteDone s = .next t ∧ t.ald = Ald.zero ∧ t.grv.store.getD p.ctx GCtx.zero = p.cfg ∧
      t.f (pgGCTX p.ctx) 0x040 0 0 = 1 ∧ t.f (pgGCTX p.ctx) 0x04C 11 0 = 0 ∧
      (∀ q, q < 8 → t.a (pgGCTX p.ctx) (0x060 + 0x20 * q) = (p.ports.getD q (0, 0, 0, 0)).1) ∧
      t.f pgALD 0x044 1 1 = 1 ∧ t.f pgALD 0x044 0 0 = 0 ∧ t.f pgALD 0x044 6 4 = 0 ∧ t.f pgALD 0x014 0 0 = 1 ∧ t.mem = s.mem)

/-- A stream opens a frame at CSI_FRAME_START, stores each CSI_LONG_PACKET in its slot, closes at CSI_FRAME_END or
FRAME_END_TIMEOUT, and gives it out at CAP_FDONE. Rests on R42, R64, R292, R293, R294, R295, R296, R297, R299, R300, R316. -/
def Obligations.FramesOfStreams : Prop :=
  (∀ (s : State) (n : Fin 2) (vc k : Fin 4) (num : BitVec 16) (hdr : Fin 3),
    let u := (s.masterFrame (.cam ⟨n, vc, false⟩) false).trackerFrame ⟨n, vc, false⟩
    let b := (u.str n k).next % cfgNbuf (u.strAct n k)
    s.domRun 1 = true → u.Shape → u.camRun = true →
    hdr.val < 2 → cfgEn (u.strAct n k) = true → cfgVc (u.strAct n k) = vc → (u.str n k).op = false →
    (∀ j : Fin 4, j ≠ k → u.strOnVc n j vc = false) →
    ∃ t, exec (.csiFrameStart n vc num hdr) s = .next t ∧ t.mem = u.mem ∧
      ((u.str n k).free b = true → (t.str n k).op = true ∧ (t.str n k).buf = b ∧ (t.str n k).lines = [] ∧
        (t.str n k).frm = u.ltb.frame ∧ (t.str n k).lp = u.posLP ∧ (t.str n k).cfg = u.strAct n k ∧
        (t.str n k).next = (b + 1) % cfgNbuf (u.strAct n k) ∧ (t.str n k).await = false) ∧
      ((u.str n k).free b = false → (t.str n k).op = false ∧ (t.str n k).dropping = true ∧
        (t.str n k).dropped = (u.str n k).dropped + 1 ∧ t.f (pgCAP n) 0x014 (4 * k + 2) (4 * k + 2) = 1)) ∧
  (∀ (s : State) (n : Fin 2) (vc : Fin 4), s.domRun 1 = true → s.camRun = true →
    (s.af pgLTB 0x040 8 8 = 0 → s.af pgLTB 0x040 5 4 = vc →
      exec (.csiLineStart n vc) s = .next ((s.masterLineStart (2 + n)).trackerLine ⟨n, vc, false⟩)) ∧
    (s.af pgLTB 0x040 8 8 = 0 → s.af pgLTB 0x040 5 4 ≠ vc → exec (.csiLineStart n vc) s = .next (s.trackerLine ⟨n, vc, false⟩)) ∧
    (s.af pgLTB 0x040 8 8 = 1 → exec (.csiLineStart n vc) s = .next s)) ∧
  (∀ (s₀ : State) (n : Fin 2) (vc k : Fin 4) (dt : BitVec 6) (wc : BitVec 16) (payload : List Byte) (fill : Nat),
    let s := s₀.camLineStart ⟨n, vc, true⟩
    let x := s.str n k
    s₀.domRun 1 = true → s.Shape → s.camRun = true → dtKnown dt.toNat = true →
    ((List.range 4).find? fun j => cfgEn (s.strCfg n j) && cfgVc (s.strCfg n j) == vc.val && cfgDt (s.strCfg n j) == dt.toNat) =
      some k.val → x.op = true → x.await = false → x.hdrLoss = false → payload.length = wc.toNat →
    ∃ t, exec (.csiLongPacket n vc dt 0 wc payload true none fill) s₀ = .next t ∧
      (s₀.af pgLTB 0x040 8 8 = 0 → s = s₀) ∧
      (cfgHeight x.cfg ≤ x.lines.length → (t.str n k).extra = x.extra + 1 ∧ (t.str n k).lines = x.lines ∧ t.mem = s.mem) ∧
      (x.lines.length < cfgHeight x.cfg → pixCount (dtFmt (cfgDt x.cfg)) payload.length = cfgWidth x.cfg →
        (t.str n k).lines = x.lines ++ [0] ∧ (t.str n k).flags = x.flags ∧ (t.str n k).op = true ∧
        ∀ a, ¬(cfgBuf x.cfg x.buf + x.lines.length * (x.cfg.getD 3 0).toNat ≤ a ∧
            a < cfgBuf x.cfg x.buf + x.lines.length * (x.cfg.getD 3 0).toNat + pixBytes (cfgFmt x.cfg) (cfgWidth x.cfg)) →
          a ≠ cfgRec x.cfg x.buf + 0x40 + x.lines.length → t.rdByte a = s.rdByte a)) ∧
  (∀ (s : State) (n : Fin 2) (vc : Fin 4) (dt : BitVec 6) (wc : BitVec 16) (payload : List Byte) (ok : Bool) (fifo : Option Nat)
      (fill : Nat), s.domRun 1 = true → s.camRun = true →
    ∃ t, exec (.csiLongPacket n vc dt 2 wc payload ok fifo fill) s = .next t ∧
      t.f (pgCAP n) 0x04C 7 0 = min 255 (s.f (pgCAP n) 0x04C 7 0 + 1) ∧ t.f (pgCAP n) 0x014 16 16 = 1 ∧ t.mem = s.mem) ∧
  (∀ (s : State) (n : Fin 2) (vc k : Fin 4) (hdr : Fin 3), s.domRun 1 = true → s.Shape → s.camRun = true → hdr.val < 2 →
    s.strOnVc n k vc = true → (∀ j : Fin 4, j ≠ k → s.strOnVc n j vc = false) →
    let x := s.str n k
    x.op = true → x.await = false → x.lines.length = cfgHeight x.cfg → x.lines.all (fun l => l == 0) = true → x.flags = 0 →
    x.dropped = 0 →
    ∃ t, exec (.csiFrameEnd n vc hdr) s = .next t ∧ (t.str n k).op = false ∧
      (t.str n k).closing = x.closing ++ [⟨x.cfg, x.buf, x.id, 1⟩] ∧
      ∀ a, ¬(cfgRec x.cfg x.buf ≤ a ∧ a < cfgRec x.cfg x.buf + 64) → t.rdByte a = s.rdByte a) ∧
  (∀ (s : State) (n : Fin 2) (k : Fin 4), s.domRun 1 = true → s.Shape → s.camRun = true → (s.str n k).op = true →
    0 < s.f (pgCAP n) 0x054 11 0 → s.f (pgCAP n) 0x054 11 0 ≤ s.strQuiet n k →
    ∃ t, exec (.frameEndTimeout n k) s = .next t ∧ (t.str n k).op = false ∧
      (t.str n k).closing.length = (s.str n k).closing.length + 1 ∧ t.f (pgCAP n) 0x014 17 17 = 1) ∧
  (∀ (s : State) (n : Fin 2) (k : Fin 4) (c : CapClose) (q : List CapClose), s.domRun 1 = true → s.Shape → s.camRun = true →
    (s.str n k).closing = c :: q → cfgW c.cfg 0 17 17 = 0 →
    ∃ t, exec (.capFdone n k) s = .next t ∧ (t.str n k).closing = q ∧ (t.str n k).held = (s.str n k).held ++ [c.buf] ∧
      t.r (pgCAP n) (0x13C + 0x40 * k) = BitVec.ofNat 32 (c.buf + c.id * 2 ^ 16) ∧ t.f (pgCAP n) 0x014 (4 * k) (4 * k) = 1 ∧
      (c.flags ≠ 1 → t.f (pgCAP n) 0x014 (4 * k + 1) (4 * k + 1) = 1) ∧ t.isp = s.isp ∧ t.mem = s.mem) ∧
  (∀ (s : State) (w : By) (n : Fin 2) (k : Fin 4) (m : BitVec 4), s.Writes w .cap (pgCAP n) (0x130 + 0x40 * k) →
    exec (.strRel w n k m) s =
      .next ((s.updStr n k fun x => { x with held := x.held.filter fun b => !m.getLsbD b }).answer .ok 0)) ∧
  (∀ (s : State) (w : By) (n : Fin 2) (v : Word), s.Writes w .cap (pgCAP n) 0x040 →
    ∃ t, exec (.capClr w n v) s = .next t ∧ t.r (pgCAP n) 0x04C = 0 ∧ t.r (pgCAP n) 0x050 = 0 ∧
      (∀ k, k < 4 → t.r (pgCAP n) (0x138 + 0x40 * k) = 0) ∧ t.caps = s.caps ∧ t.mem = s.mem) ∧
  (∀ (s : State) (n : Fin 2) (arg : BitVec 8), s.domRun 1 = true → s.camRun = true →
    exec (.camTrigger n arg) s = .next { (s.evArrive 3 n arg.toNat) with
      trig := s.trig.set n (some (s.now + (arg.toNat + 1) * s.ltb.pPrev / 256 * s.tickLen)) }) ∧
  (∀ (s : State) (n : Fin 2) (e : Nat), s.domRun 1 = true → s.trig.getD n none = some e → e ≤ s.now →
    exec (.camTriggerEnd n) s = .next { s with trig := s.trig.set n none })

/-- ISP_SUBMIT, TQ_PUSH, TQ_FLUSH and ISP_ABORT act on the ISP's queues and its job; ISP_JOB_START, ISP_JOB_DONE and
ISP_XFER_ERROR run jobs. Rests on R310, R311, R312, R314, R317. -/
def Obligations.IspJobsAndTags : Prop :=
  (∀ (s : State) (w : By) (v : Word), s.Writes w .isp pgISP 0x040 → fldOf v 3 1 = 0 →
    let u := s.plain pgISP 0x040 (withBit v 0)
    exec (.ispSubmit w v) s = .next (
      (if s.isp.queue.length < 8 then { u with isp := { s.isp with queue := s.isp.queue ++ [⟨(s.r pgISP 0x048).toNat, none, 0, 0⟩] } }
       else (u.errCap pgISP 0x040).ev pgISP 2).answer .ok 0)) ∧
  (∀ (s : State) (w : By) (v : Word), s.Writes w .isp pgISP 0x040 → fldOf v 1 0 = 0 → fldOf v 3 3 = 0 →
    s.isp.tags.length < 4 → (s.isp.lastFn = none ∨ ∃ l, s.isp.lastFn = some l ∧
      1 ≤ (s.f pgISP 0x060 15 0 + 65536 - l) % 65536 ∧ (s.f pgISP 0x060 15 0 + 65536 - l) % 65536 ≤ 32767) →
    exec (.tqPush w v) s = .next (({ (s.plain pgISP 0x040 (withBit v 2)) with isp := { s.isp with
      tags := s.isp.tags ++ [⟨s.f pgISP 0x060 15 0, s.f pgISP 0x064 3 0, (List.range 6).map fun i => s.r pgISP (0x068 + 4 * i)⟩],
      lastFn := some (s.f pgISP 0x060 15 0) } } : State).answer .ok 0)) ∧
  (∀ (s : State) (w : By) (v : Word), s.Writes w .isp pgISP 0x040 → fldOf v 2 0 = 0 →
    exec (.tqFlush w v) s = .next (({ (s.plain pgISP 0x040 (withBit v 3)) with
      isp := { s.isp with tags := [], hold := TagEnt.zero } } : State).answer .ok 0)) ∧
  (∀ (s : State) (w : By) (v : Word) (r : IspRun), s.Writes w .isp pgISP 0x040 → fldOf v 0 0 = 0 → fldOf v 3 2 = 0 →
    s.isp.run = some r →
    ∃ t, exec (.ispAbort w v) s = .next t ∧ t.isp = { s.isp with run := none } ∧ t.f pgISP 0x044 31 24 = 8 ∧
      t.f pgISP 0x014 1 1 = 1 ∧ (∀ a, ¬(r.job.addr + 0x3C ≤ a ∧ a < r.job.addr + 0x40) → t.rdByte a = s.rdByte a)) ∧
  (∀ (s : State) (j : IspJob) (q : List IspJob), s.domRun 1 = true → s.camRun = true → s.isp.run = none → s.isp.queue = j :: q →
    let rd := (s.updIsp fun x => { x with queue := q }).engRead 10 s.ispCls j.addr 80
    let d := rd.1.jobDesc j
    let rs := rd.1.engReads 10 rd.1.ispCls (recReads d)
    let tg := if d.getD 6 0 = 0 then (rd.1.isp.tags, 0, none) else tagStep (rd.1.jobFrame d) rd.1.isp.tags
    let hold := match tg.2.2 with | some e => rd.1.isp.hold.ovr e | none => rd.1.isp.hold
    let r : IspRun := ⟨j, d, rd.1.jobRecs d, rd.1.snapNow, hold, tg.2.1, tg.2.2.isSome⟩
    rd.2 = .ok → rs.2 = .ok →
    (rs.1.jobReason r false = none → tg.2.1 = 0 →
      exec (.ispJobStart 0) s = .next { rs.1 with isp := { rs.1.isp with tags := tg.1, hold := hold, run := some r } }) ∧
    (∀ e, rs.1.jobReason r false = some e → e < 256 → ∃ t, exec (.ispJobStart 0) s = .next t ∧ t.isp.run = none ∧ t.isp.queue = q ∧
      t.f pgISP 0x028 15 0 = 0x1510 ∧ t.f pgISP 0x044 31 24 = e ∧ t.f pgISP 0x014 1 1 = 1)) ∧
  (∀ (s : State) (r : IspRun), s.domRun 1 = true → s.camRun = true → s.isp.run = some r →
    let rd := s.engReads 10 s.ispCls r.reads
    let wr := ({ rd.1 with freeCtr := rd.1.freeCtr + 834 } : State).engWrites 10 rd.1.ispCls (rd.1.ispOuts r)
    rd.2 = .ok → wr.2 = .ok →
    ∃ t, exec .ispJobDone s = .next t ∧ t.isp = { s.isp with run := none } ∧ t.f pgISP 0x044 31 24 = 0 ∧
      t.r pgISP 0x04C = BitVec.ofNat 32 r.job.addr ∧ t.f pgISP 0x014 0 0 = 1 ∧ t.freeCtr = s.freeCtr + 834) ∧
  (∀ (s : State) (sts : Fin 16) (r : IspRun), s.domRun 1 = true → s.isp.run = some r → sts ≠ 0 →
    ∃ t, exec (.ispXferError sts) s = .next t ∧ t.isp = { s.isp with run := none } ∧
      t.f pgISP 0x044 31 24 = (7 + sts * 16) % 256 ∧ t.f pgISP 0x014 1 1 = 1)

/-- STROBE_ARM charges and arms or denies; PULSE_START, PULSE_END, BUDGET_TICK, EB_LOCK, SKPCLR and SKP_FAULT act on the pulse
and the buckets. Rests on R318, R320, R321, R322, R323. -/
def Obligations.PulsesStayInTheBudget : Prop :=
  (∀ (s : State) (n : Fin 256) (arg : BitVec 16), s.domRun 1 = true → s.domRun 8 = true →
    let t := s.letOwner n
    let late := s.ltb.line == 0 && decide (s.ltb.cyc < 4)
    let f := if late then s.ltb.frame.toNat + 2 ^ 32 - 1 else s.ltb.frame.toNat
    let cur := s.f pgSILL (0x104 + 8 * arg.toNat) 9 0
    let w := s.f pgSILL (0x100 + 8 * arg.toNat) 10 0
    let o := s.strobeOutcome t arg.toNat (cur * w) f (if late then s.sill.prevFrm else s.sill.tfrm)
    (o = 0 → ∃ e p, exec (.strobeArm n arg) s = .next e ∧ e.sill.g = s.sill.g - cur * w ∧
      e.sill.b = s.sill.b.modify t (fun x => x - 256 * (cur * w)) ∧
      e.r pgSILL 0x060 = s.r pgSILL 0x060 + BitVec.ofNat 32 (cur * w) ∧ e.sill.pulse = some p ∧ p.cur = cur ∧
      p.stop = p.start + w * 800 ∧ s.now ≤ p.start ∧ e.f pgSILL 0x014 0 0 = 1 ∧ e.mem = s.mem) ∧
    (3 ≤ o → ∃ e, exec (.strobeArm n arg) s = .next e ∧ e.sill.g = s.sill.g ∧ e.sill.b = s.sill.b ∧ e.sill.pulse = s.sill.pulse ∧
      e.r pgSILL 0x060 = s.r pgSILL 0x060 ∧ e.f pgSILL 0x05C 15 0 = min 0xFFFF (s.f pgSILL 0x05C 15 0 + 1) ∧
      e.f pgSILL 0x014 2 2 = 1 ∧ e.f pgSILL 0x028 15 0 = 0x5610 ∧ e.mem = s.mem)) ∧
  (∀ (s : State) (p : Pulse), s.domRun 1 = true → s.sill.pulse = some p → p.firing = false → p.start ≤ s.now → s.skpOn = true →
    ∃ t, exec .pulseStart s = .next t ∧ t.sill = { s.sill with pulse := some { p with firing := true } } ∧
      t.f pgSILL 0x014 1 1 = 1 ∧ t.mem = s.mem) ∧
  (∀ (s : State) (p : Pulse), s.domRun 1 = true → s.sill.pulse = some p → p.firing = true → p.stop ≤ s.now →
    exec .pulseEnd s = .next { s with sill := { s.sill with pulse := none, ended := true } }) ∧
  (∀ s : State, s.domRun 1 = true → s.ebLocked = true → s.sill.tick + s.usTick ≤ s.time →
    exec .budgetTick s = .next { s with sill := { s.sill with
      tick := s.sill.tick + s.usTick, g := min s.ebCap (s.sill.g + s.ebRate),
      b := (List.range 16).map fun t => min (s.illShare t * s.ebCap) (s.sill.b.getD t 0 + s.illShare t * s.ebRate) } }) ∧
  (∀ (s : State) (w : By), s.Writes w .sill pgSILL 0x040 →
    (w.tnt = 0 → s.ebLocked = false → ∃ t, exec (.ebLock w) s = .next t ∧ t.ebLocked = true ∧ t.sill.g = s.ebCap ∧
      (∀ k, k < 16 → t.sill.b.getD k 0 = s.illShare k * s.ebCap / 256 * 256) ∧ t.r pgSILL 0x060 = 0 ∧ t.mem = s.mem) ∧
    ((w.tnt ≠ 0 ∨ s.ebLocked = true) → exec (.ebLock w) s = .next ((s.errLocked pgSILL 0x040).answer .ok 0)) ∧
    exec (.skpclr w) s = .next ((s.sf pgSILL 0x044 3 3 0).answer .ok 0)) ∧
  (∀ s : State, s.domRun 1 = true → exec .skpFault s = .next (((s.sf pgSILL 0x044 3 3 1).ev pgSILL 3).err pgSILL 0x8613 0))

/-- The scan engine runs, cancels, scans a job, reads lines, ends readout and frames, keeps held codes and forwards records as
R325 to R343 say. Rests on R325, R327, R329, R337, R338, R339, R340, R341, R342, R343. -/
def Obligations.ScanEngineAndForwarding : Prop :=
  (∀ (s : State) (w : By) (v : Word), s.Writes w .scn pgSCN 0x040 → v.getLsbD 2 = false →
    (let u := s.plain pgSCN 0x040 (clrBit (withBit v 0) 1)
     (u.scnRunning = false → u.runReason = 0 → exec (.scanRun w v) s =
      .next (({ (u.sf pgSCN 0x040 0 0 1) with sill := { s.sill with skip := false } } : State).answer .ok 0)) ∧
     (u.scnRunning = false → u.runReason ≠ 0 → exec (.scanRun w v) s = .next ((u.err pgSCN 0x1611 u.runReason).answer .ok 0))) ∧
    ∃ t, exec (.scanCancel w v) s = .next t ∧ t.f pgSCN 0x040 0 0 = 0 ∧ t.scn.frame = none ∧ t.scn.held = [] ∧
      t.scn.cancelAt = (if s.scnRunning then some s.now else s.scn.cancelAt)) ∧
  (∀ (s : State) (w : By) (v : Word), s.Writes w .scn pgSCN 0x040 → fldOf v 1 0 = 0 → s.scn.frame = none →
    ∃ t f, exec (.scanSubmit w v) s = .next t ∧ t.scn.frame = some f ∧ f.job = true ∧ f.base = (s.r pgSCN 0x084).toNat ∧
      f.stride = (s.r pgSCN 0x088).toNat ∧ f.w = s.f pgSCN 0x08C 12 0 ∧ f.h = s.f pgSCN 0x08C 27 16 ∧
      f.id = s.f pgSCN 0x090 31 16 ∧ f.next = s.winY0 ∧ f.lines = [] ∧ f.readDone = false ∧ t.mem = s.mem) ∧
  (∀ (s : State) (f : ScnFrame), s.domRun 1 = true → s.domRun 8 = true → s.scn.frame = some f →
    (let rd := s.engRead 16 s.scnCls (f.base + f.next * f.stride) (pixBytes f.fmt (s.winX1 + 1))
     f.next ≤ s.winY1 → s.slotThere f f.next = true →
     (rd.2 = .ok → ∃ g, exec .scanLineRead s =
        .next { rd.1 with scn := { rd.1.scn with frame := some g } } ∧ g.next = f.next + 1 ∧ g.lines.length = f.lines.length + 1 ∧
        g.stat = f.stat ++ [if f.job then 0 else (rd.1.rdByte (f.recBase + 0x40 + f.next)).toNat] ∧ g.readDone = f.readDone) ∧
     (rd.2 ≠ .ok → exec .scanLineRead s = .next (rd.1.scanXferErr rd.2.code))) ∧
    (f.readDone = false → s.winY1 < f.next → ∃ t, exec .scanReadoutEnd s = .next t ∧
      t.scn.frame.map ScnFrame.readDone = some true) ∧
    (f.readDone = true → (s.f pgSCN 0x040 8 8 = 0 ∨ s.frameClosed f = true) → ∃ t, exec .scanFrameDone s = .next t ∧
      t.scn.frame = none ∧ (f.job = true → t.f pgSCN 0x014 7 7 = 1) ∧
      (f.job = false → t.f pgSCN 0x014 2 2 = 1 ∧ t.f pgSCN 0x074 15 0 = min 0xFFFF (s.f pgSCN 0x074 15 0 + 1)))) ∧
  (∀ (s : State) (k : Nat) (q : List Nat), s.domRun 1 = true → s.scn.recs = k :: q →
    exec .scanRecordDone s = .next (({ s with scn := { s.scn with recs := q } } : State).ev pgSCN 0)) ∧
  (∀ (s : State) (i : Nat) (h : Held), s.domRun 1 = true → s.scn.held[i]? = some h →
    s.f pgSCN 0x060 10 0 ≤ s.msTick - h.last →
    ∃ t, exec (.holdExpire i) s = .next t ∧ t.scn.held = s.scn.held.eraseIdx i ∧ t.f pgSCN 0x014 1 1 = 1 ∧
      (∀ k, h.slot = some k → t.f pgSCN 0x080 7 0 = k % 256)) ∧
  (∀ (s : State) (sts : Fin 16) (f : Fwd) (q : List Fwd), s.domRun 1 = true → s.scn.fwd = f :: q → f.wait = none →
    (sts = 0 → 1 < f.left.length → ∃ t, exec (.forwardResponse sts) s = .next t ∧
      t.scn.fwd = { f with left := f.left.drop 1, tries := 0 } :: q) ∧
    (sts = 0 → f.left.length ≤ 1 → ∃ t, exec (.forwardResponse sts) s = .next t ∧ t.scn.fwd = q) ∧
    (sts = 1 → f.tries < 4 → exec (.forwardResponse sts) s =
      .next { s with scn := { s.scn with fwd := { f with tries := f.tries + 1, wait := some s.now } :: q } }) ∧
    ((2 ≤ sts.val ∨ sts = 1 ∧ 4 ≤ f.tries) → ∃ t, exec (.forwardResponse sts) s = .next t ∧ t.scn.fwd = q ∧
      t.f pgSCN 0x07C 31 16 = min 0xFFFF (s.f pgSCN 0x07C 31 16 + 1) ∧ t.f pgSCN 0x014 4 4 = 1)) ∧
  (∀ (s : State) (f : Fwd) (q : List Fwd) (t0 : Nat), s.domRun 1 = true → s.scn.fwd = f :: q → f.wait = some t0 → t0 + 64 ≤ s.now →
    exec .forwardRetry s = .next (({ s with scn := { s.scn with fwd := { f with wait := none } :: q } } : State).fwdSend)) ∧
  (∀ (s : State) (sts : Fin 16) (f : ScnFrame), s.domRun 1 = true → s.scn.frame = some f → sts ≠ 0 →
    exec (.scanXferErr sts) s = .next (((({ s with scn := { s.scn with frame := none } } : State).sf pgSCN 0x044 12 12 1).ev
      pgSCN 2).err pgSCN 0x4612 sts)) ∧
  (∀ (s : State) (w : By) (v : Word), s.Writes w .scn pgSCN 0x070 →
    exec (.ringConsume w v) s = .next ((if fldOf v 7 0 < s.nslot then s.w pgSCN 0x070 (v &&& 0xFF)
      else s.errValue pgSCN 0x070).answer .ok 0))

/-- Each of the island's 22 commands becomes the command in progress with BUSY set where none is, and is ignored where one is.
Rests on R348, R351, R352, R355, R356, R357, R358, R362, R363, R372, R381. -/
def Obligations.IslandTakesOneCommand : Prop :=
  ∀ (s : State) (a b c d : Word) (sl : Fin 32) (w : Fin 512) (n : Fin 8) (cl : Fin 4) (bits mode : Nat) (dec ok : Bool),
    s.domRun 1 = true → s.domRun 0 = true →
    (∀ e ∈ ([(.hash bits a b c, .hash bits a.toNat b.toNat c.toNat), (.hmac sl a b c, .hmac sl a.toNat b.toNat c.toNat),
        (.aes sl mode a b c d dec, .aes sl mode a.toNat b.toNat c.toNat d.toNat dec), (.ecdsaSign sl a b, .sign sl a.toNat b.toNat),
        (.ecdsaVerify sl a b, .verify sl a.toNat b.toNat), (.ecdh sl a b, .ecdh sl a.toNat b.toNat),
        (.ksSet sl a b, .ksSet sl a b.toNat), (.ksWrap sl a, .ksWrap sl a.toNat), (.ksUnwrap a, .ksUnwrap a.toNat),
        (.ksClear sl, .ksClear sl), (.ksFreeze, .ksFreeze), (.ksReadpub sl a, .ksReadPub sl a.toNat),
        (.otpRead w a, .otpRead w a.toNat), (.otpProg w a ok, .otpProg w a ok), (.lcProd, .lcProd), (.lcEnd, .lcEnd),
        (.arbAdvance cl, .arbAdvance cl), (.mcInc n, .mcInc n), (.timeSet a, .timeSet a), (.winSet n a, .winSet n a),
        (.winRaise n a, .winRaise n a)] : List (Instr × KCmd)),
      (s.sec.kop = none →
        exec e.1 s = .next (({ s with sec := { s.sec with
          kop := some e.2, eng := s.sec.eng ++ (if e.2.crypto then [.keeper] else []) } } : State).w pgSECK 0x064 1)) ∧
      (s.sec.kop.isSome = true → exec e.1 s = .next s)) ∧
    (∀ n, n = 256 + s.rd32 (a.toNat + 0x10) →
      let h := s.argRead a.toNat 256
      let r := h.1.argRead a.toNat n
      h.2 = true → r.2 = true → s.sec.kop = none → exec (.imgCheck a) s = .next (({ r.1 with
        sec := { r.1.sec with kop := some (.imgCheck (s.rdBytes a.toNat n)), eng := r.1.sec.eng ++ [.keeper] },
        icv := { s.icv with held := s.sealed_ } } : State).w pgSECK 0x064 1)) ∧
    (s.sec.kop.isSome = true → exec (.imgCheck a) s = .next s)

/-- CRYPTO_OP_DONE ends the command in progress, shows its result in KSTAT and leaves its effect. Rests on R348, R351, R353,
R354, R355, R356, R357, R358, R372, R381. -/
def Obligations.IslandCommandsComplete : Prop :=
  (∀ (s : State) (k : KCmd), s.domRun 1 = true → s.domRun 0 = true → s.sec.kop = some k →
    s.kReady k = true →
    ∃ t, exec .cryptoOpDone s = .next t ∧ t.sec.kop = none ∧ t.r pgSECK 0x064 = BitVec.ofNat 32 ((s.kRun k).2 * 256) ∧
      t.mem = (s.kRun k).1.mem ∧ t.sec.ks = (s.kRun k).1.sec.ks ∧ t.sec.otp = (s.kRun k).1.sec.otp ∧
      t.sec.low = (s.kRun k).1.sec.low ∧ t.r pgSEC 0x048 = (s.kRun k).1.r pgSEC 0x048) ∧
  (∀ (s : State) (k : KCmd), s.domRun 1 = true → s.domRun 0 = true → s.sec.kop = some k →
    (s.seam.hold = true ∧ (∃ n, k = .mcInc n) ∨ k.crypto = true ∧ s.sec.eng.head? ≠ some .keeper ∨
      k.random = true ∧ s.sec.trngUp = false) → exec .cryptoOpDone s = .next s) ∧
  (∀ (s : State) (n : Nat) (a v : Word) (src dst len w : Nat),
    (n < 32 → s.f pgSEC 0x040 2 2 = 0 → (s.kslot n).use 20 = false → (s.kRun (.ksClear n)).2 = 0 ∧
      (s.kRun (.ksClear n)).1.sec.ks = s.sec.ks.set n ⟨0, []⟩ ∧ (s.kRun (.ksClear n)).1.mem = s.mem) ∧
    (n < 32 → s.f pgSEC 0x040 2 2 = 1 → s.kRun (.ksClear n) = (s, 3)) ∧
    (let rd := s.argRead src (keyLen (fldOf a 3 0))
     n < 32 → rd.2 = true →
      (s.f pgSEC 0x040 2 2 = 0 → (s.kslot n).use 20 = false → attrOk n a = true → (s.kRun (.ksSet n a src)).2 = 0 ∧
        (s.kRun (.ksSet n a src)).1.sec.ks = s.sec.ks.set n ⟨a &&& 0x3FFF0F, rd.1.rdBytes src (keyLen (fldOf a 3 0))⟩) ∧
      (s.f pgSEC 0x040 2 2 = 1 → s.kRun (.ksSet n a src) = (rd.1, 3))) ∧
    (n < 32 → (s.argRead src (keyLen (fldOf a 3 0))).2 = false → (s.kRun (.ksSet n a src)).2 = 4 ∧
      (s.kRun (.ksSet n a src)).1.sec.ks = s.sec.ks) ∧
    ((s.kRun .ksFreeze).1.f pgSEC 0x040 2 2 = 1 ∧ (s.kRun .ksFreeze).2 = 0 ∧ (s.kRun .ksFreeze).1.sec = s.sec) ∧
    ((s.kRun (.timeSet v)).1.r pgSEC 0x048 = v ∧ (s.kRun (.timeSet v)).1.f pgSEC 0x040 1 1 = 1 ∧ (s.kRun (.timeSet v)).2 = 0) ∧
    (n < 8 → s.f pgSEC 0x040 (24 + n) (24 + n) = 0 → (s.kRun (.winSet n v)).2 = 0 ∧
      (s.kRun (.winSet n v)).1.r pgSEC (0x080 + 4 * n) = v ∧ (s.kRun (.winSet n v)).1.r pgSEC (0x0A0 + 4 * n) = 0xFFFF ∧
      (s.kRun (.winSet n v)).1.f pgSEC 0x040 (24 + n) (24 + n) = 1) ∧
    (n < 8 → s.sec.low.getD n 0 + 1 < 2 ^ 24 → s.kRun (.mcInc n) =
      ({ s with sec := { s.sec with low := s.sec.low.modify n fun x => x + 1 } }, 0)) ∧
    (w < 512 → thermoField w = none → s.otpDone w = false → (s.kRun (.otpProg w v true)).2 = 0 ∧
      (s.kRun (.otpProg w v true)).1.otp w = v ∧ (s.kRun (.otpProg w v true)).1.otpDone w = true ∧
      ∀ x, x ≠ w → (s.kRun (.otpProg w v true)).1.otp x = s.otp x) ∧
    (w < 512 → thermoField w = none → s.otpDone w = true → (s.kRun (.otpProg w v true)).2 = 6 ∧
      (s.kRun (.otpProg w v true)).1.sec.otp = s.sec.otp) ∧
    (w < 512 → ¬(4 ≤ w ∧ w < 12) → keeperMem s.grade dst 4 = true →
      s.kRun (.otpRead w dst) = (s.wrBytes dst (leBytes 4 (s.otp w).toNat), 0)) ∧
    (let rd := s.argRead src len
     rd.2 = true → keeperMem s.grade dst 32 = true →
      s.kRun (.hash 256 src len dst) = (rd.1.wrBytes dst (fitB 32 (Config.sha 256 (rd.1.rdBytes src len))), 0)) ∧
    (let dg := s.argRead src 32
     let sg := dg.1.argRead dst 64
     n < 32 → (s.kslot n).typ = 4 → dg.2 = true → sg.2 = true → s.kRun (.verify n src dst) =
      (sg.1, if Config.ecdsaVerify (s.kslot n).val (sg.1.rdBytes src 32) (sg.1.rdBytes dst 64) then 0 else 5)) ∧
    ((s.kRun .lcEnd).1.lifecycle = 2 ∧ (s.kRun .lcEnd).2 = 0 ∧ (s.kRun .lcEnd).1.sec.ks = s.sec.ks))

/-- The TRNG starts and fails, the boot ROM starts a stage or records why not, its window expires, and debug tokens are
challenged, checked, granted or refused. Rests on R349, R360, R361, R365, R366. -/
def Obligations.RandomBootAndDebug : Prop :=
  (∀ s : State, s.domRun 1 = true → s.domRun 0 = true → s.sec.trngUp = false → s.sec.trngFails < 3 →
    exec .trngStartupDone s =
      .next (({ s with sec := { s.sec with trngUp := true } } : State).sf pgSEC 0x040 4 4 1)) ∧
  (∀ s : State, s.domRun 1 = true → s.domRun 0 = true → s.sec.trngFails < 3 →
    ∃ t, exec .trngHealthFail s = .next t ∧ t.sec = { s.sec with trngUp := false, trngFails := s.sec.trngFails + 1 } ∧
      t.f pgSEC 0x040 4 4 = 0 ∧ t.f pgSEC 0x014 7 7 = 1 ∧ t.f pgSEC 0x028 15 0 = 0x6711 ∧ t.mem = s.mem) ∧
  (∀ s : State, s.domRun 1 = true → s.domRun 0 = true → s.Shape → s.sec.booted = false → s.sec.winSince = none →
    s.sec.retLost = false → s.lifecycle ≠ 2 →
    (s.bootStep 0x20000000 = none →
      let b := s.rdBytes 0x20000000 256
      ∃ t, exec .bootRomStart s = .next t ∧ (t.core 4).run = true ∧ (t.core 4).pc = i32 b 0x14 ∧ t.sec.booted = true ∧
        t.f pgSEC 0x040 11 10 = 1 ∧ t.mem = (s.wrBytes (i32 b 0x0C) (s.rdBytes (0x20000000 + 256) (i32 b 0x10))).mem ∧
        (t.kslot 1).val = (b.drop 0x40).take 64) ∧
    (∀ n, s.bootStep 0x20000000 = some n → (s.otp 0x70).getLsbD 0 = false →
      ∃ t, exec .bootRomStart s = .next t ∧ t.sec.winSince = some s.time ∧ t.f pgSEC 0x040 11 10 = 3 ∧
        t.f pgSEC 0x028 15 0 = 0x7713 ∧ t.r pgSEC 0x02C = BitVec.ofNat 32 n ∧ t.cores = s.cores ∧ t.mem = (s.bootBody 0x20000000).mem)) ∧
  (∀ (s : State) (t0 : Nat), s.domRun 1 = true → s.sec.winSince = some t0 → t0 + 8000000000 ≤ s.time →
    ∃ t, exec .bootUnlockWindowExpire s = .next t ∧ t.sec = { s.sec with winSince := none, booted := true } ∧ t.mem = s.mem ∧
      (s.ttgWatch = false → s.pwr.entering = none → t.pwr.entering = some 1)) ∧
  (∀ (s : State) (perm : BitVec 8), s.domRun 1 = true → s.domRun 0 = true → s.sec.tok = none →
    (3 ≤ s.sec.dbgFails → exec (.dbgRequest perm) s = .next (s.err pgSEC 0x7714 0)) ∧
    (s.sec.dbgFails < 3 → s.sec.trngUp = false → exec (.dbgRequest perm) s = .next s) ∧
    (s.sec.dbgFails < 3 → s.sec.trngUp = true → ∃ t nonce, exec (.dbgRequest perm) s = .next t ∧ nonce.length = 16 ∧
      t.sec = { s.sec with chal := some (perm.toNat, nonce) } ∧ t.resp.sts = .ok ∧
      t.resp.bytes = s.otpBytes 0 4 ++ nonce ++ [perm] ∧ t.mem = s.mem ∧ t.regs = s.regs)) ∧
  (∀ (s : State) (key sig : List Byte), s.domRun 1 = true → s.domRun 0 = true → s.sec.tok = none →
    (∀ p nonce, s.sec.chal = some (p, nonce) → exec (.dbgToken key sig) s =
      .next { s with sec := { s.sec with chal := none, tok := some ⟨p, nonce, key, sig⟩, eng := s.sec.eng ++ [.unlock] } }) ∧
    (s.sec.chal = none → s.sec.dbgFails < 3 → exec (.dbgToken key sig) s =
      .next (({ s with sec := { s.sec with tok := none, chal := none, dbgFails := s.sec.dbgFails + 1 } } : State).err pgSEC 0x7714 0))) ∧
  (∀ (s : State) (k : DbgTok), s.domRun 1 = true → s.domRun 0 = true → s.Shape → s.sec.tok = some k → s.engTurn .unlock = true →
    let good := Config.sha 256 k.key = s.otpBytes 0x20 8 ∧ Config.ecdsaVerify k.key (Config.sha 256
      ([0x5A, 0x4D, 0x44, 0x55] ++ s.otpBytes 0 4 ++ k.nonce ++ [BitVec.ofNat 8 k.perm])) k.sig = true
    ∃ t, exec .dbgVerifyDone s = .next t ∧ t.sec.tok = none ∧ t.mem = s.mem ∧
      (good → t.sec.unlocked = true ∧ t.sec.winSince = none ∧ t.kslot 2 = ⟨0x1004, k.key⟩ ∧
        t.f pgSEC 0x040 23 16 = (s.f pgSEC 0x040 23 16 ||| k.perm) % 256 ∧ t.f pgSEC 0x014 5 5 = 1 ∧
        t.sec.keeperDbg = (s.sec.keeperDbg || decide (k.perm / 4 % 2 = 1))) ∧
      (¬good → t.sec.unlocked = s.sec.unlocked ∧ t.sec.dbgFails = min 3 (s.sec.dbgFails + 1) ∧
        (Config.sha 256 k.key ≠ s.otpBytes 0x20 8 → t.sec.ks = s.sec.ks) ∧
        t.f pgSEC 0x028 15 0 = 0x7714))

/-- Closing an intake slot or VERIFY queues a credential; it is taken, checked, accepted with its window and a grant, or
refused; grants expire; SV_RND reads. Rests on R367, R371, R372, R373, R374, R375, R376, R377, R383. -/
def Obligations.CredentialsAndGrants : Prop :=
  (∀ (s : State) (w : By) (k : Fin 4) (v : Word), s.domRun 1 = true → s.bridge (pageDom pgSECIN) w.tnt = .pass →
    (w.tnt.val = 0 ∨ s.ten.quar.getLsbD w.tnt = false) → pgSECIN ∉ s.srst →
    (w.ni ≠ 14 → w.ni ≠ 16 → exec (.intakeSlotClose w k v) s = .next ((s.cntUp pgSECIN 0x044 31 16 1).answer .owner 0)) ∧
    ((w.ni = 14 ∨ w.ni = 16) → k.val ∉ s.sec.closed → s.domRun 0 = true →
      ∃ t, exec (.intakeSlotClose w k v) s = .next t ∧ t.sec = { s.sec with
          closed := s.sec.closed ++ [k.val],
          foreign := (if w.ni = 14 then [0x800 + 0x200 * k.val] else []) ++ s.sec.foreign.erase (0x800 + 0x200 * k),
          queue := s.sec.queue ++ [(.slot k, (s.w pgSECIN (0x800 + 0x200 * k) v).intakeBytes k)] } ∧
        t.f pgSECIN 0x040 k k = 1 ∧ t.f pgSECIN 0x044 15 0 = min 0xFFFF (s.f pgSECIN 0x044 15 0 + 1) ∧ t.resp.sts = .ok ∧
        t.mem = s.mem)) ∧
  (∀ (s : State) (e : CredSrc × List Byte) (q : List (CredSrc × List Byte)), s.domRun 1 = true → s.domRun 0 = true →
    s.sec.chk = none → s.sec.queue = e :: q →
    ∃ t, exec .credCheckStart s = .next t ∧ t.sec = { s.sec with chk := some e, queue := q, eng := s.sec.eng ++ [.sequencer] } ∧ t.mem = s.mem ∧
      (∀ k, k < 4 → e.1 = .slot k → t.f pgSECIN 0x040 k k = 0 ∧ t.f pgSECIN 0x040 (4 + k) (4 + k) = 1)) ∧
  (∀ (s : State) (k : Nat) (b : List Byte), s.domRun 1 = true → s.domRun 0 = true → k < 4 → s.sec.chk = some (.slot k, b) →
    s.engTurn .sequencer = true → s.seam.hold = false →
    let r := s.credReason true (if s.slotForeign k b then none else intakePayload b)
    ∃ t, exec .credCheckDone s = .next t ∧ t.sec.chk = none ∧ t.sec.closed = s.sec.closed.erase k ∧
      t.f pgSECIN 0x040 (4 + k) (4 + k) = 0 ∧ t.f pgSEC 0x060 3 0 = r.1 ∧ t.mem = s.mem ∧
      (r.1 ≠ 0 → t.f pgSEC 0x05C 31 16 = min 0xFFFF (s.f pgSEC 0x05C 31 16 + 1) ∧ t.f pgSEC 0x014 1 1 = 1 ∧
        t.f pgSEC 0x028 15 0 = 0x7715 ∧ t.sec.grants = s.sec.grants) ∧
      (∀ c, r = (0, some c) → t.f pgSEC 0x05C 15 0 = min 0xFFFF (s.f pgSEC 0x05C 15 0 + 1) ∧ t.f pgSEC 0x014 0 0 = 1 ∧
        ((s.mcInc 0).2 = 0 → t.sec.grants.length = s.sec.grants.length + 1) ∧ (c.kid < 8 → ∀ h m, ctrWindow (s.winH c.kid) (s.winMap c.kid) c.ctr = .ok (h, m) →
          t.r pgSEC (0x080 + 4 * c.kid) = BitVec.ofNat 32 h ∧ t.f pgSEC (0x0A0 + 4 * c.kid) 15 0 = m % 65536))) ∧
  (∀ (s : State) (w : By), s.Writes w .svc pgSVC 0x040 →
    (s.f pgSVC 0x044 0 0 = 1 → exec (.svVerify w) s = .next ((s.errBusy pgSVC 0x040).answer .ok 0)) ∧
    (s.f pgSVC 0x044 0 0 ≠ 1 → ∃ t b, exec (.svVerify w) s = .next t ∧ t.f pgSVC 0x044 0 0 = 1 ∧ t.f pgSVC 0x044 2 2 = 0 ∧
      t.sec = { s.sec with queue := s.sec.queue ++ [(.svc, b)] } ∧ b.length = min 448 (s.f pgSVC 0x048 8 0) ∧ t.mem = s.mem)) ∧
  (∀ (s : State) (w : By), s.Reads w .svc pgSVC 0x04C →
    exec (.svRndRead w) s = .next (if s.sec.trngUp then ((s.sf pgSVC 0x044 1 1 1).tookFree).answer .ok (Config.trng s.freeCtr)
      else ((s.sf pgSVC 0x044 1 1 0).err pgSEC 0x6711 0).answer .ok 0)) ∧
  (∀ (s : State) (g : Grant) (q : List Grant), s.domRun 1 = true → s.sec.grants = g :: q →
    800000 * s.f pgSEC 0x058 15 0 ≤ s.time - g.since →
    ∃ t, exec .grantTimeout s = .next t ∧ t.mem = s.mem ∧
      (0 < g.left → t.sec.grants = { g with left := g.left - 1, since := s.time } :: q) ∧
      (g.left = 0 → t.sec.grants = q ∧ t.f pgSEC 0x060 9 9 = 1 ∧ t.f pgSEC 0x014 3 3 = 1 ∧ t.f pgSEC 0x028 15 0 = 0x3716))

/-- DP_FRAME_LATCH takes the whole active set or refuses it with its reason; PPLL_LOCK starts the counter; DP_LINE_START
starts a line or a frame. Rests on R387, R388, R389, R391, R394, R395, R396, R409, R527. -/
def Obligations.DisplaysLatchAndSend : Prop :=
  (∀ (s : State) (p : Fin 2), s.Shape → s.domRun 1 = true → s.dpEn p = true →
    (s.dp p).run = false ∨ (s.dp p).lat = false ∧ (s.dp p).line + 1 = (s.view p (s.dp p).cur).vt →
    let v := s.view p (s.dpActive p)
    (s.dpRefuse p v = none → ∃ t, exec (.dpFrameLatch p) s = .next t ∧ (t.dp p).nxt = s.dpActive p ∧ (t.dp p).acc = true ∧
      (t.dp p).nxtV = s.vaultReady ∧ (t.dp p).cur = (s.dp p).cur ∧ (t.dp p).line = (s.dp p).line ∧ (t.dp p).lat = (s.dp p).run ∧
      t.f (pgDP p) 0x014 1 1 = 1 ∧ t.mem = s.mem ∧ t.act = s.act ∧
      (∀ q k, q < 2 → k < 32 → t.rst q k =
        if q ≠ p.val then s.rst q k
        else if v.slotEn k && decide (0 < s.ttgLvl p) then (if s.rst q k = 0 then 1 else if s.rst q k = 5 ∧ v.slotEn k = false then 0 else s.rst q k)
        else if s.rst q k = 1 ∨ s.rst q k = 2 ∨ (s.rst q k = 5 ∧ v.slotEn k = false) then 0 else s.rst q k)) ∧
    (∀ r k, s.dpRefuse p v = some (r, k) → ∃ t, exec (.dpFrameLatch p) s = .next t ∧
      t.dp p = { s.dp p with nxtV := s.vaultReady, lat := (s.dp p).run, rows := (t.dp p).rows } ∧
      (∀ q, q ≠ p.val → t.dp q = s.dp q) ∧ t.f (pgDP p) 0x044 2 2 = 1 ∧ t.f (pgDP p) 0x044 15 8 = r % 256 ∧ t.f (pgDP p) 0x028 15 0 = 0x1810 ∧
      t.r (pgDP p) 0x02C = BitVec.ofNat 32 (r + k * 256) ∧ t.f (pgDP p) 0x014 3 3 = 1 ∧ t.mem = s.mem ∧ t.act = s.act)) ∧
  (∀ (s : State) (p : Fin 2), s.Shape → s.domRun 1 = true → s.dpEn p = true → (s.dp p).acc = true → (s.dp p).relock = true →
    s.clk.xtal = true → s.clk.stopped = false →
    ∃ t, exec (.ppllLock p) s = .next t ∧ t.ppll p = true ∧ (t.dp p).run = true ∧ (t.dp p).relock = false ∧
      (t.dp p).cur = (s.dp p).nxt ∧ (t.dp p).line = (s.view p (s.dp p).nxt).vt - 1 ∧ (t.dp p).lat = false ∧ t.regs = s.regs ∧
      t.mem = s.mem) ∧
  (∀ (s : State) (p : Fin 2), s.Shape → s.domRun 1 = true → (s.dp p).run = true → (s.dp p).lat = true →
    exec (.dpFrameLatch p) s = .next s) ∧
  (∀ (s : State) (p : Fin 2) (late : BitVec 4), s.Shape → s.domRun 1 = true → s.dpEn p = true → (s.dp p).run = true → s.ppll p = true →
    ((s.view p (s.dp p).cur).vt ≤ (s.dp p).line + 1 → (s.dp p).relock = false →
      (p = 1 → (s.view 1 (s.dp 1).nxt).slave = true → (s.dp 0).run = true ∧ (s.dp 0).line = 0) →
      ∃ t, exec (.dpLineStart p late) s = .next t ∧ (t.dp p).line = 0 ∧ (t.dp p).cur = (s.dp p).nxt ∧ (t.dp p).mode = false ∧
        t.r (pgDP p) 0x048 = s.r (pgDP p) 0x048 + 1 ∧ t.f (pgDP p) 0x014 0 0 = 1 ∧ t.mem = s.mem ∧ t.act = s.act) ∧
    ((s.view p (s.dp p).cur).vt ≤ (s.dp p).line + 1 → (s.dp p).relock = true →
      ∃ t, exec (.dpLineStart p late) s = .next t ∧ (t.dp p).run = false ∧ t.ppll p = false ∧ t.regs = s.regs ∧ t.mem = s.mem) ∧
    ((s.dp p).line + 1 < (s.view p (s.dp p).cur).vt →
      (p = 1 → (s.view 1 (s.dp 1).cur).slave = true → (s.dp 0).run = true ∧ (s.dp 0).line = (s.dp 1).line + 1) →
      ∃ t, exec (.dpLineStart p late) s = .next t ∧ (t.dp p).line = (s.dp p).line + 1 ∧ (t.dp p).cur = (s.dp p).cur ∧
        t.r (pgDP p) 0x048 = s.r (pgDP p) 0x048 ∧
        (t.dp p).out = (if (s.view p (s.dp p).cur).vact ≤ (s.dp p).line + 1 then [] else
          let v := s.view p (s.dp p).cur
          let m := ((s.updDp p fun d => { d with line := (s.dp p).line + 1, lat := false }).planeFetch p v ((s.dp p).line + 1)).heldRows p
          (List.range v.hact).map fun x => s.lutOut p (s.dp p).curV v.od
            (s.compose m v (s.dp p).curV late.toNat (s.fcnt p) x ((s.dp p).line + 1))) ∧ t.mem = s.mem ∧ t.act = s.act))

/-- ICV_SEAL, ICV_OPEN and the format check set the vault's state; the Guard's decisions, missed frames, RELEASE and FORCE_OFF
move the regions. Rests on R400, R401, R405, R408, R409, R414. -/
def Obligations.VaultAndGuard : Prop :=
  (∀ (s : State) (w : By), s.Writes w .icv pgICV 0x040 →
    exec (.icvSeal w) s = .next ((s.sf pgICV 0x044 0 0 1).answer .ok 0) ∧
    ((s.proofOn 0 || s.proofOn 1) = true → exec (.icvOpen w) s = .next ((s.err pgICV 0x1812 0).answer .ok 0)) ∧
    ((s.proofOn 0 || s.proofOn 1) = false → ∃ t, exec (.icvOpen w) s = .next t ∧ t.f pgICV 0x044 3 0 = 0 ∧
      t.f pgICV 0x044 15 8 = 0 ∧ t.icv.held = false ∧ t.icv.chk = false ∧ t.mem = s.mem ∧
      ∀ p o, o < 4096 → (p ≠ pgICV ∨ o ≠ 0x044) → t.r p o = s.r p o)) ∧
  (∀ s : State, s.domRun 1 = true → s.icv.chk = true →
    (s.bodyOk = true → ∃ t, exec .icvFormatCheckDone s = .next t ∧ t.icv.chk = false ∧ t.f pgICV 0x044 2 2 = 1 ∧
      t.f pgICV 0x044 15 8 = s.nicon % 256 ∧ t.f pgICV 0x014 0 0 = 1 ∧ t.mem = s.mem) ∧
    (s.bodyOk = false → ∃ t, exec .icvFormatCheckDone s = .next t ∧ t.icv.chk = false ∧ t.f pgICV 0x044 2 2 = s.f pgICV 0x044 2 2 ∧
      t.f pgICV 0x044 3 3 = 1 ∧ t.f pgICV 0x028 15 0 = 0x4813 ∧ t.f pgICV 0x014 1 1 = 1 ∧ t.mem = s.mem)) ∧
  (∀ (s : State) (p : Fin 2) (g : GFrame), s.Shape → s.domRun 1 = true → s.ttgLvl p ≠ 0 → (s.dp p).run = true →
    (s.dp p).line = s.f pgTTG 0x048 (8 * p + 13) (8 * p + 8) → g ∈ (s.dp p).await → g.fseq = (s.fcnt p + 65535) % 65536 →
    (∀ h ∈ (s.dp p).await, h.fseq = g.fseq → h = g) → (g.regs.map Prod.fst).Nodup → (∀ r ∈ g.regs, r.1 < 32) →
    ∃ t, exec (.guardDecision p) s = .next t ∧ (t.dp p).await = (s.dp p).await.filter (fun h => h.fseq != g.fseq) ∧ t.mem = s.mem ∧
      (∀ k ex pc, (k, ex, pc) ∈ g.regs →
        t.rst p k = s.regionNext p k (guardReason (s.ttgLvl p) g k ex pc) ∧
        t.r pgTTG (0x200 + 0x80 * p + 4 * k) = BitVec.ofNat 32 ex ∧ t.r pgTTG (0x300 + 0x80 * p + 4 * k) = BitVec.ofNat 32 pc) ∧
      (∀ q k, q < 2 → k < 32 → (q ≠ p.val ∨ k ∉ g.regs.map Prod.fst) → t.rst q k = s.rst q k)) ∧
  (∀ (s : State) (p : Fin 2), s.Shape → s.domRun 1 = true → s.ttgLvl p ≠ 0 →
    (∃ k, k < 32 ∧ (s.view p (s.dp p).nxt).slotEn k = true) → s.missDue p = true →
    ∃ t, exec (.guardMissedFrame p) s = .next t ∧ (t.dp p).miss = (s.dp p).miss + 1 ∧ (t.dp p).blink = (s.dp p).blink + 1 ∧
      (t.dp p).await = (s.dp p).await ∧ t.mem = s.mem ∧
      (∀ q k, q < 2 → k < 32 → t.rst q k = if q = p.val ∧ (s.view p (s.dp p).nxt).slotEn k = true then s.regionNext p k 4 else s.rst q k)) ∧
  (∀ (s : State) (w : By), s.Writes w .ttg pgTTG 0x040 →
    (∀ p : Fin 2, ∃ t, exec (.ttgRelease w p) s = .next t ∧ t.mem = s.mem ∧
      ∀ q k, q < 2 → k < 32 → t.rst q k = if q = p.val ∧ s.rst q k = 3 then 4 else s.rst q k) ∧
    (w.tnt = 0 → ∃ t, exec (.forceOff w) s = .next t ∧ t.f pgTTG 0x014 4 4 = 1 ∧ t.mem = s.mem ∧
      ∀ q k, q < 2 → k < 32 → t.rst q k = 5) ∧
    (w.tnt ≠ 0 → exec (.forceOff w) s = .next (s.answer .ok 0)))

/-- The light drive's events and commands: PWM periods and pulses, matrix results, backlight scans, calibration, lamp faults,
clears and the hold's tick. Rests on R419, R420, R422, R424, R426, R428, R431, R432, R435, R436, R437, R438. -/
def Obligations.LampsAndBacklight : Prop :=
  (∀ (s : State) (g : Fin 16), s.Shape → s.domRun 1 = true →
    ∃ t, exec (.lampSync g) s = .next t ∧ (t.pwmT g).start = s.perNow ∧ (t.pwmT g).sub = 0 ∧ (t.pwmT g).pulses = (if s.seam.hold then (s.pwmT g).pulses else []) ∧ (t.pwmT g).f = s.ldF ∧
      (s.af pgMX 0x04C 3 0 = g → (t.pwmT 16).start = s.perNow ∧ (t.pwmT 16).sub = 0 ∧ (t.pwmT 16).pulses = if s.seam.hold then (s.pwmT 16).pulses else []) ∧
      (∀ u, u ≠ g.val → (u ≠ 16 ∨ s.af pgMX 0x04C 3 0 ≠ g) → t.pwmT u = s.pwmT u) ∧ t.mem = s.mem ∧ t.regs = s.regs) ∧
  (∀ (s : State) (k : Fin 17), s.Shape → s.domRun 1 = true →
    ((s.pwmT k).start + 10 * s.mxPer ≤ s.perNow →
      ∃ t, exec (.pwmPeriodStart k) s = .next t ∧ (t.pwmT k).sub = 0 ∧ (t.pwmT k).pulses = (if s.seam.hold then (s.pwmT k).pulses else []) ∧ (t.pwmT k).f = s.ldF ∧
        (t.pwmT k).held = ((s.pwmT k).held && s.seam.hold) ∧
        (t.pwmT k).start = (if s.perNow < (s.pwmT k).start + 20 * s.mxPer then (s.pwmT k).start + 10 * s.mxPer else s.perNow) ∧
        (∀ a b c, k = 16 → s.light.mxReady = true → s.light.mxAcc = some (a, b, c) →
          t.a pgMX 0x040 = a ∧ t.a pgMX 0x044 = b ∧ t.a pgMX 0x048 = c ∧ t.light.mxAcc = none) ∧
        (∀ u, u ≠ k.val → t.pwmT u = s.pwmT u) ∧ t.mem = s.mem ∧ t.regs = s.regs) ∧
    ((s.pwmT k).sub < s.mxNsub → (s.pwmT k).start + 10 * s.subStart (s.pwmT k).sub ≤ s.perNow →
      ∃ t, exec (.pwmSubPeriodStart k) s = .next t ∧
        t.pwmT k = { s.pwmT k with
          sub := (s.pwmT k).sub + 1, pulses := if (s.pwmT k).held then (s.pwmT k).pulses else s.pulsesOf k (s.pwmT k).f (s.pwmT k).sub } ∧
        (∀ u, u ≠ k.val → t.pwmT u = s.pwmT u) ∧ t.mem = s.mem ∧ t.regs = s.regs)) ∧
  (∀ (s : State) (arg : BitVec 16), s.domRun 1 = true → ∃ t, exec (.blScan arg) s = .next t ∧ t.light.scan =
    some (s.ltb.frame, s.ltb.line, s.phase, if arg.toNat % 64 < 48 then arg.toNat % 64 / 12 else 0) ∧ t.mem = s.mem ∧ t.regs = s.regs) ∧
  (∀ (s : State) (x : Word × Nat × Nat × Nat) (ph : Nat), s.domRun 1 = true → s.scanOn = true → s.light.scan = some x → s.blPhases = some ph →
    256 * s.vtAct ≤ ph → s.vtAct ≠ 0 → exec .scanMissRepeat s = .next (({ s with
      light := { s.light with scan := some (x.1 + 1, x.2) } } : State).ev pgBLD 2)) ∧
  (∀ s : State, s.domRun 1 = true → (∀ e ∈ s.light.calPend, e.1 < 256) →
    let last := fun (i : Nat) (l : List (Nat × Word × Nat)) =>
      (((l.filter fun e => e.1 == i).getLast?).map fun e => e.2.1).getD (s.r pgCAL (0x800 + 4 * i))
    (∃ t, exec .laceLatchEvent s = .next t ∧ t.lace.latch = some (s.ltb.frame.toNat % 65536, s.laceRep) ∧
      t.light.calPend = s.light.calPend.filter (fun e => decide (s.time ≤ e.2.2)) ∧
      t.f pgCAL 0x044 15 8 = (s.f pgCAL 0x044 15 8 + 1) % 256 ∧
      (∀ i, i < 256 → t.r pgCAL (0x800 + 4 * i) = last i (s.light.calPend.filter fun e => decide (e.2.2 < s.time))) ∧
      t.mem = s.mem) ∧
    ∀ w : By, s.Writes w .cal pgCAL 0x040 → ∃ t, exec (.calNow w) s = .next t ∧ t.light.calPend = [] ∧
      (∀ i, i < 256 → t.r pgCAL (0x800 + 4 * i) = last i s.light.calPend) ∧ t.mem = s.mem) ∧
  (∀ (s : State) (n : Fin 24), s.domRun 1 = true →
    (s.seam.hold = false → ∃ t, exec (.sinkHeadroomLow n) s = .next t ∧ t = (s.setW1 pgLD 0x0E8 n).ev pgLD 1 ∧
      t.f pgLD 0x0E8 n n = 1 ∧ t.f pgLD 0x014 1 1 = 1) ∧
    (s.seam.hold = true → exec (.sinkHeadroomLow n) s = .next (s.pdPend (.headroom n)))) ∧
  (∀ (s : State) (c : Fin 156) (short : Bool), s.domRun 1 = true → s.hushed c = false → s.pwr.low = false → s.seam.hold = true →
    (short = true → c.val < 0x98) → exec (.lampFaultDeclared c short) s = .next (s.pdPend (.lamp c short))) ∧
  (∀ (s : State) (c : Fin 156) (short : Bool), s.domRun 1 = true → s.hushed c = false → s.pwr.low = false → s.seam.hold = false →
    (short = true → c.val < 0x98) →
    ∃ t, exec (.lampFaultDeclared c short) s = .next t ∧ t.lampFaulty c = true ∧ (short = true → t.lampShort c = true) ∧
      t.f pgFG 0x014 0 0 = 1 ∧ t.grpFault (s.lampGroup c) = (s.grpFault (s.lampGroup c) || s.grpPolicy (s.lampGroup c) == 2) ∧
      (let p := if c.val < 0x80 then pgMX else if c.val < 0x98 then pgLD else pgBLD
       t.f p 0x028 15 0 = 0x8913 ∧ t.r p 0x02C = BitVec.ofNat 32 c) ∧ t.mem = s.mem ∧ t.act = s.act) ∧
  (∀ (s : State) (c : Fin 156), 0x98 ≤ c.val → exec (.lampFaultDeclared c true) s = .next s) ∧
  (∀ (s : State) (r : Fin 8), s.domRun 1 = true → ∃ t, exec (.rowOvercurrent r) s = .next t ∧ t.light.rowOff.testBit r = true ∧
    (∀ c, 16 * r.val ≤ c → c < 16 * r.val + 16 → ∀ x ∈ (t.pwmT 16).pulses, x.code ≠ c) ∧ t.mem = s.mem ∧ t.act = s.act ∧
    (s.seam.hold = false → (∀ c, 16 * r.val ≤ c → c < 16 * r.val + 16 → t.lampFaulty c = true) ∧
      t.f pgMX 0x014 2 2 = 1 ∧ t.f pgMX 0x014 3 3 = 1 ∧ t.f pgMX 0x028 15 0 = 0x8913) ∧
    (s.seam.hold = true → t.light.pend = s.light.pend ++ [.row r] ∧ t.regs = s.regs)) ∧
  (∀ s : State, s.domRun 1 = true → s.light.mxBusy = true →
    (s.adm.mxRes = some true → ∃ t, exec .mxAdmissionResult s = .next t ∧ t.light.mxBusy = false ∧ t.light.mxAcc = s.light.mxNext ∧
      t.light.mxReady = !s.adm.effSrc.contains 1 ∧ t.adm.mxRes = none ∧ t.f pgMX 0x050 2 2 = 0 ∧ t.f pgMX 0x014 0 0 = 1 ∧ t.mem = s.mem ∧ t.act = s.act) ∧
    (s.adm.mxRes = some false → ∃ t, exec .mxAdmissionResult s = .next t ∧ t.light.mxBusy = false ∧ t.light.mxAcc = s.light.mxAcc ∧
      t.light.mxNext = none ∧ t.adm.mxRes = none ∧ t.f pgMX 0x050 2 2 = 1 ∧ t.f pgMX 0x050 7 4 = 0 ∧ t.f pgMX 0x014 1 1 = 1 ∧
      t.mem = s.mem ∧ t.act = s.act)) ∧
  (∀ (s : State) (v : Fin 256), s.domRun 1 = true → s.af pgBLD 0x040 21 16 + 2 < v →
    (s.seam.hold = false → exec (.boostOvp v) s =
      .next ((((s.sf pgBLD 0x044 1 1 1).sf pgBLD 0x044 23 16 v).ev pgBLD 0).err pgBLD 0x6911 v)) ∧
    (s.seam.hold = true → ∃ t, exec (.boostOvp v) s = .next t ∧ t.light.pend = s.light.pend ++ [.ovp v] ∧ t.regs = s.regs ∧
      t.light.bl = s.light.bl.map BlHold.darken)) ∧
  (∀ (s : State) (w : By) (v : Word), s.Writes w .bld pgBLD 0x040 → exec (.ovpclr w v) s =
    .next (((s.plain pgBLD 0x040 (withBit v 31)).sf pgBLD 0x044 1 1 0).answer .ok 0)) ∧
  (∀ (s : State) (w : By) (g : Fin 16) (v : Word), s.Writes w .fg pgFG (0x080 + 4 * g) → exec (.fgCfgWrite w g v) s =
    .next ((if s.fgMay w.tnt g then s.plain pgFG (0x080 + 4 * g) v else s.violation 4 w.tnt w.ni g 0 true).answer .ok 0)) ∧
  (∀ (s : State) (w : By) (m : BitVec 16), s.Writes w .fg pgFG 0x040 → (∀ g, g < 16 → m.getLsbD g = true → s.fgMay w.tnt g = true) →
    ∃ t, exec (.fgClr w m) s = .next t ∧ (∀ g, g < 16 → m.getLsbD g = true →
      t.grpFault g = (s.grpFault g && s.grpFaulty g) ∧ (t.grpFault g = true → t.light.clrPend.testBit g = true)) ∧
      (∀ g, g < 16 → m.getLsbD g = false → s.light.clrPend.testBit g = false → t.grpFault g = s.grpFault g) ∧ t.mem = s.mem ∧ t.act = s.act) ∧
  (∀ (s : State) (w : By), s.Writes w .ld pgLD 0x0F0 → ∃ t, exec (.ldFclr w) s = .next t ∧ (∀ c, c < 0x9C → t.lampFaulty c = false) ∧
    t.light.eyeFault = [] ∧ (∀ g, g < 16 → t.grpFault g = (s.grpFault g && !s.light.clrPend.testBit g)) ∧ t.mem = s.mem ∧ t.act = s.act) ∧
  (∀ s : State, s.domRun 1 = true → s.seam.hold = true → s.light.holdAt + 800000 ≤ s.perNow →
    let lamps := if s.shedding then [] else s.fbLamps.filter (fun c => !s.lampShort c && decide (c < 0x98))
    exec .seamHoldFallbackTick s = .next { s with
      light := { s.light with
        hold := lamps, holdAt := s.perNow } })

/-- LACE_PUSH, FLUSH, ONLINE_WRITE and POP act on the queues; the bus starts, answers, times out and polls as R442 to R447
say. Rests on R440, R442, R443, R444, R446, R447, R453. -/
def Obligations.LaceCommandsAndAnswers : Prop :=
  (∀ (s : State) (w : By) (v : Word), s.Writes w .lace pgLACE 0x050 →
    let addr := s.f pgLACE 0x048 5 0
    let reg := s.f pgLACE 0x048 23 16
    let rd := s.f pgLACE 0x048 8 8 == 1
    let may := w.tnt = 0 ∨ rd = true ∨ (if addr = 0 then reg = 0xFE else s.fgHolder (s.eyeGroup addr) = w.tnt)
    (61 ≤ addr → exec (.lacePush w v) s = .next ((s.errValue pgLACE 0x048).answer .ok 0)) ∧
    (addr < 61 → ¬may → exec (.lacePush w v) s =
      .next ((s.violation 4 w.tnt w.ni (if addr = 0 then 0 else s.eyeGroup addr) 0 true).answer .ok 0)) ∧
    (addr < 61 → may → 32 ≤ s.lace.queue.length → exec (.lacePush w v) s =
      .next (((s.errCap pgLACE 0x050).ev pgLACE 4).answer .ok 0)) ∧
    (addr < 61 → may → s.lace.queue.length < 32 → exec (.lacePush w v) s = .next (({ s with
      lace := { s.lace with queue := s.lace.queue ++ [⟨.queued, addr, rd, reg, s.f pgLACE 0x04C 15 0, s.f pgLACE 0x04C 31 16⟩] }
      } : State).answer .ok 0)) ∧
    (let n := 16 - s.lace.resp.length - b2n (match s.lace.bus with | some b => b.tx.kind == .queued | none => false)
     ∃ t, exec (.laceFlush w) s = .next t ∧ t.lace.queue = s.lace.queue.drop n ∧
      t.lace.resp = s.lace.resp ++ ((s.lace.queue.take n).filter fun x => decide (x.kind = .queued)).map (fun x =>
        (BitVec.ofNat 32 (2 ^ 31 + x.addr * 2 ^ 24 + 4 * 256), BitVec.ofNat 32 (x.tag * 65536))) ∧ t.mem = s.mem ∧ t.act = s.act)) ∧
  (∀ (s : State) (w : By) (i : Fin 2) (v : Word), s.Writes w .lace pgLACE (0x060 + 4 * i) →
    let o := 0x060 + 4 * i.val
    let u := v &&& onlMask o
    ∃ t, exec (.laceOnlineWrite w i v) s = .next t ∧ t.r pgLACE o = s.r pgLACE o &&& u ∧
      (∀ j, j < 32 → u.getLsbD j = true → (s.r pgLACE o).getLsbD j = false → 32 * i.val + j ∈ t.lace.sync) ∧
      (∀ a ∈ s.lace.sync, a ∈ t.lace.sync) ∧ t.mem = s.mem ∧ t.act = s.act) ∧
  (∀ (s : State) (w : By), s.Reads w .lace pgLACE 0x058 →
    (s.lace.resp = [] → exec (.laceResponsePop w) s = .next (s.answer .ok 0)) ∧
    ∀ a b q, s.lace.resp = (a, b) :: q → exec (.laceResponsePop w) s =
      .next (({ s with lace := { s.lace with resp := q } } : State).answer .ok b)) ∧
  (∀ s : State, s.domRun 1 = true → s.lace.idle + 12 * s.laceBit ≤ s.perNow →
    (∀ tx l, s.lace.bus = none → s.laceNext = some (tx, l) → (tx.kind = .queued → tx.addr ≠ 0 → s.eyeOnline tx.addr = true) →
      ∃ t b, exec .laceTransactionStart s = .next t ∧ t.lace.bus = some b ∧ b.tx = tx ∧ b.tries = 1 ∧ b.wait = true ∧
        b.frame = laceFrame tx.addr (t.eyeSeq tx.addr) tx.reg tx.data tx.read ∧ b.ends = s.perNow + frameBits b.frame * s.laceBit ∧
        t.lace.queue = l.queue ∧ t.mem = s.mem ∧ t.act = s.act) ∧
    (∀ tx l, s.lace.bus = none → s.laceNext = some (tx, l) → tx.kind = .queued → tx.addr ≠ 0 → s.eyeOnline tx.addr = false →
      ∃ t, exec .laceTransactionStart s = .next t ∧ t.lace.bus = none ∧ t.lace.queue = l.queue ∧ t.lace.seq = s.lace.seq ∧
        t.lace.resp = l.resp ++ [(BitVec.ofNat 32 (2 ^ 31 + tx.addr * 2 ^ 24 + 3 * 256), BitVec.ofNat 32 (tx.tag * 65536))] ∧ t.mem = s.mem) ∧
    (∀ b, s.lace.bus = some b → b.wait = true → exec .laceTransactionStart s = if b.tx.addr = 0
      then exec .laceTransactionStart (({ s with lace := { s.lace with bus := none } } : State).laceDone b.tx 0 0 0) else .next s) ∧
    (∀ b, s.lace.bus = some b → b.wait = false →
      ∃ t u, exec .laceTransactionStart s = .next t ∧ t.lace.bus = some u ∧ u.tx = b.tx ∧ u.frame = b.frame ∧ u.tries = b.tries + 1 ∧
        u.wait = true ∧ t.f pgLACE 0x070 15 0 = min 0xFFFF (s.f pgLACE 0x070 15 0 + 1) ∧ t.mem = s.mem) ∧
    (s.lace.bus = none → s.laceNext = none → exec .laceTransactionStart s = .next s)) ∧
  (∀ (s : State) (b : LaceBus) (bytes : List Byte), s.domRun 1 = true → s.lace.bus = some b → b.tx.addr < 61 →
    let r := s.awlLace 1 (ib bytes 1 / 4) (b2n b.tx.read) b.tx.reg bytes
    ((r.2.1 = none ∨ b.wait = false ∨ b.tx.addr = 0 ∨ s.seam.hold = true) → exec (.laceResponse bytes) s = .next r.1) ∧
    (b.wait = true → b.tx.addr ≠ 0 → s.seam.hold = false →
    (∀ x, r.2.1 = some x → x.length = 6 → x.head? = some 0x5A → ib x 5 = crc8 ((x.drop 1).take 4) → ib x 1 / 4 = b.tx.addr →
      ib x 1 / 2 % 2 = s.eyeSeq b.tx.addr →
      ∃ t, exec (.laceResponse bytes) s = .next t ∧ t.lace.bus = none ∧ t.lace.idle = s.perNow ∧
        (b.tx.kind = .sync → t.eyeOnline b.tx.addr = true) ∧
        (b.tx.kind = .queued → t.lace.resp = s.lace.resp ++ [(BitVec.ofNat 32 (2 ^ 31 + b.tx.addr * 2 ^ 24 + ib x 2 * 2 ^ 16 +
          ib x 1 % 2 * 256), BitVec.ofNat 32 (b.tx.tag * 65536 + (ib x 3 * 256 + ib x 4)))]) ∧ t.mem = s.mem ∧ t.act = s.act) ∧
    (∀ x, r.2.1 = some x → x.head? ≠ some 0x5A → exec (.laceResponse bytes) s = .next r.1) ∧
    (∀ x, r.2.1 = some x → x.head? = some 0x5A → (x.length ≠ 6 ∨ ib x 5 ≠ crc8 ((x.drop 1).take 4)) →
      ∃ t, exec (.laceResponse bytes) s = .next t ∧
        t.lace.bus = (if b.tries ≤ s.laceRetry then some { b with wait := false } else none) ∧ t.mem = s.mem))) ∧
  (∀ (s : State) (b : LaceBus) (rb : Bool), s.domRun 1 = true → s.lace.bus = some b → b.wait = true → b.tx.addr < 61 →
    (rb = true ∧ s.perNow ≤ b.ends ∨ rb = false ∧ b.tx.addr ≠ 0 ∧ b.ends + s.laceRtmo * s.laceBit ≤ s.perNow) →
    (b.tries ≤ s.laceRetry → exec (.laceResponseTimeout rb) s = .next { s with
      lace := { s.lace with idle := s.perNow, bus := some { b with wait := false } } }) ∧
    (s.laceRetry < b.tries → ∃ t, exec (.laceResponseTimeout rb) s = .next t ∧ t.lace.bus = none ∧ t.eyeOnline b.tx.addr = false ∧
      t.f pgLACE 0x044 29 24 = b.tx.addr ∧ t.f pgLACE 0x014 1 1 = 1 ∧ t.f pgLACE 0x028 15 0 = 0x3914 ∧
      t.r pgLACE 0x02C = BitVec.ofNat 32 b.tx.addr ∧
      t.f pgLACE 0x074 15 0 = min 0xFFFF (s.f pgLACE 0x074 15 0 + 1) ∧ t.mem = s.mem)) ∧
  (∀ s : State, s.domRun 1 = true → s.f pgLACE 0x068 7 0 ≠ 0 → s.lace.pollAt + s.f pgLACE 0x068 7 0 * 800000 ≤ s.perNow →
    exec .lacePoll s = .next { s with
      lace := { s.lace with pollAt := s.perNow, polls := ((List.range 60).map (· + 1)).filter s.eyeOnline } })

/-- Alignment, reference loss, LANEPLL, low power, the PRBS checker and the eye scan move a lane's state as R456 to R479 say.
Rests on R456, R458, R459, R460, R461, R462, R478, R479, R481. -/
def Obligations.LanesTrainSleepAndTest : Prop :=
  (∀ (s : State) (n : Fin 4), s.Shape → s.domRun 1 = true → s.laneOn n = true → (s.ln n).st ≠ .down →
    ∃ t, exec (.laneAligned n) s = .next t ∧ (t.ln n).aligned = true ∧ (t.ln n).farLp = false ∧
      (t.ln n).st = (if (s.ln n).st = .training then .run else (s.ln n).st) ∧
      ((s.ln n).aligned = false → t.f (pgLANE n) 0x014 0 0 = 1) ∧ t.mem = s.mem) ∧
  (∀ (s : State) (n : Fin 4) (errs : Nat), s.Shape → s.domRun 1 = true → s.laneOn n = true → (s.ln n).aligned = true →
    ∃ t, exec (.laneAlignLost n errs) s = .next t ∧ (t.ln n).aligned = false ∧ (t.lk n).up = false ∧
      (t.ln n).st = (if (s.lk n).up ∨ (s.ln n).st = .run then .training else (s.ln n).st) ∧
      t.f (pgLANE n) 0x04C 15 0 = min 0xFFFF (s.f (pgLANE n) 0x04C 15 0 + errs) ∧
      t.f (pgLANE n) 0x04C 31 16 = min 0xFFFF (s.f (pgLANE n) 0x04C 31 16 + 1) ∧ t.f (pgLANE n) 0x014 1 1 = 1 ∧
      ((s.lk n).up = true → t.f (pgLINK n) 0x044 26 24 = 1 ∧ t.f (pgLINK n) 0x028 15 0 = 0x3A11) ∧ t.mem = s.mem) ∧
  (∀ s : State, s.Shape → s.domRun 1 = true → s.domRun 10 = true →
    (s.f (pgLANE 0) 0x0C0 0 0 = 1 → s.f (pgLANE 0) 0x0C4 4 4 = 0 → ∃ t, exec .refloss s = .next t ∧ t.clk.lanePll = false ∧
      t.f (pgLANE 0) 0x0C4 4 4 = 1 ∧ t.f (pgLANE 0) 0x014 3 3 = 1 ∧ t.f (pgLANE 0) 0x028 15 0 = 0x6A10 ∧
      (∀ n, n < 4 → lanePresent s.grade n = true → (t.ln n).st = .down ∧ (t.ln n).aligned = false ∧ (t.lk n).up = false) ∧ t.mem = s.mem) ∧
    (s.clk.lanePll = false → s.clk.stopped = false → (s.f (pgLANE 0) 0x0C0 0 0 = 1 ∨ s.clk.xtal = true) →
      ∃ t, exec .lanepllLock s = .next t ∧ t.clk.lanePll = true ∧ t.f (pgLANE 0) 0x0C4 4 4 = 0 ∧ t.mem = s.mem ∧
        ∀ n, n < 4 → (t.ln n).st = if lanePresent s.grade n && s.laneEn n then .training else (s.ln n).st)) ∧
  (∀ (s : State) (arg : BitVec 16), s.Shape → s.domRun 1 = true → ∃ t, exec (.laneLpEvent arg) s = .next t ∧ t.mem = s.mem ∧
    ∀ n, n < 4 → t.ln n = if s.laneOn n && arg.toNat.testBit n && (s.ln n).st == .run then { s.ln n with
        st := if arg.getLsbD 4 then .dormant else .idle, win := some (arg.toNat / 256 % 256) } else s.ln n) ∧
  (∀ (s : State) (w : By) (n : Fin 4), s.Shape → s.Writes w .lane (pgLANE n) 0x048 → s.laneOn n = true →
    (∀ dorm : Bool, ∃ t, exec (if dorm then .lnLpDormant w n else .lnLpIdle w n) s = .next t ∧ t.mem = s.mem ∧ t.ln n =
      if (s.ln n).st = .run then { s.ln n with
        st := if dorm then .dormant else .idle, win := none } else s.ln n) ∧
    ∃ t, exec (.lnLpExit w n) s = .next t ∧ t.mem = s.mem ∧ t.regs = s.regs ∧ t.ln n =
      if ((s.ln n).st = .idle ∨ (s.ln n).st = .dormant) ∧ (s.ln n).exiting = false then { s.ln n with
        exiting := true, win := none } else s.ln n) ∧
  (∀ (s : State) (n : Fin 4), s.Shape → s.domRun 1 = true →
    (s.laneOn n = true → (s.ln n).aligned = true → exec (.farLpEntry n) s = .next { s with
      lanes := s.lanes.modify n fun l => { l with farLp := true } }) ∧
    ((s.ln n).win = some 0 → ((s.ln n).st = .idle ∨ (s.ln n).st = .dormant) → (s.ln n).exiting = false →
      exec (.lpWindowEnd n) s = .next { s with
        lanes := s.lanes.modify n fun l => { l with exiting := true, win := none } }) ∧
    (s.laneOn n = true → (s.ln n).exiting = true → ∃ t, exec (.lpExitDone n) s = .next t ∧ (t.ln n).st = .run ∧
      (t.ln n).exiting = false ∧ (t.ln n).hold = [] ∧ t.mem = s.mem) ∧
    (s.laneOn n = true → s.af (pgLANE n) 0x060 1 1 = 1 → exec (.prbsCheckerLock n) s = .next { s with
      lanes := s.lanes.modify n fun l => { l with prbs := true } })) ∧
  (∀ (s : State) (n : Fin 4) (errs bits : Nat), s.Shape → s.domRun 1 = true →
    (s.laneOn n = true → (s.ln n).prbs = true → ∃ t, exec (.prbsLockLost n errs bits) s = .next t ∧ (t.ln n).prbs = false ∧
      (t.r (pgLANE n) 0x068).toNat = min 0xFFFFFFFF ((s.r (pgLANE n) 0x068).toNat + errs) ∧
      (t.r (pgLANE n) 0x06C).toNat + t.f (pgLANE n) 0x070 15 0 * 2 ^ 32 =
        min (2 ^ 48 - 1) ((s.r (pgLANE n) 0x06C).toNat + s.f (pgLANE n) 0x070 15 0 * 2 ^ 32 + bits) ∧
      t.f (pgLANE n) 0x014 5 5 = 1 ∧ t.mem = s.mem) ∧
    ((s.ln n).esBusy = true → ∃ t, exec (.esDone n errs) s = .next t ∧ (t.ln n).esBusy = false ∧ (t.ln n).esDone = true ∧
      (t.r (pgLANE n) 0x088).toNat = min errs 0xFFFFFFFF ∧ t.f (pgLANE n) 0x014 4 4 = 1 ∧ t.mem = s.mem)) ∧
  (∀ (s : State) (w : By) (n : Fin 4) (v : Word), s.Shape →
    (s.Writes w .lane (pgLANE n) 0x060 →
      let u := s.plain (pgLANE n) 0x060 (withBit v 4)
      exec (.prbsInj1 w n v) s = .next ((if u.txPrbs n then u.updLn n fun l => { l with inj := l.inj + 1 } else u).answer .ok 0)) ∧
    (s.Writes w .lane (pgLANE n) 0x080 →
      ((s.ln n).esBusy = true → exec (.esStart w n v) s = .next ((s.errBusy (pgLANE n) 0x080).answer .ok 0)) ∧
      ((s.ln n).esBusy = false → fldOf v 15 9 ≠ 64 → 16 ≤ fldOf v 21 16 → fldOf v 21 16 ≤ 40 →
        ((s.ln n).aligned = true ∨ (s.ln n).prbs = true) → ∃ t, exec (.esStart w n v) s = .next t ∧ (t.ln n).esBusy = true ∧
          (t.ln n).esDone = false ∧ t.r (pgLANE n) 0x088 = 0 ∧ t.mem = s.mem)))

/-- PANE_SEGMENT_SEND, PANE_REPORT_RECEIVE, HOST_VSTART, HOST_VLINE and HIN_REL send, pass, store and free video as R465 to
R468 say. Rests on R397, R406, R407, R464, R465, R467, R468, R481. -/
def Obligations.PaneAndHostVideo : Prop :=
  (∀ (s : State) (n : Fin 4) (x p : Nat), s.Shape → s.domRun 1 = true → s.laneOn n = true → s.laneProto n = 1 → s.txPrbs n = false →
    s.panePipe n = some p → (s.dp p).run = true → names (s.view p (s.dp p).cur) n = true →
    let v := s.view p (s.dp p).cur
    let seg := 16 * s.af (pgPANE n) 0x040 6 0
    let px := ((s.dp p).out.drop x).take seg
    let k := panePkt 1 (s.dp p).line x (packPixels v.od px)
    px ≠ [] → seg ≠ 0 → x % seg = 0 →
    ((s.ln n).st = .run → exec (.paneSegmentSend n x) s = .next (s.laneSend n [k])) ∧
    ((s.ln n).st ≠ .run → (s.ln n).st ≠ .down →
      let full := 2 ≤ ((s.ln n).hold.filter fun u => laneCode 1 u == 1).length
      ∃ t, exec (.paneSegmentSend n x) s = .next t ∧ (t.ln n).hold = (s.ln n).hold ++ (if full then [] else [k]) ∧
        t.f (pgPANE n) 0x04C 15 0 = min 0xFFFF (s.f (pgPANE n) 0x04C 15 0 + if full then 1 else 0) ∧ t.mem = s.mem)) ∧
  (∀ (s r : State) (n : Fin 4) (b x : List Byte) (bad bd : Bool), s.Shape → s.Arrives r n 1 (.pkt b bad) (.pkt x bd) →
    (paneOk x bd = false → ∃ t, exec (.paneReportReceive n b bad) s = .next t ∧ t.dps = s.dps ∧
      t.f (pgPANE n) 0x048 31 16 = min 0xFFFF (s.f (pgPANE n) 0x048 31 16 + 1) ∧ t.f (pgPANE n) 0x014 1 1 = 1 ∧ t.mem = s.mem) ∧
    (paneOk x bd = true → ib x 0 = 0x81 → ∃ t, exec (.paneReportReceive n b bad) s = .next t ∧
      t.f (pgPANE n) 0x048 15 0 = min 0xFFFF (s.f (pgPANE n) 0x048 15 0 + 1) ∧ t.f (pgPANE n) 0x014 0 0 = 1 ∧ t.mem = s.mem ∧
      ∀ p, s.panePipe n = some p →
        let f := leNat ((x.drop 8).take 4) % 65536
        ((∃ g ∈ (s.dp p).await, g.fseq = f ∧ g.report = none) → r.beforeDeadline p f = true → ∀ g ∈ (t.dp p).await, g.fseq = f → g.report ≠ none) ∧
        (((∀ g ∈ (s.dp p).await, g.fseq = f → g.report ≠ none) ∨ r.beforeDeadline p f = false) → t.dps = s.dps ∧ t.f pgTTG 0x014 3 3 = 1 ∧
          t.f pgTTG (0x058 + 4 * p) 31 16 = min 0xFFFF (s.f pgTTG (0x058 + 4 * p) 31 16 + 1)))) ∧
  (∀ (s r : State) (n : Fin 4) (b x : List Byte) (bad bd : Bool), s.Shape → s.Arrives r n 2 (.pkt b bad) (.pkt x bd) → ib b 0 = 2 →
    (paneOk x bd = false → ∃ t, exec (.hostVstart n b bad) s = .next t ∧ t.ln n = s.ln n ∧
      t.f (pgPANE n) 0x04C 31 16 = min 0xFFFF (s.f (pgPANE n) 0x04C 31 16 + 1) ∧ t.mem = s.mem) ∧
    (paneOk x bd = true → ib x 0 = 2 → (ib x 14 = 8 ∨ ib x 14 = 10) →
      let w (i : Nat) : Nat := leNat ((x.drop (8 + i)).take 2)
      let nbuf := s.af (pgPANE n) 0x040 13 12 + 1
      let buf := (s.ln n).next % nbuf
      let held := match (s.ln n).host with
        | some g => if g.drop then (s.ln n).held else (s.ln n).held ++ [g.buf]
        | none => (s.ln n).held
      ∃ t, exec (.hostVstart n b bad) s = .next t ∧ (t.ln n).host = some ⟨held.contains buf, buf, w 0, w 2, w 4, ib x 14, [], []⟩ ∧
        (t.ln n).held = held ∧ (t.ln n).next = (if held.contains buf then (s.ln n).next else (buf + 1) % nbuf) ∧
        (held.contains buf = true → t.f (pgPANE n) 0x014 3 3 = 1 ∧
          t.f (pgPANE n) 0x04C 31 16 = min 0xFFFF (s.f (pgPANE n) 0x04C 31 16 + 1)) ∧ t.mem = s.mem)) ∧
  (∀ (s r : State) (n : Fin 4) (b x : List Byte) (bad bd : Bool), s.Shape → s.Arrives r n 2 (.pkt b bad) (.pkt x bd) → ib b 0 = 1 →
    paneOk x bd = true → ib x 0 = 1 →
    (((s.ln n).host = none ∨ (s.ln n).host.map HostFrame.drop = some true) → ∃ t, exec (.hostVline n b bad) s = .next t ∧ t.ln n = s.ln n ∧
      t.f (pgPANE n) 0x04C 31 16 = min 0xFFFF (s.f (pgPANE n) 0x04C 31 16 + 1) ∧ t.mem = s.mem) ∧
    ∀ f, (s.ln n).host = some f → f.drop = false →
      let y := leNat ((x.drop 4).take 2)
      let c := leNat ((x.drop 6).take 2)
      let px := hostPixels f.od ((x.drop 8).take (x.length - 12))
      let k := px.length / 4
      let g := { f with got := f.got ++ [(y, c, k)], part := f.part ++ [⟨y, c, px⟩] }
      ((f.vact ≤ y ∨ f.hact < c + k ∨ (s.a (pgPANE n) 0x070).toNat < 4 * (c + k)) → ∃ t, exec (.hostVline n b bad) s = .next t ∧
        t.ln n = s.ln n ∧ t.f (pgPANE n) 0x04C 31 16 = min 0xFFFF (s.f (pgPANE n) 0x04C 31 16 + 1) ∧ t.f (pgPANE n) 0x014 4 4 = 1 ∧
        t.mem = s.mem) ∧
      (y < f.vact → c + k ≤ f.hact → 4 * (c + k) ≤ (s.a (pgPANE n) 0x070).toNat → ∃ t, exec (.hostVline n b bad) s = .next t ∧
        (lineWhole g y = false → t.mem = s.mem ∧ (t.ln n).host = some g ∧ (t.ln n).held = (s.ln n).held) ∧
        (lineWhole g y = true →
          t.mem = ((r.cntUp (pgLANE n) 0x04C 15 0 0).hostStore n (s.a (pgPANE n) (0x060 + 4 * f.buf)).toNat
            (g.part.filter fun e => e.y == y)).mem ∧
          (if y + 1 = f.vact
           then (t.ln n).host = none ∧ (t.ln n).held = (s.ln n).held ++ [f.buf] ∧ t.f (pgPANE n) 0x014 2 2 = 1
           else (t.ln n).host = some { g with part := g.part.filter fun e => e.y != y } ∧ (t.ln n).held = (s.ln n).held)))) ∧
  (∀ (s : State) (w : By) (n : Fin 4) (m : BitVec 4), s.Writes w .pane (pgPANE n) 0x074 → exec (.hinRel w n m) s =
    .next (({ s with lanes := s.lanes.modify n fun l => { l with
      held := l.held.filter fun k => !(m.zeroExtend 32).getLsbD k } } : State).answer .ok 0))

/-- Data packets, ACK, NAK, INIT, the timers, RETRAIN, CLR and aperture accesses act on a Welt Link as R470 to R477 say. Rests
on R470, R471, R472, R473, R474, R475, R476, R477, R481. -/
def Obligations.WeltLinkPackets : Prop :=
  (∀ (s r : State) (n : Fin 4) (b x : List Byte) (bad bd : Bool), s.Shape → s.Arrives r n 3 (.pkt b bad) (.pkt x bd) → (s.lk n).up = true →
    let q := leNat (x.take 2) % 4096
    let e := (s.lk n).e
    ((bd = true ∨ dataPktOk x = false) → ∃ t, exec (.wlDataPacket n b bad) s = .next t ∧ (t.lk n).e = e ∧ (t.lk n).nak = some e ∧
      t.f (pgLINK n) 0x04C 31 16 = min 0xFFFF (s.f (pgLINK n) 0x04C 31 16 + if (s.lk n).nak = some e then 0 else 1) ∧ t.mem = s.mem) ∧
    (bd = false → dataPktOk x = true → q = e % 4096 → ∃ t, exec (.wlDataPacket n b bad) s = .next t ∧ (t.lk n).e = (e + 1) % 4096 ∧
      (t.lk n).up = true ∧ ((x.getD 1 0).toNat / 16 = 1 → let h := hdrOf ((x.drop 4).take 16)
        (t.lk n).pend = match (s.lk n).pend.find? (fun p => p.src == h.src && p.seq == h.seq) with
          | some _ => (s.lk n).pend.filter fun p => !(p.src == h.src && p.seq == h.seq)
          | none => (s.lk n).pend)) ∧
    (bd = false → dataPktOk x = true → q ≠ e % 4096 → (e + 4096 - q) % 4096 < 2048 → e < 4096 →
      ∃ t, exec (.wlDataPacket n b bad) s = .next t ∧ (t.lk n).e = e ∧
        t.f (pgLINK n) 0x050 15 0 = min 0xFFFF (s.f (pgLINK n) 0x050 15 0 + 1) ∧ t.mem = s.mem)) ∧
  (∀ (s r : State) (n : Fin 4) (b x : List Byte), s.Shape → s.Arrives r n 3 (.ctl b) (.ctl x) → ctlOk x = true →
    (ib b 1 / 16 = 1 → ctlType x = 1 →
      ((s.lk n).up = true → (∀ u, r.linkAck n (ctlSeq x) = some u → exec (.wlAck n b) s = .next (u.linkPump n)) ∧
        (r.linkAck n (ctlSeq x) = none → ∃ t, exec (.wlAck n b) s = .next t ∧ t.lk n = { s.lk n with stray := (s.lk n).stray + 1 } ∧
          t.mem = s.mem)) ∧
      ((s.lk n).up = false → ctlSeq x = 0xFFF → ∃ t, exec (.wlAck n b) s = .next t ∧ (t.lk n).ack = true ∧
        (t.lk n).up = (s.lk n).init ∧ ((s.lk n).init = true → (t.lk n).e = 0 ∧ t.f (pgLINK n) 0x014 0 0 = 1) ∧ t.mem = s.mem)) ∧
    (ib b 1 / 16 = 2 → ctlType x = 2 → (s.lk n).up = true → ∀ u, r.linkAck n (ctlSeq x) = some u →
      ((∀ h ∈ (u.lk n).held, h.tries < s.af (pgLINK n) 0x040 25 24) → exec (.wlNak n b) s =
        .next ((u.updLk n fun k => { k with again := (u.lk n).held.map LHeld.lseq }).linkPump n)) ∧
      ((∃ h ∈ (u.lk n).held, s.af (pgLINK n) 0x040 25 24 ≤ h.tries) → ∃ t, exec (.wlNak n b) s = .next t ∧ (t.lk n).up = false ∧
        t.f (pgLINK n) 0x044 26 24 = 2 ∧ (t.ln n).st ≠ .run ∧ t.mem = s.mem)) ∧
    (ib b 1 / 16 = 3 → ctlType x = 3 →
      ((s.lk n).up = true → ∃ t, exec (.wlInit n b) s = .next t ∧ (t.lk n).up = false ∧ t.f (pgLINK n) 0x044 26 24 = 3 ∧
        (t.ln n).st = .training ∧ t.mem = s.mem) ∧
      ((s.lk n).up = false → ∃ t, exec (.wlInit n b) s = .next t ∧ (t.lk n).init = true ∧ (t.lk n).up = (s.lk n).ack ∧
        ((s.lk n).ack = true → (t.lk n).e = 0 ∧ t.f (pgLINK n) 0x014 0 0 = 1) ∧ t.mem = s.mem))) ∧
  (∀ (s : State) (n : Fin 4), s.Shape → s.domRun 1 = true →
    (s.laneOn n = true → s.laneProto n = 3 → (s.ln n).st = .run → (s.lk n).up = false →
      exec (.wlInitTimer n) s = .next ((s.addCtl n 3 0xFFF).linkPump n)) ∧
    (∀ h l, (s.lk n).held = h :: l → (s.lk n).up = true → h.sent + 800 * s.af (pgLINK n) 0x040 15 8 ≤ s.time →
      ((∀ g ∈ h :: l, g.tries < s.af (pgLINK n) 0x040 25 24) → exec (.wlReplayTimeout n) s =
        .next ((s.updLk n fun k => { k with again := (h :: l).map LHeld.lseq }).linkPump n)) ∧
      ((∃ g ∈ h :: l, s.af (pgLINK n) 0x040 25 24 ≤ g.tries) → ∃ t, exec (.wlReplayTimeout n) s = .next t ∧ (t.lk n).up = false ∧
        t.f (pgLINK n) 0x044 26 24 = 2 ∧ t.mem = s.mem))) ∧
  (∀ (s : State) (w : By) (n : Fin 4), s.Shape → s.Writes w .link (pgLINK n) 0x058 →
    ((s.lk n).up = true → ∃ t, exec (.retrain w n) s = .next t ∧ (t.lk n).up = false ∧ (t.lk n).held = [] ∧
      t.f (pgLINK n) 0x044 26 24 = 4 ∧ t.f (pgLINK n) 0x028 15 0 = 0x3A11 ∧ (t.ln n).st = .training ∧ t.mem = s.mem) ∧
    ((s.lk n).up = false → exec (.retrain w n) s = .next (s.answer .ok 0)) ∧
    exec (.lkClr w n) s = .next ((((s.w (pgLINK n) 0x04C 0).w (pgLINK n) 0x050 0).w (pgLINK n) 0x054 0).answer .ok 0)) ∧
  (∀ (s : State) (w : By) (n : Fin 4) (seq : BitVec 12) (cls : Fin 3) (wr : Bool) (o : Fin 2048) (v : Word), s.Shape → s.domRun 1 = true →
    s.bridge 10 w.tnt = .pass → s.pageAllows ⟨w.tnt, w.ni, pgLINK n, 0x800 + o, 4, wr, v⟩ = true → o.val % 4 = 0 →
    lanePresent s.grade n = true → s.srst.contains (pgLINK n) = false →
    (w.tnt.val = 0 ∨ s.ten.quar.getLsbD w.tnt = false) →
    ((∃ p ∈ (s.lk n).pend, p.src = w.ni.val ∧ p.seq = seq.toNat) → exec (.apertureAccess w n seq cls wr o v) s = .next s) ∧
    ((∀ p ∈ (s.lk n).pend, ¬(p.src = w.ni.val ∧ p.seq = seq.toNat)) →
      (s.af (pgLINK n) 0x040 5 0 ≤ (s.lk n).pend.length → exec (.apertureAccess w n seq cls wr o v) s = .next (s.answer .refused 0)) ∧
      ((s.lk n).pend.length < s.af (pgLINK n) 0x040 5 0 → ∃ t k, exec (.apertureAccess w n seq cls wr o v) s = .next t ∧
        (t.lk n).pend = (s.lk n).pend ++ [⟨w.ni, seq.toNat, k, none⟩] ∧ (t.lk n).up = (s.lk n).up ∧ t.mem = s.mem)))

/-- CAN's requests, frames, errors and bus-off, LIN's frames and pulses, and the wake sources act as R484 to R490 and R501
say. Rests on R485, R486, R487, R488, R489, R490, R500, R501, R506, R517, R529. -/
def Obligations.CanLinAndWakes : Prop :=
  (∀ (s : State) (w : By) (n : Fin 2) (m : BitVec 16), s.Shape →
    (s.Writes w .can (pgCAN n) 0x600 → ∃ t, exec (.canTxRequest w n m) s = .next t ∧ (t.can n).req = (s.can n).req ++
        (List.range 16).filter (fun b => m.getLsbD b && !(n == 0 && b == 15) && !(s.can n).req.contains b) ∧
      (t.can n).cur = (if s.canInit n = true ∨ s.af (pgCAN n) 0x040 4 4 = 1 ∨ (s.can n).mode = 2 then none
        else if (s.can n).cur.isSome then (s.can n).cur else t.canBest n) ∧ t.mem = s.mem ∧ t.act = s.act) ∧
    (s.Writes w .can (pgCAN n) 0x604 → ∃ t, exec (.canTxAbort w n m) s = .next t ∧
      (t.can n).req = (s.can n).req.filter (fun b => !(m.getLsbD b && !(n == 0 && b == 15))) ∧ t.regs = s.regs ∧ t.mem = s.mem) ∧
    (s.Writes w .can (pgCAN n) 0x850 → exec (.rxfPop w n) s = .next (({ s with
      cans := s.cans.modify n fun c => { c with fifo := c.fifo.drop 1 } } : State).answer .ok 0)) ∧
    (∀ v : Word, s.Writes w .can (pgCAN n) 0x040 → let u := s.plain (pgCAN n) 0x040 (withBit v 8)
      exec (.canRec w n v) s = .next ((if (u.can n).mode = 2 then u.updCan n fun c => { c with recov := true } else u).answer .ok 0)) ∧
    (s.Writes w .can (pgCAN 0) 0x918 → exec (.canWkstatClr w) s = .next ((s.w (pgCAN 0) 0x918 0).answer .ok 0)) ∧
    (∀ v : Word, s.Writes w .lin pgLIN 0x040 → exec (.linWktx w v) s = .next (((s.plain pgLIN 0x040 (withBit v 4)).updLin fun l => { l with
      wake := s.perNow + 800000 }).answer .ok 0)) ∧
    (s.Writes w .gpio pgGPIO 0x108 → exec (.wkClr w) s =
      .next ((if w.tnt = 0 then s.sf pgGPIO 0x108 3 0 0 else s.errLocked pgGPIO 0x108).answer .ok 0))) ∧
  (∀ (s : State) (n : Fin 2) (b : Nat), s.Shape → s.domRun 1 = true → (s.can n).cur = some b → b < 16 → s.canCut n = false →
    ∃ t, exec (.canTxDone n) s = .next t ∧ t.f (pgCAN n) 0x608 b b = 1 ∧ t.f (pgCAN n) 0x014 0 0 = 1 ∧
      (t.can n).txe = (s.can n).txe - 1 ∧ ((n ≠ 0 ∨ b ≠ 15) → (t.can n).req = (s.can n).req.filter (fun x => x != b) ∧ t.mem = s.mem)) ∧
  (∀ (s : State) (n : Fin 2) (f : CanFrame) (lost : Bool) (dt dr : Nat), s.Shape → s.domRun 1 = true → s.canInit n = false →
    (s.can n).mode ≠ 2 →
    (s.canCut n = true → exec (.canFrameReceived n f) s = .next s ∧
      ∀ b, (s.can n).cur = some b → exec (.canTxDone n) s = exec (.canBusError n false 8 0) s) ∧
    (s.canCut n = false → ∃ t, exec (.canFrameReceived n f) s = .next t ∧ t.mem = s.mem ∧
      (s.canFilter n f = none → (t.can n).fifo = (s.can n).fifo) ∧
      (s.canFilter n f ≠ none → (s.can n).fifo.length < 32 → (t.can n).fifo = (s.can n).fifo ++ [(f, s.ltb.frame, s.posLP)] ∧
        t.f (pgCAN n) 0x014 1 1 = 1) ∧
      (s.canFilter n f ≠ none → 32 ≤ (s.can n).fifo.length → (t.can n).fifo = (s.can n).fifo ∧ t.f (pgCAN n) 0x014 2 2 = 1 ∧
        t.f (pgCAN n) 0x054 31 16 = min 0xFFFF (s.f (pgCAN n) 0x054 31 16 + 1))) ∧
    (∃ t, exec (.canBusError n lost dt dr) s = .next t ∧ (t.can n).req = (s.can n).req ∧ (t.can n).fifo = (s.can n).fifo ∧
      (lost = true → (t.can n).txe = (s.can n).txe ∧ (t.can n).rxe = (s.can n).rxe) ∧
      (lost = false → (t.can n).txe = (s.can n).txe + dt ∧ (t.can n).rxe = min 255 ((s.can n).rxe + dr) ∧
        t.f (pgCAN n) 0x054 15 0 = min 0xFFFF (s.f (pgCAN n) 0x054 15 0 + 1)) ∧ t.mem = s.mem) ∧
    (256 ≤ (s.can n).txe → ∃ t, exec (.canBusoff n) s = .next t ∧ (t.can n).mode = 2 ∧ (t.can n).req = [] ∧ (t.can n).cur = none ∧
      (t.can n).recov = (s.af (pgCAN n) 0x040 5 5 == 1) ∧ t.f (pgCAN n) 0x014 3 3 = 1 ∧ t.f (pgCAN n) 0x028 15 0 = 0x4B10 ∧ t.mem = s.mem)) ∧
  (∀ (s : State) (n : Fin 2), s.Shape → s.domRun 1 = true → (s.can n).mode = 2 → (s.can n).recov = true →
    ∃ t, exec (.canBusoffRecovered n) s = .next t ∧ (t.can n).mode = 0 ∧ (t.can n).recov = false ∧ (t.can n).txe = 0 ∧
      (t.can n).rxe = 0 ∧ t.regs = s.regs ∧ t.mem = s.mem) ∧
  (∀ s : State, s.domRun 1 = true → s.lin.slot = none →
    (s.linCommander = true → s.af pgLIN 0x040 1 1 = 1 → ∀ e, (match s.lin.entry with
        | none => e = 0
        | some d => s.lin.at_ + 800000 * fldOf (s.linSch d) 15 8 ≤ s.perNow ∧
          e = if 32 ≤ d + 1 ∨ fldOf (s.linSch (d + 1)) 15 8 = 0 then 0 else d + 1) → fldOf (s.linSch e) 15 8 ≠ 0 →
      exec .linScheduleSlot s = .next { s with
        lin := { s.lin with entry := some e, at_ := s.perNow, slot := some (fldOf (s.linSch e) 3 0) } }) ∧
    (s.linCommander = false → ∀ (pid : BitVec 8) (k : Nat), ((List.range 16).find? fun j =>
        decide (linPid (fldOf (s.linSlot j) 5 0) = pid.toNat) && decide (1 ≤ fldOf (s.linSlot j) 11 8) &&
          decide (fldOf (s.linSlot j) 11 8 ≤ 8)) = some k →
      exec (.linHeaderReceived pid) s = .next { s with lin := { s.lin with slot := some k } })) ∧
  (∀ (s : State) (k sent : Nat) (data : List Byte), s.domRun 1 = true → s.lin.slot = some k → k < 16 →
    let errs := if s.seam.hold then sent ||| (if fldOf (s.linSlot k) 12 12 = 1 then 1 else 16) else sent
    ∃ t, exec (.linFrameDone sent data) s = .next t ∧ t.lin = { s.lin with slot := none } ∧ t.f pgLIN 0x044 3 0 = k ∧
      t.f pgLIN 0x044 12 8 = errs % 32 ∧ t.f pgLIN 0x014 (if errs % 32 = 0 then 0 else 1) (if errs % 32 = 0 then 0 else 1) = 1 ∧
      t.mem = s.mem ∧
      let m := data.take (fldOf (s.linSlot k) 11 8)
      let words (u : State) : List Byte := leBytes 4 (u.r pgLIN (0x084 + 0x10 * k)).toNat ++ leBytes 4 (u.r pgLIN (0x088 + 0x10 * k)).toNat
      (errs % 32 = 0 → fldOf (s.linSlot k) 12 12 = 0 → m.length ≤ 8 → words t = m ++ (words s).drop m.length) ∧
      ((errs % 32 ≠ 0 ∨ fldOf (s.linSlot k) 12 12 = 1) → words t = words s)) ∧
  (∀ (s : State) (cause : Fin 3) (f : CanFrame), (s.pwr.asleep.or s.pwr.entering) = some 3 → s.pwr.bor = false →
    (let q (i : Nat) : Word := s.pwr.swk.getD i 0
     s.f pgPWR 0x048 1 1 = 1 → (if cause = 2 then (q 0).getLsbD 1 = true else (q 0).getLsbD 0 = true ∧ (cause = 0 → f.fdf = false ∧
        f.ide = (q 1).getLsbD 29 ∧ (q 1 ^^^ BitVec.ofNat 32 f.id) &&& q 2 &&& 0x1FFFFFFF = 0 ∧ f.dlc = fldOf (q 3) 3 0 ∧
        ∃ i, i < 8 ∧ i < f.data.length ∧ (f.data.getD i 0).toNat &&& fldOf (q (4 + i / 4)) (8 * (i % 4) + 7) (8 * (i % 4)) ≠ 0)) →
      (s.pwr.asleep.isSome = true → ∃ t, exec (.canSelectiveWake cause f) s = .next t ∧ t.pwr.asleep = none ∧ t.doms = runDoms ∧
        t.pwr.wcause = 2 ^ 5 ∧ t.f (pgCAN 0) 0x918 cause cause = 1 ∧ t.f (pgCAN 0) 0x014 5 5 = 1) ∧
      (s.pwr.asleep = none → exec (.canSelectiveWake cause f) s =
        .next { s with pwr := { s.pwr with latched := s.pwr.latched ++ [(5, cause.val)] } })) ∧
    (s.f pgPWR 0x048 2 2 = 1 →
      (s.pwr.asleep.isSome = true → ∃ t, exec .linBusWake s = .next t ∧ t.pwr.asleep = none ∧ t.doms = runDoms ∧
        t.pwr.wcause = 2 ^ 6 ∧ t.f pgLIN 0x014 2 2 = 1) ∧
      (s.pwr.asleep = none → exec .linBusWake s = .next { s with pwr := { s.pwr with latched := s.pwr.latched ++ [(6, 0)] } }))) ∧
  (∀ (s : State) (i : Fin 4) (level : Bool), s.wake.getLsbD i ≠ level →
    (∃ t, exec (.wakeEdge i level) s = .next t ∧ t.wake.getLsbD i = level) ∧
    (s.wkOn i = true → (s.wkEdge i).testBit (if level then 0 else 1) = true →
      (s.pwr.asleep.isSome = true → s.pwr.bor = false → ∃ t, exec (.wakeEdge i level) s = .next t ∧ t.pwr.asleep = none ∧ t.doms = runDoms ∧
        t.pwr.wcause = 2 ^ i.val ∧ t.f pgGPIO 0x108 i i = 1) ∧
      (s.pwr.asleep = none → s.pwr.entering.isSome = true → exec (.wakeEdge i level) s = .next { s with
        wake := s.wake ^^^ BitVec.ofNat 4 (2 ^ i.val), pwr := { s.pwr with latched := s.pwr.latched ++ [(i.val, 0)] } })))

/-- The I2C, SPI, XSPI, GPIO and converter commands queue, move, store and report what R491 to R499 and R502 to R506 say.
Rests on R491, R492, R493, R495, R496, R497, R499, R502, R503, R504, R505, R506. -/
def Obligations.SerialPinsAndConverter : Prop :=
  (∀ (s : State) (w : By) (n : Fin 3) (adr : BitVec 12) (k : BitVec 8) (b : Byte), s.Shape →
    (s.Writes w .i2c (pgI2C n) 0x048 →
      let cs : List (Instr × (Nat × Nat × Nat)) := [(.i2cStart w n adr, (0, 0, adr.toNat)), (.i2cWrite w n k, (1, k.toNat, 0)),
        (.i2cRead w n k, (2, k.toNat, 0)), (.i2cStop w n, (3, 0, 0))]
      (s.af (pgI2C n) 0x040 0 0 = 1 → (s.i2c n).cmds.length < 15 → ∀ c ∈ cs, ∃ t, exec c.1 s = .next t ∧
        (t.i2c n).cmds = (s.i2c n).cmds ++ [c.2] ∧ (t.i2c n).rx = (s.i2c n).rx ∧ (c.2.1 = 0 → t.f (pgI2C n) 0x054 4 1 = 0) ∧ t.mem = s.mem) ∧
      (s.af (pgI2C n) 0x040 0 0 = 1 → 15 ≤ (s.i2c n).cmds.length → ∀ c ∈ cs, exec c.1 s = .next ((s.errCap (pgI2C n) 0x048).answer .ok 0)) ∧
      (s.af (pgI2C n) 0x040 0 0 = 0 → ∀ c ∈ cs, exec c.1 s = .next (s.answer .ok 0))) ∧
    (s.Writes w .i2c (pgI2C n) 0x04C →
      ((s.i2c n).tx.length < 8 → exec (.i2cTxdWrite w n b) s = .next (((s.updI2c n fun x => { x with tx := x.tx ++ [b] }).i2cShift n).answer .ok 0)) ∧
      (8 ≤ (s.i2c n).tx.length → exec (.i2cTxdWrite w n b) s = .next ((s.errCap (pgI2C n) 0x04C).answer .ok 0))) ∧
    (s.Reads w .i2c (pgI2C n) 0x050 →
      ((s.i2c n).rx = [] → exec (.i2cRxdRead w n) s = .next (s.answer .ok 0)) ∧
      (∀ c l, (s.i2c n).rx = c :: l → exec (.i2cRxdRead w n) s = .next (({ s with
        i2cs := s.i2cs.modify n fun x => { x with rx := l } } : State).answer .ok (BitVec.ofNat 32 (c.toNat + 2 ^ 8)))))) ∧
  (∀ (s : State) (n : Fin 3) (o : Fin 4) (data : List Byte) (k : Nat), s.Shape → s.domRun 1 = true →
    (∀ c m a l, (s.i2c n).cmds = (c, m, a) :: l →
      (o = 0 → c = 1 → (s.i2c n).out < m → exec (.i2cCmdDone n o data) s = .next s) ∧
      (o = 0 → (c = 1 → m ≤ (s.i2c n).out) → ∃ t, exec (.i2cCmdDone n o data) s = .next t ∧ (t.i2c n).cmds = l ∧
        (t.i2c n).rx = (if c = 2 then (s.i2c n).rx ++ data.take m else (s.i2c n).rx) ∧ t.f (pgI2C n) 0x014 0 0 = 1 ∧ t.mem = s.mem) ∧
      (o ≠ 0 → exec (.i2cCmdDone n o data) s = .next (((({ s with
        i2cs := s.i2cs.modify n fun x => { x with cmds := [], out := 0 } } : State).sf (pgI2C n) 0x054 o o 1).ev (pgI2C n) 1)))) ∧
    (s.af (pgI2C n) 0x040 31 24 ≠ 0 → exec (.i2cStuck n) s = .next ((({ s with
      i2cs := s.i2cs.modify n fun x => { x with cmds := [], out := 0 } } : State).sf (pgI2C n) 0x054 4 4 1).ev (pgI2C n) 2)) ∧
    (s.af (pgI2C n) 0x040 0 0 = 0 → ∀ wr : Bool, ∃ t, exec (.i2cTargetAddressed n wr data k) s = .next t ∧
      (t.i2c n).rx = (if wr then (s.i2c n).rx ++ data else (s.i2c n).rx) ∧
      (t.i2c n).tx = (if wr then (s.i2c n).tx else (s.i2c n).tx.drop k) ∧ t.f (pgI2C n) 0x014 3 3 = 1 ∧ t.mem = s.mem)) ∧
  (∀ (s : State) (w : By) (n : Fin 2) (v : Word), s.Shape →
    let x : Word := BitVec.ofNat 32 (v.toNat % 2 ^ (s.af (pgSPI n) 0x040 8 4 + 1))
    (s.Writes w .spi (pgSPI n) 0x044 →
      ((s.spi n).tx.length < 16 → exec (.spiTxdWrite w n v) s = .next (({ s with
        spis := s.spis.modify n fun y => { y with tx := y.tx ++ [x] } } : State).answer .ok 0)) ∧
      (16 ≤ (s.spi n).tx.length → exec (.spiTxdWrite w n v) s = .next ((s.errCap (pgSPI n) 0x044).answer .ok 0))) ∧
    (s.Reads w .spi (pgSPI n) 0x048 →
      ((s.spi n).rx = [] → exec (.spiRxdRead w n) s = .next (s.answer .ok 0)) ∧
      (∀ c l, (s.spi n).rx = c :: l → exec (.spiRxdRead w n) s = .next (({ s with
        spis := s.spis.modify n fun y => { y with rx := l } } : State).answer .ok c))) ∧
    (s.domRun 1 = true → (s.af (pgSPI n) 0x040 0 0 = 1 → (s.spi n).tx ≠ []) → ∃ t, exec (.spiFrameDone n v) s = .next t ∧
      (t.spi n).tx = (s.spi n).tx.drop 1 ∧ (t.spi n).rx = (if 16 ≤ (s.spi n).rx.length then (s.spi n).rx else (s.spi n).rx ++ [x]) ∧
      t.f (pgSPI n) 0x050 15 0 = min 0xFFFF (s.f (pgSPI n) 0x050 15 0 + if (s.spi n).tx = [] then 1 else 0) ∧
      t.f (pgSPI n) 0x050 31 16 = min 0xFFFF (s.f (pgSPI n) 0x050 31 16 + if 16 ≤ (s.spi n).rx.length then 1 else 0) ∧ t.mem = s.mem)) ∧
  (∀ (s : State) (w : By) (v : Word), s.Writes w .xspi pgXSPI 0x048 →
    (s.xspi.cmd.isSome = true → exec (.xsCmdGo w v) s = .next ((s.errBusy pgXSPI 0x048).answer .ok 0)) ∧
    (s.xspi.cmd = none → 256 < fldOf v 24 16 → exec (.xsCmdGo w v) s = .next ((s.errValue pgXSPI 0x048).answer .ok 0)) ∧
    (s.xspi.cmd = none → fldOf v 24 16 ≤ 256 → exec (.xsCmdGo w v) s = .next (({ s with
      xspi := { s.xspi with cmd := some (withBit v 0) } } : State).answer .ok 0))) ∧
  (∀ s : State, s.domRun 1 = true →
    (∀ c data fl, s.xspi.cmd = some c → ∃ t, exec (.xspiCmdDone data fl) s = .next t ∧ t.xspi = ⟨none, fldOf c 3 3 == 1⟩ ∧
      t.f pgXSPI 0x014 0 0 = 1 ∧ (fl = [] → t.mem = s.mem) ∧
      (∀ a b, fl = [(a, b)] → a + b.length ≤ 0x10000000 → (∀ i, i < b.length → t.rdByte (0x20000000 + a + i) = b.getD i 0) ∧
        ∀ x, (x < 0x20000000 + a ∨ 0x20000000 + a + b.length ≤ x) → t.rdByte x = s.rdByte x)) ∧
    (s.xspi.cmd = none → exec .xspiPollReady s = .next { s with xspi := { s.xspi with busy := false } })) ∧
  (∀ (s : State) (w : By) (m : Word), (s.Writes w .gpio pgGPIO 0x048 → exec (.gpSet w m) s =
      .next ((s.w pgGPIO 0x044 (s.r pgGPIO 0x044 ||| (m &&& ~~~(s.freshBits pgGPIO 0x044)))).answer .ok 0)) ∧
    (s.Writes w .gpio pgGPIO 0x04C → exec (.gpClr w m) s =
      .next ((s.w pgGPIO 0x044 (s.r pgGPIO 0x044 &&& ~~~(m &&& ~~~(s.freshBits pgGPIO 0x044)))).answer .ok 0))) ∧
  (∀ (s : State) (pin : Fin 32) (arg : BitVec 16) (level : Bool),
    (s.domRun 1 = true → exec (.gpioEvent pin arg) s =
      .next (((s.evArrive 0xC pin arg.toNat).sf pgGPIO 0x044 pin pin (arg.toNat % 2)).touch pgGPIO 0x044 pin)) ∧
    (s.pins.getLsbD pin ≠ level → ∃ t, exec (.gpioInputEdge pin level) s = .next t ∧ t.pins.getLsbD pin = level ∧ t.mem = s.mem ∧
      (∀ j, j ≠ pin.val → t.pins.getLsbD j = s.pins.getLsbD j) ∧
      let sel := s.f pgGPIO (0x05C + 4 * (pin / 16)) (2 * (pin % 16) + 1) (2 * (pin % 16))
      (s.domRun 1 = true → s.f pgGPIO 0x040 pin pin = 0 → sel.testBit (if level then 0 else 1) = true →
        t.f pgGPIO 0x064 pin pin = 1 ∧ t.f pgGPIO 0x014 pin pin = 1))) ∧
  (∀ (s : State) (w : By) (v : Word) (n : Fin 24),
    (s.Writes w .adc pgADC 0x040 → s.adc.busy = false →
      exec (.adcSingle w v) s = .next ((s.plain pgADC 0x040 (withBit v 1)).adcBegin.answer .ok 0)) ∧
    (s.Reads w .adc pgADC (0x100 + 4 * n) → exec (.adResRead w n) s =
      .next ((s.sf pgADC (0x100 + 4 * n) 15 15 0).answer .ok (s.r pgADC (0x100 + 4 * n))))) ∧
  (∀ s : State, s.domRun 1 = true → s.adc.busy = false → s.af pgADC 0x040 0 0 = 1 → s.adc.ended + 8000 * s.af pgADC 0x040 31 16 ≤ s.perNow →
    exec .adcScanStart s = .next { s with
      adc := { s.adc with
        busy := true, slot := 0, seq := (List.range (s.af pgADC 0x040 13 8 + 1)).map fun k => s.af pgADC (0x080 + 4 * k) 4 0 } }) ∧
  (∀ (s : State) (x : Int) (off : Bool), s.domRun 1 = true → s.adc.busy = true →
    let ch := s.adc.seq.getD s.adc.slot 0
    ch < 32 → ∃ t, exec (.adcConversionDone x off) s = .next t ∧
      (if s.adc.slot + 1 < s.adc.seq.length then t.adc.busy = true ∧ t.adc.slot = s.adc.slot + 1
        else t.adc.busy = false ∧ t.adc.slot = 0 ∧ t.adc.ended = s.perNow ∧ t.f pgADC 0x014 0 0 = 1) ∧
      (s.seam.hold = true → t.r pgADC (0x100 + 4 * ch) = s.r pgADC (0x100 + 4 * ch)) ∧
      (s.seam.hold = false → let o := off && (ch == 10 || ch == 11)
        t.f pgADC (0x100 + 4 * ch) 11 0 = (if o then 0 else min 4095 x.toNat) ∧
        t.f pgADC (0x100 + 4 * ch) 12 12 = b2n (!o && decide (4095 < x)) ∧ t.f pgADC (0x100 + 4 * ch) 13 13 = b2n (!o && decide (x < 0)) ∧
        t.f pgADC (0x100 + 4 * ch) 15 15 = 1 ∧ t.f pgADC (0x100 + 4 * ch) 16 16 = s.f pgADC (0x100 + 4 * ch) 15 15 ∧
        t.f pgADC (0x100 + 4 * ch) 17 17 = b2n o) ∧ t.mem = s.mem)

/-- The supply monitors, resets, sleep requests and entries, the RTC, RST_CTRL and RST_CORE act as R509 to R530 say. Rests on
R509, R510, R511, R512, R514, R515, R516, R517, R522, R523, R529, R530. -/
def Obligations.SupplyResetsAndSleep : Prop :=
  (∀ (s : State) (v : Bool),
    (s.pwr.low ≠ v → s.seam.hold = false → s.Told → exec (if v then .lowbatSet else .lowbatClear) s =
      .next ((({ s with pwr := { s.pwr with low := v, lowL := v } } : State).sf pgLD 0x044 0 0 (b2n v)).ev pgPWR 0)) ∧
    (s.pwr.low ≠ v → s.seam.hold = true → exec (if v then .lowbatSet else .lowbatClear) s =
      .next { s with pwr := { s.pwr with low := v } }) ∧
    (s.pwr.low = v → exec (if v then .lowbatSet else .lowbatClear) s = .next s)) ∧
  (∀ (s : State) (ov : Bool),
    (s.pwr.shed = false → s.pwr.ov = false → ∃ t, exec (if ov then .ovSet else .shedSet) s = .next t ∧ t.pwr.ov = ov ∧
      t.pwr.shed = !ov ∧ (∀ p ∈ t.light.pwm, p.pulses = []) ∧ t.sill.pulse = none ∧
      (s.seam.hold = false → s.Told → t.f pgPWR 0x014 1 1 = 1 ∧ (ov = true → t.f pgPWR 0x014 2 2 = 1)) ∧
      (s.seam.hold = true → t.f pgPWR 0x014 2 0 = s.f pgPWR 0x014 2 0 ∧ t.pwr.shedL = s.pwr.shedL ∧ t.pwr.ovL = s.pwr.ovL) ∧
      t.mem = s.mem) ∧
    (s.pwr.shed = !ov → s.pwr.ov = ov → s.seam.hold = true ∨ s.Told → exec (if ov then .ovClear else .shedClear) s = .next { s with
      pwr := { s.pwr with
        shed := false, ov := false, shedL := s.seam.hold && s.pwr.shedL, ovL := s.seam.hold && s.pwr.ovL },
      light := { s.light with
        pwm := s.light.pwm.map fun p => { p with dark := true, hush := s.af pgLD 0x040 13 8 + 2 }, blDark := s.blPeriod } }) ∧
    (s.pwr.shed = true → s.pwr.ov = true → s.seam.hold = false → s.Told → exec (if ov then .ovClear else .shedClear) s = .next { s with
      pwr := { s.pwr with shed := ov, ov := !ov, shedL := ov, ovL := !ov } })) ∧
  (∀ s : State, (let keeps (t : State) : Prop := t.sec.otp = s.sec.otp ∧
      (∀ a, (memRegion a = some 0 ∨ memRegion a = some 3) → t.rdByte a = s.rdByte a) ∧ t.time = s.time ∧ t.wake = s.wake ∧ t.pins = s.pins ∧
      ∀ c, c < 4 → (t.core c).inReset = true ∧ (t.core c).run = false
    (∃ t, exec .brownOutReset s = .next t ∧ t.doms = offDoms ∧ t.pwr.asleep = some 1 ∧ t.pwr.bor = true ∧
      t.pwr.rst = s.pwr.rst ||| 2 ∧ keeps t) ∧
    (∃ t, exec .powerOnReset s = .next t ∧ t.doms = runDoms ∧ t.pwr.asleep = none ∧ t.pwr.rst = 1 ∧ t.sec.retLost = true ∧ keeps t) ∧
    (∀ w : By, s.Writes w .rst pgRST 0x044 → (∃ t, exec (.rstSysr w) s = .next t ∧ t.doms = runDoms ∧ t.pwr.rst = s.pwr.rst ||| 4 ∧
        t.resp.sts = .ok ∧ keeps t) ∧
      exec (.rstCclr w) s = .next (({ s with pwr := { s.pwr with rst := 0 } } : State).answer .ok 0)) ∧
    (s.pwr.bor = true →
      let act := ∃ i, i < 4 ∧ s.wkOn i = true ∧ ((s.wkEdge i = 1 ∧ s.wake.getLsbD i = true) ∨ (s.wkEdge i = 2 ∧ s.wake.getLsbD i = false))
      ((s.f pgPWR 0x048 8 8 = 1 ∨ act) → ∃ t, exec .borRestart s = .next t ∧ t.doms = runDoms ∧ t.pwr.asleep = none ∧
        t.pwr.wcause = 2 ^ 8 ∧ keeps t) ∧
      (s.f pgPWR 0x048 8 8 = 0 → ¬act → exec .borRestart s = .next
        ({ s with pwr := { s.pwr with bor := false, rtcOn := false, rtcv := false } }.sf pgSEC 0x040 1 1 0))) ∧
    (∀ n, s.pwr.entering = some n →
      (s.pwr.latched = [] → ∃ t, exec .sleepEntryDone s = .next t ∧ t.doms = offDoms ∧ t.pwr.asleep = some n ∧ t.pwr.entering = none ∧
        t.pwr.rtcOn = (n != 1) ∧ (n = 1 → t.pwr.rtcv = false ∧ t.f pgSEC 0x040 1 1 = 0) ∧ keeps t) ∧
      (∀ e es, s.pwr.latched = e :: es → ∃ t, exec .sleepEntryDone s = .next t ∧ t.doms = runDoms ∧ t.pwr.asleep = none ∧
        (∀ b, t.pwr.wcause.testBit b = s.pwr.latched.any fun x => x.1 == b) ∧ keeps t)))) ∧
  (∀ (s : State) (w : By) (n : Fin 4), s.Writes w .pwr pgPWR 0x040 → n ≠ 0 →
    let some_ := fldOf s.pwr.wkCtrl 3 0 ≠ 0 ∨ (2 ≤ n.val ∧ (s.r pgPWR 0x048).getLsbD 0 = true) ∨
      (n = 3 ∧ ((s.r pgPWR 0x048).getLsbD 1 = true ∨ (s.r pgPWR 0x048).getLsbD 2 = true))
    (¬some_ → exec (.pwrSleep w n) s = .next ((s.err pgPWR 0x1050 1).answer .ok 0)) ∧
    (some_ → s.ttgWatch = true → exec (.pwrSleep w n) s = .next ((s.err pgPWR 0x1050 2).answer .ok 0)) ∧
    (some_ → s.ttgWatch = false → s.pwr.entering.isSome = true → exec (.pwrSleep w n) s = .next ((s.err pgPWR 0x1050 3).answer .ok 0)) ∧
    (some_ → s.ttgWatch = false → s.pwr.entering = none → exec (.pwrSleep w n) s =
      .next (({ s with pwr := { s.pwr with entering := some n.val } } : State).answer .ok 0))) ∧
  (∀ s : State, s.pwr.rtcOn = true →
    exec .rtcTick s = .next (({ s with pwr := { s.pwr with rtc := s.pwr.rtc + 1 } } : State).w pgSEC 0x048 (s.r pgSEC 0x048 + 1)) ∧
    (s.pwr.rtc = s.r pgPWR 0x050 → s.f pgPWR 0x048 0 0 = 1 → s.pwr.bor = false → (s.pwr.asleep = some 2 ∨ s.pwr.asleep = some 3) →
      ∃ t, exec .rtcAlarm s = .next t ∧ t.doms = runDoms ∧ t.pwr.asleep = none ∧ t.pwr.wcause = 2 ^ 4) ∧
    (s.pwr.rtc = s.r pgPWR 0x050 → s.f pgPWR 0x048 0 0 = 1 → s.pwr.asleep = none → (s.pwr.entering = some 2 ∨ s.pwr.entering = some 3) →
      exec .rtcAlarm s = .next { s with pwr := { s.pwr with latched := s.pwr.latched ++ [(4, 0)] } })) ∧
  (∀ (s : State) (w : By) (v : Word), s.Shape → s.Writes w .rst pgRST 0x048 → ∃ t, exec (.rstCoreWrite w v) s = .next t ∧
    ∀ c, c < 4 → t.f pgRST 0x048 c c = (if corePresent s.grade c = false then s.f pgRST 0x048 c c else if v.getLsbD c then
        (if s.ten.locked = true ∧ s.coreTnt c ≠ none then 1 else s.f pgRST 0x048 c c) else 0) ∧
      (corePresent s.grade c = true → v.getLsbD c = false → s.f pgRST 0x048 c c = 1 → t.core c = CoreSt.zero) ∧
      (corePresent s.grade c = true → v.getLsbD c = true → s.f pgRST 0x048 c c = 0 → s.ten.locked = true → s.coreTnt c ≠ none →
        s.domRun (2 + c) = true → (t.core c).inReset = false))

/-- The watchdog, the domain requests, DRAM's training and refreshes, Awl's commands and PROBE_MARK act as R518 to R540 say.
Rests on R518, R519, R520, R521, R524, R525, R531, R533, R537, R538, R540, R154. -/
def Obligations.WatchdogDomainsDramAndAwl : Prop :=
  (∀ (s : State) (w : By) (v : Word),
    (s.Writes w .wdg pgWDG 0x040 →
      (s.f pgWDG 0x040 0 0 = 0 → fldOf v 31 16 ≠ 0 → ∃ t, exec (.wdCtrlWrite w v) s = .next t ∧ t.f pgWDG 0x040 31 16 = fldOf v 31 16 ∧
        t.f pgWDG 0x040 1 0 = fldOf v 1 0 ∧ (fldOf v 0 0 = 1 → t.pwr.wdAt = s.time ∧ t.pwr.wdLen = fldOf v 31 16) ∧ t.mem = s.mem) ∧
      (s.f pgWDG 0x040 0 0 = 1 → fldOf v 31 16 ≠ 0 → exec (.wdCtrlWrite w v) s =
        .next ((if fldOf v 1 0 = s.f pgWDG 0x040 1 0 then s.sf pgWDG 0x040 31 16 (fldOf v 31 16)
          else (s.sf pgWDG 0x040 31 16 (fldOf v 31 16)).errLocked pgWDG 0x040).answer .ok 0))) ∧
    (s.Writes w .wdg pgWDG 0x044 →
      (v = 0xA5 → s.pwr.wdOpen = false → exec (.wdKick w v) s = .next (({ s with pwr := { s.pwr with wdOpen := true } } : State).answer .ok 0)) ∧
      (v = 0x5A → s.pwr.wdOpen = true → exec (.wdKick w v) s = .next (({ s with
        pwr := { s.pwr with wdOpen := false, wdAt := s.time, wdLen := s.f pgWDG 0x040 31 16 } } : State).answer .ok 0)) ∧
      (¬(v = 0xA5 ∧ s.pwr.wdOpen = false) → ¬(v = 0x5A ∧ s.pwr.wdOpen = true) → exec (.wdKick w v) s =
        .next ((({ s with pwr := { s.pwr with wdOpen := false } } : State).ev pgWDG 1).answer .ok 0)))) ∧
  (∀ s : State, s.domRun 1 = true → s.f pgWDG 0x040 0 0 = 1 → s.pwr.wdLen ≤ s.wdMs →
    (s.f pgWDG 0x040 1 1 = 0 → ∃ t, exec .wdgExpire s = .next t ∧ t.doms = runDoms ∧ t.pwr.rst = s.pwr.rst ||| 8) ∧
    (s.f pgWDG 0x040 1 1 = 1 → ∃ t, exec .wdgExpire s = .next t ∧ t.f pgWDG 0x014 0 0 = 1 ∧ t.f pgWDG 0x028 15 0 = 0x3090 ∧
      t.pwr.wdAt = s.pwr.wdAt + 800000 * s.pwr.wdLen ∧ t.pwr.wdLen = s.f pgWDG 0x040 31 16 ∧ t.doms = s.doms ∧ t.mem = s.mem)) ∧
  (∀ (s : State) (w : By) (d : Fin 12) (v : Word), s.Shape → s.Writes w .pwr pgPWR (0x080 + 4 * d) →
    let req := fldOf v 1 0
    let x := s.doms.getD d Dom.off
    let dt (t : State) : Dom := t.doms.getD d Dom.off
    (∀ r, s.domReason d req = some r → exec (.pwrDomWrite w d v) s = .next ((s.err pgPWR 0x1050 r).answer .ok 0)) ∧
    (s.domReason d req = none → fldOf v 27 16 ≠ 0 → ∃ t, exec (.pwrDomWrite w d v) s = .next t ∧
      t.f pgPWR (0x080 + 4 * d) 1 0 = req ∧ t.f pgPWR (0x080 + 4 * d) 9 8 = fldOf v 9 8 ∧ t.f pgPWR (0x080 + 4 * d) 27 16 = fldOf v 27 16 ∧
      (dt t).st = x.st ∧ (x.tgt = some .run → req ≠ 0 → (dt t).tgt = some .run ∧ (dt t).after = some (PState.ofCode req)) ∧
      (x.tgt = none → x.st = PState.ofCode req → (dt t).tgt = none) ∧
      ((x.st = .off ∨ x.st = .rest) → req ≠ 0 → req ≠ 3 → x.st ≠ PState.ofCode req → (dt t).tgt = some .run ∧ (dt t).after = some (PState.ofCode req)) ∧
      ((x.tgt = none → x.st ≠ PState.ofCode req) → (x.tgt = some .run → req = 0) →
        (req = 0 ∨ req = 3 ∨ x.st = .run ∨ x.st = .doze ∨ x.st = PState.ofCode req) → (dt t).tgt = some (PState.ofCode req) ∧ (dt t).after = none) ∧
      (∀ e, e ≠ d.val → t.doms.getD e Dom.off = s.doms.getD e Dom.off) ∧ t.mem = s.mem)) ∧
  (∀ (s : State) (d : Fin 12) (dst : PState), s.Shape → s.domDue d = some dst →
    exec (.domainTransitionDone d) s = .next ((s.domArrive d dst).domPass d) ∧ (s.domArrive d dst).dom d = dst ∧
    (s.domArrive d dst).f pgPWR 0x014 3 3 = 1 ∧ ∀ e, e ≠ d.val → (s.domArrive d dst).dom e = s.dom e) ∧
  (∀ (s : State) (d : Fin 12), s.domRun 1 = true → 2 ≤ d.val → s.doms.getD d Dom.off = ⟨.run, none, (s.doms.getD d Dom.off).after, true⟩ →
    s.f pgPWR (0x080 + 4 * d) 8 8 = 1 → s.domBusy d = false →
    let c := s.f pgPWR (0x080 + 4 * d) 9 9 + 1
    exec (.domainAutoIdle d) s = .next { s.sf pgPWR (0x080 + 4 * d) 1 0 c with
      doms := s.doms.modify d fun x => { x with tgt := some (PState.ofCode c), woken := false } }) ∧
  (∀ (s : State) (code : BitVec 16) (crc : Word), s.Shape → s.domRun 1 = true → (s.doms.getD 11 Dom.off).st = .off →
    (s.doms.getD 11 Dom.off).tgt = some .run →
    let t := s.dramTrained code.toNat crc.toNat
    let lim := 8 * s.f pgDRAM 0x044 15 8
    exec (.dramTrainDone code crc) s = .next (t.domPass 11) ∧ t.dom 11 = .run ∧
    (∀ k c, s.pwr.train = some (k, c) → c ≤ code.toNat + lim → code.toNat ≤ c + lim → s.f pgDRAM 0x044 0 0 = 0 →
      t.f pgDRAM 0x040 2 1 = 1 ∧ t.pwr.train = some (k, c)) ∧
    ((s.pwr.train = none ∨ s.f pgDRAM 0x044 0 0 = 1 ∨ ∃ k c, s.pwr.train = some (k, c) ∧ (code.toNat + lim < c ∨ c + lim < code.toNat)) →
      t.f pgDRAM 0x040 2 1 = 2 ∧ t.f pgDRAM 0x014 0 0 = 1 ∧ t.pwr.train = some (crc.toNat, code.toNat))) ∧
  (∀ (s : State) (arg : BitVec 16) (n : Nat), s.domRun 1 = true → s.domRun 11 = true →
    (∃ t, exec (.dramRefEvent arg n) s = .next t ∧ t.pwr.refWin = some (arg.toNat % 256) ∧
      t.f pgDRAM 0x04C 15 0 = min 0xFFFF (s.f pgDRAM 0x04C 15 0 + n) ∧ t.mem = s.mem) ∧
    (s.pwr.refWin = none → exec (.dramForcedRefresh n) s = .next (((s.cntUp pgDRAM 0x04C 31 16 n).ev pgDRAM 1).err pgDRAM 0x3C10 0))) ∧
  (∀ (s : State) (w : By), s.Writes w .awl pgAWL 0x040 →
    (s.awlAvail = false → exec (.awlDisarm w) s = .next ((s.err pgAWL 0x7210 0x040).answer .ok 0) ∧
      exec (.awlClr w) s = .next ((s.err pgAWL 0x7210 0x040).answer .ok 0)) ∧
    (s.awlAvail = true → (∃ t, exec (.awlDisarm w) s = .next t ∧ (∀ i, i < 4 → t.armed i = false) ∧ t.awl = s.awl ∧ t.mem = s.mem) ∧
      ∃ t, exec (.awlClr w) s = .next t ∧ (∀ i, i < 4 → t.r pgAWL (aiReg i 7) = 0 ∧ t.armed i = s.armed i) ∧ t.mem = s.mem)) ∧
  (∀ (s : State) (w : By) (i : Fin 4) (v : Word), s.Shape → s.Writes w .awl pgAWL (0x100 + 0x20 * i) →
    (s.awlAvail = false → exec (.awlArm w i v) s = .next ((s.err pgAWL 0x7210 (0x100 + 0x20 * i)).answer .ok 0)) ∧
    (s.awlAvail = true → (∀ r, s.awlReason i (withBit v 31) = some r → ∃ t, exec (.awlArm w i v) s = .next t ∧ t.armed i = false ∧
        t.f pgAWL 0x028 15 0 = 0x1211 ∧ t.f pgAWL 0x02C 7 0 = i + r * 16 ∧ t.mem = s.mem) ∧
      (s.awlReason i (withBit v 31) = none → ∃ t, exec (.awlArm w i v) s = .next t ∧ t.armed i = true ∧
        (s.armed i = false → (t.inj i).nth = 0 ∧ (t.inj i).draws = 0 ∧ (t.inj i).acts = 0 ∧ (t.inj i).marked = false) ∧ t.mem = s.mem))) ∧
  (∀ (s : State) (i : Fin 4), s.domRun 1 = true →
    let s' := s.updInj i fun x => { x with held := none }
    let h := s.f pgAWL (aiReg i 6) 15 0
    let t := s.time - (s.inj i).since
    (∀ k f, (s.inj i).held = some (.welt k f) → h ≤ s.now - (s.inj i).since →
      exec (.awlHoldRelease i) s = .next ((s'.probes k f.pkt).addFlight f)) ∧
    (∀ n u, (s.inj i).held = some (.laneTx n u) → h * 64 ≤ t * s.laneRate n →
      exec (.awlHoldRelease i) s = .next (s'.updLn n fun l => { l with sent := [u] })) ∧
    (∀ n u, (s.inj i).held = some (.laneRx n u) → h * 64 ≤ t * s.laneRate n → exec (.awlHoldRelease i) s = .next (s'.laneTake n u))) ∧
  (∀ (s : State) (m : BitVec 16), s.Shape → s.domRun 1 = true → ∃ t, exec (.probeMark m) s = .next t ∧
    (∀ i, i < 4 → (t.inj i).marked = ((s.inj i).marked || s.f pgAWL (aiReg i 4) 31 16 == m.toNat)) ∧
    (s.f pgPRB 0x040 0 0 = 0 → t.welt = s.welt ∧ t.regs = s.regs) ∧
    (s.f pgPRB 0x040 0 0 = 1 → s.welt.trcQ.length < 8 → t.welt.trcQ.length = s.welt.trcQ.length + 1) ∧ t.mem = s.mem)
end

