-- ==== Sys2Proof/Laws/Bits.lean ====
section
/-! SUPPORT. Laws/Bits.lean: bit fields of a word, read after they are set. -/

namespace Sys2Proof.Machine

/-- A bit of a field read as a number. -/
theorem testBit_fldOf (v : Word) (hi lo j : Nat) :
    (fldOf v hi lo).testBit j = (decide (j < hi + 1 - lo) && v.getLsbD (lo + j)) := by
  simp [fldOf, Nat.testBit_mod_two_pow, Nat.testBit_shiftRight, BitVec.testBit_toNat]

/-- A bit of a word with one field set. -/
theorem getLsbD_setFldOf (v : Word) (hi lo x i : Nat) (hh : hi < 32) :
    (setFldOf v hi lo x).getLsbD i =
      if lo ≤ i ∧ i ≤ hi then x.testBit (i - lo) else v.getLsbD i := by
  by_cases hi32 : i < 32
  · have hm : (BitVec.ofNat 32 ((2 ^ (hi + 1 - lo) - 1) <<< lo)).getLsbD i = (decide (lo ≤ i) && decide (i ≤ hi)) := by
      rw [BitVec.getLsbD_ofNat, Nat.testBit_shiftLeft, Nat.testBit_two_pow_sub_one]
      by_cases h1 : lo ≤ i <;> by_cases h2 : i ≤ hi <;> simp [hi32, h1, h2] <;> omega
    have hx : (BitVec.ofNat 32 (x <<< lo)).getLsbD i = (decide (lo ≤ i) && x.testBit (i - lo)) := by
      rw [BitVec.getLsbD_ofNat, Nat.testBit_shiftLeft]
      simp [hi32]
    simp only [setFldOf, BitVec.getLsbD_or, BitVec.getLsbD_and, BitVec.getLsbD_not, hm, hx, hi32]
    by_cases h1 : lo ≤ i <;> by_cases h2 : i ≤ hi <;> simp [h1, h2]
  · have h2 : ¬ i ≤ hi := by omega
    rw [BitVec.getLsbD_of_ge _ _ (by omega)]
    simp [h2, BitVec.getLsbD_of_ge v i (by omega)]

/-- The field just set. -/
theorem fldOf_setFldOf_same (v : Word) (hi lo x : Nat) (hh : hi < 32) (hl : lo ≤ hi) :
    fldOf (setFldOf v hi lo x) hi lo = x % 2 ^ (hi + 1 - lo) := by
  apply Nat.eq_of_testBit_eq
  intro j
  rw [testBit_fldOf, Nat.testBit_mod_two_pow, getLsbD_setFldOf _ _ _ _ _ hh]
  by_cases h : j < hi + 1 - lo
  · have h1 : lo ≤ lo + j ∧ lo + j ≤ hi := by omega
    simp [h, h1]
  · simp [h]

/-- A field apart from the one set. -/
theorem fldOf_setFldOf_other (v : Word) (hi lo x hi' lo' : Nat) (hh : hi < 32) (h : hi' < lo ∨ hi < lo') :
    fldOf (setFldOf v hi lo x) hi' lo' = fldOf v hi' lo' := by
  apply Nat.eq_of_testBit_eq
  intro j
  rw [testBit_fldOf, testBit_fldOf, getLsbD_setFldOf _ _ _ _ _ hh]
  by_cases hj : j < hi' + 1 - lo'
  · have h1 : ¬ (lo ≤ lo' + j ∧ lo' + j ≤ hi) := by omega
    simp [h1]
  · simp [hj]

/-- Setting a field twice. -/
theorem setFldOf_setFldOf (v : Word) (hi lo x y : Nat) (hh : hi < 32) :
    setFldOf (setFldOf v hi lo x) hi lo y = setFldOf v hi lo y := by
  apply BitVec.eq_of_getLsbD_eq
  intro i _
  simp only [getLsbD_setFldOf _ _ _ _ _ hh]
  split <;> rfl

theorem fldOf_lt (v : Word) (hi lo : Nat) : fldOf v hi lo < 2 ^ (hi + 1 - lo) := Nat.mod_lt _ (Nat.two_pow_pos _)

theorem fldOf_zero (hi lo : Nat) : fldOf 0 hi lo = 0 := by simp [fldOf]

/-- The whole word as a field. -/
theorem fldOf_all (v : Word) : fldOf v 31 0 = v.toNat := by
  have := v.isLt
  simp [fldOf]; omega

end Sys2Proof.Machine
end

