-- ==== Sys2Proof/Laws/Sparse.lean ====
section
/-! SUPPORT. Laws/Sparse.lean: reading after storing in a finite map, and its canonical form. -/

namespace Sys2Proof.Machine

variable {β : Type}

theorem Sparse.get_del_same (d : Nat → β) (k : Nat) (m : List (Nat × β)) : Sparse.get d (Sparse.del k m) k = d k := by
  induction m with
  | nil => rfl
  | cons e t ih =>
    obtain ⟨a, w⟩ := e
    by_cases h : a = k <;> simp [Sparse.del, Sparse.get, h, ih]

theorem Sparse.get_del_ne (d : Nat → β) {j k : Nat} (h : j ≠ k) (m : List (Nat × β)) :
    Sparse.get d (Sparse.del k m) j = Sparse.get d m j := by
  induction m with
  | nil => rfl
  | cons e t ih =>
    obtain ⟨a, w⟩ := e
    by_cases ha : a = k
    · subst ha; simp [Sparse.del, Sparse.get, ih, Ne.symm h]
    · simp [Sparse.del, Sparse.get, ha, ih]

theorem Sparse.get_ins_ne (d : Nat → β) {j k : Nat} (h : j ≠ k) (v : β) (m : List (Nat × β)) :
    Sparse.get d (Sparse.ins k v m) j = Sparse.get d m j := by
  induction m with
  | nil => simp [Sparse.ins, Sparse.get, Ne.symm h]
  | cons e t ih =>
    obtain ⟨a, w⟩ := e
    by_cases ha : k < a <;> simp [Sparse.ins, Sparse.get, ha, ih, Ne.symm h]

theorem Sparse.get_ins_del (d : Nat → β) (k : Nat) (v : β) (m : List (Nat × β)) :
    Sparse.get d (Sparse.ins k v (Sparse.del k m)) k = v := by
  induction m with
  | nil => simp [Sparse.del, Sparse.ins, Sparse.get]
  | cons e t ih =>
    obtain ⟨a, w⟩ := e
    by_cases ha : a = k
    · simpa [Sparse.del, ha] using ih
    · by_cases hk : k < a <;> simp [Sparse.del, Sparse.ins, Sparse.get, ha, hk, ih]

variable [DecidableEq β]

/-- A read of what was stored gives it. -/
@[simp] theorem Sparse.get_put_same (d : Nat → β) (k : Nat) (v : β) (m : List (Nat × β)) :
    Sparse.get d (Sparse.put d k v m) k = v := by
  unfold Sparse.put
  split
  · next h => rw [Sparse.get_del_same, h]
  · exact Sparse.get_ins_del d k v m

/-- A store leaves every other address alone. -/
theorem Sparse.get_put_ne (d : Nat → β) {j k : Nat} (h : j ≠ k) (v : β) (m : List (Nat × β)) :
    Sparse.get d (Sparse.put d k v m) j = Sparse.get d m j := by
  unfold Sparse.put
  split
  · exact Sparse.get_del_ne d h m
  · rw [Sparse.get_ins_ne d h, Sparse.get_del_ne d h]

theorem Sparse.wfFrom_mono (d : Nat → β) {lo hi : Nat} (h : lo ≤ hi) (m : List (Nat × β)) :
    Sparse.wfFrom d hi m = true → Sparse.wfFrom d lo m = true := by
  cases m with
  | nil => intro; rfl
  | cons e t =>
    obtain ⟨a, w⟩ := e
    simp only [Sparse.wfFrom, Bool.and_eq_true, decide_eq_true_eq]
    rintro ⟨⟨ha, hv⟩, ht⟩
    exact ⟨⟨by omega, hv⟩, ht⟩

theorem Sparse.wfFrom_del (d : Nat → β) (k lo : Nat) (m : List (Nat × β)) :
    Sparse.wfFrom d lo m = true → Sparse.wfFrom d lo (Sparse.del k m) = true := by
  induction m generalizing lo with
  | nil => intro; rfl
  | cons e t ih =>
    obtain ⟨a, w⟩ := e
    simp only [Sparse.wfFrom, Bool.and_eq_true, decide_eq_true_eq]
    rintro ⟨⟨ha, hv⟩, ht⟩
    by_cases hk : a = k
    · simp only [Sparse.del, hk, if_true]
      exact Sparse.wfFrom_mono d (by omega) _ (ih _ ht)
    · simp only [Sparse.del, hk, if_false, Sparse.wfFrom, Bool.and_eq_true, decide_eq_true_eq]
      exact ⟨⟨ha, hv⟩, ih _ ht⟩

/-- Whether an address is listed. -/
theorem Sparse.wfFrom_ins (d : Nat → β) (k lo : Nat) (v : β) (m : List (Nat × β)) (hlo : lo ≤ k) (hv : v ≠ d k) :
    Sparse.wfFrom d lo (Sparse.del k m) = true → Sparse.wfFrom d lo (Sparse.ins k v (Sparse.del k m)) = true := by
  induction m generalizing lo with
  | nil => intro _; simp [Sparse.del, Sparse.ins, Sparse.wfFrom, hlo, hv]
  | cons e t ih =>
    obtain ⟨a, w⟩ := e
    by_cases hk : a = k
    · simpa only [Sparse.del, hk, if_true] using ih lo hlo
    · simp only [Sparse.del, hk, if_false, Sparse.wfFrom, Sparse.ins, Bool.and_eq_true, decide_eq_true_eq]
      rintro ⟨⟨ha, hw⟩, ht⟩
      by_cases hka : k < a
      · simp only [hka, if_true, Sparse.wfFrom, Bool.and_eq_true, decide_eq_true_eq]
        exact ⟨⟨hlo, by simpa using hv⟩, ⟨⟨by omega, hw⟩, ht⟩⟩
      · simp only [hka, if_false, Sparse.wfFrom, Bool.and_eq_true, decide_eq_true_eq]
        exact ⟨⟨ha, hw⟩, ih (a + 1) (by omega) ht⟩

/-- A store keeps the canonical form. -/
theorem Sparse.put_wf (d : Nat → β) (k : Nat) (v : β) (m : List (Nat × β)) (h : Sparse.wf d m = true) :
    Sparse.wf d (Sparse.put d k v m) = true := by
  unfold Sparse.wf Sparse.put at *
  split
  · exact Sparse.wfFrom_del d k 0 m h
  · next hv => exact Sparse.wfFrom_ins d k 0 v m (Nat.zero_le k) hv (Sparse.wfFrom_del d k 0 m h)

theorem Sparse.wfFrom_filter (d : Nat → β) (p : Nat × β → Bool) (lo : Nat) (m : List (Nat × β)) :
    Sparse.wfFrom d lo m = true → Sparse.wfFrom d lo (m.filter p) = true := by
  induction m generalizing lo with
  | nil => intro; rfl
  | cons e t ih =>
    obtain ⟨a, w⟩ := e
    simp only [Sparse.wfFrom, Bool.and_eq_true, decide_eq_true_eq]
    rintro ⟨⟨ha, hv⟩, ht⟩
    by_cases hp : p (a, w) = true
    · simp only [List.filter_cons, hp, if_true, Sparse.wfFrom, Bool.and_eq_true, decide_eq_true_eq]
      exact ⟨⟨ha, hv⟩, ih _ ht⟩
    · simp only [List.filter_cons, hp]
      exact Sparse.wfFrom_mono d (by omega) _ (ih _ ht)

/-- Dropping pairs keeps the canonical form. -/
theorem Sparse.filter_wf (d : Nat → β) (p : Nat × β → Bool) (m : List (Nat × β)) (h : Sparse.wf d m = true) :
    Sparse.wf d (m.filter p) = true := Sparse.wfFrom_filter d p 0 m h

/-- The form asks nothing of what unlisted addresses read as. -/
theorem Sparse.wfFrom_congr (d d' : Nat → β) (lo : Nat) (m : List (Nat × β)) (hd : ∀ e ∈ m, d e.1 = d' e.1) :
    Sparse.wfFrom d lo m = true → Sparse.wfFrom d' lo m = true := by
  induction m generalizing lo with
  | nil => intro; rfl
  | cons e t ih =>
    obtain ⟨a, w⟩ := e
    have ha : d a = d' a := hd (a, w) (by simp)
    simp only [Sparse.wfFrom, Bool.and_eq_true, ← ha]
    rintro ⟨h1, h2⟩
    exact ⟨h1, ih _ (fun e he => hd e (by simp [he])) h2⟩

end Sys2Proof.Machine
end

