-- ==== Sys2Proof/Laws/State.lean ====
section
/-! SUPPORT. Laws/State.lean: what the register operations leave, one lemma per field and operation. -/

namespace Sys2Proof.Machine

variable (s : State)

/-! ### Registers -/

/-- The key of a register names its page and offset. -/
theorem rkey_inj {p o p' o' : Nat} (h : o < 4096) (h' : o' < 4096) : rkey p o = rkey p' o' ↔ p = p' ∧ o = o' := by
  unfold rkey; omega

@[simp] theorem State.r_w_same (p o : Nat) (v : Word) : (s.w p o v).r p o = v := by simp [State.w, State.r]

theorem State.r_w_ne {p o p' o' : Nat} (v : Word) (h : rkey p' o' ≠ rkey p o) : (s.w p o v).r p' o' = s.r p' o' := by
  simp only [State.w, State.r]; exact Sparse.get_put_ne _ h v _

@[simp] theorem State.a_w (p o p' o' : Nat) (v : Word) : (s.w p o v).a p' o' = s.a p' o' := rfl
@[simp] theorem State.a_wa_same (p o : Nat) (v : Word) : (s.wa p o v).a p o = v := by simp [State.wa, State.a]

theorem State.a_wa_ne {p o p' o' : Nat} (v : Word) (h : rkey p' o' ≠ rkey p o) : (s.wa p o v).a p' o' = s.a p' o' := by
  simp only [State.wa, State.a]; exact Sparse.get_put_ne _ h v _

@[simp] theorem State.r_wa (p o p' o' : Nat) (v : Word) : (s.wa p o v).r p' o' = s.r p' o' := rfl

/-- The field just set. -/
theorem State.f_sf_same (p o hi lo x : Nat) (hh : hi < 32) (hl : lo ≤ hi) :
    (s.sf p o hi lo x).f p o hi lo = x % 2 ^ (hi + 1 - lo) := by
  simp [State.sf, State.f, fldOf_setFldOf_same _ _ _ _ hh hl]

/-- Another field of the same register. -/
theorem State.f_sf_other {p o hi lo hi' lo' : Nat} (x : Nat) (hh : hi < 32) (h : hi' < lo ∨ hi < lo') :
    (s.sf p o hi lo x).f p o hi' lo' = s.f p o hi' lo' := by
  simp [State.sf, State.f, fldOf_setFldOf_other _ _ _ _ _ _ hh h]

/-- A field of another register. -/
theorem State.f_sf_ne {p o p' o' : Nat} (hi lo hi' lo' x : Nat) (h : rkey p' o' ≠ rkey p o) :
    (s.sf p o hi lo x).f p' o' hi' lo' = s.f p' o' hi' lo' := by
  simp only [State.sf, State.f]; rw [State.r_w_ne s _ h]

theorem State.r_sf_ne {p o p' o' : Nat} (hi lo x : Nat) (h : rkey p' o' ≠ rkey p o) :
    (s.sf p o hi lo x).r p' o' = s.r p' o' := by
  simp only [State.sf]; exact State.r_w_ne s _ h

/-! ### The other fields -/

@[simp] theorem State.grade_w (p o : Nat) (v : Word) : (s.w p o v).grade = s.grade := rfl
@[simp] theorem State.fused_w (p o : Nat) (v : Word) : (s.w p o v).fused = s.fused := rfl
@[simp] theorem State.act_w (p o : Nat) (v : Word) : (s.w p o v).act = s.act := rfl
@[simp] theorem State.srst_w (p o : Nat) (v : Word) : (s.w p o v).srst = s.srst := rfl
@[simp] theorem State.waiting_w (p o : Nat) (v : Word) : (s.w p o v).waiting = s.waiting := rfl
@[simp] theorem State.resp_w (p o : Nat) (v : Word) : (s.w p o v).resp = s.resp := rfl
@[simp] theorem State.seam_w (p o : Nat) (v : Word) : (s.w p o v).seam = s.seam := rfl
@[simp] theorem State.clk_w (p o : Nat) (v : Word) : (s.w p o v).clk = s.clk := rfl
@[simp] theorem State.ltb_w (p o : Nat) (v : Word) : (s.w p o v).ltb = s.ltb := rfl
@[simp] theorem State.ten_w (p o : Nat) (v : Word) : (s.w p o v).ten = s.ten := rfl
@[simp] theorem State.doms_w (p o : Nat) (v : Word) : (s.w p o v).doms = s.doms := rfl
@[simp] theorem State.adm_w (p o : Nat) (v : Word) : (s.w p o v).adm = s.adm := rfl
@[simp] theorem State.welt_w (p o : Nat) (v : Word) : (s.w p o v).welt = s.welt := rfl
@[simp] theorem State.cores_w (p o : Nat) (v : Word) : (s.w p o v).cores = s.cores := rfl
@[simp] theorem State.grv_w (p o : Nat) (v : Word) : (s.w p o v).grv = s.grv := rfl
@[simp] theorem State.ald_w (p o : Nat) (v : Word) : (s.w p o v).ald = s.ald := rfl
@[simp] theorem State.sec_w (p o : Nat) (v : Word) : (s.w p o v).sec = s.sec := rfl
@[simp] theorem State.caps_w (p o : Nat) (v : Word) : (s.w p o v).caps = s.caps := rfl
@[simp] theorem State.trig_w (p o : Nat) (v : Word) : (s.w p o v).trig = s.trig := rfl
@[simp] theorem State.isp_w (p o : Nat) (v : Word) : (s.w p o v).isp = s.isp := rfl
@[simp] theorem State.sill_w (p o : Nat) (v : Word) : (s.w p o v).sill = s.sill := rfl
@[simp] theorem State.scn_w (p o : Nat) (v : Word) : (s.w p o v).scn = s.scn := rfl
@[simp] theorem State.dps_w (p o : Nat) (v : Word) : (s.w p o v).dps = s.dps := rfl
@[simp] theorem State.icv_w (p o : Nat) (v : Word) : (s.w p o v).icv = s.icv := rfl
@[simp] theorem State.light_w (p o : Nat) (v : Word) : (s.w p o v).light = s.light := rfl
@[simp] theorem State.lace_w (p o : Nat) (v : Word) : (s.w p o v).lace = s.lace := rfl
@[simp] theorem State.awl_w (p o : Nat) (v : Word) : (s.w p o v).awl = s.awl := rfl
@[simp] theorem State.lanes_w (p o : Nat) (v : Word) : (s.w p o v).lanes = s.lanes := rfl
@[simp] theorem State.links_w (p o : Nat) (v : Word) : (s.w p o v).links = s.links := rfl
@[simp] theorem State.cans_w (p o : Nat) (v : Word) : (s.w p o v).cans = s.cans := rfl
@[simp] theorem State.lin_w (p o : Nat) (v : Word) : (s.w p o v).lin = s.lin := rfl
@[simp] theorem State.i2cs_w (p o : Nat) (v : Word) : (s.w p o v).i2cs = s.i2cs := rfl
@[simp] theorem State.spis_w (p o : Nat) (v : Word) : (s.w p o v).spis = s.spis := rfl
@[simp] theorem State.xspi_w (p o : Nat) (v : Word) : (s.w p o v).xspi = s.xspi := rfl
@[simp] theorem State.adc_w (p o : Nat) (v : Word) : (s.w p o v).adc = s.adc := rfl
@[simp] theorem State.pins_w (p o : Nat) (v : Word) : (s.w p o v).pins = s.pins := rfl
@[simp] theorem State.wake_w (p o : Nat) (v : Word) : (s.w p o v).wake = s.wake := rfl
@[simp] theorem State.pwr_w (p o : Nat) (v : Word) : (s.w p o v).pwr = s.pwr := rfl
@[simp] theorem State.mem_w (p o : Nat) (v : Word) : (s.w p o v).mem = s.mem := rfl
@[simp] theorem State.epoch_w (p o : Nat) (v : Word) : (s.w p o v).epoch = s.epoch := rfl
@[simp] theorem State.now_w (p o : Nat) (v : Word) : (s.w p o v).now = s.now := rfl
@[simp] theorem State.osc_w (p o : Nat) (v : Word) : (s.w p o v).osc = s.osc := rfl
@[simp] theorem State.lockWait_w (p o : Nat) (v : Word) : (s.w p o v).lockWait = s.lockWait := rfl
@[simp] theorem State.fresh_w (p o : Nat) (v : Word) : (s.w p o v).fresh = s.fresh := rfl
@[simp] theorem State.time_w (p o : Nat) (v : Word) : (s.w p o v).time = s.time := rfl
@[simp] theorem State.freeCtr_w (p o : Nat) (v : Word) : (s.w p o v).freeCtr = s.freeCtr := rfl
@[simp] theorem State.pending_w (p o : Nat) (v : Word) : (s.w p o v).pending = s.pending := rfl

@[simp] theorem State.grade_wa (p o : Nat) (v : Word) : (s.wa p o v).grade = s.grade := rfl
@[simp] theorem State.fused_wa (p o : Nat) (v : Word) : (s.wa p o v).fused = s.fused := rfl
@[simp] theorem State.regs_wa (p o : Nat) (v : Word) : (s.wa p o v).regs = s.regs := rfl
@[simp] theorem State.srst_wa (p o : Nat) (v : Word) : (s.wa p o v).srst = s.srst := rfl
@[simp] theorem State.waiting_wa (p o : Nat) (v : Word) : (s.wa p o v).waiting = s.waiting := rfl
@[simp] theorem State.resp_wa (p o : Nat) (v : Word) : (s.wa p o v).resp = s.resp := rfl
@[simp] theorem State.seam_wa (p o : Nat) (v : Word) : (s.wa p o v).seam = s.seam := rfl
@[simp] theorem State.clk_wa (p o : Nat) (v : Word) : (s.wa p o v).clk = s.clk := rfl
@[simp] theorem State.ltb_wa (p o : Nat) (v : Word) : (s.wa p o v).ltb = s.ltb := rfl
@[simp] theorem State.ten_wa (p o : Nat) (v : Word) : (s.wa p o v).ten = s.ten := rfl
@[simp] theorem State.doms_wa (p o : Nat) (v : Word) : (s.wa p o v).doms = s.doms := rfl
@[simp] theorem State.adm_wa (p o : Nat) (v : Word) : (s.wa p o v).adm = s.adm := rfl
@[simp] theorem State.welt_wa (p o : Nat) (v : Word) : (s.wa p o v).welt = s.welt := rfl
@[simp] theorem State.cores_wa (p o : Nat) (v : Word) : (s.wa p o v).cores = s.cores := rfl
@[simp] theorem State.grv_wa (p o : Nat) (v : Word) : (s.wa p o v).grv = s.grv := rfl
@[simp] theorem State.ald_wa (p o : Nat) (v : Word) : (s.wa p o v).ald = s.ald := rfl
@[simp] theorem State.sec_wa (p o : Nat) (v : Word) : (s.wa p o v).sec = s.sec := rfl
@[simp] theorem State.caps_wa (p o : Nat) (v : Word) : (s.wa p o v).caps = s.caps := rfl
@[simp] theorem State.trig_wa (p o : Nat) (v : Word) : (s.wa p o v).trig = s.trig := rfl
@[simp] theorem State.isp_wa (p o : Nat) (v : Word) : (s.wa p o v).isp = s.isp := rfl
@[simp] theorem State.sill_wa (p o : Nat) (v : Word) : (s.wa p o v).sill = s.sill := rfl
@[simp] theorem State.scn_wa (p o : Nat) (v : Word) : (s.wa p o v).scn = s.scn := rfl
@[simp] theorem State.dps_wa (p o : Nat) (v : Word) : (s.wa p o v).dps = s.dps := rfl
@[simp] theorem State.icv_wa (p o : Nat) (v : Word) : (s.wa p o v).icv = s.icv := rfl
@[simp] theorem State.light_wa (p o : Nat) (v : Word) : (s.wa p o v).light = s.light := rfl
@[simp] theorem State.lace_wa (p o : Nat) (v : Word) : (s.wa p o v).lace = s.lace := rfl
@[simp] theorem State.awl_wa (p o : Nat) (v : Word) : (s.wa p o v).awl = s.awl := rfl
@[simp] theorem State.lanes_wa (p o : Nat) (v : Word) : (s.wa p o v).lanes = s.lanes := rfl
@[simp] theorem State.links_wa (p o : Nat) (v : Word) : (s.wa p o v).links = s.links := rfl
@[simp] theorem State.cans_wa (p o : Nat) (v : Word) : (s.wa p o v).cans = s.cans := rfl
@[simp] theorem State.lin_wa (p o : Nat) (v : Word) : (s.wa p o v).lin = s.lin := rfl
@[simp] theorem State.i2cs_wa (p o : Nat) (v : Word) : (s.wa p o v).i2cs = s.i2cs := rfl
@[simp] theorem State.spis_wa (p o : Nat) (v : Word) : (s.wa p o v).spis = s.spis := rfl
@[simp] theorem State.xspi_wa (p o : Nat) (v : Word) : (s.wa p o v).xspi = s.xspi := rfl
@[simp] theorem State.adc_wa (p o : Nat) (v : Word) : (s.wa p o v).adc = s.adc := rfl
@[simp] theorem State.pins_wa (p o : Nat) (v : Word) : (s.wa p o v).pins = s.pins := rfl
@[simp] theorem State.wake_wa (p o : Nat) (v : Word) : (s.wa p o v).wake = s.wake := rfl
@[simp] theorem State.pwr_wa (p o : Nat) (v : Word) : (s.wa p o v).pwr = s.pwr := rfl
@[simp] theorem State.mem_wa (p o : Nat) (v : Word) : (s.wa p o v).mem = s.mem := rfl
@[simp] theorem State.epoch_wa (p o : Nat) (v : Word) : (s.wa p o v).epoch = s.epoch := rfl
@[simp] theorem State.now_wa (p o : Nat) (v : Word) : (s.wa p o v).now = s.now := rfl
@[simp] theorem State.osc_wa (p o : Nat) (v : Word) : (s.wa p o v).osc = s.osc := rfl
@[simp] theorem State.lockWait_wa (p o : Nat) (v : Word) : (s.wa p o v).lockWait = s.lockWait := rfl
@[simp] theorem State.fresh_wa (p o : Nat) (v : Word) : (s.wa p o v).fresh = s.fresh := rfl
@[simp] theorem State.time_wa (p o : Nat) (v : Word) : (s.wa p o v).time = s.time := rfl
@[simp] theorem State.freeCtr_wa (p o : Nat) (v : Word) : (s.wa p o v).freeCtr = s.freeCtr := rfl
@[simp] theorem State.pending_wa (p o : Nat) (v : Word) : (s.wa p o v).pending = s.pending := rfl

@[simp] theorem State.grade_sf (p o hi lo x : Nat) : (s.sf p o hi lo x).grade = s.grade := rfl
@[simp] theorem State.fused_sf (p o hi lo x : Nat) : (s.sf p o hi lo x).fused = s.fused := rfl
@[simp] theorem State.act_sf (p o hi lo x : Nat) : (s.sf p o hi lo x).act = s.act := rfl
@[simp] theorem State.srst_sf (p o hi lo x : Nat) : (s.sf p o hi lo x).srst = s.srst := rfl
@[simp] theorem State.waiting_sf (p o hi lo x : Nat) : (s.sf p o hi lo x).waiting = s.waiting := rfl
@[simp] theorem State.resp_sf (p o hi lo x : Nat) : (s.sf p o hi lo x).resp = s.resp := rfl
@[simp] theorem State.seam_sf (p o hi lo x : Nat) : (s.sf p o hi lo x).seam = s.seam := rfl
@[simp] theorem State.clk_sf (p o hi lo x : Nat) : (s.sf p o hi lo x).clk = s.clk := rfl
@[simp] theorem State.ltb_sf (p o hi lo x : Nat) : (s.sf p o hi lo x).ltb = s.ltb := rfl
@[simp] theorem State.ten_sf (p o hi lo x : Nat) : (s.sf p o hi lo x).ten = s.ten := rfl
@[simp] theorem State.doms_sf (p o hi lo x : Nat) : (s.sf p o hi lo x).doms = s.doms := rfl
@[simp] theorem State.adm_sf (p o hi lo x : Nat) : (s.sf p o hi lo x).adm = s.adm := rfl
@[simp] theorem State.welt_sf (p o hi lo x : Nat) : (s.sf p o hi lo x).welt = s.welt := rfl
@[simp] theorem State.cores_sf (p o hi lo x : Nat) : (s.sf p o hi lo x).cores = s.cores := rfl
@[simp] theorem State.grv_sf (p o hi lo x : Nat) : (s.sf p o hi lo x).grv = s.grv := rfl
@[simp] theorem State.ald_sf (p o hi lo x : Nat) : (s.sf p o hi lo x).ald = s.ald := rfl
@[simp] theorem State.sec_sf (p o hi lo x : Nat) : (s.sf p o hi lo x).sec = s.sec := rfl
@[simp] theorem State.caps_sf (p o hi lo x : Nat) : (s.sf p o hi lo x).caps = s.caps := rfl
@[simp] theorem State.trig_sf (p o hi lo x : Nat) : (s.sf p o hi lo x).trig = s.trig := rfl
@[simp] theorem State.isp_sf (p o hi lo x : Nat) : (s.sf p o hi lo x).isp = s.isp := rfl
@[simp] theorem State.sill_sf (p o hi lo x : Nat) : (s.sf p o hi lo x).sill = s.sill := rfl
@[simp] theorem State.scn_sf (p o hi lo x : Nat) : (s.sf p o hi lo x).scn = s.scn := rfl
@[simp] theorem State.dps_sf (p o hi lo x : Nat) : (s.sf p o hi lo x).dps = s.dps := rfl
@[simp] theorem State.icv_sf (p o hi lo x : Nat) : (s.sf p o hi lo x).icv = s.icv := rfl
@[simp] theorem State.light_sf (p o hi lo x : Nat) : (s.sf p o hi lo x).light = s.light := rfl
@[simp] theorem State.lace_sf (p o hi lo x : Nat) : (s.sf p o hi lo x).lace = s.lace := rfl
@[simp] theorem State.awl_sf (p o hi lo x : Nat) : (s.sf p o hi lo x).awl = s.awl := rfl
@[simp] theorem State.lanes_sf (p o hi lo x : Nat) : (s.sf p o hi lo x).lanes = s.lanes := rfl
@[simp] theorem State.links_sf (p o hi lo x : Nat) : (s.sf p o hi lo x).links = s.links := rfl
@[simp] theorem State.cans_sf (p o hi lo x : Nat) : (s.sf p o hi lo x).cans = s.cans := rfl
@[simp] theorem State.lin_sf (p o hi lo x : Nat) : (s.sf p o hi lo x).lin = s.lin := rfl
@[simp] theorem State.i2cs_sf (p o hi lo x : Nat) : (s.sf p o hi lo x).i2cs = s.i2cs := rfl
@[simp] theorem State.spis_sf (p o hi lo x : Nat) : (s.sf p o hi lo x).spis = s.spis := rfl
@[simp] theorem State.xspi_sf (p o hi lo x : Nat) : (s.sf p o hi lo x).xspi = s.xspi := rfl
@[simp] theorem State.adc_sf (p o hi lo x : Nat) : (s.sf p o hi lo x).adc = s.adc := rfl
@[simp] theorem State.pins_sf (p o hi lo x : Nat) : (s.sf p o hi lo x).pins = s.pins := rfl
@[simp] theorem State.wake_sf (p o hi lo x : Nat) : (s.sf p o hi lo x).wake = s.wake := rfl
@[simp] theorem State.pwr_sf (p o hi lo x : Nat) : (s.sf p o hi lo x).pwr = s.pwr := rfl
@[simp] theorem State.mem_sf (p o hi lo x : Nat) : (s.sf p o hi lo x).mem = s.mem := rfl
@[simp] theorem State.epoch_sf (p o hi lo x : Nat) : (s.sf p o hi lo x).epoch = s.epoch := rfl
@[simp] theorem State.now_sf (p o hi lo x : Nat) : (s.sf p o hi lo x).now = s.now := rfl
@[simp] theorem State.osc_sf (p o hi lo x : Nat) : (s.sf p o hi lo x).osc = s.osc := rfl
@[simp] theorem State.lockWait_sf (p o hi lo x : Nat) : (s.sf p o hi lo x).lockWait = s.lockWait := rfl
@[simp] theorem State.fresh_sf (p o hi lo x : Nat) : (s.sf p o hi lo x).fresh = s.fresh := rfl
@[simp] theorem State.time_sf (p o hi lo x : Nat) : (s.sf p o hi lo x).time = s.time := rfl
@[simp] theorem State.freeCtr_sf (p o hi lo x : Nat) : (s.sf p o hi lo x).freeCtr = s.freeCtr := rfl
@[simp] theorem State.pending_sf (p o hi lo x : Nat) : (s.sf p o hi lo x).pending = s.pending := rfl

@[simp] theorem State.grade_cntUp (p o hi lo n : Nat) : (s.cntUp p o hi lo n).grade = s.grade := rfl
@[simp] theorem State.fused_cntUp (p o hi lo n : Nat) : (s.cntUp p o hi lo n).fused = s.fused := rfl
@[simp] theorem State.act_cntUp (p o hi lo n : Nat) : (s.cntUp p o hi lo n).act = s.act := rfl
@[simp] theorem State.srst_cntUp (p o hi lo n : Nat) : (s.cntUp p o hi lo n).srst = s.srst := rfl
@[simp] theorem State.waiting_cntUp (p o hi lo n : Nat) : (s.cntUp p o hi lo n).waiting = s.waiting := rfl
@[simp] theorem State.resp_cntUp (p o hi lo n : Nat) : (s.cntUp p o hi lo n).resp = s.resp := rfl
@[simp] theorem State.seam_cntUp (p o hi lo n : Nat) : (s.cntUp p o hi lo n).seam = s.seam := rfl
@[simp] theorem State.clk_cntUp (p o hi lo n : Nat) : (s.cntUp p o hi lo n).clk = s.clk := rfl
@[simp] theorem State.ltb_cntUp (p o hi lo n : Nat) : (s.cntUp p o hi lo n).ltb = s.ltb := rfl
@[simp] theorem State.ten_cntUp (p o hi lo n : Nat) : (s.cntUp p o hi lo n).ten = s.ten := rfl
@[simp] theorem State.doms_cntUp (p o hi lo n : Nat) : (s.cntUp p o hi lo n).doms = s.doms := rfl
@[simp] theorem State.adm_cntUp (p o hi lo n : Nat) : (s.cntUp p o hi lo n).adm = s.adm := rfl
@[simp] theorem State.welt_cntUp (p o hi lo n : Nat) : (s.cntUp p o hi lo n).welt = s.welt := rfl
@[simp] theorem State.cores_cntUp (p o hi lo n : Nat) : (s.cntUp p o hi lo n).cores = s.cores := rfl
@[simp] theorem State.grv_cntUp (p o hi lo n : Nat) : (s.cntUp p o hi lo n).grv = s.grv := rfl
@[simp] theorem State.ald_cntUp (p o hi lo n : Nat) : (s.cntUp p o hi lo n).ald = s.ald := rfl
@[simp] theorem State.sec_cntUp (p o hi lo n : Nat) : (s.cntUp p o hi lo n).sec = s.sec := rfl
@[simp] theorem State.caps_cntUp (p o hi lo n : Nat) : (s.cntUp p o hi lo n).caps = s.caps := rfl
@[simp] theorem State.trig_cntUp (p o hi lo n : Nat) : (s.cntUp p o hi lo n).trig = s.trig := rfl
@[simp] theorem State.isp_cntUp (p o hi lo n : Nat) : (s.cntUp p o hi lo n).isp = s.isp := rfl
@[simp] theorem State.sill_cntUp (p o hi lo n : Nat) : (s.cntUp p o hi lo n).sill = s.sill := rfl
@[simp] theorem State.scn_cntUp (p o hi lo n : Nat) : (s.cntUp p o hi lo n).scn = s.scn := rfl
@[simp] theorem State.dps_cntUp (p o hi lo n : Nat) : (s.cntUp p o hi lo n).dps = s.dps := rfl
@[simp] theorem State.icv_cntUp (p o hi lo n : Nat) : (s.cntUp p o hi lo n).icv = s.icv := rfl
@[simp] theorem State.light_cntUp (p o hi lo n : Nat) : (s.cntUp p o hi lo n).light = s.light := rfl
@[simp] theorem State.lace_cntUp (p o hi lo n : Nat) : (s.cntUp p o hi lo n).lace = s.lace := rfl
@[simp] theorem State.awl_cntUp (p o hi lo n : Nat) : (s.cntUp p o hi lo n).awl = s.awl := rfl
@[simp] theorem State.lanes_cntUp (p o hi lo n : Nat) : (s.cntUp p o hi lo n).lanes = s.lanes := rfl
@[simp] theorem State.links_cntUp (p o hi lo n : Nat) : (s.cntUp p o hi lo n).links = s.links := rfl
@[simp] theorem State.cans_cntUp (p o hi lo n : Nat) : (s.cntUp p o hi lo n).cans = s.cans := rfl
@[simp] theorem State.lin_cntUp (p o hi lo n : Nat) : (s.cntUp p o hi lo n).lin = s.lin := rfl
@[simp] theorem State.i2cs_cntUp (p o hi lo n : Nat) : (s.cntUp p o hi lo n).i2cs = s.i2cs := rfl
@[simp] theorem State.spis_cntUp (p o hi lo n : Nat) : (s.cntUp p o hi lo n).spis = s.spis := rfl
@[simp] theorem State.xspi_cntUp (p o hi lo n : Nat) : (s.cntUp p o hi lo n).xspi = s.xspi := rfl
@[simp] theorem State.adc_cntUp (p o hi lo n : Nat) : (s.cntUp p o hi lo n).adc = s.adc := rfl
@[simp] theorem State.pins_cntUp (p o hi lo n : Nat) : (s.cntUp p o hi lo n).pins = s.pins := rfl
@[simp] theorem State.wake_cntUp (p o hi lo n : Nat) : (s.cntUp p o hi lo n).wake = s.wake := rfl
@[simp] theorem State.pwr_cntUp (p o hi lo n : Nat) : (s.cntUp p o hi lo n).pwr = s.pwr := rfl
@[simp] theorem State.mem_cntUp (p o hi lo n : Nat) : (s.cntUp p o hi lo n).mem = s.mem := rfl
@[simp] theorem State.epoch_cntUp (p o hi lo n : Nat) : (s.cntUp p o hi lo n).epoch = s.epoch := rfl
@[simp] theorem State.now_cntUp (p o hi lo n : Nat) : (s.cntUp p o hi lo n).now = s.now := rfl
@[simp] theorem State.osc_cntUp (p o hi lo n : Nat) : (s.cntUp p o hi lo n).osc = s.osc := rfl
@[simp] theorem State.lockWait_cntUp (p o hi lo n : Nat) : (s.cntUp p o hi lo n).lockWait = s.lockWait := rfl
@[simp] theorem State.fresh_cntUp (p o hi lo n : Nat) : (s.cntUp p o hi lo n).fresh = s.fresh := rfl
@[simp] theorem State.time_cntUp (p o hi lo n : Nat) : (s.cntUp p o hi lo n).time = s.time := rfl
@[simp] theorem State.freeCtr_cntUp (p o hi lo n : Nat) : (s.cntUp p o hi lo n).freeCtr = s.freeCtr := rfl
@[simp] theorem State.pending_cntUp (p o hi lo n : Nat) : (s.cntUp p o hi lo n).pending = s.pending := rfl

@[simp] theorem State.grade_ev (p b : Nat) : (s.ev p b).grade = s.grade := rfl
@[simp] theorem State.fused_ev (p b : Nat) : (s.ev p b).fused = s.fused := rfl
@[simp] theorem State.act_ev (p b : Nat) : (s.ev p b).act = s.act := rfl
@[simp] theorem State.srst_ev (p b : Nat) : (s.ev p b).srst = s.srst := rfl
@[simp] theorem State.waiting_ev (p b : Nat) : (s.ev p b).waiting = s.waiting := rfl
@[simp] theorem State.resp_ev (p b : Nat) : (s.ev p b).resp = s.resp := rfl
@[simp] theorem State.seam_ev (p b : Nat) : (s.ev p b).seam = s.seam := rfl
@[simp] theorem State.clk_ev (p b : Nat) : (s.ev p b).clk = s.clk := rfl
@[simp] theorem State.ltb_ev (p b : Nat) : (s.ev p b).ltb = s.ltb := rfl
@[simp] theorem State.ten_ev (p b : Nat) : (s.ev p b).ten = s.ten := rfl
@[simp] theorem State.doms_ev (p b : Nat) : (s.ev p b).doms = s.doms := rfl
@[simp] theorem State.adm_ev (p b : Nat) : (s.ev p b).adm = s.adm := rfl
@[simp] theorem State.welt_ev (p b : Nat) : (s.ev p b).welt = s.welt := rfl
@[simp] theorem State.cores_ev (p b : Nat) : (s.ev p b).cores = s.cores := rfl
@[simp] theorem State.grv_ev (p b : Nat) : (s.ev p b).grv = s.grv := rfl
@[simp] theorem State.ald_ev (p b : Nat) : (s.ev p b).ald = s.ald := rfl
@[simp] theorem State.sec_ev (p b : Nat) : (s.ev p b).sec = s.sec := rfl
@[simp] theorem State.caps_ev (p b : Nat) : (s.ev p b).caps = s.caps := rfl
@[simp] theorem State.trig_ev (p b : Nat) : (s.ev p b).trig = s.trig := rfl
@[simp] theorem State.isp_ev (p b : Nat) : (s.ev p b).isp = s.isp := rfl
@[simp] theorem State.sill_ev (p b : Nat) : (s.ev p b).sill = s.sill := rfl
@[simp] theorem State.scn_ev (p b : Nat) : (s.ev p b).scn = s.scn := rfl
@[simp] theorem State.dps_ev (p b : Nat) : (s.ev p b).dps = s.dps := rfl
@[simp] theorem State.icv_ev (p b : Nat) : (s.ev p b).icv = s.icv := rfl
@[simp] theorem State.light_ev (p b : Nat) : (s.ev p b).light = s.light := rfl
@[simp] theorem State.lace_ev (p b : Nat) : (s.ev p b).lace = s.lace := rfl
@[simp] theorem State.awl_ev (p b : Nat) : (s.ev p b).awl = s.awl := rfl
@[simp] theorem State.lanes_ev (p b : Nat) : (s.ev p b).lanes = s.lanes := rfl
@[simp] theorem State.links_ev (p b : Nat) : (s.ev p b).links = s.links := rfl
@[simp] theorem State.cans_ev (p b : Nat) : (s.ev p b).cans = s.cans := rfl
@[simp] theorem State.lin_ev (p b : Nat) : (s.ev p b).lin = s.lin := rfl
@[simp] theorem State.i2cs_ev (p b : Nat) : (s.ev p b).i2cs = s.i2cs := rfl
@[simp] theorem State.spis_ev (p b : Nat) : (s.ev p b).spis = s.spis := rfl
@[simp] theorem State.xspi_ev (p b : Nat) : (s.ev p b).xspi = s.xspi := rfl
@[simp] theorem State.adc_ev (p b : Nat) : (s.ev p b).adc = s.adc := rfl
@[simp] theorem State.pins_ev (p b : Nat) : (s.ev p b).pins = s.pins := rfl
@[simp] theorem State.wake_ev (p b : Nat) : (s.ev p b).wake = s.wake := rfl
@[simp] theorem State.pwr_ev (p b : Nat) : (s.ev p b).pwr = s.pwr := rfl
@[simp] theorem State.mem_ev (p b : Nat) : (s.ev p b).mem = s.mem := rfl
@[simp] theorem State.epoch_ev (p b : Nat) : (s.ev p b).epoch = s.epoch := rfl
@[simp] theorem State.now_ev (p b : Nat) : (s.ev p b).now = s.now := rfl
@[simp] theorem State.osc_ev (p b : Nat) : (s.ev p b).osc = s.osc := rfl
@[simp] theorem State.lockWait_ev (p b : Nat) : (s.ev p b).lockWait = s.lockWait := rfl
@[simp] theorem State.time_ev (p b : Nat) : (s.ev p b).time = s.time := rfl
@[simp] theorem State.freeCtr_ev (p b : Nat) : (s.ev p b).freeCtr = s.freeCtr := rfl
@[simp] theorem State.pending_ev (p b : Nat) : (s.ev p b).pending = s.pending := rfl

@[simp] theorem State.grade_err (p c i : Nat) : (s.err p c i).grade = s.grade := by unfold State.err; split <;> rfl
@[simp] theorem State.fused_err (p c i : Nat) : (s.err p c i).fused = s.fused := by unfold State.err; split <;> rfl
@[simp] theorem State.act_err (p c i : Nat) : (s.err p c i).act = s.act := by unfold State.err; split <;> rfl
@[simp] theorem State.srst_err (p c i : Nat) : (s.err p c i).srst = s.srst := by unfold State.err; split <;> rfl
@[simp] theorem State.waiting_err (p c i : Nat) : (s.err p c i).waiting = s.waiting := by unfold State.err; split <;> rfl
@[simp] theorem State.resp_err (p c i : Nat) : (s.err p c i).resp = s.resp := by unfold State.err; split <;> rfl
@[simp] theorem State.seam_err (p c i : Nat) : (s.err p c i).seam = s.seam := by unfold State.err; split <;> rfl
@[simp] theorem State.clk_err (p c i : Nat) : (s.err p c i).clk = s.clk := by unfold State.err; split <;> rfl
@[simp] theorem State.ltb_err (p c i : Nat) : (s.err p c i).ltb = s.ltb := by unfold State.err; split <;> rfl
@[simp] theorem State.ten_err (p c i : Nat) : (s.err p c i).ten = s.ten := by unfold State.err; split <;> rfl
@[simp] theorem State.doms_err (p c i : Nat) : (s.err p c i).doms = s.doms := by unfold State.err; split <;> rfl
@[simp] theorem State.adm_err (p c i : Nat) : (s.err p c i).adm = s.adm := by unfold State.err; split <;> rfl
@[simp] theorem State.welt_err (p c i : Nat) : (s.err p c i).welt = s.welt := by unfold State.err; split <;> rfl
@[simp] theorem State.cores_err (p c i : Nat) : (s.err p c i).cores = s.cores := by unfold State.err; split <;> rfl
@[simp] theorem State.grv_err (p c i : Nat) : (s.err p c i).grv = s.grv := by unfold State.err; split <;> rfl
@[simp] theorem State.ald_err (p c i : Nat) : (s.err p c i).ald = s.ald := by unfold State.err; split <;> rfl
@[simp] theorem State.sec_err (p c i : Nat) : (s.err p c i).sec = s.sec := by unfold State.err; split <;> rfl
@[simp] theorem State.caps_err (p c i : Nat) : (s.err p c i).caps = s.caps := by unfold State.err; split <;> rfl
@[simp] theorem State.trig_err (p c i : Nat) : (s.err p c i).trig = s.trig := by unfold State.err; split <;> rfl
@[simp] theorem State.isp_err (p c i : Nat) : (s.err p c i).isp = s.isp := by unfold State.err; split <;> rfl
@[simp] theorem State.sill_err (p c i : Nat) : (s.err p c i).sill = s.sill := by unfold State.err; split <;> rfl
@[simp] theorem State.scn_err (p c i : Nat) : (s.err p c i).scn = s.scn := by unfold State.err; split <;> rfl
@[simp] theorem State.dps_err (p c i : Nat) : (s.err p c i).dps = s.dps := by unfold State.err; split <;> rfl
@[simp] theorem State.icv_err (p c i : Nat) : (s.err p c i).icv = s.icv := by unfold State.err; split <;> rfl
@[simp] theorem State.light_err (p c i : Nat) : (s.err p c i).light = s.light := by unfold State.err; split <;> rfl
@[simp] theorem State.lace_err (p c i : Nat) : (s.err p c i).lace = s.lace := by unfold State.err; split <;> rfl
@[simp] theorem State.awl_err (p c i : Nat) : (s.err p c i).awl = s.awl := by unfold State.err; split <;> rfl
@[simp] theorem State.lanes_err (p c i : Nat) : (s.err p c i).lanes = s.lanes := by unfold State.err; split <;> rfl
@[simp] theorem State.links_err (p c i : Nat) : (s.err p c i).links = s.links := by unfold State.err; split <;> rfl
@[simp] theorem State.cans_err (p c i : Nat) : (s.err p c i).cans = s.cans := by unfold State.err; split <;> rfl
@[simp] theorem State.lin_err (p c i : Nat) : (s.err p c i).lin = s.lin := by unfold State.err; split <;> rfl
@[simp] theorem State.i2cs_err (p c i : Nat) : (s.err p c i).i2cs = s.i2cs := by unfold State.err; split <;> rfl
@[simp] theorem State.spis_err (p c i : Nat) : (s.err p c i).spis = s.spis := by unfold State.err; split <;> rfl
@[simp] theorem State.xspi_err (p c i : Nat) : (s.err p c i).xspi = s.xspi := by unfold State.err; split <;> rfl
@[simp] theorem State.adc_err (p c i : Nat) : (s.err p c i).adc = s.adc := by unfold State.err; split <;> rfl
@[simp] theorem State.pins_err (p c i : Nat) : (s.err p c i).pins = s.pins := by unfold State.err; split <;> rfl
@[simp] theorem State.wake_err (p c i : Nat) : (s.err p c i).wake = s.wake := by unfold State.err; split <;> rfl
@[simp] theorem State.pwr_err (p c i : Nat) : (s.err p c i).pwr = s.pwr := by unfold State.err; split <;> rfl
@[simp] theorem State.mem_err (p c i : Nat) : (s.err p c i).mem = s.mem := by unfold State.err; split <;> rfl
@[simp] theorem State.epoch_err (p c i : Nat) : (s.err p c i).epoch = s.epoch := by unfold State.err; split <;> rfl
@[simp] theorem State.now_err (p c i : Nat) : (s.err p c i).now = s.now := by unfold State.err; split <;> rfl
@[simp] theorem State.osc_err (p c i : Nat) : (s.err p c i).osc = s.osc := by unfold State.err; split <;> rfl
@[simp] theorem State.lockWait_err (p c i : Nat) : (s.err p c i).lockWait = s.lockWait := by unfold State.err; split <;> rfl
@[simp] theorem State.time_err (p c i : Nat) : (s.err p c i).time = s.time := by unfold State.err; split <;> rfl
@[simp] theorem State.freeCtr_err (p c i : Nat) : (s.err p c i).freeCtr = s.freeCtr := by unfold State.err; split <;> rfl
@[simp] theorem State.pending_err (p c i : Nat) : (s.err p c i).pending = s.pending := by unfold State.err; split <;> rfl

@[simp] theorem State.grade_answer (st : Sts) (d : Word) : (s.answer st d).grade = s.grade := rfl
@[simp] theorem State.fused_answer (st : Sts) (d : Word) : (s.answer st d).fused = s.fused := rfl
@[simp] theorem State.regs_answer (st : Sts) (d : Word) : (s.answer st d).regs = s.regs := rfl
@[simp] theorem State.act_answer (st : Sts) (d : Word) : (s.answer st d).act = s.act := rfl
@[simp] theorem State.srst_answer (st : Sts) (d : Word) : (s.answer st d).srst = s.srst := rfl
@[simp] theorem State.waiting_answer (st : Sts) (d : Word) : (s.answer st d).waiting = s.waiting := rfl
@[simp] theorem State.seam_answer (st : Sts) (d : Word) : (s.answer st d).seam = s.seam := rfl
@[simp] theorem State.clk_answer (st : Sts) (d : Word) : (s.answer st d).clk = s.clk := rfl
@[simp] theorem State.ltb_answer (st : Sts) (d : Word) : (s.answer st d).ltb = s.ltb := rfl
@[simp] theorem State.ten_answer (st : Sts) (d : Word) : (s.answer st d).ten = s.ten := rfl
@[simp] theorem State.doms_answer (st : Sts) (d : Word) : (s.answer st d).doms = s.doms := rfl
@[simp] theorem State.adm_answer (st : Sts) (d : Word) : (s.answer st d).adm = s.adm := rfl
@[simp] theorem State.welt_answer (st : Sts) (d : Word) : (s.answer st d).welt = s.welt := rfl
@[simp] theorem State.cores_answer (st : Sts) (d : Word) : (s.answer st d).cores = s.cores := rfl
@[simp] theorem State.grv_answer (st : Sts) (d : Word) : (s.answer st d).grv = s.grv := rfl
@[simp] theorem State.ald_answer (st : Sts) (d : Word) : (s.answer st d).ald = s.ald := rfl
@[simp] theorem State.sec_answer (st : Sts) (d : Word) : (s.answer st d).sec = s.sec := rfl
@[simp] theorem State.caps_answer (st : Sts) (d : Word) : (s.answer st d).caps = s.caps := rfl
@[simp] theorem State.trig_answer (st : Sts) (d : Word) : (s.answer st d).trig = s.trig := rfl
@[simp] theorem State.isp_answer (st : Sts) (d : Word) : (s.answer st d).isp = s.isp := rfl
@[simp] theorem State.sill_answer (st : Sts) (d : Word) : (s.answer st d).sill = s.sill := rfl
@[simp] theorem State.scn_answer (st : Sts) (d : Word) : (s.answer st d).scn = s.scn := rfl
@[simp] theorem State.dps_answer (st : Sts) (d : Word) : (s.answer st d).dps = s.dps := rfl
@[simp] theorem State.icv_answer (st : Sts) (d : Word) : (s.answer st d).icv = s.icv := rfl
@[simp] theorem State.light_answer (st : Sts) (d : Word) : (s.answer st d).light = s.light := rfl
@[simp] theorem State.lace_answer (st : Sts) (d : Word) : (s.answer st d).lace = s.lace := rfl
@[simp] theorem State.awl_answer (st : Sts) (d : Word) : (s.answer st d).awl = s.awl := rfl
@[simp] theorem State.lanes_answer (st : Sts) (d : Word) : (s.answer st d).lanes = s.lanes := rfl
@[simp] theorem State.links_answer (st : Sts) (d : Word) : (s.answer st d).links = s.links := rfl
@[simp] theorem State.cans_answer (st : Sts) (d : Word) : (s.answer st d).cans = s.cans := rfl
@[simp] theorem State.lin_answer (st : Sts) (d : Word) : (s.answer st d).lin = s.lin := rfl
@[simp] theorem State.i2cs_answer (st : Sts) (d : Word) : (s.answer st d).i2cs = s.i2cs := rfl
@[simp] theorem State.spis_answer (st : Sts) (d : Word) : (s.answer st d).spis = s.spis := rfl
@[simp] theorem State.xspi_answer (st : Sts) (d : Word) : (s.answer st d).xspi = s.xspi := rfl
@[simp] theorem State.adc_answer (st : Sts) (d : Word) : (s.answer st d).adc = s.adc := rfl
@[simp] theorem State.pins_answer (st : Sts) (d : Word) : (s.answer st d).pins = s.pins := rfl
@[simp] theorem State.wake_answer (st : Sts) (d : Word) : (s.answer st d).wake = s.wake := rfl
@[simp] theorem State.pwr_answer (st : Sts) (d : Word) : (s.answer st d).pwr = s.pwr := rfl
@[simp] theorem State.mem_answer (st : Sts) (d : Word) : (s.answer st d).mem = s.mem := rfl
@[simp] theorem State.epoch_answer (st : Sts) (d : Word) : (s.answer st d).epoch = s.epoch := rfl
@[simp] theorem State.now_answer (st : Sts) (d : Word) : (s.answer st d).now = s.now := rfl
@[simp] theorem State.osc_answer (st : Sts) (d : Word) : (s.answer st d).osc = s.osc := rfl
@[simp] theorem State.lockWait_answer (st : Sts) (d : Word) : (s.answer st d).lockWait = s.lockWait := rfl
@[simp] theorem State.fresh_answer (st : Sts) (d : Word) : (s.answer st d).fresh = s.fresh := rfl
@[simp] theorem State.time_answer (st : Sts) (d : Word) : (s.answer st d).time = s.time := rfl
@[simp] theorem State.freeCtr_answer (st : Sts) (d : Word) : (s.answer st d).freeCtr = s.freeCtr := rfl
@[simp] theorem State.pending_answer (st : Sts) (d : Word) : (s.answer st d).pending = s.pending := rfl

@[simp] theorem State.grade_wrByte (a : Nat) (v : Byte) : (s.wrByte a v).grade = s.grade := by unfold State.wrByte; split <;> rfl
@[simp] theorem State.fused_wrByte (a : Nat) (v : Byte) : (s.wrByte a v).fused = s.fused := by unfold State.wrByte; split <;> rfl
@[simp] theorem State.regs_wrByte (a : Nat) (v : Byte) : (s.wrByte a v).regs = s.regs := by unfold State.wrByte; split <;> rfl
@[simp] theorem State.act_wrByte (a : Nat) (v : Byte) : (s.wrByte a v).act = s.act := by unfold State.wrByte; split <;> rfl
@[simp] theorem State.srst_wrByte (a : Nat) (v : Byte) : (s.wrByte a v).srst = s.srst := by unfold State.wrByte; split <;> rfl
@[simp] theorem State.waiting_wrByte (a : Nat) (v : Byte) : (s.wrByte a v).waiting = s.waiting := by unfold State.wrByte; split <;> rfl
@[simp] theorem State.resp_wrByte (a : Nat) (v : Byte) : (s.wrByte a v).resp = s.resp := by unfold State.wrByte; split <;> rfl
@[simp] theorem State.seam_wrByte (a : Nat) (v : Byte) : (s.wrByte a v).seam = s.seam := by unfold State.wrByte; split <;> rfl
@[simp] theorem State.clk_wrByte (a : Nat) (v : Byte) : (s.wrByte a v).clk = s.clk := by unfold State.wrByte; split <;> rfl
@[simp] theorem State.ltb_wrByte (a : Nat) (v : Byte) : (s.wrByte a v).ltb = s.ltb := by unfold State.wrByte; split <;> rfl
@[simp] theorem State.ten_wrByte (a : Nat) (v : Byte) : (s.wrByte a v).ten = s.ten := by unfold State.wrByte; split <;> rfl
@[simp] theorem State.doms_wrByte (a : Nat) (v : Byte) : (s.wrByte a v).doms = s.doms := by unfold State.wrByte; split <;> rfl
@[simp] theorem State.adm_wrByte (a : Nat) (v : Byte) : (s.wrByte a v).adm = s.adm := by unfold State.wrByte; split <;> rfl
@[simp] theorem State.welt_wrByte (a : Nat) (v : Byte) : (s.wrByte a v).welt = s.welt := by unfold State.wrByte; split <;> rfl
@[simp] theorem State.cores_wrByte (a : Nat) (v : Byte) : (s.wrByte a v).cores = s.cores := by unfold State.wrByte; split <;> rfl
@[simp] theorem State.grv_wrByte (a : Nat) (v : Byte) : (s.wrByte a v).grv = s.grv := by unfold State.wrByte; split <;> rfl
@[simp] theorem State.ald_wrByte (a : Nat) (v : Byte) : (s.wrByte a v).ald = s.ald := by unfold State.wrByte; split <;> rfl
@[simp] theorem State.sec_wrByte (a : Nat) (v : Byte) : (s.wrByte a v).sec = s.sec := by unfold State.wrByte; split <;> rfl
@[simp] theorem State.caps_wrByte (a : Nat) (v : Byte) : (s.wrByte a v).caps = s.caps := by unfold State.wrByte; split <;> rfl
@[simp] theorem State.trig_wrByte (a : Nat) (v : Byte) : (s.wrByte a v).trig = s.trig := by unfold State.wrByte; split <;> rfl
@[simp] theorem State.isp_wrByte (a : Nat) (v : Byte) : (s.wrByte a v).isp = s.isp := by unfold State.wrByte; split <;> rfl
@[simp] theorem State.sill_wrByte (a : Nat) (v : Byte) : (s.wrByte a v).sill = s.sill := by unfold State.wrByte; split <;> rfl
@[simp] theorem State.scn_wrByte (a : Nat) (v : Byte) : (s.wrByte a v).scn = s.scn := by unfold State.wrByte; split <;> rfl
@[simp] theorem State.dps_wrByte (a : Nat) (v : Byte) : (s.wrByte a v).dps = s.dps := by unfold State.wrByte; split <;> rfl
@[simp] theorem State.icv_wrByte (a : Nat) (v : Byte) : (s.wrByte a v).icv = s.icv := by unfold State.wrByte; split <;> rfl
@[simp] theorem State.light_wrByte (a : Nat) (v : Byte) : (s.wrByte a v).light = s.light := by unfold State.wrByte; split <;> rfl
@[simp] theorem State.lace_wrByte (a : Nat) (v : Byte) : (s.wrByte a v).lace = s.lace := by unfold State.wrByte; split <;> rfl
@[simp] theorem State.awl_wrByte (a : Nat) (v : Byte) : (s.wrByte a v).awl = s.awl := by unfold State.wrByte; split <;> rfl
@[simp] theorem State.lanes_wrByte (a : Nat) (v : Byte) : (s.wrByte a v).lanes = s.lanes := by unfold State.wrByte; split <;> rfl
@[simp] theorem State.links_wrByte (a : Nat) (v : Byte) : (s.wrByte a v).links = s.links := by unfold State.wrByte; split <;> rfl
@[simp] theorem State.cans_wrByte (a : Nat) (v : Byte) : (s.wrByte a v).cans = s.cans := by unfold State.wrByte; split <;> rfl
@[simp] theorem State.lin_wrByte (a : Nat) (v : Byte) : (s.wrByte a v).lin = s.lin := by unfold State.wrByte; split <;> rfl
@[simp] theorem State.i2cs_wrByte (a : Nat) (v : Byte) : (s.wrByte a v).i2cs = s.i2cs := by unfold State.wrByte; split <;> rfl
@[simp] theorem State.spis_wrByte (a : Nat) (v : Byte) : (s.wrByte a v).spis = s.spis := by unfold State.wrByte; split <;> rfl
@[simp] theorem State.xspi_wrByte (a : Nat) (v : Byte) : (s.wrByte a v).xspi = s.xspi := by unfold State.wrByte; split <;> rfl
@[simp] theorem State.adc_wrByte (a : Nat) (v : Byte) : (s.wrByte a v).adc = s.adc := by unfold State.wrByte; split <;> rfl
@[simp] theorem State.pins_wrByte (a : Nat) (v : Byte) : (s.wrByte a v).pins = s.pins := by unfold State.wrByte; split <;> rfl
@[simp] theorem State.wake_wrByte (a : Nat) (v : Byte) : (s.wrByte a v).wake = s.wake := by unfold State.wrByte; split <;> rfl
@[simp] theorem State.pwr_wrByte (a : Nat) (v : Byte) : (s.wrByte a v).pwr = s.pwr := by unfold State.wrByte; split <;> rfl
@[simp] theorem State.epoch_wrByte (a : Nat) (v : Byte) : (s.wrByte a v).epoch = s.epoch := by unfold State.wrByte; split <;> rfl
@[simp] theorem State.now_wrByte (a : Nat) (v : Byte) : (s.wrByte a v).now = s.now := by unfold State.wrByte; split <;> rfl
@[simp] theorem State.osc_wrByte (a : Nat) (v : Byte) : (s.wrByte a v).osc = s.osc := by unfold State.wrByte; split <;> rfl
@[simp] theorem State.lockWait_wrByte (a : Nat) (v : Byte) : (s.wrByte a v).lockWait = s.lockWait := by unfold State.wrByte; split <;> rfl
@[simp] theorem State.fresh_wrByte (a : Nat) (v : Byte) : (s.wrByte a v).fresh = s.fresh := by unfold State.wrByte; split <;> rfl
@[simp] theorem State.time_wrByte (a : Nat) (v : Byte) : (s.wrByte a v).time = s.time := by unfold State.wrByte; split <;> rfl
@[simp] theorem State.freeCtr_wrByte (a : Nat) (v : Byte) : (s.wrByte a v).freeCtr = s.freeCtr := by unfold State.wrByte; split <;> rfl
@[simp] theorem State.pending_wrByte (a : Nat) (v : Byte) : (s.wrByte a v).pending = s.pending := by unfold State.wrByte; split <;> rfl

@[simp] theorem State.r_answer (st : Sts) (d : Word) (p o : Nat) : (s.answer st d).r p o = s.r p o := rfl
@[simp] theorem State.a_answer (st : Sts) (d : Word) (p o : Nat) : (s.answer st d).a p o = s.a p o := rfl
@[simp] theorem State.f_answer (st : Sts) (d : Word) (p o hi lo : Nat) : (s.answer st d).f p o hi lo = s.f p o hi lo := rfl

end Sys2Proof.Machine
end

