-- ==== Sys2Proof/Laws/Gate.lean ====
section
/-! SUPPORT. Laws/Gate.lean: what an access that reaches its block does. -/

namespace Sys2Proof.Machine

theorem State.pageAllows_val (s : State) (t n p o z : Nat) (wr : Bool) (v v' : Word) :
    s.pageAllows ⟨t, n, p, o, z, wr, v⟩ = s.pageAllows ⟨t, n, p, o, z, wr, v'⟩ := rfl

/-- A write that reaches its block is the page's write, answered OK. A write of the open lock is answered later. -/
theorem State.put_eq {s : State} {w : By} {b : Blk} {p o : Nat} (v : Word) (h : s.Writes w b p o) (ho : o % 4 = 0)
    (hi : b ≠ .secin) (hl : b ≠ .link ∨ o < 0x800) (hk : b ≠ .ten ∨ o ≠ 0x040) :
    s.put w p o v = (s.pageWrite b w.tnt w.ni p o v).answer .ok 0 := by
  obtain ⟨h1, hr, hb, hp, ha, hs, ht, hq⟩ := h
  have hr' : ¬ (224 * 4096 < p * 4096 + o + 4) := by omega
  have hk' : s.asksLock b ⟨w.tnt, w.ni, p, o, 4, true, v⟩ = false := by
    rcases hk with hk | hk <;> simp [State.asksLock, hk]
  have hl' : ¬ (b = Blk.link ∧ 0x800 ≤ o) := by rintro ⟨h, h'⟩; exact hl.elim (· h) (by omega)
  have hq' : ¬ (w.tnt.val ≠ 0 ∧ s.ten.quar.getLsbD w.tnt = true) := fun x => hq.elim x.1 fun e => by rw [e] at x; cases x.2
  rw [State.put, State.access, if_neg (by simp [h1]), if_neg hr', if_neg hq']
  simp [State.busAccess, h1, hb, hp, State.pageAccess, (State.pageAllows_val s _ _ _ _ _ _ v 0).trans ha, hs, ht,
    ho, hi, hl', hk', State.finish]

/-- A read that reaches its block is the page's read, answered with its word. -/
theorem State.take_eq {s : State} {w : By} {b : Blk} {p o : Nat} (h : s.Reads w b p o) (ho : o % 4 = 0)
    (hl : b ≠ .link ∨ o < 0x800) :
    s.take w p o = ((s.pageRead b p o).1).answer .ok (s.pageRead b p o).2 := by
  obtain ⟨h1, hr, hb, hp, ha, hs, hq⟩ := h
  have hr' : ¬ (224 * 4096 < p * 4096 + o + 4) := by omega
  have hl' : ¬ (b = Blk.link ∧ 0x800 ≤ o) := by rintro ⟨h, h'⟩; exact hl.elim (· h) (by omega)
  have hq' : ¬ (w.tnt.val ≠ 0 ∧ s.ten.quar.getLsbD w.tnt = true) := fun x => hq.elim x.1 fun e => by rw [e] at x; cases x.2
  rw [State.take, State.access, if_neg (by simp [h1]), if_neg hr', if_neg hq']
  simp [State.busAccess, h1, hb, hp, State.pageAccess, (State.pageAllows_val s _ _ _ _ _ _ _ 0).trans ha, hs, ho, hl', State.finish,
    State.asksLock]

theorem State.onSys_run {s : State} (h : s.domRun 1 = true) (f : State → State) : s.onSys f = f s := by simp [State.onSys, h]

end Sys2Proof.Machine
end

