-- ==== Sys2Proof/Laws/Memory.lean ====
section
/-! SUPPORT. Laws/Memory.lean: what the memory operations do to a byte, and that each keeps the canonical form. -/

namespace Sys2Proof.Machine

/-! ### Bytes -/

/-- A stored byte reads back where memory is. -/
theorem State.rdByte_wrByte_same (s : State) (a : Nat) (v : Byte) (h : memRegion a ≠ none) : (s.wrByte a v).rdByte a = v := by
  simp [State.wrByte, State.rdByte, h]

/-- A store leaves every other byte alone. -/
theorem State.rdByte_wrByte_ne (s : State) {a b : Nat} (v : Byte) (h : b ≠ a) : (s.wrByte a v).rdByte b = s.rdByte b := by
  unfold State.wrByte
  split
  · rfl
  · exact Sparse.get_put_ne _ h v _

@[simp] theorem State.epoch_wrBytes (s : State) (a : Nat) (l : List Byte) : (s.wrBytes a l).epoch = s.epoch := by
  induction l generalizing s a with
  | nil => rfl
  | cons b t ih => simp [State.wrBytes, ih]

/-- A store of bytes leaves every byte outside it alone. -/
theorem State.rdByte_wrBytes_ne (s : State) {a b : Nat} (l : List Byte) (h : b < a ∨ a + l.length ≤ b) :
    (s.wrBytes a l).rdByte b = s.rdByte b := by
  induction l generalizing s a with
  | nil => rfl
  | cons v t ih =>
    simp only [List.length_cons] at h
    rw [State.wrBytes, ih _ (by omega), State.rdByte_wrByte_ne s v (by omega)]

/-! ### The canonical form -/

theorem State.wrByte_wf (s : State) (a : Nat) (v : Byte) (h : Memory.wf s.epoch s.mem) :
    Memory.wf (s.wrByte a v).epoch (s.wrByte a v).mem := by
  rw [State.epoch_wrByte]
  unfold State.wrByte
  split
  · exact h
  · exact Sparse.put_wf _ a v _ h

theorem State.wrBytes_wf (s : State) (a : Nat) (l : List Byte) (h : Memory.wf s.epoch s.mem) :
    Memory.wf (s.wrBytes a l).epoch (s.wrBytes a l).mem := by
  induction l generalizing s a with
  | nil => exact h
  | cons b t ih => exact ih _ _ (s.wrByte_wf a b h)

/-- Two counts of losses that agree on the regions listed give the same form. -/
theorem memory_wf_congr {e e' : List Nat} {m : List Host.Cell} (hm : ∀ c ∈ m, memDefault e c.1 = memDefault e' c.1)
    (h : Memory.wf e m) : Memory.wf e' m := Sparse.wfFrom_congr _ _ 0 m hm h

theorem memDefault_congr {e e' : List Nat} {a : Nat} (h : ∀ r, memRegion a = some r → r ≠ 0 → e.getD r 0 = e'.getD r 0) :
    memDefault e a = memDefault e' a := by
  unfold memDefault
  cases hr : memRegion a with
  | none => rfl
  | some r =>
    by_cases h0 : r = 0
    · simp [h0]
    · simp only [h0, if_false, h r hr h0]

theorem State.loseRegion_wf (s : State) (r : Nat) (h : Memory.wf s.epoch s.mem) :
    Memory.wf (s.loseRegion r).epoch (s.loseRegion r).mem := by
  refine memory_wf_congr (e := s.epoch) (fun c hc => memDefault_congr fun q hq _ => ?_) (Sparse.filter_wf _ _ _ h)
  have hne : memRegion c.1 ≠ some r := by
    have := (List.mem_filter.mp hc).2
    simpa using this
  have : r ≠ q := fun e => hne (e ▸ hq)
  simp [State.loseRegion, List.getD_eq_getElem?_getD, this]

theorem foldl_w_mem (l : List (Nat × Nat)) (f : State → Nat × Nat → State) (hf : ∀ z k, (f z k).mem = z.mem ∧ (f z k).epoch = z.epoch)
    (s : State) : (l.foldl f s).mem = s.mem ∧ (l.foldl f s).epoch = s.epoch := by
  induction l generalizing s with
  | nil => exact ⟨rfl, rfl⟩
  | cons a t ih => exact ⟨(ih (f s a)).1.trans (hf s a).1, (ih (f s a)).2.trans (hf s a).2⟩

theorem State.evalUpd_mem (s : State) : s.evalUpd.mem = s.mem ∧ s.evalUpd.epoch = s.epoch := by
  simp only [State.evalUpd]
  split <;> simp only [State.mem_ev, State.mem_sf, State.mem_w, State.epoch_ev, State.epoch_sf, State.epoch_w, and_self]

theorem State.keepRegs_mem (z s : State) : (z.keepRegs s).mem = z.mem ∧ (z.keepRegs s).epoch = z.epoch := by
  rw [State.keepRegs, State.mem_sf, State.epoch_sf, State.mem_w, State.epoch_w]
  exact foldl_w_mem _ _ (fun z k => ⟨State.mem_w z _ _ _, State.epoch_w z _ _ _⟩) z

/-- What a reset of the SYS domain leaves of memory: the boot ROM and flash. -/
theorem State.cold_mem (s : State) (por : Bool) (doms : List Dom) :
    (s.cold por doms).mem = Sparse.keep (fun a => memRegion a == some 0 || memRegion a == some 3) s.mem ∧
    (s.cold por doms).epoch = s.epoch.zipIdx.map fun e => if e.2 = 0 ∨ e.2 = 3 then e.1 else e.1 + 1 := by
  rw [State.cold, (State.evalUpd_mem _).1, (State.evalUpd_mem _).2, State.mem_sf, State.epoch_sf]
  cases por
  · exact State.keepRegs_mem _ s
  · exact ⟨rfl, rfl⟩

theorem State.cold_wf (s : State) (por : Bool) (doms : List Dom) (h : Memory.wf s.epoch s.mem) :
    Memory.wf (s.cold por doms).epoch (s.cold por doms).mem := by
  rw [(s.cold_mem por doms).1, (s.cold_mem por doms).2]
  refine memory_wf_congr (e := s.epoch) (fun c hc => memDefault_congr fun q hq h0 => ?_) (Sparse.filter_wf _ _ _ h)
  have hk : memRegion c.1 = some 0 ∨ memRegion c.1 = some 3 := by simpa using (List.mem_filter.mp hc).2
  have : q = 3 := by rcases hk with e | e <;> rw [hq] at e <;> simp_all
  subst this
  cases he : s.epoch[3]? <;> simp [List.getD_eq_getElem?_getD, he]

/-- Memory after reset is in its canonical form. -/
theorem State.reset_mem_wf : Memory.wf State.reset.epoch State.reset.mem := rfl

end Sys2Proof.Machine
end

