-- ==== Sys2Proof/Tests/Slice0.lean ====
section
/-! SUPPORT. Tests/Slice0.lean: states that meet the hypotheses of the statements, ill-formed commands that WellFormed refuses,
and a few steps of the commands. -/

namespace Sys2Proof.Tests

open Sys2Proof Sys2Proof.Machine

-- One theorem at a time: checks of many at once would each hold a thread.
set_option Elab.async false

/-- After reset with every domain in Run; T0 at NI14. -/
def tS : State := { State.reset with doms := List.replicate 12 Dom.run }
def tW : By := ⟨0, 14⟩

/-- The state with a command in front of its queue, stepped. -/
def tStep (s : State) (c : Instr) : State :=
  match step { s with pending := [c] } with
  | .next t => t
  | _ => s

/-! ### Witnesses: chapters 01 to 06 -/

theorem test_wit_queue : { tS with pending := [.seamRecovered] }.pending = .seamRecovered :: [] ∧ tS.pending = [] := by decide +kernel
theorem test_wit_canon_shape : tS.Canon ∧ tS.Shape := by decide +kernel
theorem test_wit_step_next : step tS = .next tS.tick := rfl
theorem test_wit_seam : tS.domRun 1 = true ∧ tS.seam.failUp + 1 ≠ 8 ∧
    (let s := { tS with seam := { tS.seam with failUp := 7 } }; s.domRun 1 = true ∧ s.seam.failUp + 1 = 8) ∧
    (let s := { tS with seam := ⟨0, 0, 64, 64, true, false⟩ }; s.domRun 1 = true ∧ s.seam.hold = true ∧ 64 ≤ s.seam.goodUp ∧ 64 ≤ s.seam.goodDown) ∧
    { tS with seam := { tS.seam with refreshing := true } }.seam.refreshing = true := by decide +kernel
theorem test_wit_clocks : (tS.domRun 1 = true ∧ tS.clk.xtal = true ∧ tS.clk.stopped = false ∧ tS.clk.sysPll = false) ∧
    { tS with clk := { tS.clk with stopped := true } }.clk.stopped = true ∧ tS.Reads tW .ltb pgLTB 0x048 ∧
    (let s := { tS with clk := { tS.clk with sysPll := true } }; s.ltb.cyc = 0 ∧ s.onOsc = s.clk.sysPll) := by decide +kernel

/-- Master `m`; stream 0 of both receivers takes virtual channel 0, which CAM_VC names. -/
def tM (m : Nat) : State :=
  (((tS.sf pgLTB 0x044 2 0 m).sf pgLTB 0x044 5 5 0).wa (pgCAP 0) (strOff 0 0) 1).wa (pgCAP 1) (strOff 0 0) 1
theorem test_wit_starts : (let c : CamStart := ⟨0, 0, false⟩;
      rasterNum (.cam c) = 2 ∧ (tM 2).lineOf (.cam c) = true ∧ (tM 2).frameOf (.cam c) = true ∧
      ((tM 2).wa pgLTB 0x040 0x100).lineOf (.cam ⟨0, 0, true⟩) = true) ∧
    (rasterNum (.cam ⟨1, 0, false⟩) = 3 ∧ (tM 3).frameOf (.cam ⟨1, 0, false⟩) = true) ∧
    (rasterNum (.pipe 1) = 1 ∧ (tM 1).lineOf (.pipe 1) = true ∧ (tM 1).frameOf (.pipe 1) = true) := by decide +kernel
theorem test_wit_lines : (let s := { tM 2 with ltb := { tS.ltb with cyc := 5 } };
      s.domRun 1 = true ∧ s.mpending = false ∧ s.lost = false ∧ s.actMaster = 2 ∧ ¬(s.ltb.cyc = 0 ∧ 0 < s.ltb.gen) ∧ s.ltb.line + 1 < s.vtAct) ∧
    (let s := { tS with ltb := { tS.ltb with cyc := 0xFFF } };
      s.actMaster = 4 ∧ s.mpending = false ∧ s.virtLen ≤ s.ltb.cyc ∧ s.ltb.line + 1 < s.vtAct) ∧
    (let s := { ((tM 0).sf pgLTB 0x060 11 0 4) with ltb := { tS.ltb with cyc := 0xFFF } };
      s.actMaster < 4 ∧ s.mpending = false ∧ s.ltb.blankFill = false ∧ s.ltb.gen < s.coastMax ∧ s.coastAt ≤ s.ltb.cyc ∧ s.ltb.cyc ≠ 0 ∧
        s.ltb.line + 1 < s.vtAct) ∧
    (let s := { tM 2 with ltb := { tS.ltb with cyc := 0xFFF, blankFill := true } };
      2 ≤ s.actMaster ∧ s.actMaster < 4 ∧ s.mpending = false ∧ s.ltb.blankFill = true ∧ s.ltb.gen < s.coastMax ∧ s.coastAt ≤ s.ltb.cyc ∧
        s.ltb.cyc ≠ 0 ∧ s.ltb.line + 1 < s.vtAct) := by decide +kernel
theorem test_wit_frames : (let s := { tM 3 with ltb := { tS.ltb with line := (tM 3).vtAct - 1 } };
      s.mpending = false ∧ s.lost = false ∧ s.actMaster = 3 ∧ s.vtAct ≤ s.ltb.line + 1) ∧
    (let s := { tM 3 with ltb := { tS.ltb with line := 1 } }; s.actMaster = 3 ∧ s.ltb.line + 1 < s.vtAct ∧ s.ltb.line ≠ 0) ∧
    (let s := { tM 1 with ltb := { tS.ltb with gen := 0xFFF } }; s.domRun 1 = true ∧ s.coastMax ≤ s.ltb.gen ∧ s.actMaster ≠ 4) := by
  decide +kernel
theorem test_wit_let : tS.Writes tW .ltb pgLTB (letA 255) ∧ tS.Writes tW .ltb pgLTB (letB 0) ∧ tS.Writes tW .ltb pgLTB 0x040 ∧
    (tS.letReason 0 0 (tS.r pgLTB (letA 0)) 0 = none) ∧ tS.letReason 0 0 (tS.r pgLTB (letA 0)) 0x70000000 = some 3 := by decide +kernel
def tLet (typ : Nat) : State := (tS.wa pgLTB (letA 7) (BitVec.ofNat 32 (2 ^ 31 + typ * 2 ^ 24))).wa pgLTB (letB 7) 0
theorem test_wit_fire : (tLet 8).letNext = some 7 ∧
    (tLet 8).domRun (evDom (fldOf ((tLet 8).a pgLTB (letA 7)) 27 24) (evTgt (fldOf ((tLet 8).a pgLTB (letA 7)) 27 24) (fldOf ((tLet 8).a pgLTB (letB 7)) 23 16))) = true ∧
    (let s := { tLet 8 with doms := State.reset.doms };
     s.letNext = some 7 ∧ s.domRun (evDom (fldOf (s.a pgLTB (letA 7)) 27 24) (evTgt (fldOf (s.a pgLTB (letA 7)) 27 24) (fldOf (s.a pgLTB (letB 7)) 23 16))) = false) := by
  decide +kernel
/-- Trackers on both receivers; entry 9, whose base is tracker 1, has an instant. -/
def tTrk : State :=
  ((((tM 4).sf pgLTB 0x080 0 0 1).sf pgLTB 0x090 0 0 1).wa pgLTB (letA 9) 0xA0000000).updTrk 1 fun t => { t with insts := [⟨9, 0, 0, 0⟩] }
theorem test_wit_trackers : tTrk.f pgLTB 0x080 0 0 = 1 ∧ tTrk.f pgLTB 0x090 0 0 = 1 ∧ (tTrk.trk 0).lines = 0 ∧
    tTrk.camFrame ⟨0, 0, false⟩ = true ∧ tTrk.camLine ⟨1, 0, false⟩ = true ∧ tTrk.strOnVc 1 0 0 = true ∧
    ((tTrk.trk 1).insts.find? fun i : TrkInst => i.entry == 9) = some ⟨9, 0, 0, 0⟩ ∧ tTrk.ltb.frame.toNat = 0 ∧ 0 * 256 + 0 ≤ tTrk.posLP ∧
    tTrk.trkLocked 1 = false ∧ (let s := tTrk.sf pgLTB 0x044 8 8 1; s.trkLocked 1 = true ∧ s.trkEntry 1 9 = true) := by decide +kernel
theorem test_wit_commits : tS.Writes tW .gpio pgGPIO 0x020 ∧ (pageBlk tS.grade pgISP).isSome = true ∧
    pgISP ∉ tS.srst ∧ (tS.sf pgISP 0x024 2 1 2).eventArmed pgISP = true ∧ tS.eventArmed pgISP = false := by decide +kernel
theorem test_wit_header : tS.Writes tW .gpio pgGPIO 0x028 ∧ tS.Writes tW .gpio pgGPIO 0x014 ∧ tS.Writes tW .gpio pgGPIO 0x00C ∧
    tS.fresh = [] ∧ tS.Writes tW .sys pgSYS 0x00C ∧ (tS.err pgSYS 0x6010 0).f pgSYS 0x028 15 0 = 0x6010 ∧
    (let s := { tS with srst := [pgMX] }; s.domRun 1 = true ∧ pgMX ∈ s.srst ∧ s.waiting = [] ∧ s.lockWait = []) := by decide +kernel
theorem test_wit_gate_rows : 0x0DF * 4096 + 0xFFC + 4 ≤ 224 * 4096 ∧ 224 * 4096 < 0x0DF * 4096 + 0xFFD + 4 ∧
    tS.Writes tW .ltb pgLTB 0x050 ∧ ((4096 : Word).toNat < 16 ∨ 4095 < (4096 : Word).toNat) ∧
    (pgGPIO ∈ ({ tS with srst := [pgGPIO] } : State).srst ∧ pageBlk tS.grade pgGPIO = some .gpio) := by decide +kernel
theorem test_wit_gate : pageBlk tS.grade 0x0DF = none ∧ tS.ten.quar.getLsbD 3 = false ∧ tW.tnt.val = 0 ∧
    ({ tS with ten := { tS.ten with quar := 8 } } : State).ten.quar.getLsbD 3 = true ∧
    (pageBlk tS.grade pgLTB = some .ltb ∧ tS.bridge (pageDom pgLTB) 3 = .pass ∧ tS.pageAllows ⟨3, 14, pgLTB, 0x050, 4, true, 0⟩ = false) ∧
    (pageBlk tS.grade pgGPIO = some .gpio ∧ tS.bridge (pageDom pgGPIO) 0 = .pass ∧ tS.pageAllows ⟨0, 14, pgGPIO, 0x041, 2, true, 0⟩ = true) ∧
    tS.Writes tW .gpio pgGPIO 0x018 ∧ tS.Writes tW .ltb pgLTB 0x050 ∧ (16 ≤ fldOf (16 : Word) 11 0 ∧ fldOf (16 : Word) 11 0 ≤ 4095) ∧
    fldOf (15 : Word) 11 0 < 16 := by decide +kernel
theorem test_wit_tenants : tS.Writes tW .evr pgEVR (0x400 + 4 * 223) ∧ tS.Writes tW .ten pgTEN (0x404 + 0x40 * 15 + 8 * 7) ∧
    tS.Writes tW .ten pgTEN (0x400 + 0x40 * 15 + 8 * 7) ∧ tS.ten.locked = false ∧ fldOf (0x80000000 : Word) 31 31 = 1 ∧
    tS.Writes tW .ten pgTEN 0x040 ∧ { tS with ten := { tS.ten with locked := true } }.Writes tW .ten pgTEN 0x040 := by decide +kernel

theorem test_wit_tenlock : tS.ten.locked = false ∧ tS.ten.checking = false ∧
      (let s := { tS with ten := { tS.ten with checking := true } };
     s.domRun 1 = true ∧ s.ten.checking = true ∧ s.waiting = [] ∧ s.lockFailure = none) ∧
    tS.Writes tW .ten pgTEN 0x040 ∧ { tS with lockWait := [(lockAcc tW, none)] }.lockWait = [(lockAcc tW, none)] ∧
    (let s := (({ tS with ten := { tS.ten with checking := true } }).w pgTEN 0x128 1).w pgTEN 0x148 1;
     s.domRun 1 = true ∧ s.ten.checking = true ∧ s.waiting = [] ∧ s.lockFailure = some (1, 0, 2)) := by decide +kernel
def tAdm (a : Adm) : State := { tS with adm := a }
theorem test_wit_ports : tS.Writes tW .adm pgADM (0x410 + 0x40 * 15) ∧ tS.admPending 15 = false ∧
    (let s := tAdm { tS.adm with queue := [Commit.set 15 0 []] };
     s.Writes tW .adm pgADM (0x410 + 0x40 * 15) ∧ s.admPending 15 = true ∧ s.adm.wait = [] ∧
     (s.adm.queue.any fun c : Commit => match c with | Commit.mask _ => true | Commit.set .. => false) = false ∧
     (s.adm.queue ++ s.adm.wait).any (fun c : Commit => match c with | Commit.set j _ _ => j == 15 | _ => false) = true ∧
     (0x8000 : BitVec 16).getLsbD 15 = true) ∧
    tS.Writes tW .adm pgADM 0x040 := by decide +kernel
theorem test_wit_evals : (let s := tAdm { tS.adm with queue := [Commit.mask 2] };
      s.domRun 1 = true ∧ s.ten.checking = false ∧ s.adm.eval = none ∧ s.adm.queue = Commit.mask 2 :: []) ∧
    (tAdm { tS.adm with eval := some (Commit.set 15 0 []) }).adm.eval = some (Commit.set 15 0 []) ∧
    (let s := tAdm { tS.adm with eval := some (Commit.set 1 0 [⟨0x70000000, 0, 1, 0⟩]) };
      s.domRun 1 = true ∧ s.ten.checking = false ∧
      ((s.withMxCap 0).admCheck (s.admResult 1 0 [⟨0x70000000, 0, 1, 0⟩]).1 (s.admResult 1 0 [⟨0x70000000, 0, 1, 0⟩]).2 1).isSome = true) ∧
    (tAdm { tS.adm with eval := some (Commit.mask 0xFFFF) }).adm.eval = some (Commit.mask 0xFFFF) := by decide +kernel

def tH (cmd len src nc rt tid : Nat) (addr : Nat) : Hdr :=
  { cmd := cmd, tnt := 0, cls := 2, once := false, dem := false, seq := 0, len := len, src := src, nc := nc, rt := rt, tid := tid,
    sts := 0, late := false, dl := 0, size := 31, addr := addr }
/-- A packet that stands at a place with all its units, and a mesh that holds only it. -/
def tFl (p : Place) (h : Hdr) : Flight := Flight.here p ⟨h, List.replicate 32 0x5A, []⟩ false
def tF (p : Place) (h : Hdr) : State := { tS with welt := { tS.welt with flight := [tFl p h] } }
theorem test_wit_weltpages : tS.Writes tW .ni (pgNI 14) (0x200 + 4 * 63) ∧
    (routeOf tS.grade 14 (fldOf (tS.r (pgNI 14) 0x200) 27 24) (fldOf (tS.r (pgNI 14) 0x200) 23 0)).isSome = true ∧
    fldOf (tS.r (pgNI 14) 0x200) 27 24 < 9 ∧
    ((tS.ni 14).latch.any fun e : Option LatchEnt => match e with | some e => e.idx == 63 | none => false) = false ∧
    9 ≤ fldOf (0x89000000 : Word) 27 24 ∧ (fldOf (0x80000000 : Word) 31 31 = 1 ∧ routeOf tS.grade 14 0 0 = none) := by
  decide +kernel
theorem test_wit_weltpages_more : tS.Writes tW .ni (pgNI 14) 0x040 ∧ tS.Writes tW .router (pgRouter 15) 0x04C ∧ tS.Writes tW .prb pgPRB (0x100 + 0x20 * 7) ∧
    tS.Writes tW .prb pgPRB 0x040 ∧ tS.Reads tW .prb pgPRB 0x04C := by decide +kernel
theorem test_wit_requests : (tS.domRun 1 = true ∧ tS.stamp 14 0 = some 0 ∧ niPresent tS.grade 14 = true ∧
      (servingNis tS.grade 0x10000000).isEmpty = false ∧ oneRow tS.grade 0x10000000 32 = true ∧
      memRow tS.grade 0x10000000 ≠ some 0 ∧ memRow tS.grade 0x10000000 ≠ some 8 ∧
      tS.winCheck 0 0x10000000 32 true = none ∧ (tS.selectRoute 14 (servingNis tS.grade 0x10000000) 2).2 = some (12, 0xf2000023) ∧
      (tS.ni 14).out.length < tS.f pgTEN (0x100 + 0x20 * 0) 21 16 ∧ 14 < tS.welt.nis.length) ∧
    (servingNis tS.grade 0x08000000 = [] ∧ (tS.ni 14).blk.all (fun b => b.id != tS.welt.grp) = true) ∧
    (let s := { tS with welt := { tS.welt with trcQ := [⟨[]⟩] } };
      s.domRun 1 = true ∧ s.welt.trcOvf = 0 ∧ s.welt.trcQ = ⟨[]⟩ :: [] ∧ s.welt.trcBuf.length < 1024) := by decide +kernel
theorem test_wit_routed : (let h := tH 2 2 14 2 0x21 0 0x10000000; let p := Place.router 0 4 0;
      (tF p h).Clean ∧ (tF p h).Before 0 0 4 0 (tFl p h) ∧ 0 < h.nc ∧ nextPlace tS.grade 0 0 (rtCode h.rt 0) = some (.router 1 3 1)) ∧
    (let h := tH 2 2 14 2 0x3 0 0x10000000; let p := Place.router 0 4 0;
      (tF p h).Before 0 0 4 0 (tFl p h) ∧ nextPlace tS.grade 0 0 (rtCode h.rt 0) = none) ∧
    (let h := tH 2 2 14 0 0 0 0x10000000; let p := Place.router 5 2 0;
      (tF p h).Before 0 5 2 0 (tFl p h) ∧ h.nc ≤ 0) ∧
    (let h := { tH 0 0 14 2 0x21 0 0x10000000 with cls := 1 }; let f := tFl (.router 1 3 1) h;
      f.units = [(1, 1)] ∧ f.src = 0 ∧ f.ready = false ∧ f.pkt.h.cls < 2 ∧ 1 < h.nc ∧
      nextPlace tS.grade 1 1 (rtCode h.rt 1) = some (.ni 2)) := by decide +kernel
theorem test_wit_served : (let h := tH 2 2 14 2 0x18 0 0x10000000; let s := tF (.ni 12) h;
      s.domRun 1 = true ∧ s.Clean ∧ s.At 0 12 (tFl (.ni 12) h) ∧
      (servingNis s.grade h.addr).contains 12 = true ∧ memRow s.grade h.addr = some 1 ∧ regPage h.addr = none ∧
      oneRow s.grade h.addr (h.size + 1) = true ∧ s.heldAt 12 < 12 ∧ s.bridge (niDom 12) h.tnt = .pass) ∧
    (let h := tH 0 0 14 2 0x18 0 0x40060000;
     let s := { tF (.ni 17) h with doms := tS.doms.set 6 Dom.off };
      s.Clean ∧ s.At 0 17 (tFl (.ni 17) h) ∧ (servingNis s.grade h.addr).contains 17 = true ∧ s.heldAt 17 < 12 ∧
      s.bridge (s.reqDom 17 h.addr) h.tnt = .off) ∧
    (let h := tH 8 2 12 2 0x18 5 0x10000000;
     let o : Outst := ⟨⟨tH 0 0 14 2 0x18 5 0x10000000, [], []⟩, 0, 0, 0, 0, 0, false, false⟩;
     let s := (tF (.ni 14) h).updNi 14 fun x => { x with out := [o] };
      s.Clean ∧ s.At 0 14 (tFl (.ni 14) h) ∧ h.resp = true ∧ s.dom (niDom 14) = .run ∧ s.domEff (niDom 14) = .run ∧
      ((s.ni 14).out.find? fun o : Outst => o.pkt.h.tid == h.tid && o.pkt.h.seq == h.seq) = some o) := by decide +kernel
theorem test_wit_timeouts :
    (let o : Outst := ⟨⟨{ tH 2 1 14 2 0x18 5 0x10000000 with once := true }, [], []⟩, 0, 0, 0, 0, 0, false, true⟩;
     let s := (({ tS with now := 0x1000000 }).updNi 14 fun x => { x with out := [o] }).wa (pgNI 14) 0x04C 1;
     let u := s.updNi 14 fun x => { x with out := [{ o with attempts := 255 }] };
      s.domRun 1 = true ∧ ((s.ni 14).out.find? fun o : Outst => o.pkt.h.tid == 5) = some o ∧ s.f (pgNI 14) 0x048 23 0 ≤ s.now - o.sent ∧
      o.again = true ∧ o.attempts < s.f (pgNI 14) 0x04C 7 0 ∧
      ((u.ni 14).out.find? fun o : Outst => o.pkt.h.tid == 5) = some { o with attempts := 255 } ∧ u.f (pgNI 14) 0x04C 7 0 ≤ 255) ∧
    (let s := ({ tS with now := 102400 }).updNi 14 fun x => { x with wakeAt := some 0 };
      s.domRun 1 = true ∧ (s.ni 14).wakeAt = some 0 ∧ 0 + 102400 ≤ s.now ∧ 14 < s.welt.nis.length ∧ s.waiting = []) := by decide +kernel

/-! ### Witnesses: chapters 07 to 09 -/

/-- Core `c` runs, changed by `g`. -/
def tR (c : Nat) (g : CoreSt → CoreSt) : State := tS.updCore c fun k => g { k with run := true, inReset := false, fresh := false }
def tRun (c : Nat) : State := tR c id
def tMs : List Op := [MKind.mpy, .mac, .msu, .macs, .msus, .mpyi, .maci, .msui, .mpyu, .macu, .mpysu, .macsu].map
  fun k => .m k 3 (.mem 0 1) (.reg 0x10)
def tAs : List Op := [AKind.aclr, .amov, .aadd, .asub, .aneg, .aabs, .ash, .ashv, .asat, .ald, .aldw, .acmp, .narr, .aexp].map
  fun k => .a k 1 2 (if k == .aclr || k == .amov || k == .aadd || k == .asub || k == .aneg || k == .aabs || k == .ash || k == .asat || k == .acmp
    then 0 else 0x11) false 0 false
def tRs : List Op := [RKind.add, .adds, .adc, .sub, .subs, .sbc, .cmp, .neg, .abs, .min, .max, .and, .or, .xor, .andn, .tst,
  .shl, .shr, .asr, .rol, .mov, .clz, .cls].map fun k => .r k (if k == .cmp || k == .tst then 0 else 0x12) 0x13
    (if k == .neg || k == .abs || k == .mov || k == .clz || k == .cls then 0 else 0x14) false
def tIs : List Op := [IKind.perm, .shli, .shri, .asri, .roli, .asls, .addi, .bfx, .bfi].map fun k => .i k 0x10 0x11 3
theorem test_wit_mac_bundles : ∀ hi : Bool, ∀ o ∈ tMs ++ tAs ++ tRs ++ tIs ++ [.r .bxdet 0 0x11 0 false, .bxclr, .movi 0x10 7],
    (tRun 0).Straight 0 [⟨macSlot hi, o⟩] := by decide +kernel
def tAgu : List Op := [.nop, .r .mov 0x10 0x11 0 false, .movi 0x10 7, .ld 0x10 true 3 1, .st 0x10 false 0 5 true, .ldxy 0x10 0x11 0 1 0 2,
  .pmod true 1 3, .paddi 7 0xFFFF, .qset 1 false true 2 0x10 0x11 0x10000000, .qstop 3, .qpop 0x10 0 false true, .qpush 0x10 1 true,
  .qpopm 2 false false 1 1, .qpushm 2 true true 2 1, .qsync 2]
def tCtl : List Op := [.nop, .skf 1 2, .skr 1 0x10 3, .br 0x7FFF, .brr 0x10 false, .call 0, .callr 0x10 false, .doLoop true none 10 7,
  .doLoop false none 0 1, .doLoop false (some 0x10) 0 1, .rep none 4, .rep (some 0x10) 0, .repi none 9, .rrc true 31, .rrc false 3,
  .limx 0x10 (some 0x11) 0xBEEF1234, .limx 0x10 none 1, .ei, .di, .ihold, .waite, .halt]
/-- Queues 1 and 2 hold a word. -/
def tQ : State := tR 0 fun k => { k with qs := (k.qs.set 1 { Queue.zero with buf := [7] }).set 2 { Queue.zero with buf := [8] } }
theorem test_wit_agu_bundles : ∀ o ∈ tAgu ++ [.qwait 2 0], tQ.Straight 0 [⟨.agu, o⟩] := by decide +kernel
/-- A release is latched, so that WAITE does not wait. -/
def tRel : State := tR 4 fun k => { k with rel := true, pc := 0x10000 }
theorem test_wit_ctl_bundles : ∀ o ∈ tCtl, (tR 0 fun k => { k with rel := true }).Straight 0 [⟨.ctl, o⟩] := by decide +kernel
theorem test_wit_returns : (tR 0 fun k => { k with rstk := [5] }).Straight 0 [⟨.ctl, .ret⟩] := by decide +kernel
theorem test_wit_rti :
    (tR 0 fun k => { k with rf := k.rf.set 0x66 2 }).Straight 0 [⟨.ctl, .rti⟩] := by decide +kernel
theorem test_wit_lbrk :
    (tR 0 fun k => { k with rf := k.rf.set 0x6B 2, pc := 7 }).Straight 0 [⟨.ctl, .lbrk 2⟩] := by decide +kernel
theorem test_wit_core4 : tRel.Straight 4 [⟨.ctl, .halt⟩] := by decide +kernel
theorem test_wit_full_bundle : (tRun 3).Straight 3 [⟨.mac0, .m .mac 0 (.mem 0 1) (.mem 0 1)⟩, ⟨.agu, .paddi 1 4⟩, ⟨.ctl, .limx 0x14 none 5⟩] := by decide +kernel
def tCodes : List Syl := [0x67, 0x6B, 0x00, 0x54, 0x64, 0x6A, 0x55, 0x56, 0x57, 0x66, 0x58, 0x5F, 0x63].flatMap fun d =>
  [⟨.mac0, .movi d 7⟩, ⟨.agu, .r .mov d 0x11 0 false⟩, ⟨.mac1, .r .mov d 0x11 0 false⟩]
theorem test_wit_any_code : ∀ y ∈ tCodes, (tRun 0).Straight 0 [y] := by decide +kernel
theorem test_wit_detected : (tRun 0).Straight 0 [⟨.mac1, .r .mov 0x10 0x11 0 true⟩] := by decide +kernel
def tWt (o : Op) (now : Nat) : State :=
  { tR 0 fun k => { k with wait := some ⟨[⟨.agu, o⟩], 0, 0⟩, qs := k.qs.set 1 { Queue.zero with buf := [7] } } with now := now }
theorem test_wit_waits : (let s := tR 0 fun k => { k with qs := k.qs.set 1 { Queue.zero with arm := true, cnt := 9 } };
      s.Shape ∧ (s.core 0).run = true ∧ (s.core 0).wait = none ∧ s.domRun (coreDom 0) = true ∧ (s.core 0).squash = false ∧
      (s.core 0).rep = none ∧ decodeFault (s.core 0) 0 ([] ++ ⟨.agu, .qwait 1 3⟩ :: []) = none ∧ s.waitOver 0 ⟨.agu, .qwait 1 3⟩ = false) ∧
    (let s := tWt (.qwait 1 0) 10;
      (s.core 0).wait = some ⟨[⟨.agu, .qwait 1 0⟩], 0, 0⟩ ∧ s.domRun (coreDom 0) = true ∧ [⟨Slot.agu, .qwait 1 0⟩].all (s.waitOver 0) = true) := by
  decide +kernel

theorem test_wit_events : tS.domRun 1 = true ∧ (tRun 1).domRun (coreDom 1) = true ∧ ((tRun 1).core 1).inReset = false := by decide +kernel
theorem test_wit_entry : (let s := tR 0 fun k => { k with irq := 0x8001, rf := (k.rf.set 0x66 1).set 0x65 0x8001 };
      s.Shape ∧ s.domRun 1 = true ∧ s.domRun (coreDom 0) = true ∧ (s.core 0).run = true ∧ (s.core 0).stepping = false ∧
      interruptible (s.core 0) = true ∧ s.rg 0 0x66 &&& 3 = 1 ∧ (s.rg 0 0x67 &&& s.rg 0 0x65).getLsbD 15 = true ∧
      (∀ m, m < 16 → 15 < m → (s.rg 0 0x67 &&& s.rg 0 0x65).getLsbD m = false) ∧ pcOk 0 ((s.rg 0 0x64).toNat + 8 * 15) = true) := by
  decide +kernel
def tHalted : State := tS.updCore 2 fun k => { k with inReset := false, fresh := false }
def tStep2 : State := (tHalted.sf (pgCORE 2) 0x040 0 0 0).updCore 2 fun k => { k with run := true, stepping := true }
theorem test_wit_core_run : tHalted.Writes tW .core (pgCORE 2) 0x040 ∧ tHalted.Shape ∧ (tHalted.core 2).run = false ∧
    (tHalted.core 2).inReset = false ∧ tHalted.f (pgCORE 2) 0x048 15 0 ≤ 0x7FFF ∧ tHalted.keeperHeld 2 = false ∧
    tS.keeperHeld 4 = false := by decide +kernel
theorem test_wit_core_step : (tHalted.core 2).fresh = false ∧ (tHalted.core 2).wait = none ∧ tHalted.domRun (coreDom 2) = true ∧
    ((tStep2.issue 2 (tStep2.bundleAt 2 5 (tHalted.core 2).pc)).core 2).run = false := by decide +kernel
theorem test_wit_core_halt : (tRun 2).Writes tW .core (pgCORE 2) 0x040 ∧ (tRun 2).Shape ∧ ((tRun 2).core 2).run = true ∧
    interruptible ((tRun 2).core 2) = true ∧ tS.Writes tW .core (pgCORE 4) 0x060 := by decide +kernel
def tQu (x : Queue) : State := tR 4 fun k => { k with qs := k.qs.set 3 x }
def tQin : State := tQu { Queue.zero with arm := true, cnt := 9, addr := 0x10000000, stride := 2 }
def tQout : State :=
  { tQu { Queue.zero with arm := true, cnt := 9, addr := 0x10000000, stride := 2, dir := true, buf := [1] } with now := 32 }
theorem test_wit_queue_read : (let s := tQin; let x := (s.core 4).queue 3;
      s.Shape ∧ s.domRun (coreDom 4) = true ∧ x.arm = true ∧ x.dir = false ∧ 0 < x.cnt ∧ x.ew ≤ 32 - (x.buf.length + x.owed) ∧
      s.qRoom 4 = true ∧ x.fly.all (fun r => !r.se || r.void) = true ∧ x.addr % x.eb = 0 ∧ s.touchesSE x.addr x.eb = false) := by
  decide +kernel
theorem test_wit_queue_merge : (let s := tQout; let x := (s.core 4).queue 3;
      s.Shape ∧ s.domRun (coreDom 4) = true ∧ x.pushed + 32 ≤ s.rhoNow ∧ x.arm = true ∧ x.dir = true ∧ 0 < x.cnt ∧ x.ew ≤ x.buf.length ∧
      s.qRoom 4 = true ∧ x.addr % x.eb = 0 ∧ s.touchesSE x.addr x.eb = false) := by decide +kernel
theorem test_wit_queue_answer : (let s := tQu { Queue.zero with arm := true, fly := [⟨0x10000000, 4, false, none, false, false⟩] };
      let x := (s.core 4).queue 3;
      s.Shape ∧ x.fly = [⟨0x10000000, 4, false, none, false, false⟩] ∧ x.dir = false ∧ (1 : Fin 16) ≠ 0) ∧
    (let s := tQu { Queue.zero with fly := [⟨0x10000000, 4, false, none, true, true⟩] };
      ((s.core 4).queue 3).fly = [⟨0x10000000, 4, false, none, true, true⟩]) ∧
    (let s := ({ tR 0 fun k => { k with wait := some ⟨[⟨.agu, .qwait 1 0⟩], 0, 0⟩ } with now := 100 }).sf (pgCORE 0) 0x050 23 0 5;
      s.Shape ∧ (s.core 0).wait = some ⟨[⟨.agu, .qwait 1 0⟩], 0, 0⟩ ∧ 0 < s.f (pgCORE 0) 0x050 23 0 ∧
      s.f (pgCORE 0) 0x050 23 0 < s.waitRan 0 ⟨[⟨.agu, .qwait 1 0⟩], 0, 0⟩ ∧ [Syl.mk .agu (.qwait 1 0)].all (s.waitOver 0) = false ∧
      [Syl.mk .agu (.qwait 1 0)].any isQueueWait = true) := by decide +kernel

/-! ### Witnesses: chapters 10 and 11 -/

/-- Context 0 runs; GC_CTRL.VALID of context 1 is 1. -/
def tG (g : Grv → Grv) : State := ((tS.sf pgGRV 0x044 3 0 0).sf (pgGCTX 1) 0x040 0 0 1).updGrv g
theorem test_wit_switches : (let s := tG id; s.domRun 1 = true ∧ s.arrayOn = true ∧ s.Shape ∧ s.switchReason (s.letOwner 0) 1 = none ∧
      s.Writes tW .grv pgGRV 0x040 ∧ s.switchReason tW.tnt 1 = none ∧ s.switchReason tW.tnt 2 = some 2 ∧ s.actx < 8) ∧
    tS.Writes tW .gctx (pgGCTX 7) 0x04C := by decide +kernel
theorem test_wit_trigger : (let s := (((tG fun g => { g with trig := true }).sf pgGRV 0x044 4 4 1).sf (pgGCTX 0) 0x048 3 3 1).sf (pgGCTX 0) 0x048 2 0 1;
      s.domRun 1 = true ∧ s.Shape ∧ s.actx < 8 ∧ s.f pgGRV 0x044 4 4 = 1 ∧ s.grv.trig = true ∧
      s.f (pgGCTX s.actx) 0x048 3 3 = 1 ∧ s.f (pgGCTX s.actx) 0x048 2 0 = 1 ∧ s.switchReason (s.ctxHolder s.actx) 1 = none) := by
  decide +kernel
def tP (p : Nat) (q : GPort) : State := (tG fun g => { g with ports := g.ports.set p q })
theorem test_wit_activation : (let s := tP 0 { GPort.zero with arm := true, cnt := 2, moved := 2, issued := 2 };
      s.portsRun = true ∧ s.f pgGRV 0x044 4 4 ≠ 1 ∧ (s.gport 0).arm = true ∧
      (∀ q, q < 8 → (s.gport q).arm = true → (s.gport q).finished q = true)) ∧
    (let s := ({ tG (fun g => { g with since := some 0 }) with now := 1000 }).sf (pgGCTX 0) 0x044 23 0 5;
      s.portsRun = true ∧ s.f pgGRV 0x044 4 4 ≠ 1 ∧ 0 < s.f (pgGCTX s.actx) 0x044 23 0 ∧
      s.f (pgGCTX s.actx) 0x044 23 0 ≤ s.actCyc) := by decide +kernel
/-- Cell (0, 0) computes with function `op` on its track 0 from the north and a register. -/
def tCell (op : Nat) : State := tG fun g => { g with
  act := { GCtx.zero with cells := [(0, BitVec.ofNat 128 (op * 2 ^ 122 + 0 * 2 ^ 117 + 16 * 2 ^ 112 + 17 * 2 ^ 107))] },
  tok := [(0, [5])] }
theorem test_wit_fire_cell : ∀ op ∈ [0x01, 0x02, 0x03, 0x06, 0x07, 0x08, 0x0C, 0x0D, 0x0F, 0x10, 0x16], (let s := tCell op;
      s.domRun 1 = true ∧ s.portsRun = true ∧ s.isFused (cellKey 0 0) = false ∧ recF (s.cellRec (cellKey 0 0)) 127 122 = op ∧
      (opArity op).2 = true ∧ (∀ k ∈ opSrcs (s.cellRec (cellKey 0 0)), k < 16 →
        mapGet [] s.grv.tok (cellKey 0 0 * 16 + k) ≠ [] ∧ s.sinksRoom (cellKey 0 0) (s.trackSinks (cellKey 0 0) (k / 4) (k % 4)) = true) ∧
      (mapGet [] s.grv.out (cellKey 0 0)).length < 2 ∧ mapGet [] s.grv.dup (cellKey 0 0) = []) := by decide +kernel
/-- A switch-box word of cell (0, 0) that sends its incoming west track 1 out to the east. -/
def tTok : State := tG fun g =>
  { g with tok := [(13, [7])], act := { GCtx.zero with sw := [(0, 0x500000)] } }
theorem test_wit_token : tTok.portsRun = true ∧ tTok.grv.tok = [(13, [7])] ∧ tTok.grv.out = [] ∧ tTok.grv.dup = [] ∧
    (∀ p, p < 8 → (tTok.gport p).buf = []) ∧ tTok.trackSinks (13 / 16) (13 % 16 / 4) (13 % 4) = [(1, 1)] ∧
    tTok.cellUses (13 / 16) (13 % 16 / 4) (13 % 4) = false ∧ tTok.hop (13 / 16) 1 1 = .track 29 := by decide +kernel
theorem test_wit_port_read : (let s := tP 3 { GPort.zero with arm := true, cnt := 9, base := 0x10000000, stride := 2 };
      let q := s.gport 3;
      s.Shape ∧ s.portsRun = true ∧ q.arm = true ∧ q.stopped = false ∧ q.issued < q.cnt ∧ q.ew ≤ 64 - (q.buf.length + q.inFly) ∧
      s.portRoom 3 = true ∧ q.fly.all (fun r => !r.se) = true ∧ q.addr q.issued % q.eb = 0 ∧ s.touchesSE (q.addr q.issued) q.eb = false) := by
  decide +kernel
theorem test_wit_port_write : (let s := { tP 7 { GPort.zero with arm := true, cnt := 9, base := 0x10000000, stride := 2, buf := [1] } with now := 24 };
      let q := s.gport 7;
      s.Shape ∧ s.portsRun = true ∧ q.last + 48 ≤ s.grvNow ∧ q.arm = true ∧ q.stopped = false ∧ q.ew ≤ q.buf.length ∧ s.portRoom 7 = true ∧
      q.addr q.issued % q.eb = 0 ∧ s.touchesSE (q.addr q.issued) q.eb = false) := by decide +kernel
theorem test_wit_port_answer : (let r : GReq := ⟨0, 0, 4, false, none, 0, none, false, []⟩; let s := tP 2 { GPort.zero with arm := true, fly := [r] };
      s.domRun 1 = true ∧ s.Shape ∧ (s.gport 2).fly = [r] ∧ (s.gport 2).stopped = false ∧ r.data = none ∧ r.refused = none ∧
      r.old = false ∧ r.tries < 4 ∧ r.ctx < 8) ∧
    (let r : GReq := ⟨0, 0, 4, false, none, 0, some 4, false, []⟩; let s := { tP 2 { GPort.zero with arm := true, fly := [r] } with now := 100 };
      s.Shape ∧ s.portsRun = true ∧ (s.gport 2).fly[0]? = some r ∧ r.refused = some 4 ∧ 4 + 192 ≤ s.grvNow ∧
      (s.gport 2).stopped = false ∧ r.old = false ∧ r.ctx < 8) := by
  decide +kernel

def tAld (a : Ald) : State := { tS with ald := a }
theorem test_wit_load_start : (let s := tS.sf pgALD 0x050 7 0 6; s.Writes tW .ald pgALD 0x040 ∧ s.ald.phase = 0 ∧
      maskBits (s.f pgALD 0x050 7 0) 8 = 1 :: [2] ∧ (∀ d ∈ [2], s.ctxHolder d = s.ctxHolder 1) ∧ tW.tnt = 0) ∧
    (let s := tAld { Ald.zero with phase := 3 }; s.Writes tW .ald pgALD 0x040 ∧ 1 ≤ s.ald.phase ∧ s.ald.phase ≤ 3) ∧
    (tAld { Ald.zero with phase := 2 }).arrayOn = true ∧
    (let s := tAld { Ald.zero with phase := 2, img := [] }; ({ s with sec := { s.sec with eng := [.loader] } } : State).engTurn .loader = true) := by
  decide +kernel
def tPart (c : Nat) : LPart := ⟨c, GCtx.zero, [], 1, []⟩
theorem test_wit_load_effect : (let s := { tAld { Ald.zero with phase := 5, parts := [tPart 0] } with adm := { tS.adm with effSrc := [9] } };
      s.ald.phase = 5 ∧ s.arrayOn = true ∧ ∀ p ∈ s.ald.parts, p.src ∉ s.adm.effSrc) ∧
    (let s := { tAld { Ald.zero with phase := 4, parts := [tPart 0] } with adm := { tS.adm with aldRes := some (9, true) } };
      s.ald.parts[s.ald.part]? = some (tPart 0) ∧ s.adm.aldRes = some (9, true) ∧ 9 ≠ (tPart 0).src) := by decide +kernel
theorem test_wit_load_parts : (let s := { tAld { Ald.zero with phase := 4, parts := [tPart 0, tPart 1] } with adm := { tS.adm with aldRes := some ((tPart 0).src, true) } };
      s.domRun 1 = true ∧ s.ald.phase = 4 ∧ s.arrayOn = true ∧ s.ald.parts[s.ald.part]? = some (tPart 0) ∧
      s.adm.aldRes = some ((tPart 0).src, true) ∧ s.ald.parts[s.ald.part + 1]? = some (tPart 1)) ∧
    (let s := { tAld { Ald.zero with phase := 4, parts := [tPart 0] } with adm := { tS.adm with aldRes := some ((tPart 0).src, true) } };
      s.adm.aldRes = some ((tPart 0).src, true) ∧ s.ald.parts[s.ald.part + 1]? = none) ∧
    { tAld { Ald.zero with phase := 4 } with adm := { tS.adm with aldRes := some ((tPart 0).src, false) } }.adm.aldRes = some ((tPart 0).src, false) ∧
    (let s := tAld { Ald.zero with phase := 6, parts := [tPart 7] };
      s.Shape ∧ s.ald.phase = 6 ∧ s.arrayOn = true ∧ s.ald.parts = [tPart 7] ∧ (tPart 7).ctx < 8) := by decide +kernel

/-- The smallest sound image: one cell, nothing used, one cycle. -/
def le4 (n : Nat) : List Byte := [BitVec.ofNat 8 n, BitVec.ofNat 8 (n / 256), BitVec.ofNat 8 (n / 65536), BitVec.ofNat 8 (n / 16777216)]
def tSecs : List (Byte × Byte × List Byte) :=
  [(1, 0, [0, 0, 1, 0, 0, 0, 0, 0]), (8, 0, [0, 0, 0, 0, 0, 0, 0, 0, 1, 0, 0, 0, 1, 0, 0, 0]), (2, 1, [1, 1, 0, 0]),
   (3, 1, List.replicate 16 0), (4, 1, List.replicate 8 0), (5, 1, List.replicate 16 0), (6, 1, []), (7, 1, List.replicate 160 0)]
def tTable : Nat → List (Byte × Byte × List Byte) → List Byte
  | _, [] => []
  | o, (t, f, b) :: l => [t, f, 0, 0] ++ le4 o ++ le4 b.length ++ le4 (crc32 b) ++ tTable (o + b.length) l
def tBody : List Byte := tSecs.flatMap fun e => e.2.2
def tImg : List Byte :=
  [0x4C, 0x41, 0x53, 0x54, 0, 1, 0, 0] ++ le4 (0x20 + 128 + tBody.length) ++ [8, 0, 0xB0, 3] ++ List.replicate 16 0 ++
    tTable (0x20 + 128) tSecs ++ tBody
theorem test_wit_sound_image : (tS.sf pgALD 0x04C 17 0 tImg.length).imageRef tImg = none := by decide +kernel
def tImgState : State :=
  let s := (tAld { Ald.zero with phase := 1 }).wrBytes 0x10000000 tImg
  ((s.sf pgALD 0x04C 17 0 tImg.length).w pgALD 0x048 0x10000000).sf pgALD 0x05C 0 0 1
theorem test_wit_image_sound : (let rd := tImgState.engReadAt 0 17 2 (tImgState.r pgALD 0x048).toNat (tImgState.f pgALD 0x04C 17 0);
    rd.2 = none ∧ rd.1.imageRef tImg = none) := by decide +kernel
theorem test_wit_image_read : tImgState.ald.phase = 1 ∧ tImgState.arrayOn = true ∧
    tImgState.rdBytes (tImgState.r pgALD 0x048).toNat (tImgState.f pgALD 0x04C 17 0) = tImg ∧
    tImgState.f pgALD 0x05C 0 0 = 1 := by decide +kernel

/-! ### Witnesses: chapters 12 and 13 -/

/-- Stream 2 of receiver 1 takes RAW8 of virtual channel 3 in two buffers of 4 by 2 pixels. -/
def tCtl2 : Word := 0x01002A31
def tCfg : List Word := [tCtl2, 0x00020004, 0, 4, 0x10000000, 0x10001000, 0, 0, 0x10002000, 0x10003000, 0, 0]
def tCam (g : CapStr → CapStr) : State :=
  ((tS.wa (pgCAP 1) (strOff 2 0) tCtl2).wa (pgCAP 1) (strOff 2 4) 0x00020004).updStr 1 2 g
def tOpen (l : List Nat) : State := tCam fun x => { x with op := true, cfg := tCfg, lines := l }
theorem test_wit_frame_start : (tCam id).Shape ∧ (tCam id).camRun = true ∧ cfgEn ((tCam id).strAct 1 2) = true ∧
    cfgVc ((tCam id).strAct 1 2) = 3 ∧ ((tCam id).str 1 2).op = false ∧ (∀ j : Fin 4, j ≠ 2 → (tCam id).strOnVc 1 j 3 = false) ∧
    ((tCam id).str 1 2).free 0 = true ∧ ((tCam fun x => { x with held := [0, 1] }).str 1 2).free 0 = false ∧ tS.domRun 1 = true := by
  decide +kernel
theorem test_wit_line_start : (let s := tS.wa pgLTB 0x040 0x20; s.domRun 1 = true ∧ s.camRun = true ∧ s.af pgLTB 0x040 5 4 = 2 ∧
    s.af pgLTB 0x040 8 8 = 0) ∧ (tS.wa pgLTB 0x040 0x120).af pgLTB 0x040 8 8 = 1 := by decide +kernel
/-- The state in which the streams stamp a frame start, and the one in which they take a long packet. -/
def tFs (s : State) : State := (s.masterFrame (.cam ⟨1, 3, false⟩) false).trackerFrame ⟨1, 3, false⟩
theorem test_wit_frame_opens : (tFs (tCam id)).Shape ∧ (tFs (tCam id)).camRun = true ∧ cfgEn ((tFs (tCam id)).strAct 1 2) = true ∧
    cfgVc ((tFs (tCam id)).strAct 1 2) = 3 ∧ ((tFs (tCam id)).str 1 2).op = false ∧
    (∀ j : Fin 4, j ≠ 2 → (tFs (tCam id)).strOnVc 1 j 3 = false) ∧ ((tFs (tCam id)).str 1 2).free 0 = true ∧
    ((tFs (tCam fun x => { x with held := [0, 1] })).str 1 2).free 0 = false := by decide +kernel
theorem test_wit_long_packet : ∀ l ∈ [[], [0, 0]], (let s := (tOpen l).camLineStart ⟨1, 3, true⟩; let x := s.str 1 2;
      s.Shape ∧ s.camRun = true ∧ dtKnown 0x2A = true ∧
      ((List.range 4).find? fun j => cfgEn (s.strCfg 1 j) && cfgVc (s.strCfg 1 j) == 3 && cfgDt (s.strCfg 1 j) == 0x2A) = some 2 ∧
      x.op = true ∧ x.await = false ∧ x.hdrLoss = false ∧ cfgHeight x.cfg = 2 ∧ pixCount (dtFmt (cfgDt x.cfg)) 4 = cfgWidth x.cfg) := by
  decide +kernel
theorem test_wit_frame_end : (let s := tOpen [0, 0]; let x := s.str 1 2;
      s.strOnVc 1 2 3 = true ∧ (∀ j : Fin 4, j ≠ 2 → s.strOnVc 1 j 3 = false) ∧ x.op = true ∧ x.await = false ∧
      x.lines.length = cfgHeight x.cfg ∧ x.lines.all (fun l => l == 0) = true ∧ x.flags = 0 ∧ x.dropped = 0) := by decide +kernel
theorem test_wit_frame_timeout : (let s := { (tOpen []).sf (pgCAP 1) 0x054 11 0 1 with ltb := { tS.ltb with line := 1 } };
      s.Shape ∧ s.camRun = true ∧ (s.str 1 2).op = true ∧ 0 < s.f (pgCAP 1) 0x054 11 0 ∧ s.f (pgCAP 1) 0x054 11 0 ≤ s.strQuiet 1 2) := by
  decide +kernel
theorem test_wit_frame_done : (let s := tCam fun x => { x with closing := [⟨tCfg, 1, 7, 3⟩] };
      s.Shape ∧ s.camRun = true ∧ (s.str 1 2).closing = ⟨tCfg, 1, 7, 3⟩ :: [] ∧ cfgW tCfg 0 17 17 = 0) ∧
    tS.Writes tW .cap (pgCAP 1) (0x130 + 0x40 * 3) ∧ tS.Writes tW .cap (pgCAP 0) 0x040 ∧
    { tS with trig := [none, some 0] }.trig.getD 1 none = some 0 := by decide +kernel
theorem test_wit_isp : tS.Writes tW .isp pgISP 0x040 ∧ tS.isp.queue.length < 8 ∧ tS.isp.tags.length < 4 ∧ tS.isp.lastFn = none ∧
    fldOf (1 : Word) 3 1 = 0 ∧ fldOf (4 : Word) 1 0 = 0 ∧ fldOf (8 : Word) 2 0 = 0 ∧ fldOf (2 : Word) 0 0 = 0 ∧
    (let s := ({ tS with isp := { tS.isp with lastFn := some 65535 } }).sf pgISP 0x060 15 0 32766;
      1 ≤ (s.f pgISP 0x060 15 0 + 65536 - 65535) % 65536 ∧ (s.f pgISP 0x060 15 0 + 65536 - 65535) % 65536 ≤ 32767) := by decide +kernel
def tJob : IspJob := ⟨0x10000000, none, 0, 0⟩
/-- A job that reads sixteen RAW8 rows at 0x10000100 and writes them as 16-bit words at 0x10010000. -/
def tIspD : List Nat := [0x60000000, 0x80010, 16, 0x10000100, 0, 0, 0, 0, 0, 0x10010000, 32]
def tIspR : IspRun := ⟨tJob, tIspD, [], [], TagEnt.zero, 0, false⟩
def tIspRun : State := { tS with isp := { tS.isp with run := some tIspR } }
theorem test_wit_isp_run : tIspRun.camRun = true ∧ tIspRun.isp.run = some tIspR ∧ (tIspRun.engReads 10 tIspRun.ispCls tIspR.reads).2 = .ok := by decide +kernel
theorem test_wit_isp_run_writes : (let rd := tIspRun.engReads 10 tIspRun.ispCls tIspR.reads;
    (({ rd.1 with freeCtr := rd.1.freeCtr + 834 } : State).engWrites 10 rd.1.ispCls (rd.1.ispOuts tIspR)).2) = .ok := by decide +kernel
/-- A queued job at 0x10000000 whose descriptor begins with the words `d`. -/
def tQueue (d : List Nat) : State := { (tS.wrBytes 0x10000000 (d.flatMap (leBytes 4))) with isp := { tS.isp with queue := [tJob] } }
def tQueueRd (d : List Nat) : State × Sts :=
  ((tQueue d).updIsp fun x => { x with queue := [] }).engRead 10 (tQueue d).ispCls tJob.addr 80
def tQueueRs (d : List Nat) : State × Sts :=
  (tQueueRd d).1.engReads 10 (tQueueRd d).1.ispCls (recReads ((tQueueRd d).1.jobDesc tJob))
def tQueueR (d : List Nat) : IspRun :=
  let u := (tQueueRd d).1
  ⟨tJob, u.jobDesc tJob, u.jobRecs (u.jobDesc tJob), u.snapNow, u.isp.hold, 0, false⟩
theorem test_wit_isp_queue : (let s := tQueue [0]; s.domRun 1 = true ∧ s.camRun = true ∧ s.isp.run = none ∧ s.isp.queue = tJob :: [] ∧
      (tQueueRd [0]).2 = .ok ∧ (tQueueRs [0]).2 = .ok) := by decide +kernel
theorem test_wit_isp_refused : (tQueueRs [0]).1.jobReason (tQueueR [0]) false = some 2 := by decide +kernel
theorem test_wit_isp_sound : (tQueueRs [0x60000000, 0x80010]).1.jobReason (tQueueR [0x60000000, 0x80010]) false = none ∧
    (tQueueRd [0x60000000, 0x80010]).2 = .ok ∧ (tQueueRs [0x60000000, 0x80010]).2 = .ok ∧
    ((tQueueRd [0x60000000, 0x80010]).1.jobDesc tJob).getD 6 0 = 0 := by decide +kernel

/-- A locked budget, one sequence of 10 mA for 5 µs, an ILL claim of 50, and RUN. -/
def tIll : State :=
  let s := ((tS.sf pgLTB 0x044 3 3 0).sf pgSCN 0x040 0 0 1).sf pgSILL 0x044 0 0 1
  let s := ((s.w pgSILL 0x104 10).w pgSILL 0x100 5).w pgSILL 0x050 1000
  { s with clk := { s.clk with sysPll := true }, adm := { s.adm with eff := [⟨0, 0, ⟨0x60000000, 0, 50, 0⟩, []⟩] },
           sill := { Sill.zero with g := 50, b := List.replicate 16 12800 } }
theorem test_wit_strobe : tIll.domRun 1 = true ∧ tIll.domRun 8 = true ∧ tIll.letOwner 0 = 0 ∧
    tIll.strobeOutcome 0 0 50 tIll.ltb.frame.toNat tIll.sill.tfrm = 0 ∧ tIll.f pgSILL 0x104 9 0 * tIll.f pgSILL 0x100 10 0 = 50 ∧
    (tIll.sf pgSILL 0x044 0 0 0).strobeOutcome 0 0 50 tIll.ltb.frame.toNat tIll.sill.tfrm = 3 := by decide +kernel
theorem test_wit_pulse : (let s := { tIll with sill := { tIll.sill with pulse := some ⟨0, 4000, 10, false, false⟩ } };
      s.sill.pulse = some ⟨0, 4000, 10, false, false⟩ ∧ 0 ≤ s.now ∧ s.skpOn = true) ∧
    (let s := { tIll with time := 4000 }; s.sill.tick + s.usTick ≤ s.time) ∧ tIll.ebLocked = true := by decide +kernel
theorem test_wit_eblock : tS.Writes tW .sill pgSILL 0x040 ∧ tW.tnt = 0 ∧ tS.ebLocked = false ∧ tIll.Writes tW .sill pgSILL 0x040 := by
  decide +kernel
theorem test_wit_scan_run : tS.Writes tW .scn pgSCN 0x040 ∧ (0 : Word).getLsbD 2 = false ∧
    (let u := tS.plain pgSCN 0x040 (clrBit (withBit 0 0) 1); u.scnRunning = false ∧ u.runReason ≠ 0) ∧
    fldOf (4 : Word) 1 0 = 0 ∧ tS.scn.frame = none := by decide +kernel
/-- Stream 0 gives 16 by 16 RAW8, which the whole window takes; a ring of four slots of 256 bytes. -/
def tScan : State :=
  let s := ((tS.w pgSCN 0x048 0).wa (pgCAP 0) (strOff 0 0) 0x2A01).wa (pgCAP 0) (strOff 0 4) 0x100010
  ((((s.sf pgSCN 0x050 27 16 15).sf pgSCN 0x054 27 16 15).sf pgSCN 0x068 3 0 8).sf pgSCN 0x068 16 8 4).w pgSCN 0x05C 0x10001
theorem test_wit_scan_sound : tScan.Writes tW .scn pgSCN 0x040 ∧
    (tScan.plain pgSCN 0x040 (clrBit (withBit 0 0) 1)).scnRunning = false ∧
    (tScan.plain pgSCN 0x040 (clrBit (withBit 0 0) 1)).runReason = 0 ∧ tScan.Writes tW .scn pgSCN 0x070 := by decide +kernel
def tFr (next : Nat) (rd : Bool) : ScnFrame :=
  { job := false, rx := 0, st := 0, base := 0x10000000, stride := 16, fmt := 0, w := 16, h := 16, id := 3, frm := 0, lp := 0, illum := false,
    next := next, lines := [], stat := [], readDone := rd, buf := 0, recBase := 0x10001000, sight := [], cands := none }
def tScn (x : Scn) : State := { tScan with scn := x }
theorem test_wit_scan_frame : (let s := tScn { Scn.zero with frame := some (tFr 15 false) };
      s.domRun 8 = true ∧ s.scn.frame = some (tFr 15 false) ∧ (tFr 15 false).next ≤ s.winY1 ∧ s.slotThere (tFr 15 false) 15 = true) ∧
    (let s := tScn { Scn.zero with frame := some (tFr 16 false) };
      (tFr 16 false).readDone = false ∧ s.winY1 < (tFr 16 false).next) ∧
    (let s := tScn { Scn.zero with frame := some (tFr 16 true) };
      (tFr 16 true).readDone = true ∧ s.f pgSCN 0x040 8 8 = 0 ∧ s.frameClosed (tFr 16 true) = true) := by decide +kernel
theorem test_wit_scan_read : (let s := tScn { Scn.zero with frame := some (tFr 15 false) };
    (s.engRead 16 s.scnCls (0x10000000 + 15 * 16) (pixBytes 0 (s.winX1 + 1))).2 = .ok) := by decide +kernel
theorem test_wit_scan_records : (tScn { Scn.zero with recs := [3] }).scn.recs = 3 :: [] ∧
    (let s := ({ tScn { Scn.zero with held := [⟨1, 2, 3, some 4, 5, 0⟩] } with now := 800000000 }).sf pgSCN 0x060 10 0 1000;
      s.scn.held[0]? = some ⟨1, 2, 3, some 4, 5, 0⟩ ∧ s.f pgSCN 0x060 10 0 ≤ s.msTick - 0) ∧
    (let s := tScn { Scn.zero with fwd := [⟨1, none, [(0, 0), (4, 0)], 4, none⟩] }; s.scn.fwd = ⟨1, none, [(0, 0), (4, 0)], 4, none⟩ :: []) ∧
    (let s := { tScn { Scn.zero with fwd := [⟨1, none, [(0, 0)], 1, some 6⟩] } with now := 70 };
      s.scn.fwd = ⟨1, none, [(0, 0)], 1, some 6⟩ :: [] ∧ 6 + 64 ≤ s.now) := by decide +kernel

/-! ### Witnesses: chapter 14 -/

def tSec (x : Sec) : State := { tS with sec := x }
theorem test_wit_island : tS.domRun 1 = true ∧ tS.domRun 0 = true ∧ tS.sec.kop = none ∧
    (tSec { tS.sec with kop := some .lcEnd }).sec.kop.isSome = true := by decide +kernel
/-- The Keeper's command `k` in progress, with the crypto engine's users in order of arrival. -/
def tOp (k : KCmd) (eng : List EngUse) (up : Bool) : State := tSec { tS.sec with kop := some k, eng := eng, trngUp := up }
theorem test_wit_done : (let s := tOp (.sign 3 0 0) [.keeper] true; s.sec.kop = some (.sign 3 0 0) ∧ s.kReady (.sign 3 0 0) = true) ∧
    (let s := { tOp (.mcInc 7) [] true with seam := { tS.seam with hold := true } }; s.domRun 0 = true ∧ s.seam.hold = true) ∧
    (KCmd.sign 3 0 0).crypto = true ∧ (tOp (.sign 3 0 0) [.loader, .keeper] true).sec.eng.head? ≠ some .keeper ∧
    (KCmd.sign 3 0 0).random = true ∧ (tOp (.sign 3 0 0) [.keeper] false).sec.trngUp = false := by decide +kernel
theorem test_wit_image_check : (let h := tS.argRead 0x10000000 256; h.2 = true ∧
    (h.1.argRead 0x10000000 (256 + tS.rd32 0x10000010)).2 = true ∧ tS.sec.kop = none) := by decide +kernel
theorem test_wit_slots : tS.f pgSEC 0x040 2 2 = 0 ∧ (tS.kslot 31).use 20 = false ∧ attrOk 24 0x404 = true ∧
    (tS.argRead 0x10000000 (keyLen (fldOf (0x404 : Word) 3 0))).2 = true ∧ (tS.argRead 0xF0000000 (keyLen (fldOf (0x404 : Word) 3 0))).2 = false ∧
    (tS.sf pgSEC 0x040 2 2 1).f pgSEC 0x040 2 2 = 1 ∧
    tS.f pgSEC 0x040 (24 + 7) (24 + 7) = 0 ∧ tS.sec.low.getD 7 0 + 1 < 2 ^ 24 := by decide +kernel
theorem test_wit_otp : thermoField 0x1FF = none ∧ tS.otpDone 0x1FF = false ∧ keeperMem tS.grade 0x30400000 4 = true ∧
    (tSec { tS.sec with prog := [0x1FF] }).otpDone 0x1FF = true ∧
    ((tSec { tS.sec with ks := tS.sec.ks.set 31 ⟨4, []⟩ }).kslot 31).typ = 4 := by decide +kernel
theorem test_wit_hash : (tS.argRead 0x30400000 8).2 = true ∧ keeperMem tS.grade 0x30400100 32 = true ∧
    (let dg := tS.argRead 0x30400000 32; dg.2 = true ∧ (dg.1.argRead 0x30400000 64).2 = true) := by decide +kernel
theorem test_wit_trng : (tSec { tS.sec with trngUp := false }).sec.trngUp = false ∧ tS.sec.trngFails < 3 := by decide +kernel
theorem test_wit_boot_fails : tS.Shape ∧ tS.sec.booted = false ∧ tS.sec.winSince = none ∧ (tSec { tS.sec with retLost := false }).sec.retLost = false ∧ tS.lifecycle ≠ 2 ∧
    (tSec { tS.sec with retLost := false }).bootStep 0x20000000 = some 4 ∧ (tS.otp 0x70).getLsbD 0 = false := by decide +kernel
/-- A header of a first stage of no bytes, for the Keeper's store, entered at 0x10000. -/
def tBootHdr : List Byte := [0x5A, 0x42, 0x49, 0x31, 0, 1, 0, 0] ++ leBytes 4 0 ++ leBytes 4 0x30400000 ++ leBytes 4 0 ++ leBytes 4 0x10000
def tBootMem : List Host.Cell := ((List.range 256).zip (tBootHdr ++ List.replicate 232 0)).map fun e : Nat × Byte => ⟨0x20000000 + e.1, e.2⟩
theorem test_wit_boots : { tS with mem := tBootMem }.bootStep 0x20000000 = none := by
  decide +kernel
theorem test_wit_debug : (let s := { tSec { tS.sec with winSince := some 0 } with time := 8000000000 };
      s.sec.winSince = some 0 ∧ 0 + 8000000000 ≤ s.time ∧ s.ttgWatch = false ∧ s.pwr.entering = none) ∧
    tS.sec.tok = none ∧ tS.sec.dbgFails < 3 ∧ (tSec { tS.sec with dbgFails := 3 }).sec.dbgFails = 3 ∧
    (tSec { tS.sec with trngUp := false }).sec.trngUp = false ∧ (tSec { tS.sec with trngUp := true }).sec.trngUp = true ∧
    (tSec { tS.sec with chal := some (4, []) }).sec.chal = some (4, []) ∧ tS.sec.chal = none ∧
    (let s := tSec { tS.sec with tok := some ⟨4, [], [], []⟩, eng := [.unlock] };
      s.sec.tok = some ⟨4, [], [], []⟩ ∧ s.engTurn .unlock = true) := by decide +kernel
theorem test_wit_intake : tW.tnt.val = 0 ∧ tS.bridge (pageDom pgSECIN) tW.tnt = .pass ∧ pgSECIN ∉ tS.srst ∧ tW.ni = 14 ∧
    (⟨0, 16⟩ : By).ni = 16 ∧ ((⟨0, 3⟩ : By).ni ≠ 14 ∧ (⟨0, 3⟩ : By).ni ≠ 16) ∧ (3 : Nat) ∉ tS.sec.closed ∧
    (let s := tSec { tS.sec with queue := [(.slot 3, [])] }; s.sec.chk = none ∧ s.sec.queue = (.slot 3, []) :: []) ∧
    (let s := tSec { tS.sec with chk := some (.slot 3, []), eng := [.sequencer] }; s.sec.chk = some (.slot 3, []) ∧
      s.engTurn .sequencer = true ∧ (s.credReason true (if s.slotForeign 3 [] then none else intakePayload [])).1 = 12) ∧
    (tSec { tS.sec with foreign := [0xE00] }).slotForeign 3 [] = true ∧
    tS.seam.hold = false ∧ (tS.mcInc 0).2 = 0 := by
  decide +kernel
theorem test_wit_services : tS.Writes tW .svc pgSVC 0x040 ∧ tS.f pgSVC 0x044 0 0 ≠ 1 ∧ (tS.sf pgSVC 0x044 0 0 1).f pgSVC 0x044 0 0 = 1 ∧
    tS.Reads tW .svc pgSVC 0x04C ∧ (tSec { tS.sec with trngUp := true }).sec.trngUp = true ∧
    (tSec { tS.sec with trngUp := false }).sec.trngUp = false ∧
    (∀ l ∈ [0, 1], (let s := { tSec { tS.sec with grants := [⟨[], l, 0⟩] } with time := 800000 * 65535 };
      s.sec.grants = ⟨[], l, 0⟩ :: [] ∧ 800000 * s.f pgSEC 0x058 15 0 ≤ s.time - 0)) := by decide +kernel
/-- A credential of issuer 7: vehicle 0, from 0 for 10 s, counter 1, rights 1. Its acceptance rests on the free signature check. -/
def tCredPay : List Byte := [0xA5, 0x01, 0x48, 0, 0, 0, 0, 0, 0, 0, 0, 0x02, 0, 0x03, 10, 0x04, 1, 0x05, 1]
def tCredB : List Byte :=
  [0xD2, 0x84, 0x46, 0xA2, 0x01, 0x26, 0x04, 0x41, 7, 0xA0, 0x53] ++ tCredPay ++ [0x58, 0x40] ++ List.replicate 64 9
def tSlotB : List Byte := List.replicate 0x2C 0 ++ [0, 0, 0, 0, 96, 0, 0, 0] ++ leBytes 4 (crc32 tCredB) ++ List.replicate 8 0 ++ tCredB
def tCredS : State :=
  ((tSec { tS.sec with ks := (tS.sec.ks.set 3 ⟨0x801, []⟩).set 31 ⟨0x404, []⟩ }).sf pgSEC 0x040 1 1 1).sf pgSEC 0x040 31 31 1
def tCred : Cred :=
  { kid := 7, vid := List.replicate 8 0, nbf := 0, dur := 10, ctr := 1, rights := 1,
    sigIn := [0x84, 0x6A, 0x53, 0x69, 0x67, 0x6E, 0x61, 0x74, 0x75, 0x72, 0x65, 0x31, 0x46, 0xA2, 0x01, 0x26, 0x04, 0x41, 7, 0x40, 0x53] ++ tCredPay,
    sig := List.replicate 64 9 }
theorem test_wit_cred_form : (intakePayload tSlotB).bind parseCred = some tCred := by decide +kernel
theorem test_wit_cred (h : Config.ecdsaVerify [] (Config.sha 256 tCred.sigIn) tCred.sig = true) :
    tCredS.credReason true (intakePayload tSlotB) = (0, some tCred) := by
  have k : tCredS.kslot (24 + tCred.kid) = ⟨0x404, []⟩ ∧ tCredS.kslot 3 = ⟨0x801, []⟩ ∧ tCred.vid = tCredS.otpBytes 0x1E 2 ∧
    tCredS.f pgSEC 0x040 3 3 = 0 ∧ tCredS.sec.keeperDbg = false ∧ tCredS.f pgSEC 0x040 5 5 = 0 ∧ tCredS.f pgSEC 0x040 1 1 = 1 ∧
    (tCredS.r pgSEC 0x048).toNat = 0 ∧ tCred.nbf + tCred.dur = 10 ∧ tCredS.f pgSEC 0x040 (24 + tCred.kid) (24 + tCred.kid) = 1 ∧
    tCred.nbf = 0 := by decide +kernel
  have w : ctrWindow (tCredS.winH tCred.kid) (tCredS.winMap tCred.kid) tCred.ctr = .ok (1, 1) := rfl
  simp only [State.credReason, test_wit_cred_form, k, w, h]
  rfl
theorem test_wit_cred_window : ctrWindow (tCredS.winH 7) (tCredS.winMap 7) 1 = .ok (1, 1) := rfl

/-! ### Witnesses: chapters 15 and 16 -/

/-- Pipe 0 enabled with a sound mode of 16 by 8 pixels at 25 MHz pending and active. -/
def tDp0 : State :=
  let s := ((tS.wa (pgDP 0) 0x040 0x100).wa (pgDP 0) 0x04C 25000000).wa (pgDP 0) 0x050 0x200010
  let s := ((s.wa (pgDP 0) 0x054 16).wa (pgDP 0) 0x058 0xC0008).wa (pgDP 0) 0x05C 8
  (s.wa (pgDP 0) 0x064 0xE4).sf (pgDP 0) 0x00C 0 0 1
def tDp (g : Dp → Dp) : State :=
  { tDp0 with dps := [g { Dp.zero with nxt := tDp0.dpActive 0, cur := tDp0.dpActive 0, acc := true }, Dp.zero] }
theorem test_wit_latch : (let s := tDp id; s.Shape ∧ s.domRun 1 = true ∧ s.dpEn 0 = true ∧ (s.dp 0).run = false ∧
      s.dpRefuse 0 (s.view 0 (s.dpActive 0)) = none) ∧
    (let s := (tDp id).wa (pgDP 0) 0x05C 0; s.dpEn 0 = true ∧ s.dpRefuse 0 (s.view 0 (s.dpActive 0)) = some (1, 0)) ∧
    (let s := tDp fun d => { d with run := true, line := 11 };
      (s.dp 0).line + 1 = (s.view 0 (s.dp 0).cur).vt ∧ (s.dp 0).run = true ∧ (s.dp 0).lat = false) ∧
    (let s := tDp fun d => { d with run := true, lat := true }; s.Shape ∧ (s.dp 0).run = true ∧ (s.dp 0).lat = true) := by decide +kernel
theorem test_wit_pixel_pll : (let s := tDp fun d => { d with relock := true };
      s.Shape ∧ s.dpEn 0 = true ∧ (s.dp 0).acc = true ∧ (s.dp 0).relock = true ∧ s.clk.xtal = true ∧ s.clk.stopped = false) := by
  decide +kernel
def tSend (l : Nat) (rl : Bool) : State :=
  { tDp (fun d => { d with run := true, line := l, relock := rl }) with clk := { tS.clk with ppll0 := true } }
theorem test_wit_lines_sent : (let s := tSend 11 false; s.Shape ∧ s.dpEn 0 = true ∧ (s.dp 0).run = true ∧ s.ppll 0 = true ∧
      (s.view 0 (s.dp 0).cur).vt ≤ (s.dp 0).line + 1 ∧ (s.dp 0).relock = false) ∧
    (let s := tSend 11 true; (s.view 0 (s.dp 0).cur).vt ≤ (s.dp 0).line + 1 ∧ (s.dp 0).relock = true) ∧
    (∀ l ∈ [6, 7, 10], ((tSend l false).dp 0).line + 1 < ((tSend l false).view 0 ((tSend l false).dp 0).cur).vt) := by
  decide +kernel
/-- Pipe 1 slaved to pipe 0, in line `l` while pipe 0 is in line `m`. -/
def tSlave (l m : Nat) : State :=
  let s := (((tDp0.wa (pgDP 1) 0x040 0x1100).wa (pgDP 1) 0x050 0x200010).wa (pgDP 1) 0x054 16).wa (pgDP 1) 0x058 0xC0008
  let s := ((s.wa (pgDP 1) 0x05C 8).wa (pgDP 1) 0x064 0xE4).sf (pgDP 1) 0x00C 0 0 1
  let d (p l : Nat) : Dp := { Dp.zero with nxt := s.dpActive p, cur := s.dpActive p, acc := true, run := true, line := l }
  { s with dps := [d 0 m, d 1 l], clk := { tS.clk with ppll0 := true, ppll1 := true } }
theorem test_wit_slave : (let s := tSlave 11 0; s.Shape ∧ s.domRun 1 = true ∧ s.dpEn 1 = true ∧ (s.dp 1).run = true ∧ s.ppll 1 = true ∧
      (s.view 1 (s.dp 1).cur).vt ≤ (s.dp 1).line + 1 ∧ (s.dp 1).relock = false ∧ (s.view 1 (s.dp 1).nxt).slave = true ∧
      (s.dp 0).run = true ∧ (s.dp 0).line = 0) ∧
    (let s := tSlave 3 4; (s.dp 1).line + 1 < (s.view 1 (s.dp 1).cur).vt ∧ (s.view 1 (s.dp 1).cur).slave = true ∧
      (s.dp 0).run = true ∧ (s.dp 0).line = (s.dp 1).line + 1) := by decide +kernel
theorem test_wit_vault : tS.Writes tW .icv pgICV 0x040 ∧ (tS.proofOn 0 || tS.proofOn 1) = false := by decide +kernel
/-- A slot is enabled and pipe 0 is at proof level 1. -/
def tProof (g : Dp → Dp) : State :=
  let s := ((tDp id).wa (pgDP 0) 0x204 0x80000000).sf pgTTG 0x048 1 0 1
  { s with dps := [g { Dp.zero with nxt := s.dpActive 0, cur := s.dpActive 0, acc := true, run := true }, Dp.zero] }
theorem test_wit_proof_on : (tProof id).Writes tW .icv pgICV 0x040 ∧ ((tProof id).proofOn 0 || (tProof id).proofOn 1) = true := by decide +kernel
def tIcvChk (m : List Host.Cell) : State := { tS with icv := ⟨true, true⟩, mem := m }
theorem test_wit_body_bad : (tIcvChk []).icv.chk = true ∧ (tIcvChk []).bodyOk = false := by decide +kernel
/-- A body of one icon of 2 by 1 pixels in two variants. -/
def tBody1 : List (Nat × Byte) :=
  [(0x10300011, 0x32), (0x10300100, 0x49), (0x10300101, 0x43), (0x10300102, 0x56), (0x10300103, 0x44), (0x10300104, 1), (0x10300106, 8),
   (0x10300107, 8), (0x10303110, 2), (0x10303112, 1), (0x10303114, 2), (0x10303119, 0x31)]
theorem test_tone_zero (i : Nat) (h : i < 6144) : (tIcvChk tBody1).iv16 (0x10 + 2 * i) = 0 := by
  have g : ∀ a, 0x10300110 ≤ a → a < 0x10303110 → (tIcvChk tBody1).rdByte a = 0 := by
    intro a l u
    have m : memRegion a = some 2 := by
      unfold memRegion
      rw [if_neg (by omega), if_neg (by omega), if_neg (by omega), if_pos (by omega)]
    have e : (tIcvChk tBody1).epoch.getD 2 0 = 0 := by decide +kernel
    simp only [State.rdByte, tIcvChk, tBody1, Sparse.get]
    repeat' rw [if_neg (by omega)]
    simp only [memDefault, m]
    simp only [tIcvChk] at e
    simp only [e]; rfl
  simp only [State.iv16, State.rd16, State.rdBytes, leNat, g _ (by omega : 0x10300110 ≤ 0x10300100 + (0x10 + 2 * i)) (by omega),
    g _ (by omega : 0x10300110 ≤ 0x10300100 + (0x10 + 2 * i) + 1) (by omega)]
  rfl
theorem test_wit_body_ok : (tIcvChk tBody1).bodyOk = true := by
  have t : ((List.range 6144).all fun i => decide ((tIcvChk tBody1).iv16 (0x10 + 2 * i) < 1024)) = true := by
    rw [List.all_eq_true]; intro i h; rw [test_tone_zero i (List.mem_range.mp h)]; rfl
  simp only [State.bodyOk, Bool.and_eq_true]
  exact ⟨⟨by decide +kernel, t⟩, by decide +kernel⟩
theorem test_wit_decision :
    (let g : GFrame := ⟨65535, [(0, 1, 2), (31, 3, 3)], 0, none⟩; let s := tProof fun d => { d with await := [g], line := tS.f pgTTG 0x048 13 8 };
      s.Shape ∧ s.ttgLvl 0 ≠ 0 ∧ (s.dp 0).run = true ∧ (s.dp 0).line = s.f pgTTG 0x048 (8 * 0 + 13) (8 * 0 + 8) ∧ (s.dp 0).await = [g] ∧
      g.fseq = (s.fcnt 0 + 65535) % 65536 ∧ (g.regs.map Prod.fst).Nodup ∧ (∀ r ∈ g.regs, r.1 < 32)) := by decide +kernel
theorem test_wit_missed : (let s := { tProof id with time := 2000000 }; s.Shape ∧ s.ttgLvl 0 ≠ 0 ∧
      (s.view 0 (s.dp 0).nxt).slotEn 0 = true ∧ s.missDue 0 = true) ∧
    tS.Writes tW .ttg pgTTG 0x040 := by decide +kernel

def tL (x : Light) : State := { tS with light := x }
theorem test_wit_pwm : tS.Shape ∧ tS.domRun 1 = true ∧
    (let s := { tS with now := 10000000 }; (s.pwmT 16).start + 10 * s.mxPer ≤ s.perNow) ∧
    ((tS.pwmT 3).sub < tS.mxNsub ∧ (tS.pwmT 3).start + 10 * tS.subStart (tS.pwmT 3).sub ≤ tS.perNow) ∧
    (let s := tL { tS.light with mxReady := true, mxAcc := some (1, 2, 3) }; s.light.mxReady = true ∧ s.light.mxAcc = some (1, 2, 3)) := by
  decide +kernel
theorem test_wit_scan_miss : (let s := (tL { tS.light with scan := some (0xFFFFFFFF, 0, 0, 0) }).wa pgBLD 0x040 0x100; s.domRun 1 = true ∧ s.scanOn = true ∧
      s.light.scan = some (0xFFFFFFFF, 0, 0, 0) ∧ s.blPhases = some (256 * s.vtAct) ∧ s.vtAct ≠ 0) := by decide +kernel
theorem test_wit_cal : (let s := tL { tS.light with calPend := [(0, 1, 0), (255, 2, 0), (0, 3, 1)] }; (∀ e ∈ s.light.calPend, e.1 < 256) ∧
    s.Writes tW .cal pgCAL 0x040) := by
  decide +kernel
def tHold : State := { tS with seam := { tS.seam with hold := true } }
theorem test_wit_lamp_fault : ∀ s ∈ [tS, tHold], (s.hushed 0x97 = false ∧ s.hushed 0 = false ∧ s.hushed 0x9B = false ∧ s.pwr.low = false ∧
    s.domRun 1 = true) := by decide +kernel
theorem test_wit_lamp_hold : tHold.seam.hold = true ∧ tS.seam.hold = false ∧ tHold.af pgBLD 0x040 21 16 + 2 < 255 := by decide +kernel
theorem test_wit_matrix : (let s := { (tL { tS.light with mxBusy := true, mxNext := some (1, 2, 3) }) with adm := { tS.adm with mxRes := some true } };
      s.light.mxBusy = true ∧ s.adm.mxRes = some true) ∧
    (let s := { (tL { tS.light with mxBusy := true }) with adm := { tS.adm with mxRes := some false } };
      s.light.mxBusy = true ∧ s.adm.mxRes = some false) ∧ tS.af pgBLD 0x040 21 16 + 2 < 255 := by decide +kernel
theorem test_wit_light_writes : tS.Writes tW .bld pgBLD 0x040 ∧ tS.Writes tW .fg pgFG (0x080 + 4 * 15) ∧ tS.Writes tW .fg pgFG 0x040 ∧
    (∀ g : Fin 16, tS.fgMay tW.tnt g = true) ∧ tS.Writes tW .ld pgLD 0x0F0 ∧
    (let s := { tHold with now := 800000 }; s.seam.hold = true ∧ s.light.holdAt + 800000 ≤ s.perNow) := by
  decide +kernel
def tLace (x : Lace) : State := { tS with lace := x, now := 1000000 }
def tTx (k : LaceKind) (a : Nat) : LaceTx := ⟨k, a, false, 2, 3, 4⟩
theorem test_wit_push : tS.Writes tW .lace pgLACE 0x050 ∧ 61 ≤ (tS.sf pgLACE 0x048 5 0 61).f pgLACE 0x048 5 0 ∧
    tS.f pgLACE 0x048 5 0 < 61 ∧ tS.lace.queue.length < 32 ∧ 32 ≤ (tLace { Lace.zero with queue := List.replicate 32 ⟨.queued, 1, false, 2, 3, 4⟩ }).lace.queue.length ∧
    (let w : By := ⟨3, 14⟩; let s := (tS.w pgTEN 0x400 0).sf pgLACE 0x048 5 0 5;
      ¬(w.tnt = 0 ∨ (s.f pgLACE 0x048 8 8 == 1) = true ∨ s.fgHolder (s.eyeGroup 5) = w.tnt)) ∧
    (let w : By := ⟨3, 14⟩; tS.f pgLACE 0x048 5 0 = 0 ∧ ¬(w.tnt = 0 ∨ (tS.f pgLACE 0x048 8 8 == 1) = true ∨ tS.f pgLACE 0x048 23 16 = 0xFE)) ∧
    tS.Writes tW .lace pgLACE (0x060 + 4 * 1) ∧ tS.Reads tW .lace pgLACE 0x058 ∧ tS.lace.resp = [] ∧
    (tLace { Lace.zero with resp := [(1, 2)] }).lace.resp = (1, 2) :: [] := by decide +kernel
theorem test_wit_bus_start : (let s := tLace { Lace.zero with queue := [tTx .queued 5] };
      s.lace.idle + 12 * s.laceBit ≤ s.perNow ∧ s.lace.bus = none ∧ s.laceNext.map Prod.fst = some (tTx .queued 5) ∧ s.eyeOnline 5 = false ∧
      (s.setOnline 5 true).eyeOnline 5 = true) ∧
    (let b : LaceBus := ⟨tTx .queued 5, [], [], 1, false, 0⟩; let s := tLace { Lace.zero with bus := some b };
      s.lace.bus = some b ∧ b.wait = false) ∧
    (∀ a ∈ [0, 5], (let b : LaceBus := ⟨tTx .queued a, [], [], 1, true, 0⟩; let s := tLace { Lace.zero with bus := some b };
      s.lace.idle + 12 * s.laceBit ≤ s.perNow ∧ s.lace.bus = some b ∧ b.wait = true)) ∧
    (let s := tLace Lace.zero; s.lace.bus = none ∧ s.laceNext = none) := by decide +kernel
def tBus (t : Nat) : State := tLace { Lace.zero with bus := some ⟨tTx .queued 5, [], [], t, true, 0⟩ }
def tAns : List Byte := [0x5A, 0x14, 7, 8, 9, BitVec.ofNat 8 (crc8 [0x14, 7, 8, 9])]
theorem test_wit_answer : (let s := tBus 1; s.domRun 1 = true ∧ s.seam.hold = false ∧ (s.awlLace 1 (ib tAns 1 / 4) 0 2 tAns).2.1 = some tAns ∧
      tAns.length = 6 ∧ tAns.head? = some 0x5A ∧ ib tAns 5 = crc8 ((tAns.drop 1).take 4) ∧ ib tAns 1 / 4 = 5 ∧
      ib tAns 1 / 2 % 2 = s.eyeSeq 5) ∧
    (let s := tBus 1; (s.awlLace 1 (ib [1] 1 / 4) 0 2 [1]).2.1 = some [1] ∧ [(1 : Byte)].head? ≠ some 0x5A) ∧
    (let s := tBus 1; (s.awlLace 1 (ib [0x5A] 1 / 4) 0 2 [0x5A]).2.1 = some [0x5A] ∧ [(0x5A : Byte)].length ≠ 6) ∧
    (tLace { Lace.zero with bus := some ⟨tTx .queued 5, [], [], 1, false, 0⟩ }).lace.bus.map LaceBus.wait = some false := by decide +kernel
theorem test_wit_bus_timeout : (let s := tBus 1; 0 + s.laceRtmo * s.laceBit ≤ s.perNow ∧ 1 ≤ s.laceRetry) ∧ (tBus 8).laceRetry < 8 ∧
    (let s := { tBus 1 with now := 0 }; s.perNow ≤ 0) ∧
    (let s := { (tS.sf pgLACE 0x068 7 0 1) with now := 800000 }; s.f pgLACE 0x068 7 0 ≠ 0 ∧
      s.lace.pollAt + s.f pgLACE 0x068 7 0 * 800000 ≤ s.perNow) := by decide +kernel

/-! ### Witnesses: chapter 17 -/

/-- Lane 1 in Run under protocol `pr`, changed by `g`. -/
def tLn (pr : Nat) (g : Lane → Lane) : State :=
  (tS.wa (pgLANE 1) 0x040 (BitVec.ofNat 32 (1 + 2 * pr))).updLn 1 fun l => g { l with st := .run, aligned := true }
def tLk (g : LinkSt → LinkSt) : State := (tLn 3 id).updLk 1 g
theorem test_wit_lane : tS.Shape ∧ tS.laneOn 1 = true ∧ ((tLn 3 id).ln 1).st ≠ .down ∧ ((tLn 3 id).ln 1).aligned = true ∧
    (tLn 3 fun l => { l with aligned := false, st := .training }).laneOn 1 = true ∧ tS.domRun 10 = true ∧
    (let s := tS.sf (pgLANE 0) 0x0C0 0 0 1; s.f (pgLANE 0) 0x0C0 0 0 = 1 ∧ s.f (pgLANE 0) 0x0C4 4 4 = 0) ∧
    tS.clk.lanePll = false ∧ tS.clk.stopped = false ∧ tS.clk.xtal = true := by decide +kernel
theorem test_wit_low_power : tS.Writes tW .lane (pgLANE 1) 0x048 ∧
    (let s := tLn 0 fun l => { l with st := .idle, win := some 0 }; (s.ln 1).win = some 0 ∧ (s.ln 1).st = .idle ∧ (s.ln 1).exiting = false) ∧
    (let s := tLn 0 fun l => { l with st := .dormant, exiting := true }; s.laneOn 1 = true ∧ (s.ln 1).exiting = true) ∧
    (let s := (tLn 0 id).wa (pgLANE 1) 0x060 2; s.af (pgLANE 1) 0x060 1 1 = 1) ∧
    ((tLn 0 fun l => { l with prbs := true }).ln 1).prbs = true ∧ ((tLn 0 fun l => { l with esBusy := true }).ln 1).esBusy = true := by
  decide +kernel
theorem test_wit_eye : tS.Writes tW .lane (pgLANE 1) 0x060 ∧ tS.Writes tW .lane (pgLANE 1) 0x080 ∧ ((tLn 0 id).ln 1).esBusy = false ∧
    fldOf (0x100000 : Word) 15 9 ≠ 64 ∧ 16 ≤ fldOf (0x100000 : Word) 21 16 ∧ fldOf (0x280000 : Word) 21 16 ≤ 40 := by decide +kernel
/-- Pipe 0 sends on lane 1 in segments of 16 pixels. -/
def tPane (st : LaneSt) : State :=
  let s := ((tDp id).wa (pgDP 0) 0x040 0x111).wa (pgPANE 1) 0x040 1
  let s := (s.wa (pgLANE 1) 0x040 3).updLn 1 fun l => { l with st := st, aligned := true }
  { s with dps := [{ Dp.zero with nxt := s.dpActive 0, cur := s.dpActive 0, acc := true, run := true, out := List.replicate 16 [1, 2, 3],
                                   await := [⟨7, [(0, 1, 2)], 0, none⟩] }, Dp.zero] }
theorem test_wit_segment : ∀ st ∈ [LaneSt.run, .idle, .training], (let s := tPane st; s.Shape ∧ s.laneOn 1 = true ∧ s.laneProto 1 = 1 ∧
      s.txPrbs 1 = false ∧ ([0, 1].find? fun q => (s.dp q).run && names (s.view q (s.dp q).cur) 1) = some 0 ∧
      (((s.dp 0).out.drop 0).take (16 * s.af (pgPANE 1) 0x040 6 0)) ≠ [] ∧ 16 * s.af (pgPANE 1) 0x040 6 0 = 16 ∧ (s.ln 1).st = st) := by
  decide +kernel
def tRep (fs : Nat) : List Byte :=
  let b := leBytes 2 0x81 ++ leBytes 2 16 ++ leBytes 4 0 ++ leBytes 4 fs ++ leBytes 4 0 ++ leBytes 8 0
  b ++ leBytes 4 (crc32 b)
theorem test_wit_report : (let s := tPane .run; s.Arrives (s.awlLane true 1 1 (.pkt (tRep 7) false)).1 1 1 (.pkt (tRep 7) false) (.pkt (tRep 7) false) ∧
      paneOk (tRep 7) false = true ∧ ib (tRep 7) 0 = 0x81 ∧ paneOk [] false = false ∧
      ([0, 1].find? fun q => names (s.view q (s.dp q).cur) 1) = some 0 ∧ leNat (((tRep 7).drop 8).take 4) % 65536 = 7 ∧
      (∀ g ∈ (s.dp 0).await, g.fseq = leNat (((tRep 8).drop 8).take 4) % 65536 → g.report ≠ none)) := by
  refine ⟨⟨?_, ?_, ?_, ?_, ?_, rfl⟩, ?_⟩ <;> decide +kernel
def tVst : List Byte :=
  let b := leBytes 2 2 ++ leBytes 2 16 ++ leBytes 4 0 ++ leBytes 2 9 ++ leBytes 2 4 ++ leBytes 2 2 ++ [8] ++ List.replicate 9 0
  b ++ leBytes 4 (crc32 b)
def tVln (y : Nat) : List Byte :=
  let b := leBytes 2 1 ++ leBytes 2 6 ++ leBytes 2 y ++ leBytes 2 2 ++ [1, 2, 3, 4, 5, 6]
  b ++ leBytes 4 (crc32 b)
def tHost (d : Bool) : State := (tLn 2 fun l => { l with host := some ⟨d, 0, 9, 4, 2, 8, [], []⟩ }).wa (pgPANE 1) 0x070 16
theorem test_wit_vstart : (let s := tLn 2 id; s.Arrives (s.awlLane true 1 2 (.pkt tVst false)).1 1 2 (.pkt tVst false) (.pkt tVst false) ∧
      paneOk tVst false = true ∧ ib tVst 0 = 2 ∧ ib tVst 14 = 8) := by
  refine ⟨⟨?_, ?_, ?_, ?_, ?_, rfl⟩, ?_⟩ <;> decide +kernel
/-- Line 1, 2 pixels of the 4 from column 2: whole where the first two have come. -/
theorem test_wit_vline : (let s := tHost false; let x := tVln 1; s.Arrives (s.awlLane true 1 2 (.pkt x false)).1 1 2 (.pkt x false) (.pkt x false) ∧
      paneOk x false = true ∧ ib x 0 = 1 ∧ (s.ln 1).host = some ⟨false, 0, 9, 4, 2, 8, [], []⟩ ∧ leNat ((x.drop 4).take 2) = 1 ∧
      leNat ((x.drop 6).take 2) + (hostPixels 8 ((x.drop 8).take (x.length - 12))).length / 4 = 4 ∧ 4 * 4 ≤ (s.a (pgPANE 1) 0x070).toNat ∧
      lineWhole ⟨false, 0, 9, 4, 2, 8, [(1, 2, 2)], []⟩ 1 = false ∧ lineWhole ⟨false, 0, 9, 4, 2, 8, [(1, 0, 2), (1, 2, 2)], []⟩ 1 = true) := by
  refine ⟨⟨?_, ?_, ?_, ?_, ?_, rfl⟩, ?_⟩ <;> decide +kernel
theorem test_wit_host_none : ((tLn 2 id).ln 1).host = none ∧ ((tHost true).ln 1).host.map HostFrame.drop = some true ∧
    2 ≤ leNat (((tVln 2).drop 4).take 2) ∧ tS.Writes tW .pane (pgPANE 1) 0x074 := by decide +kernel
/-- A response packet of LSEQ `q`: kind 1, one unit. -/
def tData (q : Nat) : List Byte :=
  let b := leBytes 4 (q + 4096 + 65536) ++ List.replicate 16 0
  b ++ leBytes 4 (crc32 b)
theorem test_wit_data : ∀ q ∈ [0, 0xFFF], (let s := tLk fun k => { k with up := true };
      s.Arrives (s.awlLane true 1 3 (.pkt (tData q) false)).1 1 3 (.pkt (tData q) false) (.pkt (tData q) false) ∧ (s.lk 1).up = true ∧
      dataPktOk (tData q) = true ∧ leNat ((tData q).take 2) % 4096 = q ∧ (s.lk 1).e = 0 ∧ dataPktOk [] = false ∧ ((tData q).getD 1 0).toNat / 16 % 2 = 1) := by
  intro q h
  obtain rfl | rfl : q = 0 ∨ q = 0xFFF := by simpa using h
  · refine ⟨⟨?_, ?_, ?_, ?_, ?_, rfl⟩, ?_⟩ <;> decide +kernel
  · refine ⟨⟨?_, ?_, ?_, ?_, ?_, rfl⟩, ?_⟩ <;> decide +kernel
def tHeld (t : Nat) : LinkSt → LinkSt := fun k => { k with up := true, held := [⟨5, 0, [], 0, t⟩] }
theorem test_wit_control : ∀ u ∈ [true, false], ∀ e ∈ [(1, 5), (1, 0xFFF), (2, 5), (3, 0xFFF)],
    (let s := tLk fun k => { tHeld 0 k with up := u }; let b := ctlSet e.1 e.2;
      (s.awlLane true 1 3 (.ctl b)).2 = [.ctl b] ∧ ctlOk b = true ∧ ib b 1 / 16 = e.1 ∧ ctlType b = e.1 ∧ ctlSeq b = e.2 ∧ (s.lk 1).up = u ∧
      (s.awlLane true 1 3 (.ctl b)).1.domRun 1 = true) := by decide +kernel
theorem test_wit_acks : ((tLk (tHeld 0)).linkAck 1 5).isSome = true ∧ (tLk (tHeld 0)).linkAck 1 6 = none ∧
    (∀ h ∈ ((tLk (tHeld 0)).lk 1).held, h.tries < ((tLk (tHeld 0)).wa (pgLINK 1) 0x040 0x1000008).af (pgLINK 1) 0x040 25 24) ∧
    (tLk (tHeld 3)).af (pgLINK 1) 0x040 25 24 ≤ 3 ∧
    (let s := { tLk (tHeld 0) with time := 1000000 }; 0 + 800 * s.af (pgLINK 1) 0x040 15 8 ≤ s.time) ∧
    (let s := tLn 3 id; s.laneOn 1 = true ∧ s.laneProto 1 = 3 ∧ (s.ln 1).st = .run ∧ (s.lk 1).up = false) ∧
    tS.Writes tW .link (pgLINK 1) 0x058 := by decide +kernel
theorem test_wit_aperture : tW.tnt.val = 0 ∧ tS.bridge 10 tW.tnt = .pass ∧ tS.pageAllows ⟨tW.tnt, tW.ni, pgLINK 1, 0x800 + 4, 4, true, 5⟩ = true ∧
    lanePresent tS.grade 1 = true ∧ tS.srst.contains (pgLINK 1) = false ∧ (tS.lk 1).pend = [] ∧ 0 < tS.af (pgLINK 1) 0x040 5 0 ∧
    (let s := tLk fun k => { k with pend := [⟨14, 5, ⟨false, 0, []⟩, none⟩] }; (∃ p ∈ (s.lk 1).pend, p.src = tW.ni.val ∧ p.seq = 5)) ∧
    (tS.wa (pgLINK 1) 0x040 0).af (pgLINK 1) 0x040 5 0 ≤ (tS.lk 1).pend.length := by decide +kernel

/-! ### Witnesses: chapter 18 -/

/-- CAN1 out of INIT, changed by `g`. -/
def tCan (g : Can → Can) : State :=
  ((tS.wa (pgCAN 1) 0x040 0).wa (pgCAN 1) 0x060 0x80000123).wa (pgCAN 1) 0x064 0x1FFFFFFF |>.updCan 1 g
def tFrm (id : Nat) : CanFrame := ⟨id, false, false, false, 1, [5]⟩
theorem test_wit_can_writes : tS.Shape ∧ tS.Writes tW .can (pgCAN 1) 0x600 ∧ tS.Writes tW .can (pgCAN 0) 0x604 ∧ tS.Writes tW .can (pgCAN 1) 0x850 := by decide +kernel
theorem test_wit_can_writes2 : tS.Writes tW .can (pgCAN 0) 0x040 ∧ tS.Writes tW .can (pgCAN 0) 0x918 := by decide +kernel
theorem test_wit_lin_writes : tS.Writes tW .lin pgLIN 0x040 ∧ tS.Writes tW .gpio pgGPIO 0x108 := by decide +kernel
theorem test_wit_can_events : ((tCan fun c => { c with cur := some 15 }).can 1).cur = some 15 ∧ (tCan id).Shape ∧ (tCan id).canInit 1 = false ∧
    ((tCan id).can 1).mode ≠ 2 ∧ (tCan id).canFilter 1 (tFrm 0x124) = none ∧ (tCan id).canFilter 1 (tFrm 0x123) ≠ none ∧
    ((tCan id).can 1).fifo.length < 32 ∧ 32 ≤ ((tCan fun c => { c with fifo := List.replicate 32 (tFrm 1, 0, 0) }).can 1).fifo.length ∧
    256 ≤ ((tCan fun c => { c with txe := 256 }).can 1).txe ∧
    (let s := tCan fun c => { c with mode := 2, recov := true }; (s.can 1).mode = 2 ∧ (s.can 1).recov = true) ∧
    (tCan id).canCut 1 = false ∧ (let s := (tHold.wa (pgCAN 0) 0x040 0).updCan 0 fun c => { c with cur := some 3 };
      s.canCut 0 = true ∧ s.canInit 0 = false ∧ (s.can 0).mode ≠ 2 ∧ (s.can 0).cur = some 3) := by decide +kernel
def tLin (d : Option Nat) : State :=
  { ((((tS.wa pgLIN 0x040 3).wa pgLIN 0x200 0x101).wa pgLIN 0x204 0x102).wa pgLIN (0x080 + 0x10 * 15) 0x83C) with
    lin := { tS.lin with entry := d }, now := 800000 }
theorem test_wit_lin : (let s := tLin none; s.lin.slot = none ∧ s.linCommander = true ∧ s.af pgLIN 0x040 1 1 = 1 ∧ fldOf (s.linSch 0) 15 8 ≠ 0) ∧
    (let s := tLin (some 0); s.lin.at_ + 800000 * fldOf (s.linSch 0) 15 8 ≤ s.perNow ∧
      1 = (if 32 ≤ 0 + 1 ∨ fldOf (s.linSch (0 + 1)) 15 8 = 0 then 0 else 0 + 1) ∧ fldOf (s.linSch 1) 15 8 ≠ 0) ∧
    (let s := (tLin none).wa pgLIN 0x040 0; s.linCommander = false ∧ s.lin.slot = none ∧ ((List.range 16).find? fun j =>
      decide (linPid (fldOf (s.linSlot j) 5 0) = 0x3C) && decide (1 ≤ fldOf (s.linSlot j) 11 8) &&
        decide (fldOf (s.linSlot j) 11 8 ≤ 8)) = some 15) ∧
    (∀ s ∈ [tS, tHold], { s with lin := { s.lin with slot := some 15 } }.lin.slot = some 15) := by decide +kernel
/-- Listen with every source enabled; WAKE3 answers a rise. -/
def tListen (a e : Option Nat) : State :=
  let s := tS.w pgPWR 0x048 7
  { s with pwr := { s.pwr with asleep := a, entering := e, wkCtrl := 0x4008, swk := [3, 0x123, 0x1FFFFFFF, 1, 0xFF, 0] } }
theorem test_wit_selective : ∀ a ∈ [(some 3, none), (none, some 3)], (let s := tListen a.1 a.2; let q (i : Nat) : Word := s.pwr.swk.getD i 0;
      let f := tFrm 0x123; (s.pwr.asleep.or s.pwr.entering) = some 3 ∧ s.f pgPWR 0x048 1 1 = 1 ∧ s.f pgPWR 0x048 2 2 = 1 ∧
      (q 0).getLsbD 1 = true ∧ (q 0).getLsbD 0 = true ∧ f.ide = (q 1).getLsbD 29 ∧
      (q 1 ^^^ BitVec.ofNat 32 f.id) &&& q 2 &&& 0x1FFFFFFF = 0 ∧ f.dlc = fldOf (q 3) 3 0 ∧
      (f.data.getD 0 0).toNat &&& fldOf (q (4 + 0 / 4)) (8 * (0 % 4) + 7) (8 * (0 % 4)) ≠ 0) := by decide +kernel
theorem test_wit_wake_pin : ∀ a ∈ [(some 3, none), (none, some 3)], (let s := tListen a.1 a.2; s.wake.getLsbD 3 ≠ true ∧ s.wkOn 3 = true ∧
      (s.wkEdge 3).testBit (if true then 0 else 1) = true) := by decide +kernel
def tI2c (g : I2c → I2c) : State := (tS.wa (pgI2C 2) 0x040 0x10000001).updI2c 2 g
theorem test_wit_i2c : (let s := tI2c id; s.Shape ∧ s.Writes tW .i2c (pgI2C 2) 0x048 ∧ s.af (pgI2C 2) 0x040 0 0 = 1 ∧ (s.i2c 2).cmds.length < 15 ∧
      s.Writes tW .i2c (pgI2C 2) 0x04C ∧ (s.i2c 2).tx.length < 8 ∧ s.Reads tW .i2c (pgI2C 2) 0x050 ∧ (s.i2c 2).rx = [] ∧
      s.af (pgI2C 2) 0x040 31 24 ≠ 0) := by decide +kernel
theorem test_wit_i2c_full : 15 ≤ ((tI2c fun x => { x with cmds := List.replicate 15 (3, 0, 0) }).i2c 2).cmds.length ∧
    (tS.wa (pgI2C 2) 0x040 0).af (pgI2C 2) 0x040 0 0 = 0 ∧ 8 ≤ ((tI2c fun x => { x with tx := List.replicate 8 0 }).i2c 2).tx.length ∧
    ((tI2c fun x => { x with rx := [9] }).i2c 2).rx = (9 : Byte) :: [] := by decide +kernel
theorem test_wit_i2c_done : (let s := tI2c fun x => { x with cmds := [(1, 2, 0)], out := 1 }; (s.i2c 2).cmds = (1, 2, 0) :: [] ∧ (s.i2c 2).out < 2) ∧
    (let s := tI2c fun x => { x with cmds := [(2, 2, 0)] }; (s.i2c 2).cmds = (2, 2, 0) :: []) ∧ (3 : Fin 4) ≠ 0 := by decide +kernel
def tSpi (g : Spi → Spi) : State := { tS with spis := tS.spis.modify 1 g }
theorem test_wit_spi : tS.Writes tW .spi (pgSPI 1) 0x044 ∧ (tS.spi 1).tx.length < 16 ∧
    16 ≤ ((tSpi fun x => { x with tx := List.replicate 16 0 }).spi 1).tx.length ∧ tS.Reads tW .spi (pgSPI 1) 0x048 ∧ (tS.spi 1).rx = [] ∧
    ((tSpi fun x => { x with rx := [4] }).spi 1).rx = 4 :: [] ∧ ((tSpi fun x => { x with tx := [4] }).spi 1).tx ≠ [] ∧
    (tS.wa (pgSPI 1) 0x040 0).af (pgSPI 1) 0x040 0 0 = 0 := by decide +kernel
theorem test_wit_xspi : tS.Writes tW .xspi pgXSPI 0x048 ∧ tS.xspi.cmd = none ∧ { tS with xspi := ⟨some 1, false⟩ }.xspi.cmd.isSome = true ∧
    256 < fldOf (0x1010000 : Word) 24 16 ∧ fldOf (0x1000000 : Word) 24 16 ≤ 256 := by decide +kernel
theorem test_wit_pins : tS.Writes tW .gpio pgGPIO 0x048 ∧ tS.Writes tW .gpio pgGPIO 0x04C ∧
    (let s := tS.sf pgGPIO 0x060 31 30 1; s.pins.getLsbD 31 ≠ true ∧ s.f pgGPIO 0x040 31 31 = 0 ∧
      (s.f pgGPIO (0x05C + 4 * (31 / 16)) (2 * (31 % 16) + 1) (2 * (31 % 16))).testBit (if true then 0 else 1) = true) := by decide +kernel
def tAdc (h : Bool) : State := { tS with adc := ⟨true, 0, [11, 3], 0, 0⟩, seam := { tS.seam with hold := h } }
theorem test_wit_adc : tS.Writes tW .adc pgADC 0x040 ∧ tS.adc.busy = false ∧ tS.Reads tW .adc pgADC (0x100 + 4 * 23) ∧
    (let s := { tS.wa pgADC 0x040 1 with now := 800000000 }; s.adc.busy = false ∧ s.af pgADC 0x040 0 0 = 1 ∧
      s.adc.ended + 8000 * s.af pgADC 0x040 31 16 ≤ s.perNow) ∧
    (∀ h : Bool, (tAdc h).adc.busy = true ∧ (tAdc h).adc.seq.getD (tAdc h).adc.slot 0 < 32 ∧ (tAdc h).seam.hold = h) := by decide +kernel

/-! ### Witnesses: chapters 19 and 20 -/

def tPwr (p : Pwr) : State := { tS with pwr := p }
theorem test_wit_supply : tS.pwr.low ≠ true ∧ tS.pwr.low = false ∧ tS.seam.hold = false ∧ tHold.seam.hold = true ∧ tS.Told ∧
    tHold.pwr.low ≠ true ∧ (∀ s ∈ [tS, tHold], s.pwr.shed = false ∧ s.pwr.ov = false) ∧
    (let s := tPwr { tS.pwr with shed := true, shedL := true }; s.pwr.shed = true ∧ s.pwr.ov = false ∧ s.Told) ∧
    (let s := tPwr { tS.pwr with ov := true, ovL := true }; s.pwr.shed = false ∧ s.pwr.ov = true ∧ s.Told) ∧
    (let s := tPwr { tS.pwr with shed := true, ov := true, shedL := true, ovL := true };
      s.pwr.shed = true ∧ s.pwr.ov = true ∧ s.seam.hold = false ∧ s.Told) := by decide +kernel
theorem test_wit_resets : tS.Writes tW .rst pgRST 0x044 ∧
    (let s := (tPwr { tS.pwr with bor := true }).sf pgPWR 0x048 8 8 1; s.pwr.bor = true ∧ s.f pgPWR 0x048 8 8 = 1) ∧
    (let s := tPwr { tS.pwr with bor := true }; s.pwr.bor = true ∧ s.f pgPWR 0x048 8 8 = 0 ∧
      ¬∃ i, i < 4 ∧ s.wkOn i = true ∧ ((s.wkEdge i = 1 ∧ s.wake.getLsbD i = true) ∨ (s.wkEdge i = 2 ∧ s.wake.getLsbD i = false))) ∧
    (let s := tPwr { tS.pwr with entering := some 2 }; s.pwr.entering = some 2 ∧ s.pwr.latched = []) ∧
    (let s := tPwr { tS.pwr with entering := some 1, latched := [(3, 0), (5, 1)] }; s.pwr.entering = some 1 ∧ s.pwr.latched = [(3, 0), (5, 1)]) := by decide +kernel
theorem test_wit_sleep : tS.Writes tW .pwr pgPWR 0x040 ∧ tS.ttgWatch = false ∧ tS.pwr.entering = none ∧ (tProof id).domRun 1 = true ∧
    fldOf tS.pwr.wkCtrl 3 0 = 0 ∧ (tS.r pgPWR 0x048).getLsbD 0 = false ∧ (tS.r pgPWR 0x048).getLsbD 1 = false ∧
    (tS.r pgPWR 0x048).getLsbD 2 = false ∧ fldOf (tListen none none).pwr.wkCtrl 3 0 ≠ 0 ∧ (tS.setRst 1 31 3 0 0).ttgWatch = true ∧
    (tListen none (some 1)).pwr.entering.isSome = true := by decide +kernel
def tRtc (a e : Option Nat) : State := (tPwr { tS.pwr with rtcOn := true, asleep := a, entering := e, rtc := tS.r pgPWR 0x050 }).sf pgPWR 0x048 0 0 1
theorem test_wit_rtc : (tRtc none none).pwr.rtcOn = true ∧ (tRtc none none).pwr.asleep ≠ some 1 ∧
    (tRtc (some 2) none).pwr.rtc = (tRtc (some 2) none).r pgPWR 0x050 ∧ (tRtc (some 3) none).f pgPWR 0x048 0 0 = 1 ∧
    (tRtc none (some 3)).pwr.asleep = none ∧ (tRtc none (some 3)).pwr.entering = some 3 := by decide +kernel
theorem test_wit_rst_core : tS.Writes tW .rst pgRST 0x048 ∧ corePresent tS.grade 3 = true ∧ tS.f pgRST 0x048 3 3 = 0 ∧
    (let s := { (tS.w pgTEN 0x048 0x12000000) with ten := { tS.ten with locked := true } }; s.ten.locked = true ∧ s.coreTnt 3 ≠ none ∧ s.domRun (2 + 3) = true) ∧
    (tS.sf pgRST 0x048 3 3 1).f pgRST 0x048 3 3 = 1 := by decide +kernel
theorem test_wit_watchdog : tS.Writes tW .wdg pgWDG 0x040 ∧ tS.f pgWDG 0x040 0 0 = 0 ∧ (tS.sf pgWDG 0x040 0 0 1).f pgWDG 0x040 0 0 = 1 ∧
    fldOf (0x10000 : Word) 31 16 ≠ 0 ∧ tS.Writes tW .wdg pgWDG 0x044 ∧ tS.pwr.wdOpen = false ∧ (tPwr { tS.pwr with wdOpen := true }).pwr.wdOpen = true ∧
    (let s := { (tS.sf pgWDG 0x040 1 0 3) with time := 800000 * 65535 }; s.f pgWDG 0x040 0 0 = 1 ∧ s.pwr.wdLen ≤ s.wdMs ∧ s.f pgWDG 0x040 1 1 = 1) := by
  decide +kernel
def tDm (d : Nat) (x : Dom) : State := { tS with doms := tS.doms.set d x }
theorem test_wit_domains : tS.Writes tW .pwr pgPWR (0x080 + 4 * 11) ∧ tS.domReason 6 2 = none ∧ tS.domReason 1 1 = some 4 ∧ fldOf (0x10001 : Word) 27 16 ≠ 0 ∧
    (tDm 6 { Dom.run with tgt := some .rest }).domDue 6 = some .rest ∧ (tDm 6 { Dom.run with st := .doze, tgt := some .run }).domDue 6 = some .run := by
  decide +kernel
theorem test_wit_idle : (let s := (tDm 6 { Dom.run with woken := true }).sf pgPWR (0x080 + 4 * 6) 8 8 1;
      s.doms.getD 6 Dom.off = ⟨.run, none, (s.doms.getD 6 Dom.off).after, true⟩ ∧ s.f pgPWR (0x080 + 4 * 6) 8 8 = 1 ∧ s.domBusy 6 = false) := by
  decide +kernel
def tDram (t : Option (Nat × Nat)) : State := { tDm 11 { Dom.off with tgt := some .run } with pwr := { tS.pwr with train := t } }
theorem test_wit_dram : (let s := tDram (some (7, 100)); s.Shape ∧ (s.doms.getD 11 Dom.off).st = .off ∧ (s.doms.getD 11 Dom.off).tgt = some .run ∧
      s.pwr.train = some (7, 100) ∧ 100 ≤ 100 + 8 * s.f pgDRAM 0x044 15 8 ∧ s.f pgDRAM 0x044 0 0 = 0) ∧ (tDram none).pwr.train = none ∧
    100 + 8 * tS.f pgDRAM 0x044 15 8 < 4000 ∧ tS.domRun 11 = true ∧ tS.pwr.refWin = none := by decide +kernel
theorem test_wit_awl : tS.Writes tW .awl pgAWL 0x040 ∧ tS.awlAvail = false ∧ (tS.sf pgSEC 0x040 17 17 1).awlAvail = true ∧
    tS.Writes tW .awl pgAWL (0x100 + 0x20 * 3) ∧ (tS.w pgAWL (aiReg 3 3) 0).awlReason 3 (withBit 0x11000 31) = some 3 ∧ tS.awlReason 3 (withBit 0x10000 31) = none ∧ tS.awlReason 3 (withBit 0 31) = some 1 := by decide +kernel
def tHeldAwl (h : AwlHeld) : State := { (tS.updInj 3 fun x => { x with held := some h }) with now := 1000000, time := 1000000 }
theorem test_wit_awl_held : (let f := tFl (.ni 3) (tH 0 0 14 2 0 0 0); let s := tHeldAwl (.welt 2 f);
      (s.inj 3).held = some (.welt 2 f) ∧ s.f pgAWL (aiReg 3 6) 15 0 ≤ s.now - (s.inj 3).since) ∧
    (let s := tHeldAwl (.laneTx 1 (.ctl [])); (s.inj 3).held = some (.laneTx 1 (.ctl [])) ∧
      s.f pgAWL (aiReg 3 6) 15 0 * 64 ≤ (s.time - (s.inj 3).since) * s.laneRate 1) ∧
    (let s := tHeldAwl (.laneRx 1 (.ctl [])); (s.inj 3).held = some (.laneRx 1 (.ctl []))) ∧
    tS.f pgPRB 0x040 0 0 = 0 ∧ (tS.sf pgPRB 0x040 0 0 1).f pgPRB 0x040 0 0 = 1 ∧ tS.welt.trcQ.length < 8 := by decide +kernel

/-! ### WellFormed: for each check a term it accepts and one it refuses -/

theorem test_wf_sizes : (Instr.registerWrite tW 1 0 256 5).wf = true ∧ (Instr.registerWrite tW 1 0 0 5).wf = false ∧
    (Instr.registerWrite tW 1 0 257 5).wf = false ∧ (Instr.weltRequest 14 0 0 15 3 0 4 []).wf = true ∧
    (Instr.weltRequest 14 0 0 16 0 0 4 []).wf = false ∧ (Instr.weltRequest 14 0 0 0 4 0 4 []).wf = false ∧
    (Instr.weltRequest 14 0 0 2 0 0 2 [1]).wf = false ∧ (Instr.queueResponse 0 0 0 0 false false (List.replicate 257 0)).wf = false ∧
    (Instr.portResponse 0 0 0 false false (List.replicate 257 0)).wf = false := by decide +kernel
theorem test_wf_payloads : (Instr.csiLongPacket 0 0 0x2A 0 2 [1, 2] true none 0).wf = true ∧ (Instr.csiLongPacket 0 0 0x2A 0 2 [1] true none 0).wf = false ∧
    (Instr.hash 256 0 0 0).wf = true ∧ (Instr.hash 160 0 0 0).wf = false ∧ (Instr.aes 0 2 0 0 0 0 false).wf = true ∧
    (Instr.aes 0 3 0 0 0 0 false).wf = false := by decide +kernel
theorem test_wf_can : (Instr.canFrameReceived 0 ⟨0x7FF, false, false, false, 1, [5]⟩).wf = true ∧
    (Instr.canFrameReceived 0 ⟨0x800, false, false, false, 1, [5]⟩).wf = false ∧ (Instr.canFrameReceived 0 ⟨0x800, true, true, false, 9, List.replicate 12 0⟩).wf = true ∧
    (Instr.canFrameReceived 0 ⟨1, false, false, false, 16, List.replicate 8 0⟩).wf = false ∧
    (Instr.canSelectiveWake 0 ⟨1, false, false, false, 2, [5]⟩).wf = false ∧
    (Instr.canBusError 0 false 8 8).wf = true ∧ (Instr.canBusError 0 false 9 0).wf = false ∧ (Instr.canBusError 0 false 0 9).wf = false := by decide +kernel
theorem test_wf_buses : (Instr.linFrameDone 31 [1]).wf = true ∧ (Instr.linFrameDone 32 []).wf = false ∧
    (Instr.linFrameDone 0 (List.replicate 9 0)).wf = false ∧ (Instr.xspiCmdDone [] [(0xFFFFFFF, [1])]).wf = true ∧
    (Instr.xspiCmdDone [] [(0xFFFFFFF, [1, 2])]).wf = false ∧ (Instr.xspiCmdDone (List.replicate 257 0) []).wf = false ∧
    (Instr.wlAck 0 [1, 2]).wf = false ∧ (Instr.wlNak 0 []).wf = false ∧ (Instr.wlInit 0 [1, 2, 3, 4]).wf = false ∧ (Instr.wlInit 0 [1, 2, 3]).wf = true := by decide +kernel
theorem test_wf_rows : (Instr.iMac 0 [] false 4 (.reg 0) (.reg 0) []).wf = false ∧ (Instr.iMac 0 [] false 0 (.mem 4 0) (.reg 0) []).wf = false ∧
    (Instr.iAdd 0 [] false 128 0 0 false []).wf = false ∧ (Instr.iPerm 0 [] false 0 0 512 []).wf = false ∧ (Instr.iLd 0 [] 0 false 4 0 []).wf = false ∧
    (Instr.iBr 0 [] 131072 []).wf = false ∧ (Instr.iDo 0 [] false (some 1) 1 0 []).wf = false ∧ (Instr.iRrc 0 [] false 32 []).wf = false ∧
    (Instr.iAguAmov 0 [⟨.agu, .r .mov 1 2 3 false⟩] 1 2 []).wf = false ∧ (Instr.iLimx 0 [] 1 (some 128) 0 []).wf = false := by decide +kernel

/-! ### Words written out from the tables of chapters 08 and 09, field by field -/

theorem test_words : decodeSyl 0xB0250A18 0 = ⟨.mac1, .r .add 0x25 0x05 0x06 false⟩ ∧
    decodeSyl 0x01552940 0 = ⟨.mac0, .m .mac 2 (.mem 1 1) (.reg 0x4A)⟩ ∧ decodeSyl 0x4091E400 0 = ⟨.agu, .ld 0x11 true 3 1⟩ ∧
    decodeSyl 0x443C1498 0x20000000 = ⟨.agu, .qset 1 true true 2 0x05 0x13 0x20000000⟩ ∧ decodeSyl 0xE1812345 0 = ⟨.ctl, .br 0x12345⟩ ∧
    decodeSyl 0xE4C05007 0 = ⟨.ctl, .doLoop true none 10 7⟩ ∧
    decodeSyl 0xE70B1900 0xBEEF1234 = ⟨.ctl, .limx 0x0B (some 0x0C) 0xBEEF1234⟩ := by decide +kernel
theorem test_no_table_words : decodeTableWord 32 0 = none ∧ tS.withFetchWord 32 0 = tS := ⟨rfl, rfl⟩

/-! ### Single steps; the expected values are worked out by hand from the rules named -/

/-- 03 R73: DP0 is at 0x400A0000, its SH_COMMIT at 0x400A0020. -/
theorem test_page_address : regPage 0x400A0020 = some (pgDP 0) := by decide +kernel
/-- Core 0 with `x` in code 13H and `y` in 14H. -/
def tXY (x y : Half) : State := tR 0 fun k => { k with rf := (k.rf.set 0x13 x).set 0x14 y }
def tAft (s : State) (c : Instr) : CoreSt := (tStep s c).core 0
/-- R209: 0xFFFF + 1 is 0 with Z and C, without V. -/
theorem test_add_wraps : (let k := tAft (tXY 0xFFFF 1) (.iAdd 0 [] false 0x12 0x13 0x14 false []);
    k.rf.getD 0x12 7 = 0 ∧ k.flg.z = true ∧ k.flg.c = true ∧ k.flg.v = false ∧ k.pc = 1) := by decide +kernel
/-- R209: SUBS clips 0x8000 - 1 at 0x8000 and sets V and AV. -/
theorem test_subs_clips : (let k := tAft (tXY 0x8000 1) (.iSubs 0 [] true 0x12 0x13 0x14 false []);
    k.rf.getD 0x12 7 = 0x8000 ∧ k.flg.v = true ∧ k.flg.av = true) := by decide +kernel
/-- R205: MPY of -1 by -1 in fractions is 2^31, which 40 bits hold. -/
theorem test_mpy_minus_one : (let k := tAft (tXY 0x8000 0x8000) (.iMpy 0 [] false 1 (.reg 0x13) (.reg 0x14) []);
    accOf k 1 = 0x0080000000 ∧ k.flg.v = false ∧ k.flg.n = false) := by decide +kernel
/-- R205: MPYSU takes its first operand signed and its second unsigned: -1 by 65535. -/
theorem test_mpysu : accOf (tAft (tXY 0xFFFF 0xFFFF) (.iMpysu 0 [] false 2 (.reg 0x13) (.reg 0x14) [])) 2 = BitVec.ofInt 40 (-65535) := by
  decide +kernel
/-- R210: ASR of 0x8001 by 1 keeps the sign and shifts a 1 into C. -/
theorem test_asr : (let k := tAft (tXY 0x8001 1) (.iAsr 0 [] false 0x12 0x13 0x14 false []); k.rf.getD 0x12 0 = 0xC000 ∧ k.flg.c = true) := by
  decide +kernel
/-- 09 R221: PADDI wraps at 16 bits. -/
theorem test_paddi : (tAft (tR 0 fun k => { k with rf := k.rf.set 0x33 0xFFFF }) (.iPaddi 0 [] 3 2 [])).rf.getD 0x33 0 = 1 := by decide +kernel
/-- R45: VT_CFG takes 16 and refuses 15 with a value refusal of the page of SYS (R541). -/
theorem test_vtcfg : (tStep tS (.registerWrite tW 1 0x050 4 16)).f pgLTB 0x050 11 0 = 16 ∧
    (tStep tS (.registerWrite tW 1 0x050 4 15)).f pgLTB 0x028 15 0 = 0x1003 := by decide +kernel
/-- R541: a value refusal on DP0 is 0x1803. -/
theorem test_dp0_refusal : (tS.errValue (pgDP 0) 0x040).f (pgDP 0) 0x028 15 0 = 0x1803 := by decide +kernel
/-- R93: an access to a page in soft reset waits. -/
theorem test_soft_reset : pgMX ∈ (tStep tS (.softReset tW 177 1)).srst := by decide +kernel
/-- 01 R20: an eighth failure in a row starts the hold. -/
theorem test_seam : (tStep { tS with seam := { tS.seam with failUp := 7 } } (.seamTransfer true false)).seam.hold = true := by decide +kernel
/-- The empty queue is one LTB tick (log entry 1). -/
theorem test_idle : (match step tS with | .next t => t.now | _ => 0) = tS.now + 1 := by decide +kernel
/-- 16 R440: a write request of SEQ 1 to eyelet 5. -/
theorem test_lace_frame : (laceFrame 5 1 2 0x1234 false).take 5 = [0xA5, 0x16, 0x02, 0x12, 0x34] := by decide +kernel

/-- The IDCODE of both grades, as R558 prints them. -/
theorem test_idcode : State.reset.idcode = 0x008164B7 ∧ ({ State.reset with grade := .zm810 } : State).idcode = 0x008104B7 := by decide +kernel

end Sys2Proof.Tests
end

section
/-! What no command changes: the queue of waiting commands, the grade of the die and its fused column (00 R1, 10 R242). One lemma
per function of the model that answers a state, in the order of the model's files; each rests on those of the functions it calls. -/

namespace Sys2Proof.Machine

/-- The part of the state that no command changes. -/
def State.fixed (s : State) : List Instr × Grade × Option Nat := (s.pending, s.grade, s.fused)

/-! ### How `State.fixed` passes through updates, choices, pairs and folds -/

@[simp] theorem State.fixed_ite (c : Prop) [Decidable c] (a b : State) :
    (if c then a else b).fixed = if c then a.fixed else b.fixed := apply_ite _ _ _ _

@[simp] theorem State.fixed_fst_ite {β : Type} (c : Prop) [Decidable c] (a b : State × β) :
    (if c then a else b).1.fixed = if c then a.1.fixed else b.1.fixed := apply_ite (fun x : State × β => x.1.fixed) _ _ _

/-- The state of a pair that a function answers, where the function keeps the fixed part. -/
theorem State.fixed_of_eq {s t : State} {β : Type} {b : β} {p : State × β} (h : p = (t, b)) (hp : p.1.fixed = s.fixed) :
    t.fixed = s.fixed := by rw [← hp, h]

@[simp] theorem fixed_foldl {α : Type} {f : State → α → State} (h : ∀ s a, (f s a).fixed = s.fixed) (l : List α) (s : State) :
    (l.foldl f s).fixed = s.fixed := by
  induction l generalizing s with
  | nil => rfl
  | cons a l ih => exact (ih _).trans (h s a)

@[simp] theorem fixed_foldl_fst {α β : Type} {f : State × β → α → State × β} (h : ∀ r a, (f r a).1.fixed = r.1.fixed)
    (l : List α) (r : State × β) : (l.foldl f r).1.fixed = r.1.fixed := by
  induction l generalizing r with
  | nil => rfl
  | cons a l ih => exact (ih _).trans (h r a)

section
variable (s : State)

/-- An update of any other field. -/
@[simp] theorem State.fixed_update (regs act srst waiting lockWait fresh resp seam clk ltb ten doms adm welt cores grv
    ald sec caps trig isp sill scn dps icv light lace awl lanes links cans lin i2cs spis xspi adc pins wake pwr mem
    epoch now osc time freeCtr) :
    State.fixed ⟨s.grade, s.fused, regs, act, srst, waiting, lockWait, fresh, resp, seam, clk, ltb, ten, doms, adm,
      welt, cores, grv, ald, sec, caps, trig, isp, sill, scn, dps, icv, light, lace, awl, lanes, links, cans, lin,
      i2cs, spis, xspi, adc, pins, wake, pwr, mem, epoch, now, osc, time, freeCtr, s.pending⟩ = s.fixed := by
  simp only [State.fixed]

/-! ### Registers, events, errors and answers (Machine/Ops.lean) -/

@[simp] theorem State.fixed_w (p o v) : (s.w p o v).fixed = s.fixed := by simp only [State.w, State.fixed_update]
@[simp] theorem State.fixed_sf (p o hi lo x) : (s.sf p o hi lo x).fixed = s.fixed := by simp [State.sf]
@[simp] theorem State.fixed_wa (p o v) : (s.wa p o v).fixed = s.fixed := by simp only [State.wa, State.fixed_update]
@[simp] theorem State.fixed_cntUp (p o hi lo n) : (s.cntUp p o hi lo n).fixed = s.fixed := by simp [State.cntUp]
@[simp] theorem State.fixed_cntWrap (p o hi lo) : (s.cntWrap p o hi lo).fixed = s.fixed := by simp [State.cntWrap]
@[simp] theorem State.fixed_touch (p o b) :
    (s.touch p o b).fixed = s.fixed := by simp only [State.touch, State.fixed_update]
@[simp] theorem State.fixed_setW1 (p o b) : (s.setW1 p o b).fixed = s.fixed := by simp [State.setW1]
@[simp] theorem State.fixed_ev (p b) : (s.ev p b).fixed = s.fixed := by simp [State.ev]
@[simp] theorem State.fixed_err (p code info) : (s.err p code info).fixed = s.fixed := by simp [State.err]
@[simp] theorem State.fixed_errSize (p o) : (s.errSize p o).fixed = s.fixed := by simp [State.errSize]
@[simp] theorem State.fixed_errLocked (p o) : (s.errLocked p o).fixed = s.fixed := by simp [State.errLocked]
@[simp] theorem State.fixed_errValue (p o) : (s.errValue p o).fixed = s.fixed := by simp [State.errValue]
@[simp] theorem State.fixed_errBusy (p o) : (s.errBusy p o).fixed = s.fixed := by simp [State.errBusy]
@[simp] theorem State.fixed_errCap (p o) : (s.errCap p o).fixed = s.fixed := by simp [State.errCap]
@[simp] theorem State.fixed_updDom (d f) : (s.updDom d f).fixed = s.fixed := by simp only [State.updDom, State.fixed_update]
@[simp] theorem State.fixed_violation (kind tnt ni det addr record) :
    (s.violation kind tnt ni det addr record).fixed = s.fixed := by
  simp only [State.violation]
  split_ifs <;> simp
@[simp] theorem State.fixed_answer (st d) :
    (s.answer st d).fixed = s.fixed := by simp only [State.answer, State.fixed_update]
@[simp] theorem State.fixed_tookFree : s.tookFree.fixed = s.fixed := by simp only [State.tookFree, State.fixed_update]
@[simp] theorem State.fixed_plainWrite (p o v refused frozen info) :
    (s.plainWrite p o v refused frozen info).fixed = s.fixed := by
  simp only [State.plainWrite]
  repeat' split
  all_goals simp
@[simp] theorem State.fixed_plain (p o v) : (s.plain p o v).fixed = s.fixed := by simp [State.plain]

/-! ### Memory (Machine/Memory.lean) -/

@[simp] theorem State.fixed_wrByte (a v) : (s.wrByte a v).fixed = s.fixed := by simp [State.wrByte]
@[simp] theorem State.fixed_wrBytes (a l) : (s.wrBytes a l).fixed = s.fixed := by
  induction l generalizing s a with
  | nil => rfl
  | cons b l ih => exact (ih _ _).trans (s.fixed_wrByte a b)
@[simp] theorem State.fixed_wr16 (a v) : (s.wr16 a v).fixed = s.fixed := by simp [State.wr16]
@[simp] theorem State.fixed_loseRegion (r) : (s.loseRegion r).fixed = s.fixed := by simp [State.loseRegion]

/-! ### The Admission Unit (Machine/Admission.lean) -/

@[simp] theorem State.fixed_admReport (r tnt src overbook) :
    (s.admReport r tnt src overbook).fixed = s.fixed := by simp [State.admReport]
@[simp] theorem State.fixed_admQueue (c) :
    (s.admQueue c).fixed = s.fixed := by simp only [State.admQueue, State.fixed_update]
@[simp] theorem State.fixed_cpCmd (t v) : (s.cpCmd t v).fixed = s.fixed := by simp [State.cpCmd]
@[simp] theorem State.fixed_cpStage (t o v) : (s.cpStage t o v).fixed = s.fixed := by simp [State.cpStage]
@[simp] theorem State.fixed_wdMask (m) : (s.wdMask m).fixed = s.fixed := by simp [State.wdMask]
@[simp] theorem State.fixed_admStart : s.admStart.fixed = s.fixed := by unfold State.admStart; split <;> simp
@[simp] theorem State.fixed_admEnd (tnt src cl ok) : (s.admEnd tnt src cl ok).fixed = s.fixed := by simp [State.admEnd]
@[simp] theorem State.fixed_withMxCap (src) : (s.withMxCap src).fixed = s.fixed := by simp [State.withMxCap]
@[simp] theorem State.fixed_admAccept (com srcs) : (s.admAccept com srcs).fixed = s.fixed := by simp [State.admAccept]
@[simp] theorem State.fixed_admDone : s.admDone.fixed = s.fixed := by
  simp only [State.admDone]
  split
  · rfl
  · split
    · rfl
    · simp
    · split <;> simp
@[simp] theorem State.fixed_admEffect : s.admEffect.fixed = s.fixed := by simp [State.admEffect]
@[simp] theorem State.fixed_admRecompute : s.admRecompute.fixed = s.fixed := by
  simp only [State.admRecompute]
  repeat' split
  all_goals simp only [State.fixed_update, State.fixed_w, State.fixed_ev, State.fixed_err, State.fixed_admReport]
@[simp] theorem State.fixed_capSelWrite (v) : (s.capSelWrite v).fixed = s.fixed := by simp [State.capSelWrite]

/-! ### Key slots, OTP and the island fault (Machine/Island.lean) -/

@[simp] theorem State.fixed_updSec (f) : (s.updSec f).fixed = s.fixed := by simp only [State.updSec, State.fixed_update]
@[simp] theorem State.fixed_setSlot (n k) : (s.setSlot n k).fixed = s.fixed := by simp [State.setSlot]
@[simp] theorem State.fixed_zeroise : s.zeroise.fixed = s.fixed := by simp [State.zeroise]
@[simp] theorem State.fixed_setOtp (w v) : (s.setOtp w v).fixed = s.fixed := by simp [State.setOtp]
@[simp] theorem State.fixed_burnOtp (w v) : (s.burnOtp w v).fixed = s.fixed := by simp [State.burnOtp]
@[simp] theorem State.fixed_thermoSet (w k) : (s.thermoSet w k).fixed = s.fixed := by simp [State.thermoSet]
@[simp] theorem State.fixed_engAsk (u) : (s.engAsk u).fixed = s.fixed := by simp [State.engAsk]
@[simp] theorem State.fixed_engLeave (u) : (s.engLeave u).fixed = s.fixed := by simp [State.engLeave]
@[simp] theorem State.fixed_evalUpd : s.evalUpd.fixed = s.fixed := by simp [State.evalUpd]
@[simp] theorem State.fixed_islandFault : s.islandFault.fixed = s.fixed := by simp [State.islandFault]

/-! ### The tenant table and the event router (Machine/Tenants.lean) -/

@[simp] theorem State.fixed_tenWA (o v) : (s.tenWA o v).fixed = s.fixed := by simp [State.tenWA]
@[simp] theorem State.fixed_tenWB (o v) : (s.tenWB o v).fixed = s.fixed := by simp [State.tenWB]
@[simp] theorem State.fixed_tenLock : s.tenLock.fixed = s.fixed := by simp [State.tenLock]
@[simp] theorem State.fixed_tenPop : s.tenPop.fixed = s.fixed := by simp only [State.tenPop, State.fixed_update]
@[simp] theorem State.fixed_tenWrite (o v) : (s.tenWrite o v).fixed = s.fixed := by simp [State.tenWrite]
@[simp] theorem State.fixed_evrRouteWrite (t i v) : (s.evrRouteWrite t i v).fixed = s.fixed := by simp [State.evrRouteWrite]
@[simp] theorem State.fixed_evrLockCheck : s.evrLockCheck.fixed = s.fixed := by
  simp only [State.evrLockCheck]
  repeat' split
  all_goals simp
@[simp] theorem State.fixed_lockOutcome : s.lockOutcome.fixed = s.fixed := by unfold State.lockOutcome; split <;> simp

/-! ### Operands of a Rhoif-16 core (Machine/Operands.lean) -/

@[simp] theorem State.fixed_updCore (c f) :
    (s.updCore c f).fixed = s.fixed := by simp only [State.updCore, State.fixed_update]

/-! ### Units on links (Machine/Links.lean) -/

@[simp] theorem State.fixed_meshFeed : s.meshFeed.fixed = s.fixed := by simp only [State.meshFeed, State.fixed_update]
theorem State.fixed_meshCycle {t : State} (h : s.meshCycle = some t) : t.fixed = s.fixed := by
  unfold State.meshCycle at h
  split at h
  · cases h
  · cases h; simp
@[simp] theorem State.fixed_meshCycles (n) : (State.meshCycles n s).fixed = s.fixed := by
  induction n generalizing s with
  | zero => rfl
  | succ n ih =>
    rw [State.meshCycles]
    split
    · simp
    · next t ht => rw [ih, State.fixed_meshCycle _ ht, State.fixed_meshFeed]
@[simp] theorem State.fixed_meshRun : s.meshRun.fixed = s.fixed := by simp [State.meshRun]
@[simp] theorem State.fixed_addFlight (f) :
    (s.addFlight f).fixed = s.fixed := by simp only [State.addFlight, State.fixed_update]
@[simp] theorem State.fixed_inject (n p) : (s.inject n p).fixed = s.fixed := by simp [State.inject]

/-! ### Network interfaces, probes and the trace buffer (Machine/Welt.lean) -/

@[simp] theorem State.fixed_updNi (n f) : (s.updNi n f).fixed = s.fixed := by simp only [State.updNi, State.fixed_update]
@[simp] theorem State.fixed_selectRoute (n serving cls) : (s.selectRoute n serving cls).1.fixed = s.fixed := by
  simp only [State.selectRoute]
  repeat' split
  all_goals simp
@[simp] theorem State.fixed_classCheck (n t cls route charge rev) :
    (s.classCheck n t cls route charge rev).1.fixed = s.fixed := by simp [State.classCheck]
@[simp] theorem State.fixed_updStat (n f) : (s.updStat n f).fixed = s.fixed := by simp [State.updStat]
@[simp] theorem State.fixed_statAnswer (n st dem late) :
    (s.statAnswer n st dem late).fixed = s.fixed := by simp [State.statAnswer]
@[simp] theorem State.fixed_statRequest (n lat st size) :
    (s.statRequest n lat st size).fixed = s.fixed := by simp [State.statRequest]
@[simp] theorem State.fixed_partDone (n grp a st dem late bytes) :
    (s.partDone n grp a st dem late bytes).fixed = s.fixed := by simp only [State.partDone]; split <;> simp
@[simp] theorem State.fixed_niJudge (n t cmd cls a size rowsOk) :
    (s.niJudge n t cmd cls a size rowsOk).1.fixed = s.fixed := by
  simp only [State.niJudge]
  repeat' split
  any_goals simp
  all_goals exact State.fixed_of_eq ‹s.selectRoute _ _ _ = _› (by simp)
@[simp] theorem State.fixed_issuePart (n t cmd cls grp a size data rowsOk) :
    (s.issuePart n t cmd cls grp a size data rowsOk).fixed = s.fixed := by
  unfold State.issuePart
  split <;> next h => simpa using State.fixed_of_eq h (by simp)
@[simp] theorem State.fixed_weltRequest (n sub cmd cls a size data) :
    (s.weltRequest n sub cmd cls a size data).fixed = s.fixed := by
  simp only [State.weltRequest]
  repeat' split
  all_goals simp
@[simp] theorem State.fixed_acceptResponse (n p) :
    (s.acceptResponse n p).fixed = s.fixed := by unfold State.acceptResponse; split <;> simp
@[simp] theorem State.fixed_responseTimeout (n tid) :
    (s.responseTimeout n tid).fixed = s.fixed := by unfold State.responseTimeout; split <;> simp
@[simp] theorem State.fixed_rteWrite (n i v) : (s.rteWrite n i v).fixed = s.fixed := by simp [State.rteWrite]
@[simp] theorem State.fixed_niCtrl (n v) : (s.niCtrl n v).fixed = s.fixed := by simp [State.niCtrl]
@[simp] theorem State.fixed_niWrite (n o v) : (s.niWrite n o v).fixed = s.fixed := by simp [State.niWrite]
@[simp] theorem State.fixed_lineCredits : s.lineCredits.fixed = s.fixed := by simp [State.lineCredits]
@[simp] theorem State.fixed_statCopy (n) : (s.statCopy n).fixed = s.fixed := by simp [State.statCopy]
@[simp] theorem State.fixed_statFrame : s.statFrame.fixed = s.fixed := by simp [State.statFrame]
@[simp] theorem State.fixed_utilFrame : s.utilFrame.fixed = s.fixed := by simp [State.utilFrame]
@[simp] theorem State.fixed_trcPush (r) : (s.trcPush r).fixed = s.fixed := by simp [State.trcPush]
@[simp] theorem State.fixed_probes (d p) : (s.probes d p).fixed = s.fixed := by simp [State.probes]
@[simp] theorem State.fixed_trcStore (r) : (s.trcStore r).fixed = s.fixed := by simp [State.trcStore]
@[simp] theorem State.fixed_trcWrite : s.trcWrite.fixed = s.fixed := by
  unfold State.trcWrite
  split
  · simp
  · split <;> simp
@[simp] theorem State.fixed_prbWrite (o v) : (s.prbWrite o v).fixed = s.fixed := by simp [State.prbWrite]
@[simp] theorem State.fixed_routerWrite (r o v) : (s.routerWrite r o v).fixed = s.fixed := by simp [State.routerWrite]
@[simp] theorem State.fixed_respond (n p st dem late data) :
    (s.respond n p st dem late data).fixed = s.fixed := by simp [State.respond]
@[simp] theorem State.fixed_domWake (d) : (s.domWake d).fixed = s.fixed := by simp [State.domWake]
@[simp] theorem State.fixed_askWake (n d) : (s.askWake n d).fixed = s.fixed := by simp [State.askWake]
@[simp] theorem State.fixed_denyWake (n d t src) : (s.denyWake n d t src).fixed = s.fixed := by simp [State.denyWake]

/-! ### Memory traffic of the engines (Machine/Engine.lean) -/

@[simp] theorem State.fixed_icvRefuse : s.icvRefuse.fixed = s.fixed := by simp [State.icvRefuse]
@[simp] theorem State.fixed_dramAccept (h) : (s.dramAccept h).1.fixed = s.fixed := by simp [State.dramAccept]
@[simp] theorem State.fixed_coreExt (a) : (s.coreExt a).fixed = s.fixed := by simp [State.coreExt]
@[simp] theorem State.fixed_memServe (p) : (s.memServe p).1.fixed = s.fixed := by simp [State.memServe]
@[simp] theorem State.fixed_engServe (m p) : (s.engServe m p).1.fixed = s.fixed := by simp [State.engServe]
@[simp] theorem State.fixed_engAdmit (m p) : (s.engAdmit m p).1.fixed = s.fixed := by
  simp only [State.engAdmit, State.fixed_fst_ite]
  split
  · simp
  · split <;> simp
@[simp] theorem State.fixed_engTarget (m p) : (s.engTarget m p).1.fixed = s.fixed := by
  simp only [State.engTarget]
  repeat' split
  all_goals simp
@[simp] theorem State.fixed_engSend (n idx p se) : (s.engSend n idx p se).fixed = s.fixed := by simp [State.engSend]
@[simp] theorem State.fixed_engPart (n t cmd cls a size data rowsOk) :
    (s.engPart n t cmd cls a size data rowsOk).1.fixed = s.fixed := by
  unfold State.engPart
  split
  · next h => simpa using State.fixed_of_eq h (by simp)
  · next h =>
    rw [State.fixed_fst_ite]
    simpa using State.fixed_of_eq h (by simp)
@[simp] theorem State.fixed_engReqT (t n cmd cls a size data) : (s.engReqT t n cmd cls a size data).1.fixed = s.fixed := by
  simp [State.engReqT, fixed_foldl_fst]
@[simp] theorem State.fixed_engReq (n cmd cls a size data) :
    (s.engReq n cmd cls a size data).1.fixed = s.fixed := by unfold State.engReq; split <;> simp
@[simp] theorem State.fixed_engWrite (n cls a data) :
    (s.engWrite n cls a data).1.fixed = s.fixed := by simp [State.engWrite]
@[simp] theorem State.fixed_engRead (n cls a size) : (s.engRead n cls a size).1.fixed = s.fixed := by simp [State.engRead]
@[simp] theorem State.fixed_engReads (n cls l) : (s.engReads n cls l).1.fixed = s.fixed := by
  induction l generalizing s with
  | nil => rfl
  | cons e t ih => simp [State.engReads, ih]
@[simp] theorem State.fixed_engWrites (n cls l) : (s.engWrites n cls l).1.fixed = s.fixed := by
  induction l generalizing s with
  | nil => rfl
  | cons e t ih => simp [State.engWrites, ih]
@[simp] theorem State.fixed_engReadAt (t n cls a size) : (s.engReadAt t n cls a size).1.fixed = s.fixed := by
  simp [State.engReadAt, fixed_foldl_fst]

/-! ### The Line Event Table and the trackers (Machine/Ltb.lean) -/

@[simp] theorem State.fixed_updLtb (f) : (s.updLtb f).fixed = s.fixed := by simp only [State.updLtb, State.fixed_update]
@[simp] theorem State.fixed_letAWrite (n v) : (s.letAWrite n v).fixed = s.fixed := by simp [State.letAWrite]
@[simp] theorem State.fixed_letBWrite (t n v) :
    (s.letBWrite t n v).fixed = s.fixed := by simp only [State.letBWrite]; split <;> simp
@[simp] theorem State.fixed_letApply : s.letApply.fixed = s.fixed := by simp [State.letApply]
@[simp] theorem State.fixed_ltbWrite (t o v) : (s.ltbWrite t o v).fixed = s.fixed := by simp [State.ltbWrite]
@[simp] theorem State.fixed_letSend (n) : (s.letSend n).fixed = s.fixed := by simp [State.letSend]
@[simp] theorem State.fixed_evArrive (typ tgt arg) :
    (s.evArrive typ tgt arg).fixed = s.fixed := by unfold State.evArrive; split <;> simp
@[simp] theorem State.fixed_letFire (n) : (s.letFire n).fixed = s.fixed := by simp [State.letFire]
@[simp] theorem State.fixed_letEntryFire (n) : (s.letEntryFire n).fixed = s.fixed := by simp [State.letEntryFire]
@[simp] theorem State.fixed_catchUp : s.catchUp.fixed = s.fixed := by simp [State.catchUp]
@[simp] theorem State.fixed_unreach : s.unreach.fixed = s.fixed := by unfold State.unreach; split <;> simp
@[simp] theorem State.fixed_skipFire : s.skipFire.fixed = s.fixed := by simp [State.skipFire]
@[simp] theorem State.fixed_measure : s.measure.fixed = s.fixed := by simp [State.measure]
@[simp] theorem State.fixed_masterChange : s.masterChange.fixed = s.fixed := by simp [State.masterChange]
@[simp] theorem State.fixed_masterLost : s.masterLost.fixed = s.fixed := by simp [State.masterLost]
@[simp] theorem State.fixed_ltbCrystalLoss : s.ltbCrystalLoss.fixed = s.fixed := by simp [State.ltbCrystalLoss]
@[simp] theorem State.fixed_ltbClockChange : s.ltbClockChange.fixed = s.fixed := by simp [State.ltbClockChange]
@[simp] theorem State.fixed_posRead : s.posRead.fixed = s.fixed := by simp [State.posRead]
@[simp] theorem State.fixed_updTrk (n f) : (s.updTrk n f).fixed = s.fixed := by simp [State.updTrk]
@[simp] theorem State.fixed_trkFire (n e) : (s.trkFire n e).fixed = s.fixed := by unfold State.trkFire; split <;> simp
@[simp] theorem State.fixed_trkFireDue (n) : (s.trkFireDue n).fixed = s.fixed := by simp [State.trkFireDue]
@[simp] theorem State.fixed_trkLock (n v) : (s.trkLock n v).fixed = s.fixed := by simp [State.trkLock]
@[simp] theorem State.fixed_trkFrameStart (n) : (s.trkFrameStart n).fixed = s.fixed := by simp [State.trkFrameStart]
@[simp] theorem State.fixed_trkLineStart (n) : (s.trkLineStart n).fixed = s.fixed := by simp [State.trkLineStart]
@[simp] theorem State.fixed_trkCancel : s.trkCancel.fixed = s.fixed := by simp [State.trkCancel]
@[simp] theorem State.fixed_trkStop (n) : (s.trkStop n).fixed = s.fixed := by simp [State.trkStop]

/-! ### The receivers and the ISP (Machine/Capture.lean) -/

@[simp] theorem State.fixed_updStr (n k f) :
    (s.updStr n k f).fixed = s.fixed := by simp only [State.updStr, State.fixed_update]
@[simp] theorem State.fixed_capWrite (n c a b) : (s.capWrite n c a b).fixed = s.fixed := by simp [State.capWrite]
@[simp] theorem State.fixed_slotWrite (n k y pix st) :
    (s.slotWrite n k y pix st).fixed = s.fixed := by simp [State.slotWrite]
@[simp] theorem State.fixed_hdrLost (n) : (s.hdrLost n).fixed = s.fixed := by simp [State.hdrLost]
@[simp] theorem State.fixed_strSeen (n k) : (s.strSeen n k).fixed = s.fixed := by simp [State.strSeen]
@[simp] theorem State.fixed_strClose (n k fe why) : (s.strClose n k fe why).fixed = s.fixed := by simp [State.strClose]
@[simp] theorem State.fixed_strStart (n k num) : (s.strStart n k num).fixed = s.fixed := by simp [State.strStart]
@[simp] theorem State.fixed_csiFrameStart (n vc num hdr) :
    (s.csiFrameStart n vc num hdr).fixed = s.fixed := by simp [State.csiFrameStart]
@[simp] theorem State.fixed_csiFrameEnd (n vc hdr) : (s.csiFrameEnd n vc hdr).fixed = s.fixed := by simp [State.csiFrameEnd]
@[simp] theorem State.fixed_lineIn (n k hdr payload crcBad fifo) :
    (s.lineIn n k hdr payload crcBad fifo).fixed = s.fixed := by simp [State.lineIn]
@[simp] theorem State.fixed_csiLongPacket (n vc dt hdr wc payload crcOk fifo fill) :
    (s.csiLongPacket n vc dt hdr wc payload crcOk fifo fill).fixed = s.fixed := by
  simp only [State.csiLongPacket]
  repeat' split
  all_goals simp
@[simp] theorem State.fixed_frameEndTimeout (n k) :
    (s.frameEndTimeout n k).fixed = s.fixed := by simp [State.frameEndTimeout]
@[simp] theorem State.fixed_strRel (n k m) : (s.strRel n k m).fixed = s.fixed := by simp [State.strRel]
@[simp] theorem State.fixed_capClr (n) : (s.capClr n).fixed = s.fixed := by simp [State.capClr]
@[simp] theorem State.fixed_capRegWrite (n o v) : (s.capRegWrite n o v).fixed = s.fixed := by simp [State.capRegWrite]
@[simp] theorem State.fixed_camTrigger (n arg) : (s.camTrigger n arg).fixed = s.fixed := by simp [State.camTrigger]
@[simp] theorem State.fixed_camTriggerEnd (n) :
    (s.camTriggerEnd n).fixed = s.fixed := by unfold State.camTriggerEnd; split <;> simp
@[simp] theorem State.fixed_updIsp (f) : (s.updIsp f).fixed = s.fixed := by simp only [State.updIsp, State.fixed_update]
@[simp] theorem State.fixed_ispQueue (j) : (s.ispQueue j).fixed = s.fixed := by simp [State.ispQueue]
@[simp] theorem State.fixed_ispSubmit : s.ispSubmit.fixed = s.fixed := by simp [State.ispSubmit]
@[simp] theorem State.fixed_capFdone (n k) : (s.capFdone n k).fixed = s.fixed := by unfold State.capFdone; split <;> simp
@[simp] theorem State.fixed_tqPush : s.tqPush.fixed = s.fixed := by simp [State.tqPush]
@[simp] theorem State.fixed_tqFlush : s.tqFlush.fixed = s.fixed := by simp [State.tqFlush]
@[simp] theorem State.fixed_ispWrite (a b) : (s.ispWrite a b).fixed = s.fixed := by simp [State.ispWrite]
@[simp] theorem State.fixed_jobEnd (j d id err reason) : (s.jobEnd j d id err reason).fixed = s.fixed := by
  simp only [State.jobEnd]
  repeat' split
  all_goals simp
@[simp] theorem State.fixed_ispJobStart (st) : (s.ispJobStart st).fixed = s.fixed := by
  simp only [State.ispJobStart]
  repeat' split
  all_goals simp
@[simp] theorem State.fixed_ispStop (reason) : (s.ispStop reason).fixed = s.fixed := by unfold State.ispStop; split <;> simp
@[simp] theorem State.fixed_ispJobDone : s.ispJobDone.fixed = s.fixed := by
  simp only [State.ispJobDone]
  split
  · rfl
  split
  · rfl
  split
  · next h =>
    have hr := State.fixed_of_eq h (s.fixed_engReads _ _ _)
    split <;> next h' =>
      simpa [hr] using State.fixed_of_eq h' ((State.fixed_engWrites _ _ _ _).trans (State.fixed_update _ ..))
  · next h => simpa using State.fixed_of_eq h (s.fixed_engReads _ _ _)
@[simp] theorem State.fixed_ispXferError (sts) : (s.ispXferError sts).fixed = s.fixed := by simp [State.ispXferError]
@[simp] theorem State.fixed_ispRegWrite (o v) : (s.ispRegWrite o v).fixed = s.fixed := by simp [State.ispRegWrite]
@[simp] theorem State.fixed_camLeave : s.camLeave.fixed = s.fixed := by simp [State.camLeave]
@[simp] theorem State.fixed_capReset (n) : (s.capReset n).fixed = s.fixed := by simp [State.capReset]
@[simp] theorem State.fixed_ispReset : s.ispReset.fixed = s.fixed := by simp [State.ispReset]

/-! ### The AGU and the decoupling queues (Machine/RhoifAgu.lean) -/

@[simp] theorem State.fixed_qStop (c q sts) : (s.qStop c q sts).fixed = s.fixed := by simp [State.qStop]
@[simp] theorem State.fixed_qMisal (c q) : (s.qMisal c q).fixed = s.fixed := by simp [State.qMisal]
@[simp] theorem State.fixed_queueReadIssue (c q) : (s.queueReadIssue c q).fixed = s.fixed := by simp [State.queueReadIssue]
@[simp] theorem State.fixed_qDrain (n c q flush) : (State.qDrain n s c q flush).fixed = s.fixed := by
  induction n generalizing s with
  | zero => rfl
  | succ n ih => simp [State.qDrain, ih]
@[simp] theorem State.fixed_queueMergeTimeout (c q) :
    (s.queueMergeTimeout c q).fixed = s.fixed := by simp [State.queueMergeTimeout]
@[simp] theorem State.fixed_queueResponse (c q i sts dem late data) :
    (s.queueResponse c q i sts dem late data).fixed = s.fixed := by
  simp only [State.queueResponse]
  repeat' split
  all_goals simp

/-! ### Bundles, interrupts and the control page of a core (Machine/Rhoif.lean) -/

@[simp] theorem State.fixed_applyMem (c es) : (s.applyMem c es).fixed = s.fixed := by simp [State.applyMem]
@[simp] theorem State.fixed_queueOp (s0 c wrote y) :
    (s.queueOp s0 c wrote y).fixed = s.fixed := by unfold State.queueOp; split <;> simp
@[simp] theorem State.fixed_refill (c n) : (s.refill c n).fixed = s.fixed := by simp [State.refill]
@[simp] theorem State.fixed_cycles (c run stall) : (s.cycles c run stall).fixed = s.fixed := by simp [State.cycles]
@[simp] theorem State.fixed_waitEnd (c) : (s.waitEnd c).fixed = s.fixed := by unfold State.waitEnd; split <;> simp
@[simp] theorem State.fixed_waitPause (c) : (s.waitPause c).fixed = s.fixed := by simp [State.waitPause]
@[simp] theorem State.fixed_waitResume (c) : (s.waitResume c).fixed = s.fixed := by simp [State.waitResume]
@[simp] theorem State.fixed_coreStop (c ev) : (s.coreStop c ev).fixed = s.fixed := by simp [State.coreStop]
@[simp] theorem State.fixed_coreFault (c cause pc) : (s.coreFault c cause pc).fixed = s.fixed := by simp [State.coreFault]
@[simp] theorem State.fixed_boundary (c) : (s.boundary c).fixed = s.fixed := by simp [State.boundary]
@[simp] theorem State.fixed_issueNow (c b) : (s.issueNow c b).fixed = s.fixed := by
  simp only [State.issueNow]
  split
  · simp
  · simp only [State.fixed_boundary, State.fixed_ite, State.fixed_coreStop, State.fixed_sf, State.fixed_refill,
      State.fixed_updCore, State.fixed_cycles, fixed_foldl, State.fixed_queueOp, State.fixed_applyMem, ite_self, implies_true]
@[simp] theorem State.fixed_issueSquashed (c b) : (s.issueSquashed c b).fixed = s.fixed := by simp [State.issueSquashed]
@[simp] theorem State.fixed_repCount (c) : (s.repCount c).fixed = s.fixed := by unfold State.repCount; split <;> simp
@[simp] theorem State.fixed_issue (c b) : (s.issue c b).fixed = s.fixed := by
  simp only [State.issue]
  repeat' split
  all_goals simp
@[simp] theorem State.fixed_issueRow (c pre y post) : (s.issueRow c pre y post).fixed = s.fixed := by simp [State.issueRow]
@[simp] theorem State.fixed_waitBundleIssue (c) :
    (s.waitBundleIssue c).fixed = s.fixed := by unfold State.waitBundleIssue; split <;> simp
@[simp] theorem State.fixed_queueWaitTimeout (c) :
    (s.queueWaitTimeout c).fixed = s.fixed := by unfold State.queueWaitTimeout; split <;> simp
@[simp] theorem State.fixed_irqEvent (c n) : (s.irqEvent c n).fixed = s.fixed := by simp [State.irqEvent]
@[simp] theorem State.fixed_interruptEntry (c) :
    (s.interruptEntry c).fixed = s.fixed := by unfold State.interruptEntry; split <;> simp
@[simp] theorem State.fixed_releaseEvent (c arg) : (s.releaseEvent c arg).fixed = s.fixed := by simp [State.releaseEvent]
@[simp] theorem State.fixed_stepLoop (n c) : (State.stepLoop n s c).fixed = s.fixed := by
  induction n generalizing s with
  | zero => rfl
  | succ n ih => simp [State.stepLoop, ih]
@[simp] theorem State.fixed_coreStart (c) : (s.coreStart c).fixed = s.fixed := by simp [State.coreStart]
@[simp] theorem State.fixed_coreHaltReq (c) : (s.coreHaltReq c).fixed = s.fixed := by simp [State.coreHaltReq]
@[simp] theorem State.fixed_coreStep (c) : (s.coreStep c).fixed = s.fixed := by simp [State.coreStep]
@[simp] theorem State.fixed_coreWrite (c o v) : (s.coreWrite c o v).fixed = s.fixed := by simp [State.coreWrite]
@[simp] theorem State.fixed_coreReset (c) : (s.coreReset c).fixed = s.fixed := by simp [State.coreReset]
@[simp] theorem State.fixed_coreRelease (c) : (s.coreRelease c).fixed = s.fixed := by simp [State.coreRelease]

/-! ### The array (Machine/Gralvo.lean) -/

@[simp] theorem State.fixed_updGrv (f) : (s.updGrv f).fixed = s.fixed := by simp only [State.updGrv, State.fixed_update]
@[simp] theorem State.fixed_updPort (p f) : (s.updPort p f).fixed = s.fixed := by simp [State.updPort]
@[simp] theorem State.fixed_putTok (h v) : (s.putTok h v).fixed = s.fixed := by unfold State.putTok; split <;> simp
@[simp] theorem State.fixed_sendTo (cell l v) : (s.sendTo cell l v).fixed = s.fixed := by simp [State.sendTo]
@[simp] theorem State.fixed_emit (cell v) : (s.emit cell v).fixed = s.fixed := by simp [State.emit]
@[simp] theorem State.fixed_moveOut (cell) : (s.moveOut cell).fixed = s.fixed := by
  simp only [State.moveOut]
  repeat' split
  all_goals simp
@[simp] theorem State.fixed_moveTrack (key) : (s.moveTrack key).fixed = s.fixed := by unfold State.moveTrack; split <;> simp
@[simp] theorem State.fixed_moveIn (p) : (s.moveIn p).fixed = s.fixed := by simp only [State.moveIn]; split <;> simp
@[simp] theorem State.fixed_sweep : s.sweep.fixed = s.fixed := by simp [State.sweep]
@[simp] theorem State.fixed_portStop (p ctx sts) : (s.portStop p ctx sts).fixed = s.fixed := by simp [State.portStop]
@[simp] theorem State.fixed_portMisal (p) : (s.portMisal p).fixed = s.fixed := by simp [State.portMisal]
@[simp] theorem State.fixed_portReadIssue (p) : (s.portReadIssue p).fixed = s.fixed := by simp [State.portReadIssue]
@[simp] theorem State.fixed_portDrain (n p flush) : (State.portDrain n s p flush).fixed = s.fixed := by
  induction n generalizing s with
  | zero => rfl
  | succ n ih => simp [State.portDrain, ih]
@[simp] theorem State.fixed_trackAdvance : s.trackAdvance.fixed = s.fixed := by simp [State.trackAdvance]
@[simp] theorem State.fixed_portMergeTimeout (p) :
    (s.portMergeTimeout p).fixed = s.fixed := by simp [State.portMergeTimeout]
@[simp] theorem State.fixed_portResponse (p i sts dem late data) :
    (s.portResponse p i sts dem late data).fixed = s.fixed := by simp only [State.portResponse]; split <;> simp
@[simp] theorem State.fixed_portRetry (p i) : (s.portRetry p i).fixed = s.fixed := by
  simp only [State.portRetry]
  split
  · rfl
  · split <;> simp
@[simp] theorem State.fixed_cellFire (c r) : (s.cellFire c r).fixed = s.fixed := by
  simp only [State.cellFire]
  repeat' split
  all_goals simp
@[simp] theorem State.fixed_endActivation : s.endActivation.fixed = s.fixed := by simp [State.endActivation]
@[simp] theorem State.fixed_doSwitch (n cause) : (s.doSwitch n cause).fixed = s.fixed := by simp [State.doSwitch]
@[simp] theorem State.fixed_trigger (t n cause lost) :
    (s.trigger t n cause lost).fixed = s.fixed := by simp only [State.trigger]; split <;> simp
@[simp] theorem State.fixed_ctxSwitchEvent (e n lost) :
    (s.ctxSwitchEvent e n lost).fixed = s.fixed := by simp [State.ctxSwitchEvent]
@[simp] theorem State.fixed_queueTrigger : s.queueTrigger.fixed = s.fixed := by simp [State.queueTrigger]
@[simp] theorem State.fixed_grvIdle : s.grvIdle.fixed = s.fixed := by simp [State.grvIdle]
@[simp] theorem State.fixed_grvCtrl (t v) : (s.grvCtrl t v).fixed = s.fixed := by simp [State.grvCtrl]
@[simp] theorem State.fixed_activationDone : s.activationDone.fixed = s.fixed := by simp [State.activationDone]
@[simp] theorem State.fixed_activationWatchdog : s.activationWatchdog.fixed = s.fixed := by simp [State.activationWatchdog]
@[simp] theorem State.fixed_grvFrame : s.grvFrame.fixed = s.fixed := by simp [State.grvFrame]
@[simp] theorem State.fixed_grvPause : s.grvPause.fixed = s.fixed := by simp [State.grvPause]
@[simp] theorem State.fixed_grvResume : s.grvResume.fixed = s.fixed := by simp [State.grvResume]
@[simp] theorem State.fixed_grvFromOff : s.grvFromOff.fixed = s.fixed := by simp [State.grvFromOff]
@[simp] theorem State.fixed_grvWrite (t o v) : (s.grvWrite t o v).fixed = s.fixed := by simp [State.grvWrite]
@[simp] theorem State.fixed_gctxWrite (n o v) : (s.gctxWrite n o v).fixed = s.fixed := by simp [State.gctxWrite]

/-! ### The Array Loader (Machine/Loader.lean) -/

@[simp] theorem State.fixed_updAld (f) : (s.updAld f).fixed = s.fixed := by simp only [State.updAld, State.fixed_update]
@[simp] theorem State.fixed_setPhase (p) : (s.setPhase p).fixed = s.fixed := by simp [State.setPhase]
@[simp] theorem State.fixed_loadRefuse (r) : (s.loadRefuse r).fixed = s.fixed := by simp [State.loadRefuse]
@[simp] theorem State.fixed_ldStart (t) : (s.ldStart t).fixed = s.fixed := by
  simp only [State.ldStart]
  repeat' split
  all_goals simp
@[simp] theorem State.fixed_ldAbort : s.ldAbort.fixed = s.fixed := by simp [State.ldAbort]
@[simp] theorem State.fixed_loadPlace : s.loadPlace.fixed = s.fixed := by
  unfold State.loadPlace
  extract_lets m t mask fs placedAll s' tileBad miss
  have hs : s'.fixed = s.fixed := s.fixed_setPhase 3
  clear_value s' miss
  dsimp only
  repeat' split
  all_goals simpa
@[simp] theorem State.fixed_loadReadDone (sts ofs) : (s.loadReadDone sts ofs).fixed = s.fixed := by
  simp only [State.loadReadDone]
  repeat' split
  any_goals simp
  all_goals exact State.fixed_of_eq ‹s.engReadAt _ _ _ _ _ = _› (by simp)
@[simp] theorem State.fixed_loadVerifyDone : s.loadVerifyDone.fixed = s.fixed := by simp [State.loadVerifyDone]
@[simp] theorem State.fixed_loadPartEvalDone : s.loadPartEvalDone.fixed = s.fixed := by
  simp only [State.loadPartEvalDone]
  repeat' split
  all_goals simp
@[simp] theorem State.fixed_loadEffect : s.loadEffect.fixed = s.fixed := by simp [State.loadEffect]
@[simp] theorem State.fixed_loadPart (p next) : (s.loadPart p next).fixed = s.fixed := by
  simp only [State.loadPart, State.fixed_sf, State.fixed_w, State.fixed_wa, State.fixed_ev, State.fixed_cntWrap,
    State.fixed_ite, State.fixed_updGrv, fixed_foldl, ite_self, implies_true]
@[simp] theorem State.fixed_loadWriteDone : s.loadWriteDone.fixed = s.fixed := by
  unfold State.loadWriteDone
  split
  · rfl
  · simp only [State.fixed_updAld, State.fixed_ev, State.fixed_sf, State.fixed_setPhase]
    exact fixed_foldl (fun s j => by split <;> simp) _ _
@[simp] theorem State.fixed_ldOff : s.ldOff.fixed = s.fixed := by simp [State.ldOff]
@[simp] theorem State.fixed_aldWrite (t o v) : (s.aldWrite t o v).fixed = s.fixed := by simp [State.aldWrite]

/-! ### The illumination sequencer and the scan engine (Machine/Scan.lean) -/

@[simp] theorem State.fixed_updSill (f) : (s.updSill f).fixed = s.fixed := by simp only [State.updSill, State.fixed_update]
@[simp] theorem State.fixed_updScn (f) : (s.updScn f).fixed = s.fixed := by simp only [State.updScn, State.fixed_update]
@[simp] theorem State.fixed_ebLock (t) : (s.ebLock t).fixed = s.fixed := by simp [State.ebLock]
@[simp] theorem State.fixed_budgetTick :
    s.budgetTick.fixed = s.fixed := by simp only [State.budgetTick, State.fixed_ite, State.fixed_updSill, ite_self]
@[simp] theorem State.fixed_fire : s.fire.fixed = s.fixed := by unfold State.fire; split <;> simp
@[simp] theorem State.fixed_strobeArm (n arg) : (s.strobeArm n arg).fixed = s.fixed := by
  simp only [State.strobeArm, State.fixed_ite, State.fixed_w, State.fixed_ev, State.fixed_err, State.fixed_evArrive,
    State.fixed_updSill, State.fixed_fire, State.fixed_cntUp, State.fixed_violation, ite_self]
@[simp] theorem State.fixed_pulseStart : s.pulseStart.fixed = s.fixed := by unfold State.pulseStart; split <;> simp
@[simp] theorem State.fixed_pulseEnd : s.pulseEnd.fixed = s.fixed := by unfold State.pulseEnd; split <;> simp
@[simp] theorem State.fixed_skpStop : s.skpStop.fixed = s.fixed := by unfold State.skpStop; split <;> simp
@[simp] theorem State.fixed_skpFault : s.skpFault.fixed = s.fixed := by simp [State.skpFault]
@[simp] theorem State.fixed_sillFrame : s.sillFrame.fixed = s.fixed := by simp [State.sillFrame]
@[simp] theorem State.fixed_sillWrite (t o v) : (s.sillWrite t o v).fixed = s.fixed := by simp [State.sillWrite]
@[simp] theorem State.fixed_scnWrite16 (a b) : (s.scnWrite16 a b).fixed = s.fixed := by simp [State.scnWrite16]
@[simp] theorem State.fixed_put2c (slot v) : (s.put2c slot v).fixed = s.fixed := by unfold State.put2c; split <;> simp
@[simp] theorem State.fixed_heldEnd (h rewrite) :
    (s.heldEnd h rewrite).fixed = s.fixed := by simp only [State.heldEnd]; split <;> simp
@[simp] theorem State.fixed_fwdSend : s.fwdSend.fixed = s.fixed := by unfold State.fwdSend; split <;> simp
@[simp] theorem State.fixed_fwdAdd (rseq slot hdr payload) :
    (s.fwdAdd rseq slot hdr payload).fixed = s.fixed := by simp [State.fwdAdd]
@[simp] theorem State.fixed_newRecord (f idx c payload st) : (s.newRecord f idx c payload st).1.fixed = s.fixed := by
  simp only [State.newRecord]
  repeat' split
  all_goals simp
@[simp] theorem State.fixed_sighting (f idx c seen) : (s.sighting f idx c seen).fixed = s.fixed := by
  simp only [State.sighting]
  repeat' split
  all_goals simp
@[simp] theorem State.fixed_results (f l seen) : (s.results f l seen).fixed = s.fixed := by
  induction l generalizing s seen with
  | nil => rfl
  | cons e l ih => simp [State.results, ih]
@[simp] theorem State.fixed_takeCands (found) : (s.takeCands found).1.fixed = s.fixed := by simp [State.takeCands]
@[simp] theorem State.fixed_scnFs (rx st) : (s.scnFs rx st).fixed = s.fixed := by simp [State.scnFs]
@[simp] theorem State.fixed_scnSubmit : s.scnSubmit.fixed = s.fixed := by simp [State.scnSubmit]
@[simp] theorem State.fixed_scnRun : s.scnRun.fixed = s.fixed := by simp [State.scnRun]
@[simp] theorem State.fixed_scnStop : s.scnStop.fixed = s.fixed := by simp [State.scnStop]
@[simp] theorem State.fixed_scnCancel : s.scnCancel.fixed = s.fixed := by simp [State.scnCancel]
@[simp] theorem State.fixed_scanXferErr (sts) : (s.scanXferErr sts).fixed = s.fixed := by simp [State.scanXferErr]
@[simp] theorem State.fixed_scanLineRead : s.scanLineRead.fixed = s.fixed := by
  simp only [State.scanLineRead]
  repeat' split
  any_goals simp
  all_goals exact State.fixed_of_eq ‹s.engRead _ _ _ _ = _› (by simp)
@[simp] theorem State.fixed_scnFlush : s.scnFlush.fixed = s.fixed := by
  simp only [State.scnFlush]
  repeat' split
  all_goals simp
@[simp] theorem State.fixed_scanReadoutEnd :
    s.scanReadoutEnd.fixed = s.fixed := by unfold State.scanReadoutEnd; split <;> simp
@[simp] theorem State.fixed_scanRecordDone :
    s.scanRecordDone.fixed = s.fixed := by unfold State.scanRecordDone; split <;> simp
@[simp] theorem State.fixed_holdRepeats (f) : (s.holdRepeats f).fixed = s.fixed := by
  simp only [State.holdRepeats]
  refine (fixed_foldl (fun s a => ?_) _ _).trans (by simp)
  repeat' split
  all_goals simp
@[simp] theorem State.fixed_scanFrameDone : s.scanFrameDone.fixed = s.fixed := by
  simp only [State.scanFrameDone]
  repeat' split
  all_goals simp
@[simp] theorem State.fixed_holdExpire (i) : (s.holdExpire i).fixed = s.fixed := by unfold State.holdExpire; split <;> simp
@[simp] theorem State.fixed_fwdEnd (f ok) : (s.fwdEnd f ok).fixed = s.fixed := by
  simp only [State.fwdEnd]
  repeat' split
  all_goals simp
@[simp] theorem State.fixed_forwardResponse (sts) :
    (s.forwardResponse sts).fixed = s.fixed := by unfold State.forwardResponse; split <;> simp
@[simp] theorem State.fixed_forwardRetry : s.forwardRetry.fixed = s.fixed := by
  unfold State.forwardRetry
  split
  · rfl
  · split <;> simp
@[simp] theorem State.fixed_scnRegWrite (o v) : (s.scnRegWrite o v).fixed = s.fixed := by simp [State.scnRegWrite]
@[simp] theorem State.fixed_frameStartAll (n vc num hdr) :
    (s.frameStartAll n vc num hdr).fixed = s.fixed := by simp [State.frameStartAll]
@[simp] theorem State.fixed_scnReset : s.scnReset.fixed = s.fixed := by simp [State.scnReset]
@[simp] theorem State.fixed_sillReset : s.sillReset.fixed = s.fixed := by simp [State.sillReset]

/-! ### The fault injector (Machine/Awl.lean) -/

@[simp] theorem State.fixed_updInj (i f) : (s.updInj i f).fixed = s.fixed := by simp only [State.updInj, State.fixed_update]
@[simp] theorem State.fixed_awlTrig (i) : (s.awlTrig i).1.fixed = s.fixed := by simp [State.awlTrig]
@[simp] theorem State.fixed_awlAct (i) : (s.awlAct i).fixed = s.fixed := by simp [State.awlAct]
@[simp] theorem State.fixed_awlUnit (p sel vals) : (s.awlUnit p sel vals).1.fixed = s.fixed := by
  refine fixed_foldl_fst (fun r i => ?_) _ _
  simp only [State.fixed_fst_ite, State.fixed_awlAct, State.fixed_awlTrig, State.fixed_cntUp, ite_self]
@[simp] theorem State.fixed_awlHold (i h) : (s.awlHold i h).fixed = s.fixed := by simp [State.awlHold]
@[simp] theorem State.fixed_awlAfter (h) : (s.awlAfter h).1.fixed = s.fixed := by
  refine fixed_foldl_fst (fun r i => ?_) _ _
  split <;> simp
@[simp] theorem State.fixed_awlLane (rx n proto u) : (s.awlLane rx n proto u).1.fixed = s.fixed := by
  simp only [State.awlLane]
  split <;> next h => simpa using State.fixed_of_eq h (s.fixed_awlUnit _ _ _)
@[simp] theorem State.fixed_awlLace (sel addr rd reg b) : (s.awlLace sel addr rd reg b).1.fixed = s.fixed := by
  simp only [State.awlLace]
  split <;> next h => simpa using State.fixed_of_eq h (s.fixed_awlUnit _ _ _)
@[simp] theorem State.fixed_awlCtrl (i v) : (s.awlCtrl i v).fixed = s.fixed := by
  simp only [State.awlCtrl]
  repeat' split
  all_goals simp
@[simp] theorem State.fixed_awlDisarm : s.awlDisarm.fixed = s.fixed := by simp [State.awlDisarm]
@[simp] theorem State.fixed_awlClr : s.awlClr.fixed = s.fixed := by simp [State.awlClr]
@[simp] theorem State.fixed_awlWrite (o v) : (s.awlWrite o v).fixed = s.fixed := by simp [State.awlWrite]
@[simp] theorem State.fixed_awlMark (m) : (s.awlMark m).fixed = s.fixed := by simp [State.awlMark]

/-! ### The island: commands, boot, unlock, credentials (Machine/Sec.lean) -/

@[simp] theorem State.fixed_argRead (a n) : (s.argRead a n).1.fixed = s.fixed := by simp [State.argRead]
@[simp] theorem State.fixed_withArgs {k : State → State × Nat} (hk : ∀ t, (k t).1.fixed = t.fixed) (l) :
    (s.withArgs l k).1.fixed = s.fixed := by
  induction l generalizing s with
  | nil => exact hk s
  | cons e q ih => simp [State.withArgs, ih]
@[simp] theorem State.fixed_loadSlot (n a v) : (s.loadSlot n a v).1.fixed = s.fixed := by simp [State.loadSlot]
@[simp] theorem State.fixed_putArg (a b) : (s.putArg a b).1.fixed = s.fixed := by simp [State.putArg]
@[simp] theorem State.fixed_thermoTo (w n) : (s.thermoTo w n).fixed = s.fixed := by simp [State.thermoTo]
@[simp] theorem State.fixed_otpProg (w v supplyOk) : (s.otpProg w v supplyOk).1.fixed = s.fixed := by
  simp only [State.otpProg]
  repeat' split
  all_goals simp
@[simp] theorem State.fixed_nextEpoch : s.nextEpoch.1.fixed = s.fixed := by simp [State.nextEpoch]
@[simp] theorem State.fixed_mcInc (n) : (s.mcInc n).1.fixed = s.fixed := by simp [State.mcInc]
@[simp] theorem State.fixed_setWin (i h m) : (s.setWin i h m).fixed = s.fixed := by simp [State.setWin]
@[simp] theorem State.fixed_imgCheck (b) : (s.imgCheck b).1.fixed = s.fixed := by
  simp only [State.imgCheck]
  repeat' split
  all_goals simp
@[simp] theorem State.fixed_kRun (k) : (s.kRun k).1.fixed = s.fixed := by
  cases k
  all_goals simp only [State.kRun, State.fixed_fst_ite]
  case aes | ksUnwrap =>
    rw [State.fixed_withArgs]
    · simp only [ite_self]
    · intro t; split <;> simp
  case arbAdvance => split <;> simp
  case winRaise =>
    split
    · rfl
    · split <;> simp
  all_goals simp
@[simp] theorem State.fixed_kCmd (k) : (s.kCmd k).fixed = s.fixed := by simp [State.kCmd]
@[simp] theorem State.fixed_kImgCheck (src) : (s.kImgCheck src).fixed = s.fixed := by simp [State.kImgCheck]
@[simp] theorem State.fixed_cryptoOpDone : s.cryptoOpDone.fixed = s.fixed := by unfold State.cryptoOpDone; split <;> simp
@[simp] theorem State.fixed_seckWrite (o v) : (s.seckWrite o v).fixed = s.fixed := by simp [State.seckWrite]
@[simp] theorem State.fixed_trngStartupDone : s.trngStartupDone.fixed = s.fixed := by simp [State.trngStartupDone]
@[simp] theorem State.fixed_trngHealthFail : s.trngHealthFail.fixed = s.fixed := by simp [State.trngHealthFail]
@[simp] theorem State.fixed_bootGo (base slot) : (s.bootGo base slot).fixed = s.fixed := by simp [State.bootGo]
@[simp] theorem State.fixed_bootBody (base) : (s.bootBody base).fixed = s.fixed := by simp [State.bootBody]
@[simp] theorem State.fixed_retStart : s.retStart.fixed = s.fixed := by simp [State.retStart]
@[simp] theorem State.fixed_bootRomStart : s.bootRomStart.fixed = s.fixed := by
  simp only [State.bootRomStart]
  repeat' split
  all_goals simp
@[simp] theorem State.fixed_dbgRequest (perm) : (s.dbgRequest perm).fixed = s.fixed := by simp [State.dbgRequest]
@[simp] theorem State.fixed_dbgFail : s.dbgFail.fixed = s.fixed := by simp [State.dbgFail]
@[simp] theorem State.fixed_dbgToken (k sg) : (s.dbgToken k sg).fixed = s.fixed := by
  simp only [State.dbgToken]
  repeat' split
  all_goals simp
@[simp] theorem State.fixed_dbgVerifyDone : s.dbgVerifyDone.fixed = s.fixed := by unfold State.dbgVerifyDone; split <;> simp
@[simp] theorem State.fixed_credCheckStart : s.credCheckStart.fixed = s.fixed := by
  simp only [State.credCheckStart]
  repeat' split
  all_goals simp
@[simp] theorem State.fixed_intakeEnd (k hdr r c) : (s.intakeEnd k hdr r c).fixed = s.fixed := by
  simp only [State.intakeEnd]
  repeat' split
  all_goals simp only [State.fixed_w, State.fixed_ev, State.fixed_err, State.fixed_sf, State.fixed_updSec,
    State.fixed_cntUp, State.fixed_setWin, State.fixed_mcInc]
@[simp] theorem State.fixed_credCheckDone : s.credCheckDone.fixed = s.fixed := by
  simp only [State.credCheckDone]
  repeat' split
  all_goals simp
@[simp] theorem State.fixed_grantTimeout : s.grantTimeout.fixed = s.fixed := by unfold State.grantTimeout; split <;> simp
@[simp] theorem State.fixed_grantSent : s.grantSent.fixed = s.fixed := by unfold State.grantSent; split <;> simp
@[simp] theorem State.fixed_intakeSlotClose (k) : (s.intakeSlotClose k).fixed = s.fixed := by simp [State.intakeSlotClose]
@[simp] theorem State.fixed_intakeWrite (n o v) : (s.intakeWrite n o v).1.fixed = s.fixed := by simp [State.intakeWrite]
@[simp] theorem State.fixed_svVerify : s.svVerify.fixed = s.fixed := by simp [State.svVerify]
@[simp] theorem State.fixed_svcWrite (o v) : (s.svcWrite o v).fixed = s.fixed := by simp [State.svcWrite]
@[simp] theorem State.fixed_svRnd : s.svRnd.1.fixed = s.fixed := by simp [State.svRnd]
@[simp] theorem State.fixed_secWrite (t o v) : (s.secWrite t o v).fixed = s.fixed := by simp [State.secWrite]

/-! ### The display pipes, the icon vault and the Guard (Machine/Display.lean) -/

@[simp] theorem State.fixed_updDp (p f) : (s.updDp p f).fixed = s.fixed := by simp only [State.updDp, State.fixed_update]
@[simp] theorem State.fixed_icvSeal : s.icvSeal.fixed = s.fixed := by simp [State.icvSeal]
@[simp] theorem State.fixed_icvOpen : s.icvOpen.fixed = s.fixed := by simp [State.icvOpen]
@[simp] theorem State.fixed_icvWrite (o v) : (s.icvWrite o v).fixed = s.fixed := by simp [State.icvWrite]
@[simp] theorem State.fixed_imgCheckAccept (src) : (s.imgCheckAccept src).fixed = s.fixed := by simp [State.imgCheckAccept]
@[simp] theorem State.fixed_islandDone : s.islandDone.fixed = s.fixed := by unfold State.islandDone; split <;> simp
@[simp] theorem State.fixed_icvFormatDone : s.icvFormatDone.fixed = s.fixed := by simp [State.icvFormatDone]
@[simp] theorem State.fixed_setRst (p k st cnt good) : (s.setRst p k st cnt good).fixed = s.fixed := by simp [State.setRst]
@[simp] theorem State.fixed_regionsAtLatch (p v) : (s.regionsAtLatch p v).fixed = s.fixed := by simp [State.regionsAtLatch]
@[simp] theorem State.fixed_setPpll (p v) :
    (s.setPpll p v).fixed = s.fixed := by simp only [State.setPpll, State.fixed_update]
@[simp] theorem State.fixed_dpTake (p) : (s.dpTake p).fixed = s.fixed := by
  simp only [State.dpTake]
  repeat' split
  all_goals simp
@[simp] theorem State.fixed_planeFetch (p v y) : (s.planeFetch p v y).fixed = s.fixed := by
  simp only [State.planeFetch]
  refine (fixed_foldl (fun s a => ?_) _ _).trans (by simp)
  repeat' split
  all_goals simp
@[simp] theorem State.fixed_heldRows (p) : (s.heldRows p).fixed = s.fixed := by simp [State.heldRows]
@[simp] theorem State.fixed_dpLatch (p) : (s.dpLatch p).fixed = s.fixed := by simp [State.dpLatch]
@[simp] theorem State.fixed_ppllLock (p) : (s.ppllLock p).fixed = s.fixed := by simp [State.ppllLock]
@[simp] theorem State.fixed_dpFrameStart (p) : (s.dpFrameStart p).fixed = s.fixed := by simp [State.dpFrameStart]
@[simp] theorem State.fixed_crcLine (p y row) : (s.crcLine p y row).fixed = s.fixed := by simp [State.crcLine]
@[simp] theorem State.fixed_dpLine (p late) : (s.dpLine p late).fixed = s.fixed := by simp [State.dpLine]
@[simp] theorem State.fixed_dpStop (p) : (s.dpStop p).fixed = s.fixed := by simp [State.dpStop]
@[simp] theorem State.fixed_ppllStop (p) : (s.ppllStop p).fixed = s.fixed := by simp [State.ppllStop]
@[simp] theorem State.fixed_guardStep (p k reason fseq) :
    (s.guardStep p k reason fseq).fixed = s.fixed := by simp [State.guardStep]
@[simp] theorem State.fixed_guardDecision (p) : (s.guardDecision p).fixed = s.fixed := by
  simp only [State.guardDecision]
  repeat' split
  all_goals simp
@[simp] theorem State.fixed_guardMissed (p) : (s.guardMissed p).fixed = s.fixed := by simp [State.guardMissed]
@[simp] theorem State.fixed_guardReport (p fseq r) :
    (s.guardReport p fseq r).fixed = s.fixed := by unfold State.guardReport; split <;> simp
@[simp] theorem State.fixed_ttgRelease (p) : (s.ttgRelease p).fixed = s.fixed := by simp [State.ttgRelease]
@[simp] theorem State.fixed_forceOff (t) : (s.forceOff t).fixed = s.fixed := by simp [State.forceOff]
@[simp] theorem State.fixed_ttgWrite (t o v) : (s.ttgWrite t o v).fixed = s.fixed := by simp [State.ttgWrite]
@[simp] theorem State.fixed_dpWrite (p o v) : (s.dpWrite p o v).fixed = s.fixed := by simp [State.dpWrite]
@[simp] theorem State.fixed_dispLeave : s.dispLeave.fixed = s.fixed := by simp [State.dispLeave]

/-! ### The light drive (Machine/Light.lean) -/

@[simp] theorem State.fixed_updLight (f) :
    (s.updLight f).fixed = s.fixed := by simp only [State.updLight, State.fixed_update]
@[simp] theorem State.fixed_updPwm (t f) : (s.updPwm t f).fixed = s.fixed := by simp [State.updPwm]
@[simp] theorem State.fixed_periodAt (t at_) : (s.periodAt t at_).fixed = s.fixed := by
  simp only [State.periodAt]
  repeat' split
  all_goals simp
@[simp] theorem State.fixed_pwmPeriod (t) : (s.pwmPeriod t).fixed = s.fixed := by simp [State.pwmPeriod]
@[simp] theorem State.fixed_pwmSub (t) : (s.pwmSub t).fixed = s.fixed := by simp [State.pwmSub]
@[simp] theorem State.fixed_lampSync (g) : (s.lampSync g).fixed = s.fixed := by simp [State.lampSync]
@[simp] theorem State.fixed_mxCommit : s.mxCommit.fixed = s.fixed := by
  simp only [State.mxCommit]
  repeat' split
  all_goals simp
@[simp] theorem State.fixed_mxResult : s.mxResult.fixed = s.fixed := by unfold State.mxResult; split <;> simp
@[simp] theorem State.fixed_mxFrame : s.mxFrame.fixed = s.fixed := by simp [State.mxFrame]
@[simp] theorem State.fixed_lightFreeze : s.lightFreeze.fixed = s.fixed := by simp [State.lightFreeze]
@[simp] theorem State.fixed_blScan (arg) : (s.blScan arg).fixed = s.fixed := by simp [State.blScan]
@[simp] theorem State.fixed_scanMiss : s.scanMiss.fixed = s.fixed := by unfold State.scanMiss; split <;> simp
@[simp] theorem State.fixed_pdPend (x) : (s.pdPend x).fixed = s.fixed := by simp [State.pdPend]
@[simp] theorem State.fixed_ovpFlag (v) : (s.ovpFlag v).fixed = s.fixed := by simp [State.ovpFlag]
@[simp] theorem State.fixed_boostOvp (v) : (s.boostOvp v).fixed = s.fixed := by simp [State.boostOvp]
@[simp] theorem State.fixed_bldWrite (o v) : (s.bldWrite o v).fixed = s.fixed := by simp [State.bldWrite]
@[simp] theorem State.fixed_calWrite (o v) : (s.calWrite o v).fixed = s.fixed := by simp [State.calWrite]
@[simp] theorem State.fixed_calApply (p) : (s.calApply p).fixed = s.fixed := by simp [State.calApply]
@[simp] theorem State.fixed_calLatch : s.calLatch.fixed = s.fixed := by simp [State.calLatch]
@[simp] theorem State.fixed_calRegWrite (o v) : (s.calRegWrite o v).fixed = s.fixed := by simp [State.calRegWrite]
@[simp] theorem State.fixed_grpAct (g) : (s.grpAct g).fixed = s.fixed := by simp [State.grpAct]
@[simp] theorem State.fixed_shedStart : s.shedStart.fixed = s.fixed := by simp [State.shedStart]
@[simp] theorem State.fixed_shedEnd : s.shedEnd.fixed = s.fixed := by simp [State.shedEnd]
@[simp] theorem State.fixed_lampFlag (c short) : (s.lampFlag c short).fixed = s.fixed := by simp [State.lampFlag]
@[simp] theorem State.fixed_lampFault (c short) : (s.lampFault c short).fixed = s.fixed := by simp [State.lampFault]
@[simp] theorem State.fixed_rowFlag (r) : (s.rowFlag r).fixed = s.fixed := by simp [State.rowFlag]
@[simp] theorem State.fixed_rowOver (r) : (s.rowOver r).fixed = s.fixed := by simp [State.rowOver]
@[simp] theorem State.fixed_grpRelease : s.grpRelease.fixed = s.fixed := by simp [State.grpRelease]
@[simp] theorem State.fixed_ldFclr : s.ldFclr.fixed = s.fixed := by simp [State.ldFclr]
@[simp] theorem State.fixed_headroomLow (n) : (s.headroomLow n).fixed = s.fixed := by simp [State.headroomLow]
@[simp] theorem State.fixed_pdFlush : s.pdFlush.fixed = s.fixed := by
  simp only [State.pdFlush]
  refine (fixed_foldl (fun s a => ?_) _ _).trans (by simp)
  repeat' split
  all_goals simp
@[simp] theorem State.fixed_lightThaw : s.lightThaw.fixed = s.fixed := by simp [State.lightThaw]
@[simp] theorem State.fixed_setF (f) : (s.setF f).fixed = s.fixed := by unfold State.setF; split <;> simp
@[simp] theorem State.fixed_ldNtc (x flag) : (s.ldNtc x flag).fixed = s.fixed := by simp [State.ldNtc]
@[simp] theorem State.fixed_fgClr (t n m) : (s.fgClr t n m).fixed = s.fixed := by simp [State.fgClr]
@[simp] theorem State.fixed_fgWrite (t n o v) : (s.fgWrite t n o v).fixed = s.fixed := by simp [State.fgWrite]
@[simp] theorem State.fixed_ldWrite (o v) : (s.ldWrite o v).fixed = s.fixed := by simp [State.ldWrite]
@[simp] theorem State.fixed_holdTick : s.holdTick.fixed = s.fixed := by simp [State.holdTick]

/-! ### The Lace lamp bus (Machine/Lace.lean) -/

@[simp] theorem State.fixed_updLace (f) : (s.updLace f).fixed = s.fixed := by simp only [State.updLace, State.fixed_update]
@[simp] theorem State.fixed_flipSeq (a) : (s.flipSeq a).fixed = s.fixed := by simp [State.flipSeq]
@[simp] theorem State.fixed_setOnline (a v) : (s.setOnline a v).fixed = s.fixed := by simp [State.setOnline]
@[simp] theorem State.fixed_laceDone (t res status data) :
    (s.laceDone t res status data).fixed = s.fixed := by simp [State.laceDone]
@[simp] theorem State.fixed_lacePush (t n) : (s.lacePush t n).fixed = s.fixed := by simp [State.lacePush]
@[simp] theorem State.fixed_laceFlush : s.laceFlush.fixed = s.fixed := by simp [State.laceFlush]
@[simp] theorem State.fixed_laceSend (t fr) : (s.laceSend t fr).1.fixed = s.fixed := by
  simp only [State.laceSend]
  split <;> next h => exact State.fixed_of_eq h (s.fixed_awlLace _ _ _ _ _)
@[simp] theorem State.fixed_laceGo (t) : (s.laceGo t).fixed = s.fixed := by simp [State.laceGo]
@[simp] theorem State.fixed_laceCast : s.laceCast.fixed = s.fixed := by unfold State.laceCast; split <;> simp
@[simp] theorem State.fixed_laceStart : s.laceStart.fixed = s.fixed := by
  simp only [State.laceStart]
  repeat' split
  all_goals simp
@[simp] theorem State.fixed_laceFail (b) : (s.laceFail b).fixed = s.fixed := by simp [State.laceFail]
@[simp] theorem State.fixed_laceTimeout (readback) :
    (s.laceTimeout readback).fixed = s.fixed := by unfold State.laceTimeout; split <;> simp
@[simp] theorem State.fixed_eyeStatus (a status) : (s.eyeStatus a status).fixed = s.fixed := by simp [State.eyeStatus]
@[simp] theorem State.fixed_laceTake (bytes) :
    (s.laceTake bytes).fixed = s.fixed := by unfold State.laceTake; split <;> simp
@[simp] theorem State.fixed_laceAnswer (b) : (s.laceAnswer b).fixed = s.fixed := by
  simp only [State.laceAnswer]
  split
  · rfl
  · split <;> next h => simpa using State.fixed_of_eq h (s.fixed_awlLace _ _ _ _ _)
@[simp] theorem State.fixed_laceLatch : s.laceLatch.fixed = s.fixed := by simp [State.laceLatch]
@[simp] theorem State.fixed_lacePoll : s.lacePoll.fixed = s.fixed := by simp [State.lacePoll]
@[simp] theorem State.fixed_laceOnline (o v) : (s.laceOnline o v).fixed = s.fixed := by simp [State.laceOnline]
@[simp] theorem State.fixed_laceWrite (t n o v) : (s.laceWrite t n o v).fixed = s.fixed := by simp [State.laceWrite]
@[simp] theorem State.fixed_lacePop : s.lacePop.1.fixed = s.fixed := by unfold State.lacePop; split <;> simp
@[simp] theorem State.fixed_laceReset : s.laceReset.fixed = s.fixed := by simp [State.laceReset]

/-! ### The serial lanes and links (Machine/Lanes.lean) -/

@[simp] theorem State.fixed_updLn (n f) : (s.updLn n f).fixed = s.fixed := by simp only [State.updLn, State.fixed_update]
@[simp] theorem State.fixed_updLk (n f) : (s.updLk n f).fixed = s.fixed := by simp only [State.updLk, State.fixed_update]
@[simp] theorem State.fixed_laneSend (n us) : (s.laneSend n us).fixed = s.fixed := by
  simp [State.laneSend, fixed_foldl_fst]
@[simp] theorem State.fixed_laneTrain (n) : (s.laneTrain n).fixed = s.fixed := by simp [State.laneTrain]
@[simp] theorem State.fixed_laneExit (n early) : (s.laneExit n early).fixed = s.fixed := by simp [State.laneExit]
@[simp] theorem State.fixed_laneSleep (n dormant win) :
    (s.laneSleep n dormant win).fixed = s.fixed := by simp [State.laneSleep]
@[simp] theorem State.fixed_linkDown (n cause) : (s.linkDown n cause).fixed = s.fixed := by simp [State.linkDown]
@[simp] theorem State.fixed_laneDown (n cause) : (s.laneDown n cause).fixed = s.fixed := by simp [State.laneDown]
@[simp] theorem State.fixed_linkPump (n) : (s.linkPump n).fixed = s.fixed := by simp [State.linkPump]
@[simp] theorem State.fixed_linkReplay (n ls) : (s.linkReplay n ls).fixed = s.fixed := by simp [State.linkReplay]
@[simp] theorem State.fixed_addCtl (n typ lseq) : (s.addCtl n typ lseq).fixed = s.fixed := by simp [State.addCtl]
@[simp] theorem State.fixed_linkTryUp (n) : (s.linkTryUp n).fixed = s.fixed := by simp [State.linkTryUp]
@[simp] theorem State.fixed_apertureDone (n net st dem late d) :
    (s.apertureDone n net st dem late d).fixed = s.fixed := by unfold State.apertureDone; split <;> simp
@[simp] theorem State.fixed_aperture (n src q cls write o v net) :
    (s.aperture n src q cls write o v net).fixed = s.fixed := by simp [State.aperture]
@[simp] theorem State.fixed_linkReply (n h st dem late d) :
    (s.linkReply n h st dem late d).fixed = s.fixed := by simp [State.linkReply]
@[simp] theorem State.fixed_linkSettle (ni) : (s.linkSettle ni).fixed = s.fixed := by simp [State.linkSettle]
@[simp] theorem State.fixed_linkIssue (n h d) : (s.linkIssue n h d).fixed = s.fixed := by simp [State.linkIssue]
@[simp] theorem State.fixed_linkRequest (n h d) : (s.linkRequest n h d).fixed = s.fixed := by
  simp only [State.linkRequest]
  repeat' split
  all_goals simp
@[simp] theorem State.fixed_linkResponse (n h b) :
    (s.linkResponse n h b).fixed = s.fixed := by unfold State.linkResponse; split <;> simp
@[simp] theorem State.fixed_linkNak (n) : (s.linkNak n).fixed = s.fixed := by simp [State.linkNak]
@[simp] theorem State.fixed_linkData (n b bad) : (s.linkData n b bad).fixed = s.fixed := by simp [State.linkData]
theorem State.fixed_linkAck {t : State} {n q : Nat} (h : s.linkAck n q = some t) : t.fixed = s.fixed := by
  simp only [State.linkAck] at h
  repeat' split at h
  all_goals cases h
  all_goals simp
@[simp] theorem State.fixed_linkCtl (n b) : (s.linkCtl n b).fixed = s.fixed := by
  simp only [State.linkCtl]
  repeat' split
  any_goals simp
  all_goals exact State.fixed_linkAck _ ‹_›
@[simp] theorem State.fixed_linkInit (n) : (s.linkInit n).fixed = s.fixed := by simp [State.linkInit]
@[simp] theorem State.fixed_linkTimeout (n) :
    (s.linkTimeout n).fixed = s.fixed := by unfold State.linkTimeout; split <;> simp
@[simp] theorem State.fixed_paneOut (n us) : (s.paneOut n us).fixed = s.fixed := by simp [State.paneOut]
@[simp] theorem State.fixed_paneLatch (p) : (s.paneLatch p).fixed = s.fixed := by simp [State.paneLatch]
@[simp] theorem State.fixed_paneSegment (n x) :
    (s.paneSegment n x).fixed = s.fixed := by unfold State.paneSegment; split <;> simp
@[simp] theorem State.fixed_panePrep (n b bad) : (s.panePrep n b bad).fixed = s.fixed := by
  simp only [State.panePrep]
  repeat' split
  all_goals simp
@[simp] theorem State.fixed_hostClose (n) : (s.hostClose n).fixed = s.fixed := by unfold State.hostClose; split <;> simp
@[simp] theorem State.fixed_hostStart (n b) : (s.hostStart n b).fixed = s.fixed := by simp [State.hostStart]
@[simp] theorem State.fixed_hostStore (n base ps) : (s.hostStore n base ps).fixed = s.fixed := by simp [State.hostStore]
@[simp] theorem State.fixed_hostLine (n b) : (s.hostLine n b).fixed = s.fixed := by unfold State.hostLine; split <;> simp
@[simp] theorem State.fixed_hostPkt (n b bad) : (s.hostPkt n b bad).fixed = s.fixed := by simp [State.hostPkt]
@[simp] theorem State.fixed_laneTake (n u) : (s.laneTake n u).fixed = s.fixed := by unfold State.laneTake; split <;> simp
@[simp] theorem State.fixed_laneRx (n proto u) : (s.laneRx n proto u).fixed = s.fixed := by simp [State.laneRx]
@[simp] theorem State.fixed_hostRx (n typ b bad) : (s.hostRx n typ b bad).fixed = s.fixed := by simp [State.hostRx]
@[simp] theorem State.fixed_ctlRx (n typ b) : (s.ctlRx n typ b).fixed = s.fixed := by simp [State.ctlRx]
@[simp] theorem State.fixed_laneFlush (n) : (s.laneFlush n).fixed = s.fixed := by simp [State.laneFlush]
@[simp] theorem State.fixed_laneAligned (n) : (s.laneAligned n).fixed = s.fixed := by simp [State.laneAligned]
@[simp] theorem State.fixed_laneLost (n errs) : (s.laneLost n errs).fixed = s.fixed := by simp [State.laneLost]
@[simp] theorem State.fixed_allLanes {f : State → Nat → State} (h : ∀ s n, (f s n).fixed = s.fixed) :
    (s.allLanes f).fixed = s.fixed := by
  simp [State.allLanes, h]
@[simp] theorem State.fixed_setLanePll (v) :
    (s.setLanePll v).fixed = s.fixed := by simp only [State.setLanePll, State.fixed_update]
@[simp] theorem State.fixed_refOff : s.refOff.fixed = s.fixed := by simp [State.refOff]
@[simp] theorem State.fixed_refLoss : s.refLoss.fixed = s.fixed := by simp [State.refLoss]
@[simp] theorem State.fixed_lanePllLock : s.lanePllLock.fixed = s.fixed := by simp [State.lanePllLock]
@[simp] theorem State.fixed_laneLp (arg) : (s.laneLp arg).fixed = s.fixed := by simp [State.laneLp]
@[simp] theorem State.fixed_laneFarLp (n) : (s.laneFarLp n).fixed = s.fixed := by simp [State.laneFarLp]
@[simp] theorem State.fixed_laneLine : s.laneLine.fixed = s.fixed := by simp [State.laneLine]
@[simp] theorem State.fixed_laneWindowEnd (n) : (s.laneWindowEnd n).fixed = s.fixed := by simp [State.laneWindowEnd]
@[simp] theorem State.fixed_laneExitDone (n) : (s.laneExitDone n).fixed = s.fixed := by simp [State.laneExitDone]
@[simp] theorem State.fixed_laneCommit (n old oldPr) :
    (s.laneCommit n old oldPr).fixed = s.fixed := by simp [State.laneCommit]
@[simp] theorem State.fixed_prbsLock (n) : (s.prbsLock n).fixed = s.fixed := by simp [State.prbsLock]
@[simp] theorem State.fixed_prbsLost (n errs bits) : (s.prbsLost n errs bits).fixed = s.fixed := by simp [State.prbsLost]
@[simp] theorem State.fixed_esDone (n errs) : (s.esDone n errs).fixed = s.fixed := by simp [State.esDone]
@[simp] theorem State.fixed_esCtrl (n v) : (s.esCtrl n v).fixed = s.fixed := by simp [State.esCtrl]
@[simp] theorem State.fixed_laneWrite (t n o v) : (s.laneWrite t n o v).fixed = s.fixed := by simp [State.laneWrite]
@[simp] theorem State.fixed_laneRead (n o) : (s.laneRead n o).1.fixed = s.fixed := by simp [State.laneRead]
@[simp] theorem State.fixed_linkWrite (n o v) : (s.linkWrite n o v).fixed = s.fixed := by simp [State.linkWrite]
@[simp] theorem State.fixed_paneWrite (n o v) : (s.paneWrite n o v).fixed = s.fixed := by simp [State.paneWrite]
@[simp] theorem State.fixed_laneReset (n) : (s.laneReset n).fixed = s.fixed := by simp [State.laneReset]
@[simp] theorem State.fixed_linkReset (n) : (s.linkReset n).fixed = s.fixed := by simp [State.linkReset]
@[simp] theorem State.fixed_paneReset (n) : (s.paneReset n).fixed = s.fixed := by simp [State.paneReset]
@[simp] theorem State.fixed_lanesOff : s.lanesOff.fixed = s.fixed := by simp only [State.lanesOff, State.fixed_update]

/-! ### The vehicle interfaces and the converter (Machine/Vehicle.lean) -/

@[simp] theorem State.fixed_updCan (n f) : (s.updCan n f).fixed = s.fixed := by simp only [State.updCan, State.fixed_update]
@[simp] theorem State.fixed_canPick (n) : (s.canPick n).fixed = s.fixed := by simp [State.canPick]
@[simp] theorem State.fixed_canRequest (n m) : (s.canRequest n m).fixed = s.fixed := by simp [State.canRequest]
@[simp] theorem State.fixed_canDrop (n p) : (s.canDrop n p).fixed = s.fixed := by simp [State.canDrop]
@[simp] theorem State.fixed_canAbort (n m) : (s.canAbort n m).fixed = s.fixed := by simp [State.canAbort]
@[simp] theorem State.fixed_canMode (n) : (s.canMode n).fixed = s.fixed := by simp [State.canMode]
@[simp] theorem State.fixed_grantLoad (again) : (s.grantLoad again).fixed = s.fixed := by
  simp only [State.grantLoad]
  repeat' split
  all_goals simp
@[simp] theorem State.fixed_grantExpire : s.grantExpire.fixed = s.fixed := by simp [State.grantExpire]
@[simp] theorem State.fixed_canError (n lost dTec dRec) :
    (s.canError n lost dTec dRec).fixed = s.fixed := by simp [State.canError]
@[simp] theorem State.fixed_canSent (n) : (s.canSent n).fixed = s.fixed := by unfold State.canSent; split <;> simp
@[simp] theorem State.fixed_canReceive (n f) : (s.canReceive n f).fixed = s.fixed := by simp [State.canReceive]
@[simp] theorem State.fixed_canBusOff (n) : (s.canBusOff n).fixed = s.fixed := by simp [State.canBusOff]
@[simp] theorem State.fixed_canRecovered (n) : (s.canRecovered n).fixed = s.fixed := by simp [State.canRecovered]
@[simp] theorem State.fixed_canCommit (n) : (s.canCommit n).fixed = s.fixed := by simp [State.canCommit]
@[simp] theorem State.fixed_canWrite (n o v) : (s.canWrite n o v).fixed = s.fixed := by
  simp only [State.canWrite]
  repeat' split
  all_goals simp
@[simp] theorem State.fixed_updLin (f) : (s.updLin f).fixed = s.fixed := by simp only [State.updLin, State.fixed_update]
@[simp] theorem State.fixed_linSchedule : s.linSchedule.fixed = s.fixed := by
  simp only [State.linSchedule]
  repeat' split
  all_goals simp
@[simp] theorem State.fixed_linHeader (pid) : (s.linHeader pid).fixed = s.fixed := by
  simp only [State.linHeader]
  repeat' split
  all_goals simp
@[simp] theorem State.fixed_linDone (errs data) :
    (s.linDone errs data).fixed = s.fixed := by unfold State.linDone; split <;> simp
@[simp] theorem State.fixed_linWrite (o v) : (s.linWrite o v).fixed = s.fixed := by simp [State.linWrite]
@[simp] theorem State.fixed_linRead (o) : (s.linRead o).1.fixed = s.fixed := by simp [State.linRead]
@[simp] theorem State.fixed_linCommit : s.linCommit.fixed = s.fixed := by simp [State.linCommit]
@[simp] theorem State.fixed_updI2c (n f) : (s.updI2c n f).fixed = s.fixed := by simp only [State.updI2c, State.fixed_update]
@[simp] theorem State.fixed_i2cShift (n) : (s.i2cShift n).fixed = s.fixed := by unfold State.i2cShift; split <;> simp
@[simp] theorem State.fixed_i2cCmd (n v) : (s.i2cCmd n v).fixed = s.fixed := by simp [State.i2cCmd]
@[simp] theorem State.fixed_i2cDone (n outcome data) :
    (s.i2cDone n outcome data).fixed = s.fixed := by unfold State.i2cDone; split <;> simp
@[simp] theorem State.fixed_i2cStuck (n) : (s.i2cStuck n).fixed = s.fixed := by simp [State.i2cStuck]
@[simp] theorem State.fixed_i2cTarget (n write data k) :
    (s.i2cTarget n write data k).fixed = s.fixed := by simp [State.i2cTarget]
@[simp] theorem State.fixed_i2cWrite (n o v) : (s.i2cWrite n o v).fixed = s.fixed := by simp [State.i2cWrite]
@[simp] theorem State.fixed_i2cRead (n o) : (s.i2cRead n o).1.fixed = s.fixed := by
  simp only [State.i2cRead]
  repeat' split
  all_goals simp
@[simp] theorem State.fixed_updSpi (n f) : (s.updSpi n f).fixed = s.fixed := by simp only [State.updSpi, State.fixed_update]
@[simp] theorem State.fixed_spiDone (n v) : (s.spiDone n v).fixed = s.fixed := by simp [State.spiDone]
@[simp] theorem State.fixed_spiWrite (n o v) : (s.spiWrite n o v).fixed = s.fixed := by simp [State.spiWrite]
@[simp] theorem State.fixed_spiRead (n o) : (s.spiRead n o).1.fixed = s.fixed := by
  simp only [State.spiRead]
  repeat' split
  all_goals simp
@[simp] theorem State.fixed_updXs (f) : (s.updXs f).fixed = s.fixed := by simp only [State.updXs, State.fixed_update]
@[simp] theorem State.fixed_xsDone (data flash) : (s.xsDone data flash).fixed = s.fixed := by
  simp only [State.xsDone]
  repeat' split
  all_goals simp
@[simp] theorem State.fixed_xsReady : s.xsReady.fixed = s.fixed := by simp [State.xsReady]
@[simp] theorem State.fixed_xsWrite (o v) : (s.xsWrite o v).fixed = s.fixed := by simp [State.xsWrite]
@[simp] theorem State.fixed_gpEvent (pin arg) : (s.gpEvent pin arg).fixed = s.fixed := by simp [State.gpEvent]
@[simp] theorem State.fixed_gpEdge (pin level) : (s.gpEdge pin level).fixed = s.fixed := by simp [State.gpEdge]
@[simp] theorem State.fixed_gpWrite (t o v) : (s.gpWrite t o v).fixed = s.fixed := by simp [State.gpWrite]
@[simp] theorem State.fixed_updAdc (f) : (s.updAdc f).fixed = s.fixed := by simp only [State.updAdc, State.fixed_update]
@[simp] theorem State.fixed_adcBegin : s.adcBegin.fixed = s.fixed := by simp [State.adcBegin]
@[simp] theorem State.fixed_adcScan : s.adcScan.fixed = s.fixed := by simp [State.adcScan]
@[simp] theorem State.fixed_adcResult (ch code ovr unr off settling) :
    (s.adcResult ch code ovr unr off settling).fixed = s.fixed := by simp [State.adcResult]
@[simp] theorem State.fixed_adcDone (x off) : (s.adcDone x off).fixed = s.fixed := by simp [State.adcDone]
@[simp] theorem State.fixed_adcWrite (o v) : (s.adcWrite o v).fixed = s.fixed := by simp [State.adcWrite]
@[simp] theorem State.fixed_adcRead (o) : (s.adcRead o).1.fixed = s.fixed := by simp [State.adcRead]
@[simp] theorem State.fixed_vehReset (b p) : (s.vehReset b p).fixed = s.fixed := by unfold State.vehReset; split <;> simp

/-! ### The Seam, clocks, resets, domains and the watchdog (Machine/Power.lean) -/

@[simp] theorem State.fixed_updPwr (f) : (s.updPwr f).fixed = s.fixed := by simp only [State.updPwr, State.fixed_update]
@[simp] theorem State.fixed_supplyTold : s.supplyTold.fixed = s.fixed := by simp [State.supplyTold]
@[simp] theorem State.fixed_seamFault : s.seamFault.fixed = s.fixed := by simp [State.seamFault]
@[simp] theorem State.fixed_seamTransfer (up ok) : (s.seamTransfer up ok).fixed = s.fixed := by simp [State.seamTransfer]
@[simp] theorem State.fixed_seamRecovered : s.seamRecovered.fixed = s.fixed := by simp [State.seamRecovered]
@[simp] theorem State.fixed_seamRefreshed : s.seamRefreshed.fixed = s.fixed := by simp [State.seamRefreshed]
@[simp] theorem State.fixed_sysPllLock : s.sysPllLock.fixed = s.fixed := by simp [State.sysPllLock]
@[simp] theorem State.fixed_crystalLoss : s.crystalLoss.fixed = s.fixed := by simp [State.crystalLoss]
@[simp] theorem State.fixed_pllRestart : s.pllRestart.fixed = s.fixed := by simp [State.pllRestart]
@[simp] theorem State.fixed_clearPage (p lk keep) : (s.clearPage p lk keep).fixed = s.fixed := by
  simp only [State.clearPage]
  refine (fixed_foldl (fun s a => ?_) _ _).trans (by simp)
  repeat' split
  all_goals simp
@[simp] theorem State.fixed_coldBase (por doms) : (s.coldBase por doms).fixed = s.fixed := by simp [State.coldBase]
@[simp] theorem State.fixed_keepRegs (x0) : (s.keepRegs x0).fixed = s.fixed := by simp [State.keepRegs]
@[simp] theorem State.fixed_cold (por doms) : (s.cold por doms).fixed = s.fixed := by simp [State.cold]
@[simp] theorem State.fixed_sysReset (bit) : (s.sysReset bit).fixed = s.fixed := by simp [State.sysReset]
@[simp] theorem State.fixed_wakeUp (bits lead) : (s.wakeUp bits lead).fixed = s.fixed := by simp [State.wakeUp]
@[simp] theorem State.fixed_wakeNote (src) : (s.wakeNote src).fixed = s.fixed := by simp [State.wakeNote]
@[simp] theorem State.fixed_wakeSource (bit cause lead) :
    (s.wakeSource bit cause lead).fixed = s.fixed := by simp [State.wakeSource]
@[simp] theorem State.fixed_porReset : s.porReset.fixed = s.fixed := by simp [State.porReset]
@[simp] theorem State.fixed_borReset : s.borReset.fixed = s.fixed := by simp [State.borReset]
@[simp] theorem State.fixed_deepRest : s.deepRest.fixed = s.fixed := by simp [State.deepRest]
@[simp] theorem State.fixed_borRestart : s.borRestart.fixed = s.fixed := by simp [State.borRestart]
@[simp] theorem State.fixed_setLow (v) : (s.setLow v).fixed = s.fixed := by simp [State.setLow]
@[simp] theorem State.fixed_setShed (shed ov) : (s.setShed shed ov).fixed = s.fixed := by simp [State.setShed]
@[simp] theorem State.fixed_shedSet : s.shedSet.fixed = s.fixed := by simp [State.shedSet]
@[simp] theorem State.fixed_shedClear : s.shedClear.fixed = s.fixed := by simp [State.shedClear]
@[simp] theorem State.fixed_ovSet : s.ovSet.fixed = s.fixed := by simp [State.ovSet]
@[simp] theorem State.fixed_ovClear : s.ovClear.fixed = s.fixed := by simp [State.ovClear]
@[simp] theorem State.fixed_pwrSleep (n) : (s.pwrSleep n).fixed = s.fixed := by simp [State.pwrSleep]
@[simp] theorem State.fixed_dropHeld : s.dropHeld.fixed = s.fixed := by simp [State.dropHeld]
@[simp] theorem State.fixed_sleepEntered : s.sleepEntered.fixed = s.fixed := by
  simp only [State.sleepEntered]
  repeat' split
  all_goals simp
@[simp] theorem State.fixed_wakeEdge (i level) : (s.wakeEdge i level).fixed = s.fixed := by simp [State.wakeEdge]
@[simp] theorem State.fixed_canWake (cause f) : (s.canWake cause f).fixed = s.fixed := by simp [State.canWake]
@[simp] theorem State.fixed_linWake : s.linWake.fixed = s.fixed := by simp [State.linWake]
@[simp] theorem State.fixed_rtcTick : s.rtcTick.fixed = s.fixed := by simp [State.rtcTick]
@[simp] theorem State.fixed_rtcAlarm : s.rtcAlarm.fixed = s.fixed := by simp [State.rtcAlarm]
@[simp] theorem State.fixed_bootGiveUp : s.bootGiveUp.fixed = s.fixed := by unfold State.bootGiveUp; split <;> simp
@[simp] theorem State.fixed_alwaysCan : s.alwaysCan.fixed = s.fixed := by simp [State.alwaysCan]
@[simp] theorem State.fixed_alwaysWake : s.alwaysWake.fixed = s.fixed := by simp [State.alwaysWake]
@[simp] theorem State.fixed_domLeave (d) : (s.domLeave d).fixed = s.fixed := by simp [State.domLeave]
@[simp] theorem State.fixed_domOff (d) : (s.domOff d).fixed = s.fixed := by simp [State.domOff]
@[simp] theorem State.fixed_domWakeUp (d) : (s.domWakeUp d).fixed = s.fixed := by simp [State.domWakeUp]
@[simp] theorem State.fixed_domArrive (d dst) : (s.domArrive d dst).fixed = s.fixed := by simp [State.domArrive]
@[simp] theorem State.fixed_domNext (d) : (s.domNext d).fixed = s.fixed := by simp [State.domNext]
@[simp] theorem State.fixed_pwrDomWrite (d v) :
    (s.pwrDomWrite d v).fixed = s.fixed := by simp only [State.pwrDomWrite]; split <;> simp
@[simp] theorem State.fixed_domIdle (d) : (s.domIdle d).fixed = s.fixed := by simp [State.domIdle]
@[simp] theorem State.fixed_dramTrained (code crc) : (s.dramTrained code crc).fixed = s.fixed := by simp [State.dramTrained]
@[simp] theorem State.fixed_dramRef (arg n) : (s.dramRef arg n).fixed = s.fixed := by simp [State.dramRef]
@[simp] theorem State.fixed_dramForced (n) : (s.dramForced n).fixed = s.fixed := by simp [State.dramForced]
@[simp] theorem State.fixed_dramLine : s.dramLine.fixed = s.fixed := by simp [State.dramLine]
@[simp] theorem State.fixed_wdRestart (at_) : (s.wdRestart at_).fixed = s.fixed := by simp [State.wdRestart]
@[simp] theorem State.fixed_wdCtrl (v) : (s.wdCtrl v).fixed = s.fixed := by simp [State.wdCtrl]
@[simp] theorem State.fixed_wdKick (v) : (s.wdKick v).fixed = s.fixed := by simp [State.wdKick]
@[simp] theorem State.fixed_wdExpire : s.wdExpire.fixed = s.fixed := by simp [State.wdExpire]
@[simp] theorem State.fixed_wdWrite (o v) : (s.wdWrite o v).fixed = s.fixed := by simp [State.wdWrite]
@[simp] theorem State.fixed_relWrite (c v) : (s.relWrite c v).fixed = s.fixed := by simp [State.relWrite]
@[simp] theorem State.fixed_rstCore (v) : (s.rstCore v).fixed = s.fixed := by simp [State.rstCore]
@[simp] theorem State.fixed_rstWrite (o v) : (s.rstWrite o v).fixed = s.fixed := by simp [State.rstWrite]
@[simp] theorem State.fixed_pwrWrite (o v) : (s.pwrWrite o v).fixed = s.fixed := by simp [State.pwrWrite]
@[simp] theorem State.fixed_firstFrame : s.firstFrame.fixed = s.fixed := by unfold State.firstFrame; split <;> simp
@[simp] theorem State.fixed_rtcStart : s.rtcStart.fixed = s.fixed := by simp [State.rtcStart]

/-! ### Accesses to register pages (Machine/Pages.lean) -/

@[simp] theorem State.fixed_commitRegs (p) : (s.commitRegs p).fixed = s.fixed := by simp [State.commitRegs]
@[simp] theorem State.fixed_commitHook (p lane prbs) :
    (s.commitHook p lane prbs).fixed = s.fixed := by unfold State.commitHook; split <;> simp
@[simp] theorem State.fixed_commitPage (p) : (s.commitPage p).fixed = s.fixed := by simp [State.commitPage]
@[simp] theorem State.fixed_shWrite (p v) : (s.shWrite p v).fixed = s.fixed := by simp [State.shWrite]
@[simp] theorem State.fixed_commitArm (p k) : (s.commitArm p k).fixed = s.fixed := by simp [State.commitArm]
@[simp] theorem State.fixed_frameCommits : s.frameCommits.fixed = s.fixed := by simp [State.frameCommits]
@[simp] theorem State.fixed_commitEvent (p) : (s.commitEvent p).fixed = s.fixed := by simp [State.commitEvent]
@[simp] theorem State.fixed_blockReset (p b) :
    (s.blockReset p b).fixed = s.fixed := by unfold State.blockReset; split <;> simp
@[simp] theorem State.fixed_softReset (p) : (s.softReset p).fixed = s.fixed := by
  simp only [State.softReset]
  repeat' split
  all_goals simp
@[simp] theorem State.fixed_pgCtrl (p v) : (s.pgCtrl p v).fixed = s.fixed := by simp [State.pgCtrl]
@[simp] theorem State.fixed_headWrite (p o v) : (s.headWrite p o v).fixed = s.fixed := by simp [State.headWrite]
@[simp] theorem State.fixed_blockWrite (b t n p o v) :
    (s.blockWrite b t n p o v).fixed = s.fixed := by unfold State.blockWrite; split <;> simp
@[simp] theorem State.fixed_blockRead (b p o) :
    (s.blockRead b p o).1.fixed = s.fixed := by unfold State.blockRead; split <;> simp
@[simp] theorem State.fixed_pageWrite (b t n p o v) : (s.pageWrite b t n p o v).fixed = s.fixed := by simp [State.pageWrite]
@[simp] theorem State.fixed_pageRead (b p o) : (s.pageRead b p o).1.fixed = s.fixed := by simp [State.pageRead]
@[simp] theorem State.fixed_finish (net n st v size) :
    (s.finish net n st v size).fixed = s.fixed := by unfold State.finish; split <;> simp
@[simp] theorem State.fixed_hold (a net) : (s.hold a net).fixed = s.fixed := by simp only [State.hold, State.fixed_update]
@[simp] theorem State.fixed_lockAnswer : s.lockAnswer.fixed = s.fixed := by simp [State.lockAnswer]
@[simp] theorem State.fixed_pageAccess (a net) : (s.pageAccess a net).fixed = s.fixed := by
  simp only [State.pageAccess]
  repeat' split
  all_goals simp
@[simp] theorem State.fixed_busAccess (a net) : (s.busAccess a net).fixed = s.fixed := by
  simp only [State.busAccess]
  repeat' split
  all_goals simp
@[simp] theorem State.fixed_access (a) : (s.access a).fixed = s.fixed := by simp [State.access]
@[simp] theorem State.fixed_drain : s.drain.fixed = s.fixed := by simp [State.drain]
@[simp] theorem State.fixed_softResetDone (p) : (s.softResetDone p).fixed = s.fixed := by simp [State.softResetDone]
@[simp] theorem State.fixed_lockChecked : s.lockChecked.fixed = s.fixed := by simp [State.lockChecked]
@[simp] theorem State.fixed_apertureAccess (w n q cls write o v) :
    (s.apertureAccess w n q cls write o v).fixed = s.fixed := by simp [State.apertureAccess]
@[simp] theorem State.fixed_put (w p o v) : (s.put w p o v).fixed = s.fixed := by simp [State.put]
@[simp] theorem State.fixed_onSys {f : State → State} (h : ∀ s, (f s).fixed = s.fixed) : (s.onSys f).fixed = s.fixed := by
  simp [State.onSys, h]
@[simp] theorem State.fixed_take (w p o) : (s.take w p o).fixed = s.fixed := by simp [State.take]

/-! ### Line starts and frame boundaries (Machine/Frame.lean) -/

@[simp] theorem State.fixed_lineHooks : s.lineHooks.fixed = s.fixed := by simp [State.lineHooks]
@[simp] theorem State.fixed_frameWork : s.frameWork.fixed = s.fixed := by simp [State.frameWork]
@[simp] theorem State.fixed_frameBoundary : s.frameBoundary.fixed = s.fixed := by simp [State.frameBoundary]
@[simp] theorem State.fixed_lineStart (m) : (s.lineStart m).fixed = s.fixed := by simp [State.lineStart]
@[simp] theorem State.fixed_loadVt : s.loadVt.fixed = s.fixed := by simp [State.loadVt]
@[simp] theorem State.fixed_reanchor (cause m) : (s.reanchor cause m).fixed = s.fixed := by
  simp only [State.reanchor, State.fixed_ite, State.fixed_w, State.fixed_ev, State.fixed_lineHooks,
    State.fixed_frameBoundary, State.fixed_loadVt, State.fixed_measure, State.fixed_skipFire, State.fixed_trkCancel, ite_self]
@[simp] theorem State.fixed_endCoast : s.endCoast.fixed = s.fixed := by simp [State.endCoast]
@[simp] theorem State.fixed_masterLineStart (m) : (s.masterLineStart m).fixed = s.fixed := by simp [State.masterLineStart]
@[simp] theorem State.fixed_masterFrameStart (m mode) :
    (s.masterFrameStart m mode).fixed = s.fixed := by simp [State.masterFrameStart]
@[simp] theorem State.fixed_virtualLineStart : s.virtualLineStart.fixed = s.fixed := by simp [State.virtualLineStart]
@[simp] theorem State.fixed_coastLineStart : s.coastLineStart.fixed = s.fixed := by simp [State.coastLineStart]
@[simp] theorem State.fixed_blankLineStart : s.blankLineStart.fixed = s.fixed := by simp [State.blankLineStart]
@[simp] theorem State.fixed_masterLine (m) : (s.masterLine m).fixed = s.fixed := by unfold State.masterLine; split <;> simp
@[simp] theorem State.fixed_masterFrame (m mode) :
    (s.masterFrame m mode).fixed = s.fixed := by unfold State.masterFrame; split <;> simp
@[simp] theorem State.fixed_trackerLine (c) : (s.trackerLine c).fixed = s.fixed := by simp [State.trackerLine]
@[simp] theorem State.fixed_trackerFrame (c) : (s.trackerFrame c).fixed = s.fixed := by simp [State.trackerFrame]
@[simp] theorem State.fixed_camLineStart (c) : (s.camLineStart c).fixed = s.fixed := by simp [State.camLineStart]
@[simp] theorem State.fixed_csiFs (n vc num hdr) : (s.csiFs n vc num hdr).fixed = s.fixed := by simp [State.csiFs]
@[simp] theorem State.fixed_csiLong (n vc dt hdr wc payload crcOk fifo fill) :
    (s.csiLong n vc dt hdr wc payload crcOk fifo fill).fixed = s.fixed := by simp [State.csiLong]
@[simp] theorem State.fixed_dpFrameLatch (p) : (s.dpFrameLatch p).fixed = s.fixed := by simp [State.dpFrameLatch]
@[simp] theorem State.fixed_dpLineStart (p late) : (s.dpLineStart p late).fixed = s.fixed := by simp [State.dpLineStart]

/-! ### Packets on the mesh and at their NIs (Machine/Traffic.lean) -/

@[simp] theorem State.fixed_awlLeave (i d f) : (s.awlLeave i d f).fixed = s.fixed := by simp [State.awlLeave]
@[simp] theorem State.fixed_awlPass (d vc) : (s.awlPass d vc).fixed = s.fixed := by
  simp only [State.awlPass]
  refine (fixed_foldl (fun s a => ?_) _ _).trans (by simp)
  repeat' split
  all_goals simp
@[simp] theorem State.fixed_cross (f) : (s.cross f).1.fixed = s.fixed := by
  simp only [State.cross, State.fixed_fst_ite]
  split
  · rfl
  · split
    · next h => simpa using State.fixed_of_eq h (s.fixed_awlUnit _ _ _)
    · next h => simpa using State.fixed_of_eq h (s.fixed_awlUnit _ _ _)
@[simp] theorem State.fixed_rtDrop (r port parity h) : (s.rtDrop r port parity h).fixed = s.fixed := by simp [State.rtDrop]
@[simp] theorem State.fixed_dropFlight (i) :
    (s.dropFlight i).fixed = s.fixed := by simp only [State.dropFlight, State.fixed_update]
@[simp] theorem State.fixed_routerTake (i f r port k p bads) :
    (s.routerTake i f r port k p bads).fixed = s.fixed := by simp [State.routerTake]
@[simp] theorem State.fixed_routerPacket (i hb b) : (s.routerPacket i hb b).fixed = s.fixed := by
  simp only [State.routerPacket]
  repeat' split
  any_goals simp
  · next h => simpa using State.fixed_of_eq h (State.fixed_cross _ _)
  · next h _ => simpa using State.fixed_of_eq h (State.fixed_cross _ _)
  · next h _ => simpa using State.fixed_of_eq h (State.fixed_cross _ _)
@[simp] theorem State.fixed_serve (n p) : (s.serve n p).fixed = s.fixed := by unfold State.serve; split <;> simp
@[simp] theorem State.fixed_admitReq (n p) : (s.admitReq n p).fixed = s.fixed := by
  simp only [State.admitReq]
  repeat' split
  all_goals simp
@[simp] theorem State.fixed_onceGate {go : State → State} (h : ∀ s, (go s).fixed = s.fixed) (n p) :
    (s.onceGate n p go).fixed = s.fixed := by
  simp only [State.onceGate]
  repeat' split
  all_goals simp [h]
@[simp] theorem State.fixed_eject (n f hb b) : (s.eject n f hb b).1.fixed = s.fixed := by
  simp only [State.eject]
  split <;> next h => simpa using State.fixed_of_eq h (s.fixed_cross _)
@[simp] theorem State.fixed_targetTake (n p) : (s.targetTake n p).fixed = s.fixed := by simp [State.targetTake]
@[simp] theorem State.fixed_targetRequest (i hb b) : (s.targetRequest i hb b).fixed = s.fixed := by
  simp only [State.targetRequest]
  repeat' split
  all_goals try simp
  all_goals next h => simpa using State.fixed_of_eq h (State.fixed_eject _ _ _ _ _)
@[simp] theorem State.fixed_deliver (n p) : (s.deliver n p).fixed = s.fixed := by simp [State.deliver]
@[simp] theorem State.fixed_responseTake (n p) : (s.responseTake n p).fixed = s.fixed := by simp [State.responseTake]
@[simp] theorem State.fixed_weltResponse (i hb b) : (s.weltResponse i hb b).fixed = s.fixed := by
  simp only [State.weltResponse]
  repeat' split
  all_goals try simp
  all_goals next h => simpa using State.fixed_of_eq h (State.fixed_eject _ _ _ _ _)
@[simp] theorem State.fixed_reqTimeout (n tid) : (s.reqTimeout n tid).fixed = s.fixed := by simp [State.reqTimeout]
@[simp] theorem State.fixed_domPass (d) : (s.domPass d).fixed = s.fixed := by
  have h (s : State) (n p) : (s.onceGate n p fun s => s.serve n p).fixed = s.fixed :=
    s.fixed_onceGate (fun t => t.fixed_serve n p) n p
  simp [State.domPass, h]
@[simp] theorem State.fixed_domDone (d) : (s.domDone d).fixed = s.fixed := by unfold State.domDone; split <;> simp
@[simp] theorem State.fixed_dramDone (code crc) : (s.dramDone code crc).fixed = s.fixed := by simp [State.dramDone]
@[simp] theorem State.fixed_wakeFail (n) : (s.wakeFail n).fixed = s.fixed := by
  simp only [State.wakeFail]
  repeat' split
  · rfl
  · rfl
  · rw [State.fixed_err, fixed_foldl (fun s e => by split <;> simp), fixed_foldl (fun s p => s.fixed_respond ..)]
    simp
@[simp] theorem State.fixed_awlRelease (i) : (s.awlRelease i).fixed = s.fixed := by unfold State.awlRelease; split <;> simp
@[simp] theorem State.fixed_probeMark (m) : (s.probeMark m).fixed = s.fixed := by simp [State.probeMark]
@[simp] theorem State.fixed_kDone : s.kDone.fixed = s.fixed := by unfold State.kDone; split <;> simp
@[simp] theorem State.fixed_credDone : s.credDone.fixed = s.fixed := by simp [State.credDone]

/-! ### Commands of the AGU slot (Machine/CmdAgu.lean) -/

@[simp] theorem State.fixed_aguRow (c pre op post) : (s.aguRow c pre op post).fixed = s.fixed := by simp [State.aguRow]

/-! ### Commands of the CTL slot (Machine/CmdCtl.lean) -/

@[simp] theorem State.fixed_ctlRow (c pre op post) : (s.ctlRow c pre op post).fixed = s.fixed := by simp [State.ctlRow]

/-! ### Commands of the MAC slot (Machine/CmdMac.lean) -/

@[simp] theorem State.fixed_macRow (c pre hi op post) :
    (s.macRow c pre hi op post).fixed = s.fixed := by simp [State.macRow]
end

/-! ### Commands -/

theorem fixed_of_next {o : Host.Outcome State Fault Refusal} {s t u : State} (ho : o = .next u) (hu : u.fixed = s.fixed)
    (h : o = .next t) : t.fixed = s.fixed := by
  rw [ho] at h; cases h; exact hu

/-- Each command is one function of the state, whose lemma stands above. -/
theorem exec_fixed {i : Instr} {s t : State} (h : exec i s = .next t) : t.fixed = s.fixed := by
  cases i
  all_goals exact fixed_of_next rfl (by simp) h

/-- Settles O4: every function that a command calls keeps the fixed part. -/
theorem noCommandTouchesTheQueue : Obligations.NoCommandTouchesTheQueue := by
  intro i s t h
  simpa only [State.fixed, Prod.mk.injEq] using exec_fixed h

end Sys2Proof.Machine
end

section
/-! The header of a page after a soft reset (03 R93, R568). -/

namespace Sys2Proof.Machine

/-- The part after reset with a Seam fault in the SYS page's ERR_CODE (R568), whose register is listed a second time, as 0. -/
def faultListedTwice : State :=
  { State.reset with regs := [(rkey pgSYS 0x028, 0x6010), (rkey pgSYS 0x028, 0)] }

/-- T0 at the Keeper's NI. -/
def keeperWriter : By := ⟨0, 14⟩

/-- The list is not canonical; the statement asks that of no state. -/
theorem faultListedTwice_not_canon : ¬ faultListedTwice.Canon := by decide +kernel

theorem faultListedTwice_writes : faultListedTwice.Writes keeperWriter .sys pgSYS 0x00C := by decide +kernel

/-- ERR_CODE reads as the first pair listed: the Seam fault. -/
theorem faultListedTwice_errCode : faultListedTwice.r pgSYS 0x028 = 0x6010 := by decide +kernel

/-- The reset stores the pairs of the page again one after the other, so that the second pair stays. -/
theorem errCode_put_softReset_faultListedTwice :
    (faultListedTwice.put keeperWriter pgSYS 0x00C (withBit 0 1)).r pgSYS 0x028 = 0 := by decide +kernel

/-- Refutes O17: a soft reset of the SYS page reads ERR_CODE's first pair to find the Seam fault, then keeps the last, so that a
state that lists the register twice loses the fault. -/
theorem not_headerClearsAndSoftReset : ¬ Obligations.HeaderClearsAndSoftReset := by
  rintro ⟨-, -, hreset, -⟩
  obtain ⟨t, ht, -, -, -, -, -, herr, -⟩ := hreset faultListedTwice keeperWriter .sys 0 0 faultListedTwice_writes
  obtain rfl : faultListedTwice.put keeperWriter pgSYS 0x00C (withBit 0 1) = t := Host.Outcome.next.inj ht
  have hfault : faultListedTwice.f pgSYS 0x028 15 0 = 0x6010 := by
    rw [State.f, faultListedTwice_errCode]; decide
  rw [if_pos ⟨rfl, hfault⟩] at herr
  have hkept := herr.1
  rw [show ((0 : Fin 224) : Nat) = pgSYS from rfl, errCode_put_softReset_faultListedTwice, faultListedTwice_errCode] at hkept
  exact absurd hkept (by decide)

end Sys2Proof.Machine
end

section
/-! The registers that an operation leaves alone, and the events it leaves raised (03 R77, R87). -/

namespace Sys2Proof.Machine

/-- Registers of two pages never share a key. -/
theorem rkey_ne_of_page_ne {p p' o o' : Nat} (hp : p' ≠ p) (ho : o < 4096) (ho' : o' < 4096) : rkey p' o' ≠ rkey p o :=
  fun h => hp ((rkey_inj ho' ho).mp h).1

/-- Raising an event writes one register. -/
theorem State.r_ev_ne (s : State) {p p' o' : Nat} (b : Nat) (h : rkey p' o' ≠ rkey p 0x014) :
    (s.ev p b).r p' o' = s.r p' o' := s.r_sf_ne b b 1 h

theorem State.f_ev_ne (s : State) {p p' o' : Nat} (b hi lo : Nat) (h : rkey p' o' ≠ rkey p 0x014) :
    (s.ev p b).f p' o' hi lo = s.f p' o' hi lo := s.f_sf_ne b b hi lo 1 h

/-- An event raised reads as 1. -/
theorem State.f_ev_same (s : State) (p : Nat) {b : Nat} (hb : b < 32) : (s.ev p b).f p 0x014 b b = 1 := by
  have h := s.f_sf_same p 0x014 b b 1 hb le_rfl
  rwa [Nat.add_sub_cancel_left] at h

/-- Raising an event clears none. -/
theorem State.f_ev_of_raised (s : State) {p p' b b' : Nat} (hb : b < 32) (h : s.f p' 0x014 b' b' = 1) :
    (s.ev p b).f p' 0x014 b' b' = 1 := by
  by_cases hp : p' = p
  · subst hp
    by_cases hbb : b' = b
    · subst hbb; exact s.f_ev_same p' hb
    · exact (s.f_sf_other 1 hb (by omega)).trans h
  · exact (s.f_ev_ne b _ _ (rkey_ne_of_page_ne hp (by decide) (by decide))).trans h

/-- The code of the error just recorded. -/
theorem State.f_err_code (s : State) (p code info : Nat) : (s.err p code info).f p 0x028 15 0 = code % 65536 := by
  have hne (o : Nat) (ho : o ≠ 0x028) (ho' : o < 4096) : rkey p 0x028 ≠ rkey p o := by unfold rkey; omega
  simp only [State.err, State.cntUp]
  rw [State.f_ev_ne _ _ _ _ (hne 0x014 (by decide) (by decide)), State.f, State.r_w_ne _ _ (hne 0x02C (by decide) (by decide)),
    ← State.f, State.f_sf_other _ _ (by decide) (by decide), State.f_sf_same _ _ _ _ _ _ (by decide) (by decide)]
  rfl

/-- An error raises event bit 31 of its page. -/
theorem State.f_err_event (s : State) (p code info : Nat) : (s.err p code info).f p 0x014 31 31 = 1 :=
  State.f_ev_same _ p (by decide)

/-! ### What is left alone -/

/-- `t` differs from `s` neither in memory, the line position, the clocks, the Seam and the lamps held, nor in a register of a
page outside `P`; and every event raised in `s` is raised in `t`. -/
structure State.Within (P : Nat → Prop) (s t : State) : Prop where
  mem : t.mem = s.mem
  ltb : t.ltb = s.ltb
  clk : t.clk = s.clk
  seam : t.seam = s.seam
  held : t.light.hold = s.light.hold
  reg : ∀ p o, ¬ P p → o < 4096 → t.r p o = s.r p o
  raised : ∀ p b, s.f p 0x014 b b = 1 → t.f p 0x014 b b = 1

namespace State.Within

variable {P : Nat → Prop} {s t u : State}

theorem refl (P : Nat → Prop) (s : State) : Within P s s := ⟨rfl, rfl, rfl, rfl, rfl, fun _ _ _ _ => rfl, fun _ _ h => h⟩

theorem trans (h : Within P s t) (h' : Within P t u) : Within P s u where
  mem := h'.mem.trans h.mem
  ltb := h'.ltb.trans h.ltb
  clk := h'.clk.trans h.clk
  seam := h'.seam.trans h.seam
  held := h'.held.trans h.held
  reg p o hp ho := (h'.reg p o hp ho).trans (h.reg p o hp ho)
  raised p b hb := h'.raised p b (h.raised p b hb)

theorem field (h : Within P s t) {p o : Nat} (hi lo : Nat) (hp : ¬ P p) (ho : o < 4096) : t.f p o hi lo = s.f p o hi lo := by
  rw [State.f, h.reg p o hp ho, State.f]

/-- Units behind the pages may change, where the registers stay. -/
theorem update (h : Within P s t) (hm : u.mem = t.mem) (hl : u.ltb = t.ltb) (hc : u.clk = t.clk) (hs : u.seam = t.seam)
    (hh : u.light.hold = t.light.hold) (hr : u.regs = t.regs) (hg : u.grade = t.grade) : Within P s u :=
  h.trans ⟨hm, hl, hc, hs, hh, fun p o _ _ => by rw [State.r, hr, hg, State.r],
    fun p b hb => by rw [State.f, State.r, hr, hg]; exact hb⟩

/-- A register that is not the event register of its page. -/
theorem w (h : Within P s t) {p o : Nat} (v : Word) (hp : P p) (ho : o < 4096) (hev : o ≠ 0x014) : Within P s (t.w p o v) := by
  refine h.trans ⟨rfl, rfl, rfl, rfl, rfl, fun p' o' hp' ho' => ?_, fun p' b hb => ?_⟩
  · exact t.r_w_ne v (rkey_ne_of_page_ne (by rintro rfl; exact hp' hp) ho ho')
  · have hne : rkey p' 0x014 ≠ rkey p o := fun e => hev ((rkey_inj (by decide) ho).mp e).2.symm
    rwa [State.f, t.r_w_ne v hne]

theorem sf (h : Within P s t) {p o : Nat} (hi lo x : Nat) (hp : P p) (ho : o < 4096) (hev : o ≠ 0x014) :
    Within P s (t.sf p o hi lo x) := h.w _ hp ho hev

theorem setW1 (h : Within P s t) {p o : Nat} (b : Nat) (hp : P p) (ho : o < 4096) (hev : o ≠ 0x014) :
    Within P s (t.setW1 p o b) := (h.sf b b 1 hp ho hev).update rfl rfl rfl rfl rfl rfl rfl

theorem cntUp (h : Within P s t) {p o : Nat} (hi lo n : Nat) (hp : P p) (ho : o < 4096) (hev : o ≠ 0x014) :
    Within P s (t.cntUp p o hi lo n) := h.sf hi lo _ hp ho hev

theorem ev (h : Within P s t) {p b : Nat} (hp : P p) (hb : b < 32) : Within P s (t.ev p b) :=
  h.trans ⟨rfl, rfl, rfl, rfl, rfl,
    fun _ _ hp' ho' => t.r_ev_ne b (rkey_ne_of_page_ne (by rintro rfl; exact hp' hp) (by decide) ho'),
    fun _ _ => t.f_ev_of_raised hb⟩

theorem ite {c : Prop} [Decidable c] {a b : State} (ha : Within P s a) (hb : Within P s b) : Within P s (if c then a else b) := by
  split
  · exact ha
  · exact hb

theorem err (h : Within P s t) {p : Nat} (code info : Nat) (hp : P p) : Within P s (t.err p code info) := by
  have hovf : Within P s (if t.f p 0x028 15 0 = 0 then t else t.sf p 0x028 30 30 1) :=
    ite h (h.sf _ _ _ hp (by decide) (by decide))
  exact (((hovf.sf _ _ _ hp (by decide) (by decide)).cntUp _ _ _ hp (by decide) (by decide)).w _ hp (by decide) (by decide)).ev
    hp (by decide)

theorem foldl {α : Type} {f : State → α → State} (hf : ∀ s a, Within P s (f s a)) (l : List α) (h : Within P s t) :
    Within P s (l.foldl f t) := by
  induction l generalizing t with
  | nil => exact h
  | cons a l ih => exact ih (h.trans (hf t a))

end State.Within

end Sys2Proof.Machine
end

section
/-! The Seam (01 R20, R21): transfers, the hold and the refresh. -/

namespace Sys2Proof.Machine

namespace State.Within

variable {P : Nat → Prop} {s t : State}

/-! ### CAN0 and LIN lose their frames as the hold begins -/

theorem updCan (h : Within P s t) (n : Nat) (f : Can → Can) : Within P s (t.updCan n f) := h.update rfl rfl rfl rfl rfl rfl rfl

theorem canPick (h : Within P s t) (n : Nat) : Within P s (t.canPick n) :=
  ite (h.updCan n _) (ite h (h.updCan n _))

theorem canMode (h : Within P s t) {n : Nat} (hp : P (pgCAN n)) : Within P s (t.canMode n) :=
  ite h (ite ((h.updCan n _).ev hp (by decide)) (h.updCan n _))

theorem canError (h : Within P s t) {n : Nat} (lost : Bool) (dTec dRec : Nat) (hp : P (pgCAN n)) :
    Within P s (t.canError n lost dTec dRec) := by
  have hcount : Within P s (((t.cntUp (pgCAN n) 0x054 15 0 1).updCan n fun c =>
      { c with txe := c.txe + dTec, rxe := min 255 (c.rxe + dRec) }).canMode n) :=
    ((h.cntUp _ _ _ hp (by decide) (by decide)).updCan n _).canMode hp
  exact ite h (((ite h hcount).updCan n _).canPick n)

/-- In a hold CAN0's frame ends in an error. -/
theorem canSent_hold (h : Within P s t) (hold : t.seam.hold = true) (hp : P (pgCAN 0)) : Within P s (t.canSent 0) := by
  unfold State.canSent
  split
  · exact h
  · rw [if_pos (by simp [State.canCut, hold])]
    exact h.canError _ _ _ hp

theorem updLin (h : Within P s t) (f : Lin → Lin) : Within P s (t.updLin f) := h.update rfl rfl rfl rfl rfl rfl rfl

/-- In a hold a LIN frame ends in an error, so that its slot's data stay. -/
theorem linDone_hold (h : Within P s t) (hold : t.seam.hold = true) (hp : P pgLIN) : Within P s (t.linDone 0 []) := by
  unfold State.linDone
  split
  · exact h
  · next k _ =>
    simp only [hold, if_true]
    rw [if_pos (by split <;> decide)]
    exact (((h.updLin _).sf _ _ _ hp (by decide) (by decide)).sf _ _ _ hp (by decide) (by decide)).ev hp (by decide)

/-! ### The flags of the power die that wait for the refresh -/

theorem grpAct (h : Within P s t) (g : Nat) (hp : P pgFG) : Within P s (t.grpAct g) := by
  have hev : Within P s (t.ev pgFG 0) := h.ev hp (by decide)
  have hoff : Within P s (((t.ev pgFG 0).sf pgFG 0x044 (16 + g) (16 + g) 1).ev pgFG 1) :=
    (hev.sf _ _ _ hp (by decide) (by decide)).ev hp (by decide)
  unfold State.grpAct
  exact ite hev (hoff.update rfl rfl rfl rfl rfl rfl rfl)

theorem lampFlag (h : Within P s t) (c : Nat) (short : Bool) (hmx : P pgMX) (hld : P pgLD) (hbld : P pgBLD) (hfg : P pgFG) :
    Within P s (t.lampFlag c short) := by
  unfold State.lampFlag
  refine grpAct ?_ _ hfg
  split
  · next hc =>
    exact ((h.sf _ _ _ hmx (by split <;> omega) (by split <;> omega)).ev hmx (by decide)).err _ _ hmx
  · refine ite ?_ ?_
    · exact ((h.sf _ _ _ hld (by split <;> decide) (by split <;> decide)).ev hld (by decide)).err _ _ hld
    · exact ((h.sf _ _ _ hbld (by decide) (by decide)).ev hbld (by decide)).err _ _ hbld

theorem rowFlag (h : Within P s t) (r : Nat) (hmx : P pgMX) (hfg : P pgFG) : Within P s (t.rowFlag r) := by
  have hrow := (((h.sf r r 1 hmx (o := 0x320) (by decide) (by decide)).ev (b := 2) hmx (by decide)).ev (b := 3) hmx
    (by decide)).err 0x8913 (16 * r) hmx
  exact hrow.foldl (fun u g => (refl P u).grpAct g hfg) _

theorem ovpFlag (h : Within P s t) (v : Nat) (hp : P pgBLD) : Within P s (t.ovpFlag v) :=
  (((h.sf _ _ _ hp (by decide) (by decide)).sf _ _ _ hp (by decide) (by decide)).ev hp (by decide)).err _ _ hp

theorem updLight_pend (h : Within P s t) (l : List PdFlag) : Within P s (t.updLight fun x => { x with pend := l }) :=
  h.update rfl rfl rfl rfl rfl rfl rfl

/-- The flags that waited act on their pages. -/
theorem pdFlush (h : Within (fun _ => True) s t) : Within (fun _ => True) s t.pdFlush := by
  refine foldl (fun u x => ?_) _ (h.updLight_pend [])
  have hu := refl (fun _ => True) u
  cases x with
  | lamp c short => exact hu.lampFlag c short trivial trivial trivial trivial
  | row r => exact hu.rowFlag r trivial trivial
  | headroom n => exact (hu.setW1 n trivial (by decide) (by decide)).ev trivial (by decide)
  | ovp v => exact hu.ovpFlag v trivial

theorem supplyTold (h : Within P s t) (hld : P pgLD) (hpwr : P pgPWR) : Within P s t.supplyTold := by
  have htold : Within P s (t.updPwr fun p => { p with lowL := p.low, shedL := p.shed, ovL := p.ov }) :=
    h.update rfl rfl rfl rfl rfl rfl rfl
  have hev {u : State} (h : Within P s u) {b : Nat} (hb : b < 32) : Within P s (u.ev pgPWR b) := h.ev hpwr hb
  have hlow := ite htold (c := t.pwr.low = t.pwr.lowL)
    (hev (htold.sf 0 0 (b2n t.pwr.low) (o := 0x044) hld (by decide) (by decide)) (b := 0) (by decide))
  have hshed := ite (c := ((t.pwr.shed || t.pwr.ov) && !(t.pwr.shedL || t.pwr.ovL)) = true) (hev hlow (b := 1) (by decide)) hlow
  unfold State.supplyTold
  exact ite h (ite (hev hshed (by decide)) hshed)

end State.Within

/-! ### The hold begins and ends -/

/-- The state with another Seam. -/
def State.withSeam (s : State) (m : Seam) : State := { s with seam := m }

section
variable (s : State) (m : Seam)

@[simp] theorem State.seam_withSeam : (s.withSeam m).seam = m := rfl
@[simp] theorem State.mem_withSeam : (s.withSeam m).mem = s.mem := rfl
@[simp] theorem State.ltb_withSeam : (s.withSeam m).ltb = s.ltb := rfl
@[simp] theorem State.f_withSeam (p o hi lo : Nat) : (s.withSeam m).f p o hi lo = s.f p o hi lo := rfl
@[simp] theorem State.mem_updLight (f) : (s.updLight f).mem = s.mem := rfl
@[simp] theorem State.ltb_updLight (f) : (s.updLight f).ltb = s.ltb := rfl
@[simp] theorem State.seam_updLight (f) : (s.updLight f).seam = s.seam := rfl
@[simp] theorem State.light_updLight (f) : (s.updLight f).light = f s.light := rfl
@[simp] theorem State.f_updLight (f) (p o hi lo : Nat) : (s.updLight f).f p o hi lo = s.f p o hi lo := rfl
@[simp] theorem State.mem_lightFreeze : s.lightFreeze.mem = s.mem := rfl
@[simp] theorem State.ltb_lightFreeze : s.lightFreeze.ltb = s.ltb := rfl
@[simp] theorem State.seam_lightFreeze : s.lightFreeze.seam = s.seam := rfl
@[simp] theorem State.f_lightFreeze (p o hi lo : Nat) : s.lightFreeze.f p o hi lo = s.f p o hi lo := rfl
end

/-- The Seam in a hold that waits for its recovery. -/
def Seam.toHold (m : Seam) : Seam := { m with hold := true, refreshing := false, goodUp := 0, goodDown := 0 }

/-- A hold that waits for its recovery goes on. -/
theorem State.seamFault_waiting (s : State) (hold : s.seam.hold = true) (hr : s.seam.refreshing = false) :
    s.seamFault = s.withSeam s.seam.toHold := by
  simp [State.seamFault, State.withSeam, Seam.toHold, hold, hr]

/-- A fault during the refresh is recorded and begins a new hold. -/
theorem State.seamFault_refreshing (s : State) (hold : s.seam.hold = true) (hr : s.seam.refreshing = true) :
    s.seamFault = (s.err pgSYS 0x6010 0).withSeam s.seam.toHold := by
  simp [State.seamFault, State.withSeam, Seam.toHold, hold, hr]

/-- A fault outside a hold is recorded, freezes the lamps and begins the hold; CAN0 and LIN lose their frames. -/
theorem State.seamFault_running (s : State) (hold : s.seam.hold = false) :
    s.seamFault = ((((s.err pgSYS 0x6010 0).ev pgLD 3).lightFreeze.withSeam s.seam.toHold).canSent 0).linDone 0 [] := by
  simp [State.seamFault, State.withSeam, Seam.toHold, hold]

/-- Losing the frames leaves the SYS page alone. -/
theorem State.seamFault_running_within (s : State) (hold : s.seam.hold = false) :
    State.Within (· ≠ pgSYS) (((s.err pgSYS 0x6010 0).ev pgLD 3).lightFreeze.withSeam s.seam.toHold) s.seamFault := by
  rw [s.seamFault_running hold]
  have hcan := State.Within.canSent_hold
    (.refl (· ≠ pgSYS) (((s.err pgSYS 0x6010 0).ev pgLD 3).lightFreeze.withSeam s.seam.toHold)) rfl (by decide)
  exact hcan.linDone_hold (congrArg Seam.hold hcan.seam) (by decide)

/-- A Seam fault begins a hold, or a new one, and leaves memory and the line position alone. -/
theorem State.seamFault_hold (s : State) : s.seamFault.seam.hold = true ∧ s.seamFault.seam.refreshing = false ∧
    s.seamFault.mem = s.mem ∧ s.seamFault.ltb = s.ltb := by
  cases hold : s.seam.hold with
  | true =>
    cases hr : s.seam.refreshing with
    | true => simp [s.seamFault_refreshing hold hr, Seam.toHold]
    | false => simp [s.seamFault_waiting hold hr, Seam.toHold]
  | false =>
    have h := s.seamFault_running_within hold
    simp [h.seam, h.mem, h.ltb, Seam.toHold]

/-- Unless a hold waits for its recovery, the fault stands in the SYS page. -/
theorem State.seamFault_recorded (s : State) (h : s.seam.hold = false ∨ s.seam.refreshing = true) :
    s.seamFault.f pgSYS 0x028 15 0 = 0x6010 ∧ s.seamFault.f pgSYS 0x014 31 31 = 1 := by
  have hcode : (s.err pgSYS 0x6010 0).f pgSYS 0x028 15 0 = 0x6010 := s.f_err_code _ _ _
  have hev := s.f_err_event pgSYS 0x6010 0
  cases hold : s.seam.hold with
  | true =>
    rw [s.seamFault_refreshing hold (by simpa [hold] using h), State.f_withSeam, State.f_withSeam]
    exact ⟨hcode, hev⟩
  | false =>
    have hw := s.seamFault_running_within hold
    rw [hw.field 15 0 (by decide) (by decide), hw.field 31 31 (by decide) (by decide)]
    simp only [State.f_withSeam, State.f_lightFreeze]
    rw [State.f_ev_ne _ 3 15 0 (by decide), State.f_ev_ne _ 3 31 31 (by decide)]
    exact ⟨hcode, hev⟩

/-- The lamps follow again; the flags that waited act on their pages. -/
theorem State.lightThaw_within (s : State) :
    State.Within (fun _ => True) (s.updLight fun l => { l with hold := [] }) s.lightThaw := by
  unfold State.lightThaw
  exact State.Within.pdFlush ((State.Within.refl _ _).update rfl rfl rfl rfl rfl rfl rfl)

/-- The refresh done: the hold is over, no lamp is held, and LD's event 3 is raised. -/
theorem State.seamRefreshed_spec (s : State) (h : s.seam.refreshing = true) :
    s.seamRefreshed.seam.hold = false ∧ s.seamRefreshed.seam.refreshing = false ∧ s.seamRefreshed.light.hold = [] ∧
      s.seamRefreshed.f pgLD 0x014 3 3 = 1 ∧ s.seamRefreshed.mem = s.mem ∧ s.seamRefreshed.ltb = s.ltb := by
  have heq : s.seamRefreshed =
      ((s.withSeam { s.seam with hold := false, refreshing := false }).ev pgLD 3).lightThaw.supplyTold := if_pos h
  have hev := State.f_ev_same (s.withSeam { s.seam with hold := false, refreshing := false }) pgLD (b := 3) (by decide)
  have hw := (State.lightThaw_within ((s.withSeam { s.seam with hold := false, refreshing := false }).ev pgLD 3)).supplyTold
    trivial trivial
  rw [heq, hw.seam, hw.held, hw.mem, hw.ltb]
  refine ⟨rfl, rfl, rfl, hw.raised pgLD 3 ?_, rfl, rfl⟩
  rw [State.f_updLight, hev]

/-! ### Transfers -/

/-- The Seam after a transfer of one direction, its runs of failed and good transfers being `fail` and `good`. -/
def State.seamCount (s : State) (up : Bool) (fail good : Nat) : State :=
  s.withSeam (if up then { s.seam with failUp := fail, goodUp := good } else { s.seam with failDown := fail, goodDown := good })

theorem State.seamTransfer_good (s : State) (up : Bool) (h : s.domRun 1 = true) :
    s.seamTransfer up true = s.seamCount up 0 (min 64 ((if up then s.seam.goodUp else s.seam.goodDown) + 1)) := by
  cases up <;> simp [State.seamTransfer, State.seamCount, State.withSeam, h]

theorem State.seamTransfer_failed (s : State) (up : Bool) (h : s.domRun 1 = true)
    (h8 : (if up then s.seam.failUp else s.seam.failDown) + 1 ≠ 8) :
    s.seamTransfer up false = s.seamCount up ((if up then s.seam.failUp else s.seam.failDown) + 1) 0 := by
  cases up <;> simp_all [State.seamTransfer, State.seamCount, State.withSeam]

theorem State.seamTransfer_eighth (s : State) (up : Bool) (h : s.domRun 1 = true)
    (h8 : (if up then s.seam.failUp else s.seam.failDown) + 1 = 8) :
    s.seamTransfer up false = (s.seamCount up 0 0).seamFault := by
  cases up <;> simp_all [State.seamTransfer, State.seamCount, State.withSeam]

/-- Settles O9: counting leaves everything but the Seam alone, the eighth failure is `State.seamFault`, and the refresh done is
`State.seamRefreshed`. -/
theorem seamTransfersAndHold : Obligations.SeamTransfersAndHold := by
  refine ⟨fun s up hrun => ?_, fun s up hrun h8 => ?_, fun s up hrun h8 => ?_, fun s hrun hold hup hdown => ?_, fun s hr => ?_⟩
  · refine congrArg Host.Outcome.next ((s.seamTransfer_good up hrun).trans ?_)
    cases up <;> rfl
  · refine congrArg Host.Outcome.next ((s.seamTransfer_failed up hrun h8).trans ?_)
    cases up <;> rfl
  · have hseam : (s.seamCount up 0 0).seam.hold = s.seam.hold ∧ (s.seamCount up 0 0).seam.refreshing = s.seam.refreshing := by
      cases up <;> exact ⟨rfl, rfl⟩
    obtain ⟨hhold, href⟩ := hseam
    obtain ⟨hold, hr, hmem, hltb⟩ := (s.seamCount up 0 0).seamFault_hold
    refine ⟨_, congrArg Host.Outcome.next (s.seamTransfer_eighth up hrun h8), hold, hr, fun h => ?_, fun h h' => ?_, hmem, hltb⟩
    · exact State.seamFault_recorded _ (by rwa [hhold, href])
    · rw [State.seamFault_waiting _ (hhold.trans h) (href.trans h')]; rfl
  · exact congrArg Host.Outcome.next (if_pos ⟨hold, hup, hdown, hrun⟩)
  · exact ⟨_, rfl, s.seamRefreshed_spec hr⟩

end Sys2Proof.Machine
end

section
/-! The clocks (01 R29, R566; 02 R40, R41, R53): SYSPLL locks, the crystal is lost, the LTB changes its clock. -/

namespace Sys2Proof.Machine

namespace State.Within

variable {P : Nat → Prop} {s t : State}

/-! ### The lanes lose their reference -/

theorem updLn (h : Within P s t) (n : Nat) (f : Lane → Lane) : Within P s (t.updLn n f) := h.update rfl rfl rfl rfl rfl rfl rfl

theorem updLk (h : Within P s t) (n : Nat) (f : LinkSt → LinkSt) : Within P s (t.updLk n f) :=
  h.update rfl rfl rfl rfl rfl rfl rfl

theorem laneTrain (h : Within P s t) (n : Nat) (hp : P (pgLANE n)) : Within P s (t.laneTrain n) :=
  ((h.w _ hp (by decide) (by decide)).updLn n _).updLk n _

theorem linkDown (h : Within P s t) (n cause : Nat) (hlane : P (pgLANE n)) (hlink : P (pgLINK n)) :
    Within P s (t.linkDown n cause) := by
  unfold State.linkDown
  exact ite (((((h.updLk n _).sf _ _ _ hlink (by decide) (by decide)).cntUp _ _ _ hlink (by decide) (by decide)).ev hlink
    (by decide)).err _ _ hlink |>.laneTrain n hlane) h

theorem laneDown (h : Within P s t) (n cause : Nat) (hlane : P (pgLANE n)) (hlink : P (pgLINK n)) :
    Within P s (t.laneDown n cause) :=
  (h.linkDown n cause hlane hlink).updLn n _

theorem allLanes_laneDown (h : Within P s t) (cause : Nat) (hlane : ∀ n, P (pgLANE n)) (hlink : ∀ n, P (pgLINK n)) :
    Within P s (t.allLanes fun s n => s.laneDown n cause) :=
  h.foldl (fun u n => ite ((refl P u).laneDown n cause (hlane n) (hlink n)) (refl P u)) _

theorem updDp (h : Within P s t) (p : Nat) (f : Dp → Dp) : Within P s (t.updDp p f) := h.update rfl rfl rfl rfl rfl rfl rfl

theorem skpStop (h : Within P s t) : Within P s t.skpStop := by
  unfold State.skpStop
  split
  · exact h.update rfl rfl rfl rfl rfl rfl rfl
  · exact h

end State.Within

/-! ### The clock sources -/

/-- The state with other clock sources. -/
def State.updClk (s : State) (f : Clocks → Clocks) : State := { s with clk := f s.clk }

section
variable (s : State) (f : Clocks → Clocks)

@[simp] theorem State.clk_updClk : (s.updClk f).clk = f s.clk := rfl
@[simp] theorem State.mem_updClk : (s.updClk f).mem = s.mem := rfl
@[simp] theorem State.ltb_updClk : (s.updClk f).ltb = s.ltb := rfl
@[simp] theorem State.f_updClk (p o hi lo : Nat) : (s.updClk f).f p o hi lo = s.f p o hi lo := rfl
end

theorem State.Within.updClk {P : Nat → Prop} {s t : State} (h : Within P s t) (f : Clocks → Clocks) :
    Within P (s.updClk f) (t.updClk f) :=
  ⟨h.mem, h.ltb, congrArg f h.clk, h.seam, h.held, h.reg, h.raised⟩

/-- A pipe's PLL is off after it is stopped, whether or not it ran. -/
theorem State.ppllStop_within {P : Nat → Prop} (s : State) (p : Nat) (hp : P (pgDP p)) :
    State.Within P (s.setPpll p false) (s.ppllStop p) := by
  unfold State.ppllStop
  split
  · exact ((State.Within.refl P _).updDp p _).ev hp (by decide)
  · next hoff =>
    have hclk : s.clk = (s.setPpll p false).clk := by
      by_cases h0 : p = 0 <;> simp only [State.ppll, h0, if_true, if_false, Bool.not_eq_true] at hoff <;>
        simp [State.setPpll, h0, ← hoff]
    exact ⟨rfl, rfl, hclk, rfl, rfl, fun _ _ _ _ => rfl, fun _ _ h => h⟩

/-- What a crystal loss stops first, the PLLs of the pipes and the reference of the lanes, leaves the LTB page alone. -/
theorem State.refOff_within (s : State) : State.Within (· ≠ pgLTB)
    (s.updClk fun c => { c with ppll0 := false, ppll1 := false, lanePll := false }) ((s.ppllStop 0).ppllStop 1).refOff := by
  have hstop : State.Within (· ≠ pgLTB) (s.updClk fun c => { c with ppll0 := false, ppll1 := false })
      ((s.ppllStop 0).ppllStop 1) :=
    ((s.ppllStop_within 0 (by decide)).updClk fun c => { c with ppll1 := false }).trans
      ((s.ppllStop 0).ppllStop_within 1 (by decide))
  have hlane (n : Nat) : pgLANE n ≠ pgLTB := by simp only [pgLANE, pgLTB]; omega
  have hlink (n : Nat) : pgLINK n ≠ pgLTB := by simp only [pgLINK, pgLTB]; omega
  exact (hstop.allLanes_laneDown 1 hlane hlink).updClk fun c => { c with lanePll := false }

/-! ### The LTB moves to the oscillator -/

@[simp] theorem State.f_updLtb (s : State) (f : Ltb → Ltb) (p o hi lo : Nat) : (s.updLtb f).f p o hi lo = s.f p o hi lo := rfl

@[simp] theorem State.ltb_updLtb (s : State) (f : Ltb → Ltb) : (s.updLtb f).ltb = f s.ltb := rfl
@[simp] theorem State.mem_updLtb (s : State) (f : Ltb → Ltb) : (s.updLtb f).mem = s.mem := rfl
@[simp] theorem State.clk_updLtb (s : State) (f : Ltb → Ltb) : (s.updLtb f).clk = s.clk := rfl

/-- LTB_STAT of a crystal loss: master 4, on the oscillator, not coasting, lost, and no master change pending. -/
def State.statLost (s : State) : State :=
  ((((s.sf pgLTB 0x044 2 0 4).sf pgLTB 0x044 3 3 1).sf pgLTB 0x044 4 4 0).sf pgLTB 0x044 5 5 1).sf pgLTB 0x044 6 6 0

theorem State.f_statLost (s : State) :
    s.statLost.f pgLTB 0x044 2 0 = 4 ∧ s.statLost.f pgLTB 0x044 3 3 = 1 ∧ s.statLost.f pgLTB 0x044 5 5 = 1 := by
  unfold State.statLost
  refine ⟨?_, ?_, ?_⟩ <;> simp (disch := decide) only [State.f_sf_other, State.f_sf_same] <;> rfl

/-- The events of a crystal loss leave LTB_STAT as it is set. -/
theorem State.ltbCrystalLoss_stat (s : State) :
    ∃ u : State, ∀ hi lo, s.ltbCrystalLoss.f pgLTB 0x044 hi lo = u.statLost.f pgLTB 0x044 hi lo :=
  ⟨_, fun hi lo => (State.f_updLtb _ _ _ _ _ _).trans
    ((State.f_ev_ne _ 3 hi lo (by decide)).trans (State.f_ev_ne _ 6 hi lo (by decide)))⟩

/-- The line in progress is timed against OSC_LINE from here on; the frame and the line stay. -/
theorem State.ltbCrystalLoss_ltb (s : State) : s.ltbCrystalLoss.ltb.frame = s.ltb.frame ∧
    s.ltbCrystalLoss.ltb.line = s.ltb.line ∧ s.ltbCrystalLoss.ltb.pPrev = s.f pgLTB 0x05C 11 0 := by
  cases hosc : s.onOsc <;> simp [State.ltbCrystalLoss, hosc]

theorem State.ltbCrystalLoss_frame (s : State) : s.ltbCrystalLoss.mem = s.mem ∧ s.ltbCrystalLoss.clk = s.clk := by
  cases hosc : s.onOsc <;> simp [State.ltbCrystalLoss, hosc]

/-! ### The crystal is lost -/

/-- A crystal loss: the PLLs stop, the LTB moves to the oscillator, the illumination pulse ends, and the error is recorded. -/
theorem State.crystalLoss_eq (s : State) (hrun : s.domRun 1 = true) (hx : s.clk.xtal = true) :
    s.crystalLoss = (((s.ppllStop 0).ppllStop 1).refOff.ltbCrystalLoss.skpStop.updClk fun c =>
      { c with xtal := false, stopped := true, sysPll := false, dramPll := false }).err pgCLK 0x6060 0 := by
  rw [State.crystalLoss, if_neg (by simp [hrun, hx])]; rfl

/-- What follows the LTB's part leaves the LTB page alone. -/
theorem State.crystalLoss_within (s : State) (hrun : s.domRun 1 = true) (hx : s.clk.xtal = true) :
    State.Within (· ≠ pgLTB) (((s.ppllStop 0).ppllStop 1).refOff.ltbCrystalLoss.updClk fun c =>
      { c with xtal := false, stopped := true, sysPll := false, dramPll := false }) s.crystalLoss := by
  rw [s.crystalLoss_eq hrun hx]
  exact ((State.Within.refl _ _).skpStop.updClk _).err _ _ (by decide)

theorem State.crystalLoss_clk (s : State) (hrun : s.domRun 1 = true) (hx : s.clk.xtal = true) :
    s.crystalLoss.clk = ⟨false, true, false, false, false, false, false⟩ := by
  rw [(s.crystalLoss_within hrun hx).clk, State.clk_updClk, (State.ltbCrystalLoss_frame _).2, s.refOff_within.clk,
    State.clk_updClk]

theorem State.crystalLoss_code (s : State) (hrun : s.domRun 1 = true) (hx : s.clk.xtal = true) :
    s.crystalLoss.f pgCLK 0x028 15 0 = 0x6060 := by
  rw [s.crystalLoss_eq hrun hx, State.f_err_code]

theorem State.crystalLoss_stat (s : State) (hrun : s.domRun 1 = true) (hx : s.clk.xtal = true) :
    s.crystalLoss.actMaster = 4 ∧ s.crystalLoss.onOsc = true ∧ s.crystalLoss.lost = true := by
  obtain ⟨u, hu⟩ := ((s.ppllStop 0).ppllStop 1).refOff.ltbCrystalLoss_stat
  have hstat (hi lo : Nat) : s.crystalLoss.f pgLTB 0x044 hi lo = u.statLost.f pgLTB 0x044 hi lo := by
    rw [(s.crystalLoss_within hrun hx).field hi lo (by decide) (by decide), State.f_updClk, hu]
  obtain ⟨hmaster, hosc, hlost⟩ := u.f_statLost
  simp only [State.actMaster, State.onOsc, State.lost, hstat, hmaster, hosc, hlost, beq_self_eq_true, and_self]

theorem State.crystalLoss_ltb (s : State) (hrun : s.domRun 1 = true) (hx : s.clk.xtal = true) :
    s.crystalLoss.ltb.frame = s.ltb.frame ∧ s.crystalLoss.ltb.line = s.ltb.line ∧
      s.crystalLoss.ltb.pPrev = s.f pgLTB 0x05C 11 0 := by
  have hoff := s.refOff_within
  obtain ⟨hframe, hline, hprev⟩ := ((s.ppllStop 0).ppllStop 1).refOff.ltbCrystalLoss_ltb
  rw [(s.crystalLoss_within hrun hx).ltb, State.ltb_updClk, hframe, hline, hprev, hoff.ltb, hoff.field 11 0 (by decide) (by decide)]
  exact ⟨rfl, rfl, rfl⟩

theorem State.crystalLoss_mem (s : State) (hrun : s.domRun 1 = true) (hx : s.clk.xtal = true) :
    s.crystalLoss.mem = s.mem := by
  rw [(s.crystalLoss_within hrun hx).mem, State.mem_updClk, (State.ltbCrystalLoss_frame _).1, s.refOff_within.mem,
    State.mem_updClk]

/-! ### The commands -/

theorem State.sysPllLock_eq (s : State) (hrun : s.domRun 1 = true) (hx : s.clk.xtal = true) (hs : s.clk.stopped = false)
    (hp : s.clk.sysPll = false) : s.sysPllLock = s.updClk fun c => { c with sysPll := true, dramPll := true } := by
  rw [State.sysPllLock, if_neg (by simp [hrun, hx, hs, hp])]; rfl

theorem State.pllRestart_eq (s : State) (hrun : s.domRun 1 = true) (hs : s.clk.stopped = true) :
    s.pllRestart = s.updClk fun c => { c with xtal := true, stopped := false } := by
  rw [State.pllRestart, if_pos ⟨hrun, hs⟩]; rfl

/-- A read of POS_LP. -/
theorem State.take_posLP {s : State} {w : By} (h : s.Reads w .ltb pgLTB 0x048) :
    s.take w pgLTB 0x048 = (s.w pgLTB 0x04C s.ltb.frame).answer .ok (BitVec.ofNat 32 s.posLP) := by
  rw [State.take_eq h (by decide) (.inl (by decide))]
  simp [State.pageRead, State.blockRead, State.ltbRead, State.posRead]

theorem State.ltbClockChange_eq (s : State) (hcyc : s.ltb.cyc = 0) (hosc : s.onOsc = s.clk.sysPll) :
    s.ltbClockChange = (s.sf pgLTB 0x044 3 3 (b2n !s.clk.sysPll)).updLtb fun l => { l with virtK := 0 } := by
  rw [State.ltbClockChange, if_pos ⟨hcyc, hosc⟩]

/-- Settles O10: each command is one function of the state, whose lemmas stand above. -/
theorem clocksLockFailAndChange : Obligations.ClocksLockFailAndChange := by
  refine ⟨fun s hrun hx hs hp => ?_, fun s hrun hx => ?_, fun s hrun hs => ?_, fun s w hr => ?_, fun s hrun hcyc hosc => ?_⟩
  · exact congrArg Host.Outcome.next (s.sysPllLock_eq hrun hx hs hp)
  · obtain ⟨hmaster, hosc, hlost⟩ := s.crystalLoss_stat hrun hx
    obtain ⟨hframe, hline, hprev⟩ := s.crystalLoss_ltb hrun hx
    refine ⟨s.crystalLoss, rfl, ?_, ?_, ?_, ?_, ?_, ?_, s.crystalLoss_code hrun hx, hmaster, hosc, hlost, hframe, hline, hprev,
      s.crystalLoss_mem hrun hx⟩ <;>
      rw [s.crystalLoss_clk hrun hx]
  · exact congrArg Host.Outcome.next (s.pllRestart_eq hrun hs)
  · exact congrArg Host.Outcome.next (State.take_posLP hr)
  · exact congrArg Host.Outcome.next ((State.onSys_run hrun _).trans (s.ltbClockChange_eq hcyc hosc))

end Sys2Proof.Machine
end

section
/-! What a fold over the parts of a block leaves alone, and one cycle of the Line Time Base (02 R41, 01 R566): the interrupt lines
may wake domains, and the rest of the state is the cycle count and the clocks. -/

namespace Sys2Proof.Machine

/-- What every step of a fold keeps, the fold keeps. -/
theorem foldl_keeps {α γ : Type} (g : State → γ) {f : State → α → State} (h : ∀ s a, g (f s a) = g s) (l : List α)
    (s : State) : g (l.foldl f s) = g s := by
  induction l generalizing s with
  | nil => rfl
  | cons a l ih => exact (ih (f s a)).trans (h s a)

/-- The state without the records of its domains. -/
def State.domless (s : State) : State := { s with doms := [] }

theorem State.domless_domWake (s : State) (d : Nat) : (s.domWake d).domless = s.domless := by
  unfold State.domWake
  dsimp only
  split <;> rfl

theorem State.domless_irqWake (s : State) : s.irqWake.domless = s.domless := by
  unfold State.irqWake
  refine foldl_keeps State.domless (fun t c => ?_) _ _
  dsimp only
  split
  · exact t.domless_domWake _
  · rfl

theorem State.eq_of_domless {s t : State} (h : t.domless = s.domless) : t = { s with doms := t.doms } :=
  congrArg (fun u : State => { u with doms := t.doms }) h

/-- A tick changes the domains that are woken, the clocks, the cycle count and the events that count as set in this cycle. -/
theorem State.tick_eq (s : State) : s.tick = { s with
    doms := s.irqWake.doms, now := s.now + s.tickLen, osc := s.osc + (if s.clk.sysPll then 0 else 1),
    time := s.time + (if s.onOsc then 20 else 1), fresh := [], ltb := { s.ltb with cyc := s.ltb.cyc + 1 } } := by
  unfold State.tick
  rw [State.eq_of_domless s.domless_irqWake]

theorem State.tickLen_eq (s : State) : s.tickLen = if s.onOsc = true ∧ s.clk.sysPll = true then 20 else 1 := by
  simp only [State.tickLen, Bool.and_eq_true]

/-- Settles O2: on an empty queue the step is `State.tick`. -/
theorem emptyQueueIsOneCycle : Obligations.EmptyQueueIsOneCycle := by
  intro s h
  have hstep : step s = .next s.tick := by rw [step, h]
  refine ⟨s.tick, hstep, ?_⟩
  rw [s.tick_eq, ← s.tickLen_eq]
  exact ⟨rfl, rfl, rfl, rfl, rfl, rfl, fun _ _ => rfl, fun _ => rfl, h⟩

end Sys2Proof.Machine
end

section
/-! Writes of the Line Time Base's registers (02 R45, R60, R62, R69): what a plain write leaves, and the Line Event Table's staging. -/

namespace Sys2Proof.Machine

/-! ### Fields of a word -/

theorem testBit_b2n (b : Bool) (j : Nat) : (b2n b).testBit j = (decide (j = 0) && b) := by
  cases b
  · simp [b2n]
  · cases j <;> simp [b2n, Nat.testBit_succ]

/-- A field of one bit. -/
theorem fldOf_bit (v : Word) (k : Nat) : fldOf v k k = b2n (v.getLsbD k) := by
  apply Nat.eq_of_testBit_eq
  intro j
  rw [testBit_fldOf, testBit_b2n, Nat.add_sub_cancel_left]
  by_cases hj : j = 0 <;> simp [hj]

theorem getLsbD_withBit_same (v : Word) {k : Nat} (hk : k < 32) : (withBit v k).getLsbD k = true := by
  rw [withBit, BitVec.getLsbD_or, BitVec.getLsbD_ofNat, Nat.testBit_two_pow_self]; simp [hk]

theorem fldOf_withBit_same (v : Word) {k : Nat} (hk : k < 32) : fldOf (withBit v k) k k = 1 := by
  rw [fldOf_bit, getLsbD_withBit_same v hk]; rfl

/-- A field all of whose bits the mask takes from the word written. -/
theorem fldOf_masked (old v m : Word) {hi lo : Nat} (h : ∀ i, lo ≤ i → i ≤ hi → m.getLsbD i = true) :
    fldOf ((old &&& ~~~m) ||| (v &&& m)) hi lo = fldOf v hi lo := by
  apply Nat.eq_of_testBit_eq
  intro j
  rw [testBit_fldOf, testBit_fldOf]
  by_cases hj : j < hi + 1 - lo
  · simp [h (lo + j) (by omega) (by omega)]
  · simp [hj]

theorem and_ones (x : Word) : x &&& 0xFFFFFFFF#32 = x := BitVec.and_allOnes

/-! ### What the register operations leave -/

/-- The state without its registers and the events that count as set in this cycle. -/
def State.regless (s : State) : State := { s with regs := [], fresh := [] }

section
variable {s t : State} (h : t.regless = s.regless)
include h

theorem State.ltb_of_regless : t.ltb = s.ltb := (congrArg State.ltb h :)
theorem State.caps_of_regless : t.caps = s.caps := (congrArg State.caps h :)
theorem State.mem_of_regless : t.mem = s.mem := (congrArg State.mem h :)
theorem State.act_of_regless : t.act = s.act := (congrArg State.act h :)
end

section
variable (s : State)

@[simp] theorem State.regless_w (p o : Nat) (v : Word) : (s.w p o v).regless = s.regless := rfl
@[simp] theorem State.regless_sf (p o hi lo x : Nat) : (s.sf p o hi lo x).regless = s.regless := rfl
@[simp] theorem State.regless_cntUp (p o hi lo n : Nat) : (s.cntUp p o hi lo n).regless = s.regless := rfl
@[simp] theorem State.regless_ev (p b : Nat) : (s.ev p b).regless = s.regless := rfl
@[simp] theorem State.regless_ite (c : Prop) [Decidable c] (a b : State) :
    (if c then a else b).regless = if c then a.regless else b.regless := apply_ite _ _ _ _
@[simp] theorem State.regless_err (p code info : Nat) : (s.err p code info).regless = s.regless := by simp [State.err]
@[simp] theorem State.regless_plainWrite (p o : Nat) (v : Word) (refused frozen info : Nat) :
    (s.plainWrite p o v refused frozen info).regless = s.regless := by
  simp only [State.plainWrite]
  split
  · rfl
  · split
    · rfl
    · simp [State.errLocked]
@[simp] theorem State.regless_plain (p o : Nat) (v : Word) : (s.plain p o v).regless = s.regless := s.regless_plainWrite _ _ _ _ _ _
end

/-! ### Errors -/

theorem State.r_err_info (s : State) (p code info : Nat) : (s.err p code info).r p 0x02C = BitVec.ofNat 32 info := by
  have hne : rkey p 0x02C ≠ rkey p 0x014 := by unfold rkey; omega
  simp only [State.err]
  rw [State.r_ev_ne _ _ hne, State.r_w_same]

/-- An error writes ERR_CODE, ERR_INFO and EV_RAW. -/
theorem State.r_err_ne (s : State) {p p' o' : Nat} (code info : Nat) (hcode : rkey p' o' ≠ rkey p 0x028)
    (hinfo : rkey p' o' ≠ rkey p 0x02C) (hev : rkey p' o' ≠ rkey p 0x014) : (s.err p code info).r p' o' = s.r p' o' := by
  simp only [State.err, State.cntUp]
  rw [State.r_ev_ne _ _ hev, State.r_w_ne _ _ hinfo, State.r_sf_ne _ _ _ _ hcode, State.r_sf_ne _ _ _ _ hcode]
  split
  · rfl
  · rw [State.r_sf_ne _ _ _ _ hcode]

/-! ### The LTB page -/

theorem pageBlk_ltb (g : Grade) : pageBlk g pgLTB = some .ltb := by cases g <;> rfl

/-- A write that reaches a register of the LTB. -/
theorem State.put_ltb {s : State} {w : By} {o : Nat} (v : Word) (h : s.Writes w .ltb pgLTB o) (h4 : o % 4 = 0) (ho : 0x040 ≤ o) :
    s.put w pgLTB o v = (s.ltbWrite w.tnt o v).answer .ok 0 := by
  rw [State.put_eq v h h4 (by decide) (.inl (by decide)) (.inl (by decide)), State.pageWrite, if_neg (by omega)]
  rfl

/-! ### VT_CFG (R45) -/

theorem State.ltbWrite_vtCfg (s : State) (t : Nat) (v : Word) : s.ltbWrite t 0x050 v = s.plain pgLTB 0x050 v := rfl

/-- The row of VT_CFG: twelve RWS bits, and a range over the whole word. -/
def vtCfgRow : RegRow := ⟨0x50, 0x4, 1, 0x2EE, 0x0, 0xFFF, 0x0, 0x0, [⟨31, 0, 16, 4095⟩]⟩

theorem findRow_vtCfg : findRow .ltb 0x050 = some vtCfgRow := by decide

/-- All bits of the word are refused where its value is out of range. -/
theorem badBits_vtCfg (v : Word) : badBits vtCfgRow v = if v.toNat < 16 ∨ 4095 < v.toNat then 0xFFFFFFFF else 0 := by
  simp only [badBits, vtCfgRow, List.foldl, fldOf_all]
  split <;> rfl

theorem State.plain_vtCfg_taken (s : State) (v : Word) (hlo : 16 ≤ v.toNat) (hhi : v.toNat ≤ 4095) :
    s.plain pgLTB 0x050 v =
      (s.w pgLTB 0x050 ((s.r pgLTB 0x050 &&& ~~~(0xFFF : Word)) ||| (v &&& 0xFFF))).sf pgLTB 0x024 0 0 1 := by
  have hbad : badBits vtCfgRow v = 0 := by rw [badBits_vtCfg, if_neg (by omega)]
  simp only [State.plain, State.plainWrite, pageBlk_ltb, findRow_vtCfg, hbad]
  simp [vtCfgRow, State.clearW1, and_ones]

theorem State.plain_vtCfg_refused (s : State) (v : Word) (h : v.toNat < 16 ∨ 4095 < v.toNat) :
    s.plain pgLTB 0x050 v = ((s.w pgLTB 0x050 (s.r pgLTB 0x050)).sf pgLTB 0x024 0 0 1).err pgLTB 0x1003 0x050 := by
  have hbad : badBits vtCfgRow v = 0xFFFFFFFF := by rw [badBits_vtCfg, if_pos h]
  simp only [State.plain, State.plainWrite, pageBlk_ltb, findRow_vtCfg, hbad]
  simp [vtCfgRow, State.clearW1, codeOf, pageFamily, and_ones]

/-- Settles O20: the write is a plain one of VT_CFG's row. -/
theorem vtCfgRangeIsKept : Obligations.VtCfgRangeIsKept := by
  refine ⟨fun s w v hw hlo hhi => ?_, fun s w v hw hbad => ?_⟩
  · have hput := (State.put_ltb v hw (by decide) (by decide)).trans
      (congrArg (·.answer .ok 0) ((s.ltbWrite_vtCfg w.tnt v).trans (s.plain_vtCfg_taken v hlo hhi)))
    refine ⟨_, congrArg Host.Outcome.next hput, ?_, ?_, ?_, rfl, rfl, rfl⟩
    · rw [State.f_answer, State.f_sf_ne _ _ _ _ _ _ (by decide), State.f, State.r_w_same,
        fldOf_masked _ _ _ fun i _ hi => ?_]
      · simp [fldOf]; omega
      · interval_cases i <;> rfl
    · rw [State.f_answer, State.f_sf_same _ _ _ _ _ _ (by decide) (by decide)]; rfl
    · rw [State.r_answer, State.r_sf_ne _ _ _ _ (by decide), State.r_w_ne _ _ (by decide)]
  · have hput := (State.put_ltb v hw (by decide) (by decide)).trans
      (congrArg (·.answer .ok 0) ((s.ltbWrite_vtCfg w.tnt v).trans (s.plain_vtCfg_refused v hbad)))
    refine ⟨_, congrArg Host.Outcome.next hput, ?_, ?_, ?_, by simp, by simp, by simp⟩
    · rw [State.f_answer, State.f, State.r_err_ne _ _ _ (by decide) (by decide) (by decide), State.r_sf_ne _ _ _ _ (by decide),
        State.r_w_same, State.f]
    · rw [State.f_answer, State.f_err_code]
    · rw [State.r_answer, State.r_err_info]; rfl

/-! ### The Line Event Table (R60, R62) -/

theorem State.ltbWrite_letA (s : State) (t : Nat) {n : Nat} (v : Word) (hn : n < 256) :
    s.ltbWrite t (letA n) v = s.letAWrite n v := by
  have hdiv : (letA n - 0x400) / 8 = n := by simp only [letA]; omega
  rw [State.ltbWrite, if_pos (by simp only [letA]; omega), if_pos (by simp only [letA]; omega), hdiv]

theorem State.ltbWrite_letB (s : State) (t : Nat) {n : Nat} (v : Word) (hn : n < 256) :
    s.ltbWrite t (letB n) v = s.letBWrite t n v := by
  have hdiv : (letB n - 0x400) / 8 = n := by simp only [letB]; omega
  rw [State.ltbWrite, if_pos (by simp only [letB]; omega), if_neg (by simp only [letB]; omega), hdiv]

theorem State.letBWrite_staged (s : State) (t n : Nat) (v : Word)
    (h : s.letReason t n (s.r pgLTB (letA n)) (v &&& 0x7FFFFFFF) = none) :
    s.letBWrite t n v = (s.w pgLTB (letB n) (v &&& 0x7FFFFFFF)).updLtb fun l => { l with
      staged := (l.staged.filter fun e => !(e.1 == n)) ++ [(n, s.r pgLTB (letA n), v &&& 0x7FFFFFFF)] } := by
  simp only [State.letBWrite, h]

theorem State.letBWrite_refused (s : State) (t n : Nat) (v : Word) {r : Nat}
    (h : s.letReason t n (s.r pgLTB (letA n)) (v &&& 0x7FFFFFFF) = some r) :
    s.letBWrite t n v = (s.err pgLTB 0x1020 (n + t * 2 ^ 8 + r * 2 ^ 12)).ev pgLTB 9 := by
  simp only [State.letBWrite, h, Nat.shiftLeft_eq]

theorem State.put_letA {s : State} {w : By} {n : Fin 256} (v : Word) (h : s.Writes w .ltb pgLTB (letA n)) :
    s.put w pgLTB (letA n) v = (s.letAWrite n v).answer .ok 0 := by
  rw [State.put_ltb v h (by simp only [letA]; omega) (by simp only [letA]; omega), State.ltbWrite_letA _ _ _ n.isLt]

theorem State.put_letB {s : State} {w : By} {n : Fin 256} (v : Word) (h : s.Writes w .ltb pgLTB (letB n)) :
    s.put w pgLTB (letB n) v = (s.letBWrite w.tnt n v).answer .ok 0 := by
  rw [State.put_ltb v h (by simp only [letB]; omega) (by simp only [letB]; omega), State.ltbWrite_letB _ _ _ n.isLt]

/-- The registers of the Line Event Table are apart from those of the page's header. -/
theorem rkey_letB_ne (k : Nat) {o : Nat} (ho : o < 0x404) : rkey pgLTB (letB k) ≠ rkey pgLTB o := by
  simp only [rkey, letB]; omega

/-! ### CLR_MISS (R69) -/

theorem State.put_clrMiss {s : State} {w : By} (v : Word) (h : s.Writes w .ltb pgLTB 0x040) :
    s.put w pgLTB 0x040 (withBit v 12) = ((s.plain pgLTB 0x040 (withBit v 12)).w pgLTB 0x070 0).answer .ok 0 := by
  rw [State.put_ltb _ h (by decide) (by decide), State.ltbWrite, if_neg (by decide)]
  exact congrArg (fun u : State => u.answer .ok 0) (if_pos ⟨rfl, fldOf_withBit_same v (by decide)⟩)

/-- Settles O13: LET_A holds its word, LET_B is `State.letBWrite` with and without a reason, and CLR_MISS clears after a plain
write. -/
theorem letEntriesAreStaged : Obligations.LetEntriesAreStaged := by
  refine ⟨fun s w n v hw => ?_, fun s w n v hw hnone => ?_, fun s w n v r hw hsome => ?_, fun s w v hw => ?_⟩
  · exact congrArg Host.Outcome.next (State.put_letA v hw)
  · exact congrArg Host.Outcome.next ((State.put_letB v hw).trans (congrArg (·.answer .ok 0) (s.letBWrite_staged _ _ v hnone)))
  · have hput := (State.put_letB v hw).trans (congrArg (·.answer .ok 0) (s.letBWrite_refused _ _ v hsome))
    refine ⟨_, congrArg Host.Outcome.next hput, ?_, ?_, ?_, by simp, by simp, fun k => ?_⟩
    · rw [State.f_answer, State.f_ev_ne _ _ _ _ (by decide), State.f_err_code]
    · rw [State.r_answer, State.r_ev_ne _ _ (by decide), State.r_err_info]
    · rw [State.f_answer, State.f_ev_same _ _ (by decide)]
    · rw [State.r_answer, State.r_ev_ne _ _ (rkey_letB_ne k (by decide)), State.r_err_ne _ _ _ (rkey_letB_ne k (by decide))
        (rkey_letB_ne k (by decide)) (rkey_letB_ne k (by decide))]
  · have hplain := s.regless_plain pgLTB 0x040 (withBit v 12)
    refine ⟨_, congrArg Host.Outcome.next (State.put_clrMiss v hw), ?_, ?_, ?_, ?_⟩
    · rw [State.r_answer, State.r_w_same]
    · rw [State.ltb_answer, State.ltb_w, State.ltb_of_regless hplain]
    · rw [State.mem_answer, State.mem_w, State.mem_of_regless hplain]
    · rw [State.act_answer, State.act_w, State.act_of_regless hplain]

end Sys2Proof.Machine
end

section
/-! The position of the Line Time Base (02 R38, R39, R47, R49): what the dispatcher's events leave alone, and what a line start, a
frame boundary and a re-anchor do to frame, line and cycle. -/

namespace Sys2Proof.Machine

/-! ### Events sent (R63 to R66, R68) -/

/-- The Line Time Base without what the dispatcher and the trackers keep of the entries. -/
def Ltb.timing (l : Ltb) : Ltb :=
  { l with fired := [], evs := [], trk0 := ⟨0, 0, 0, false, []⟩, trk1 := ⟨0, 0, 0, false, []⟩ }

/-- Between `s` and `t` only entries have fired: of the registers none outside the offsets `os` has changed, of the Line Time Base
nothing but the entries and the trackers. -/
structure State.Fires (os : List Nat) (s t : State) : Prop where
  mem : t.mem = s.mem
  timing : t.ltb.timing = s.ltb.timing
  reg : ∀ p o, o < 4096 → o ∉ os → t.r p o = s.r p o

/-- The registers an event that goes out or is missed may write: EV_RAW, ERR_CODE, ERR_INFO and EVT_MISS. -/
def sendRegs : List Nat := [0x014, 0x028, 0x02C, 0x070]

namespace State.Fires

variable {os os' : List Nat} {s t u : State}

theorem refl (os : List Nat) (s : State) : Fires os s s := ⟨rfl, rfl, fun _ _ _ _ => rfl⟩

theorem trans (h : Fires os s t) (h' : Fires os t u) : Fires os s u :=
  ⟨h'.mem.trans h.mem, h'.timing.trans h.timing, fun p o ho hn => (h'.reg p o ho hn).trans (h.reg p o ho hn)⟩

theorem mono (h : Fires os s t) (hs : os ⊆ os') : Fires os' s t :=
  ⟨h.mem, h.timing, fun p o ho hn => h.reg p o ho fun hm => hn (hs hm)⟩

theorem w (h : Fires os s t) (p : Nat) {o : Nat} (v : Word) (hm : o ∈ os) (ho : o < 4096) : Fires os s (t.w p o v) :=
  h.trans ⟨rfl, rfl, fun _ _ ho' hn => t.r_w_ne v fun e => hn (((rkey_inj ho' ho).mp e).2 ▸ hm)⟩

/-- Units behind the pages may change, where the registers, memory and the timing stay. -/
theorem update (h : Fires os s t) (hm : u.mem = t.mem) (hl : u.ltb.timing = t.ltb.timing) (hr : u.regs = t.regs)
    (hg : u.grade = t.grade) : Fires os s u :=
  h.trans ⟨hm, hl, fun p o _ _ => by rw [State.r, hr, hg, State.r]⟩

theorem sf (h : Fires os s t) (p : Nat) {o : Nat} (hi lo x : Nat) (hm : o ∈ os) (ho : o < 4096) : Fires os s (t.sf p o hi lo x) :=
  h.w p _ hm ho

theorem ev (h : Fires os s t) (p b : Nat) (hm : 0x014 ∈ os) : Fires os s (t.ev p b) :=
  (h.sf p b b 1 hm (by decide)).update rfl rfl rfl rfl

theorem ite {c : Prop} [Decidable c] {a b : State} (ha : Fires os s a) (hb : Fires os s b) : Fires os s (if c then a else b) := by
  split
  · exact ha
  · exact hb

theorem err (h : Fires os s t) (p code info : Nat) (hcode : 0x028 ∈ os) (hinfo : 0x02C ∈ os) (hev : 0x014 ∈ os) :
    Fires os s (t.err p code info) := by
  have hovf : Fires os s (if t.f p 0x028 15 0 = 0 then t else t.sf p 0x028 30 30 1) := ite h (h.sf p _ _ _ hcode (by decide))
  exact (((hovf.sf p _ _ _ hcode (by decide)).sf p _ _ _ hcode (by decide)).w p _ hinfo (by decide)).ev p 31 hev

theorem foldl {α : Type} {f : State → α → State} (hf : ∀ s a, Fires os s (f s a)) (l : List α) (h : Fires os s t) :
    Fires os s (l.foldl f t) := by
  induction l generalizing t with
  | nil => exact h
  | cons a l ih => exact ih (h.trans (hf t a))

theorem field (h : Fires os s t) (p : Nat) {o : Nat} (hi lo : Nat) (ho : o < 4096) (hn : o ∉ os) : t.f p o hi lo = s.f p o hi lo := by
  rw [State.f, h.reg p o ho hn, State.f]

theorem frame (h : Fires os s t) : t.ltb.frame = s.ltb.frame := (congrArg Ltb.frame h.timing :)
theorem line (h : Fires os s t) : t.ltb.line = s.ltb.line := (congrArg Ltb.line h.timing :)
theorem cyc (h : Fires os s t) : t.ltb.cyc = s.ltb.cyc := (congrArg Ltb.cyc h.timing :)
theorem gen (h : Fires os s t) : t.ltb.gen = s.ltb.gen := (congrArg Ltb.gen h.timing :)
theorem virtK (h : Fires os s t) : t.ltb.virtK = s.ltb.virtK := (congrArg Ltb.virtK h.timing :)
theorem pPrev (h : Fires os s t) : t.ltb.pPrev = s.ltb.pPrev := (congrArg Ltb.pPrev h.timing :)

theorem posLP (h : Fires os s t) : t.posLP = s.posLP := by
  simp only [State.posLP, State.phase, h.line, h.cyc, h.pPrev]

theorem updTrk (h : Fires os s t) (n : Nat) (f : Tracker → Tracker) : Fires os s (t.updTrk n f) := by
  refine h.update rfl ?_ rfl rfl
  simp only [State.updTrk, State.updLtb]
  split <;> rfl

theorem updFired (h : Fires os s t) (l : List Nat) : Fires os s (t.updLtb fun x => { x with fired := l }) :=
  h.update rfl rfl rfl rfl

theorem letSend (h : Fires sendRegs s t) (n : Nat) : Fires sendRegs s (t.letSend n) := by
  unfold State.letSend
  refine ite (h.update rfl rfl rfl rfl) ?_
  exact ((h.sf _ _ _ _ (by decide) (by decide)).ev _ _ (by decide)).err _ _ _ (by decide) (by decide) (by decide)

theorem letFire (h : Fires sendRegs s t) (n : Nat) : Fires sendRegs s (t.letFire n) :=
  (h.updFired _).letSend n

theorem catchUp (h : Fires sendRegs s t) : Fires sendRegs s t.catchUp := foldl (fun u n => (refl _ u).letFire n) _ h

theorem skipFire (h : Fires sendRegs s t) : Fires sendRegs s t.skipFire :=
  foldl (fun u n => (refl _ u).letFire n) _ (foldl (fun u n => (refl _ u).letFire n) _ h)

theorem trkFire (h : Fires sendRegs s t) (n e : Nat) : Fires sendRegs s (t.trkFire n e) := by
  unfold State.trkFire
  split
  · exact h
  · exact ite (ite ((h.updTrk n _).letSend e) (h.updTrk n _)) h

theorem trkFireDue (h : Fires sendRegs s t) (n : Nat) : Fires sendRegs s (t.trkFireDue n) :=
  foldl (fun u (i : TrkInst) => (refl _ u).trkFire n i.entry) _ h

theorem trkCancel (h : Fires sendRegs s t) : Fires sendRegs s t.trkCancel :=
  foldl (fun u n => ((refl _ u).trkFireDue n).updTrk n _) _ h

end State.Fires

/-! ### Line starts (R46, R47, R50, R51, R54) -/

/-- The position has gone from that of `s` to the next line of the same frame, after a line of `p` cycles as P_prev says; LTB_STAT
and the counts of generated and virtual lines are as they were. -/
structure State.NextLine (s t : State) (p : Nat) : Prop where
  frame : t.ltb.frame = s.ltb.frame
  line : t.ltb.line = s.ltb.line + 1
  cyc : t.ltb.cyc = 0
  gen : t.ltb.gen = s.ltb.gen
  virtK : t.ltb.virtK = s.ltb.virtK
  pPrev : t.ltb.pPrev = p
  stat : t.r pgLTB 0x044 = s.r pgLTB 0x044

namespace State.Within

variable {P : Nat → Prop} {s t : State}

theorem updNi (h : Within P s t) (n : Nat) (f : NiSt → NiSt) : Within P s (t.updNi n f) := h.update rfl rfl rfl rfl rfl rfl rfl

theorem withWelt (h : Within P s t) (w : Welt) : Within P s { t with welt := w } := h.update rfl rfl rfl rfl rfl rfl rfl

theorem updPwr (h : Within P s t) (f : Pwr → Pwr) : Within P s (t.updPwr f) := h.update rfl rfl rfl rfl rfl rfl rfl

theorem lineCredits (h : Within P s t) : Within P s t.lineCredits :=
  withWelt (foldl (fun u _ => (refl P u).updNi _ _) _ h) _

theorem laneLine (h : Within P s t) : Within P s t.laneLine :=
  foldl (fun u n => ite ((refl P u).updLn n _) (refl P u)) _ h

theorem dramLine (h : Within P s t) : Within P s t.dramLine := h.updPwr _

end State.Within

/-- What a line start brings the blocks leaves the registers and the Line Time Base alone. -/
theorem State.lineHooks_within (s : State) : State.Within (fun _ => False) s s.lineHooks := by
  exact (((State.Within.refl _ s).lineCredits).laneLine).dramLine

theorem State.measure_ltb (s : State) :
    s.measure.ltb = { s.ltb with pPrev := s.ltb.cyc, pers := (s.ltb.cyc :: s.ltb.pers).take 64 } := rfl

theorem State.r_measure_ne (s : State) {o : Nat} (h : rkey pgLTB o ≠ rkey pgLTB 0x064) : s.measure.r pgLTB o = s.r pgLTB o :=
  s.r_w_ne _ h

/-- What a line start does before the position moves: the ending line's entries fire, and the line is measured where `m` says so. -/
def State.lineEnd (s : State) (m : Bool) : State := if m then s.catchUp.measure else s.catchUp

/-- The position moves to the next line. -/
def State.nextLine (s : State) : State := s.updLtb fun l => { l with line := l.line + 1, cyc := 0 }

theorem State.lineEnd_keeps (s : State) (m : Bool) :
    (s.lineEnd m).ltb.frame = s.ltb.frame ∧ (s.lineEnd m).ltb.line = s.ltb.line ∧ (s.lineEnd m).ltb.gen = s.ltb.gen ∧
      (s.lineEnd m).ltb.virtK = s.ltb.virtK ∧ (s.lineEnd m).ltb.pPrev = (if m then s.ltb.cyc else s.ltb.pPrev) ∧
      (s.lineEnd m).r pgLTB 0x044 = s.r pgLTB 0x044 ∧ (s.lineEnd m).vtAct = s.vtAct := by
  have h := (State.Fires.refl sendRegs s).catchUp
  have hstat := h.reg pgLTB 0x044 (by decide) (by decide)
  have hvt := h.reg pgLTB 0x054 (by decide) (by decide)
  cases m with
  | false =>
    exact ⟨h.frame, h.line, h.gen, h.virtK, h.pPrev, hstat, h.field _ _ _ (by decide) (by decide)⟩
  | true =>
    refine ⟨h.frame, h.line, h.gen, h.virtK, h.cyc, (State.r_measure_ne _ (by decide)).trans hstat, ?_⟩
    have hkept := (State.r_measure_ne s.catchUp (by decide)).trans hvt
    simp only [State.vtAct, State.f, State.lineEnd, if_true, hkept]

/-- A line start below the last line. -/
theorem State.lineStart_eq (s : State) (m : Bool) (h : s.ltb.line + 1 < s.vtAct) :
    s.lineStart m = (s.lineEnd m).nextLine.lineHooks := by
  obtain ⟨-, hline, -, -, -, -, hvt⟩ := s.lineEnd_keeps m
  have hbelow : ¬ (s.lineEnd m).vtAct ≤ (s.lineEnd m).ltb.line + 1 := by omega
  cases m <;> exact congrArg State.lineHooks (if_neg hbelow)

theorem State.lineStart_nextLine (s : State) (m : Bool) (h : s.ltb.line + 1 < s.vtAct) :
    s.NextLine (s.lineStart m) (if m then s.ltb.cyc else s.ltb.pPrev) := by
  obtain ⟨hframe, hline, hgen, hvirt, hprev, hstat, -⟩ := s.lineEnd_keeps m
  have hw := (s.lineEnd m).nextLine.lineHooks_within
  have hltb : (s.lineStart m).ltb = { (s.lineEnd m).ltb with line := (s.lineEnd m).ltb.line + 1, cyc := 0 } := by
    rw [s.lineStart_eq m h, hw.ltb]; rfl
  have hreg : (s.lineStart m).r pgLTB 0x044 = (s.lineEnd m).r pgLTB 0x044 := by
    rw [s.lineStart_eq m h, hw.reg _ _ (by simp) (by decide)]; rfl
  exact ⟨by rw [hltb, hframe], by rw [hltb, hline], by rw [hltb], by rw [hltb, hgen], by rw [hltb, hvirt], by rw [hltb, hprev],
    hreg.trans hstat⟩

/-! ### The kinds of line start -/

theorem State.endCoast_keeps (s : State) : s.endCoast.ltb = { s.ltb with gen := 0 } ∧ s.endCoast.vtAct = s.vtAct ∧
    s.endCoast.coasting = false := by
  have hcoast : s.endCoast.f pgLTB 0x044 4 4 = 0 := s.f_sf_same _ _ _ _ _ (by decide) (by decide)
  exact ⟨rfl, s.f_sf_ne _ _ _ _ _ (by decide), by simp [State.coasting, hcoast]⟩

/-- The master's own line start below the last line. -/
theorem State.masterLineStart_eq (s : State) {m : Nat} (hrun : s.domRun 1 = true) (hpend : s.mpending = false) (hlost : s.lost = false)
    (hm : s.actMaster = m) (hm4 : m < 4) (hgen : ¬(s.ltb.cyc = 0 ∧ 0 < s.ltb.gen)) (hline : s.ltb.line + 1 < s.vtAct) :
    s.masterLineStart m = s.endCoast.lineStart true := by
  have hgo : ¬(s.domRun 1 = false ∨ s.mpending = true ∨ s.lost = true ∨ m ≠ s.actMaster ∨ 4 ≤ m) := by
    simp only [hrun, hpend, hlost, hm, ne_eq, not_true, Bool.true_eq_false, Bool.false_eq_true, false_or, not_le]
    exact hm4
  have hlate : ¬ s.vtAct ≤ s.ltb.line + 1 := by omega
  rw [State.masterLineStart, if_neg hgo, if_neg hgen]
  simp only [hlate, decide_false, Bool.false_eq_true, if_false]

theorem rasterNum_lt (m : Raster) : rasterNum m < 4 := by
  cases m with
  | pipe p => exact Nat.lt_of_lt_of_le p.isLt (by decide)
  | cam c => have := c.n.isLt; simp only [rasterNum]; omega

/-- A raster's line start that serves as a master's. -/
theorem State.masterLine_eq (s : State) (m : Raster) (h : s.lineOf m = true) : s.masterLine m = s.masterLineStart (rasterNum m) := by
  cases m with
  | pipe p => rfl
  | cam c => exact if_pos h

theorem State.virtualLineStart_eq (s : State) (hrun : s.domRun 1 = true) (hm : s.actMaster = 4) (hpend : s.mpending = false)
    (hdue : s.virtLen ≤ s.ltb.cyc) :
    s.virtualLineStart = (s.updLtb fun l => { l with virtK := l.virtK + 1 }).lineStart true := by
  rw [State.virtualLineStart, if_neg]
  simp only [hrun, hm, hpend, ne_eq, not_true, Bool.true_eq_false, Bool.false_eq_true, false_or, not_lt]
  exact hdue

/-- COAST is raised at the first of the coasted line starts. -/
def State.coastEvent (s : State) : State := if s.coasting = true ∨ s.mpending = true then s else s.ev pgLTB 2

/-- What a coasted line start does before the line ends: COASTING is set and the line is counted. -/
def State.coastBegin (s : State) : State := (s.coastEvent.sf pgLTB 0x044 4 4 1).updLtb fun l => { l with gen := l.gen + 1 }

theorem State.coastEvent_keeps (s : State) : s.coastEvent.ltb = s.ltb ∧ s.coastEvent.vtAct = s.vtAct := by
  unfold State.coastEvent
  split
  · exact ⟨rfl, rfl⟩
  · exact ⟨rfl, s.f_ev_ne _ _ _ (by decide)⟩

theorem State.coastBegin_keeps (s : State) : s.coastBegin.ltb = { s.ltb with gen := s.ltb.gen + 1 } ∧
    s.coastBegin.vtAct = s.vtAct ∧ s.coastBegin.coasting = true := by
  obtain ⟨hltb, hvt⟩ := s.coastEvent_keeps
  unfold State.coastBegin
  refine ⟨?_, ?_, ?_⟩
  · rw [State.ltb_updLtb, State.ltb_sf, hltb]
  · rw [← hvt, State.vtAct, State.f_updLtb, State.f_sf_ne _ _ _ _ _ _ (by decide), State.vtAct]
  · rw [State.coasting, State.f_updLtb, State.f_sf_same _ _ _ _ _ _ (by decide) (by decide)]; rfl

theorem State.coastLineStart_eq (s : State) (hrun : s.domRun 1 = true) (hm : s.actMaster < 4) (hpend : s.mpending = false)
    (hblank : s.ltb.blankFill = false) (hmax : s.ltb.gen < s.coastMax) (hdue : s.coastAt ≤ s.ltb.cyc) (hcyc : s.ltb.cyc ≠ 0) :
    s.coastLineStart = s.coastBegin.lineStart false := by
  rw [State.coastLineStart, if_neg]
  · rfl
  · simp only [hrun, hpend, hblank, Bool.true_eq_false, Bool.false_eq_true, false_or, and_true]
    omega

theorem State.blankLineStart_eq (s : State) (hrun : s.domRun 1 = true) (hm2 : 2 ≤ s.actMaster) (hm : s.actMaster < 4)
    (hpend : s.mpending = false) (hblank : s.ltb.blankFill = true) (hmax : s.ltb.gen < s.coastMax) (hdue : s.coastAt ≤ s.ltb.cyc)
    (hcyc : s.ltb.cyc ≠ 0) :
    s.blankLineStart = (s.updLtb fun l => { l with gen := l.gen + 1 }).lineStart false := by
  rw [State.blankLineStart, if_neg]
  simp only [hrun, hpend, hblank, Bool.true_eq_false, Bool.false_eq_true, false_or]
  omega

theorem State.NextLine.coasting {s t : State} {p : Nat} (h : s.NextLine t p) : t.coasting = s.coasting := by
  simp only [State.coasting, State.f, h.stat]

/-- Settles O11: each kind of line start is `State.lineStart` after a small change, and below the last line that goes to the next
line. -/
theorem lineStartsMoveThePosition : Obligations.LineStartsMoveThePosition := by
  refine ⟨fun s m hrun hpend hlost hm hof hgen hline => ?_, fun s hrun hm hpend hdue hline => ?_,
    fun s hrun hm hpend hblank hmax hdue hcyc hline => ?_, fun s hrun hm2 hm hpend hblank hmax hdue hcyc hline => ?_⟩
  · obtain ⟨hltb, hvt, hcoast⟩ := s.endCoast_keeps
    have hnext := s.endCoast.lineStart_nextLine true (by rw [hltb, hvt]; exact hline)
    have heq := (s.masterLine_eq m hof).trans (s.masterLineStart_eq hrun hpend hlost hm (rasterNum_lt m) hgen hline)
    exact ⟨_, congrArg Host.Outcome.next heq, by rw [hnext.line, hltb], hnext.cyc, by rw [hnext.frame, hltb],
      hnext.coasting.trans hcoast, by rw [hnext.gen, hltb], by rw [hnext.pPrev, if_pos rfl, hltb]⟩
  · have hnext := (s.updLtb fun l => { l with virtK := l.virtK + 1 }).lineStart_nextLine true hline
    exact ⟨_, congrArg Host.Outcome.next (s.virtualLineStart_eq hrun hm hpend hdue), hnext.line, hnext.cyc, hnext.frame, hnext.virtK⟩
  · obtain ⟨hltb, hvt, hcoast⟩ := s.coastBegin_keeps
    have hnext := s.coastBegin.lineStart_nextLine false (by rw [hltb, hvt]; exact hline)
    exact ⟨_, congrArg Host.Outcome.next (s.coastLineStart_eq hrun hm hpend hblank hmax hdue hcyc), by rw [hnext.line, hltb], hnext.cyc,
      by rw [hnext.frame, hltb], hnext.coasting.trans hcoast, by rw [hnext.gen, hltb]⟩
  · have hnext := (s.updLtb fun l => { l with gen := l.gen + 1 }).lineStart_nextLine false hline
    exact ⟨_, congrArg Host.Outcome.next (s.blankLineStart_eq hrun hm2 hm hpend hblank hmax hdue hcyc), hnext.line, hnext.cyc,
      hnext.frame, hnext.coasting, hnext.gen⟩

end Sys2Proof.Machine
end

section
/-! Frame boundaries (02 R38, R39, R52, R54, R56): the position enters line 0 of the next frame, and the work of the blocks there
leaves it alone. -/

namespace Sys2Proof.Machine

/-- Frame, line and cycle. -/
def State.pos (s : State) : Word × Nat × Nat := (s.ltb.frame, s.ltb.line, s.ltb.cyc)

theorem State.pos_of_ltb {s t : State} (h : t.ltb = s.ltb) : t.pos = s.pos := by rw [State.pos, h, State.pos]

namespace State.Within

variable {s t : State}

theorem withAdm (h : Within (fun _ => True) s t) (a : Adm) : Within (fun _ => True) s { t with adm := a } :=
  h.update rfl rfl rfl rfl rfl rfl rfl

theorem admReport (h : Within (fun _ => True) s t) (r : AdmRep) (tnt src : Nat) (b : Bool) :
    Within (fun _ => True) s (t.admReport r tnt src b) :=
  (((h.w _ trivial (by decide) (by decide)).w _ trivial (by decide) (by decide)).w _ trivial (by decide) (by decide)).w _ trivial
    (by decide) (by decide)

theorem admRecompute (h : Within (fun _ => True) s t) : Within (fun _ => True) s t.admRecompute := by
  unfold State.admRecompute
  refine ite h ?_
  dsimp only
  split
  · exact ((h.withAdm _).w _ trivial (by decide) (by decide)).withAdm _
  · exact (((((h.withAdm _).w _ trivial (by decide) (by decide)).withAdm _).admReport _ _ _ _).err _ _ trivial).ev trivial (by decide)

end State.Within

theorem State.pos_ite (c : Prop) [Decidable c] (a b : State) : (if c then a else b).pos = if c then a.pos else b.pos :=
  apply_ite _ _ _ _

theorem State.pos_w (s : State) (p o : Nat) (v : Word) : (s.w p o v).pos = s.pos := rfl

theorem State.pos_sf (s : State) (p o hi lo x : Nat) : (s.sf p o hi lo x).pos = s.pos := rfl

theorem State.pos_updLtb (s : State) {f : Ltb → Ltb} (h : ∀ l, (f l).frame = l.frame ∧ (f l).line = l.line ∧ (f l).cyc = l.cyc) :
    (s.updLtb f).pos = s.pos := by
  obtain ⟨hframe, hline, hcyc⟩ := h s.ltb
  simp only [State.pos, State.ltb_updLtb, hframe, hline, hcyc]

/-! ### The blocks' work at a frame boundary leaves the Line Time Base alone -/

section
variable (s : State)

theorem State.ltb_ite (c : Prop) [Decidable c] (a b : State) : (if c then a else b).ltb = if c then a.ltb else b.ltb :=
  apply_ite _ _ _ _

theorem State.ltb_unreach : s.unreach.ltb = s.ltb := by
  unfold State.unreach
  split <;> simp

theorem State.ltb_admEffect : s.admEffect.ltb = s.ltb := by
  unfold State.admEffect
  split <;> simp

theorem State.ltb_statFrame : s.statFrame.ltb = s.ltb := by
  have hcopies : ((List.range 26).foldl (fun s n => if niPresent s.grade n then s.statCopy n else s) s).ltb = s.ltb :=
    foldl_keeps State.ltb (fun t n => by simp [State.ltb_ite, State.statCopy, State.updNi]) _ s
  simp only [State.statFrame]
  split
  · rfl
  · simpa using hcopies

theorem State.ltb_withWelt (w : Welt) : ({ s with welt := w } : State).ltb = s.ltb := rfl

theorem State.ltb_utilFrame : s.utilFrame.ltb = s.ltb := by
  unfold State.utilFrame
  refine (State.ltb_withWelt _ _).trans (foldl_keeps State.ltb (fun t r => foldl_keeps State.ltb (fun u p => ?_) _ t) _ s)
  exact State.ltb_w _ _ _ _

theorem State.ltb_sillFrame : s.sillFrame.ltb = s.ltb := rfl

theorem State.ltb_mxFrame : s.mxFrame.ltb = s.ltb := rfl

theorem State.ltb_grvFrame : s.grvFrame.ltb = s.ltb :=
  foldl_keeps State.ltb (fun t n => by simp [State.ltb_ite]) _ s

end

/-! ### Commits at a frame boundary -/

theorem State.ltb_commitRegs (s : State) (p : Nat) : (s.commitRegs p).ltb = s.ltb := by
  simp only [State.commitRegs]
  refine foldl_keeps State.ltb (fun t e => ?_) _ _
  rw [State.ltb_wa]

theorem State.ltb_mxCommit (s : State) : s.mxCommit.ltb = s.ltb := by
  simp only [State.mxCommit]
  split
  · simp [State.errBusy]
  · split <;> simp [State.admQueue]

theorem State.Within.laneCommit {s t : State} (h : State.Within (fun _ => True) s t) (n : Nat) (old oldPr : Word) :
    State.Within (fun _ => True) s (t.laneCommit n old oldPr) := by
  unfold State.laneCommit
  have htrain {u : State} (h : State.Within (fun _ => True) s u) :
      State.Within (fun _ => True) s (if u.clk.lanePll then u.laneTrain n else u) := .ite (h.laneTrain n trivial) h
  have hen := State.Within.ite (c := fldOf (t.a (pgLANE n) 0x040) 0 0 = 0)
    (.ite (c := fldOf old 0 0 = 1) (h.laneDown n 1 trivial trivial) h)
    (.ite (c := fldOf old 0 0 = 0) (htrain h) (.ite
      (c := fldOf old 2 1 ≠ fldOf (t.a (pgLANE n) 0x040) 2 1 ∨ fldOf old 10 4 ≠ fldOf (t.a (pgLANE n) 0x040) 10 4)
      (htrain (h.laneDown n 5 trivial trivial)) h))
  refine .ite (.updLn ?_ n _) ?_ <;> exact .ite (hen.linkDown n 5 trivial trivial) hen

theorem State.Within.canCommit {s t : State} (h : State.Within (fun _ => True) s t) (n : Nat) :
    State.Within (fun _ => True) s (t.canCommit n) := .ite ((h.updCan n _).canPick n) (h.canPick n)

/-- A commit marks that the LTB's page has been committed; the position stays. -/
theorem State.pos_commitHook (s : State) (p : Nat) (lane prbs : Word) : (s.commitHook p lane prbs).pos = s.pos := by
  have hwithin {t : State} (h : State.Within (fun _ => True) s t) : t.pos = s.pos := State.pos_of_ltb h.ltb
  unfold State.commitHook
  split
  · rfl
  · exact State.pos_of_ltb s.ltb_mxCommit
  · exact hwithin (.laneCommit (.refl _ s) _ _ _)
  · refine hwithin (.ite ?_ ?_)
    · exact (State.Within.canCommit (.refl _ s) _).updPwr _
    · exact .canCommit (.refl _ s) _
  · exact hwithin (.updPwr (.refl _ s) _)
  · exact hwithin (.ite (.refl _ s) (.updLin (.refl _ s) _))
  · rfl

theorem State.pos_commitPage (s : State) (p : Nat) : (s.commitPage p).pos = s.pos := by
  unfold State.commitPage
  refine (State.pos_commitHook _ p _ _).trans (State.pos_of_ltb ?_)
  rw [State.ltb_ev, State.cntWrap, State.ltb_sf, State.ltb_sf, State.ltb_commitRegs]

theorem State.pos_commitArm (s : State) (p k : Nat) : (s.commitArm p k).pos = s.pos := by
  unfold State.commitArm
  refine (State.pos_commitPage _ p).trans (State.pos_of_ltb ?_)
  split <;> rfl

theorem State.pos_frameCommits (s : State) : s.frameCommits.pos = s.pos :=
  foldl_keeps State.pos (fun t p => t.pos_commitArm p 3) _ s

theorem State.pos_letApply (s : State) : s.letApply.pos = s.pos := by
  refine foldl_keeps State.pos (fun t e => State.pos_of_ltb ?_) s.ltb.staged s
  rw [State.ltb_wa, State.ltb_wa]

theorem State.pos_masterChange (s : State) : s.masterChange.pos = s.pos := by
  simp only [State.masterChange, State.pos_ite, State.pos_w, State.pos_sf, State.pos_updLtb, implies_true, and_self, ite_self]

theorem State.pos_frameWork (s : State) : s.frameWork.pos = s.pos := by
  have hstaged : s.masterChange.frameCommits.letApply.pos = s.pos :=
    (State.pos_letApply _).trans ((State.pos_frameCommits _).trans s.pos_masterChange)
  refine (State.pos_of_ltb ?_).trans hstaged
  unfold State.frameWork
  rw [State.ltb_ev, State.ltb_mxFrame, State.ltb_sillFrame, State.ltb_grvFrame, State.ltb_utilFrame, State.ltb_statFrame,
    (State.Within.admRecompute (.refl _ _)).ltb, State.ltb_admEffect, State.ltb_unreach]

theorem State.pos_frameBoundary (s : State) : s.frameBoundary.pos = (s.ltb.frame + 1, 0, 0) := State.pos_frameWork _

/-! ### Frame starts -/

theorem State.pos_lineHooks (s : State) : s.lineHooks.pos = s.pos := State.pos_of_ltb s.lineHooks_within.ltb

theorem State.loadVt_frame (s : State) : s.loadVt.ltb.frame = s.ltb.frame := by
  unfold State.loadVt
  dsimp only
  split <;> rfl

/-- A frame boundary and the line start it brings. -/
theorem State.pos_frameStart (s : State) : s.frameBoundary.lineHooks.pos = (s.ltb.frame + 1, 0, 0) :=
  (State.pos_lineHooks _).trans s.pos_frameBoundary

/-- A re-anchor enters line 0 of the next frame. -/
theorem State.pos_reanchor (s : State) (cause : Nat) (m : Bool) : (s.reanchor cause m).pos = (s.ltb.frame + 1, 0, 0) := by
  have hframe := ((State.Fires.refl sendRegs s).trkCancel.skipFire).frame
  have hmeasured : (if m then s.trkCancel.skipFire.measure else s.trkCancel.skipFire).ltb.frame = s.ltb.frame := by
    cases m <;> exact hframe
  unfold State.reanchor
  refine (State.pos_frameStart _).trans ?_
  rw [State.loadVt_frame, State.ltb_ev, State.ltb_w, State.ltb_w, hmeasured]

/-- A frame start ends coasting and blank-fill. -/
def State.endFill (s : State) : State := s.endCoast.updLtb fun l => { l with blankFill := false }

theorem State.endFill_keeps (s : State) : s.endFill.ltb = { s.ltb with gen := 0, blankFill := false } ∧ s.endFill.vtAct = s.vtAct :=
  ⟨rfl, s.endCoast_keeps.2.1⟩

/-- A frame start of the master in force that marks no new mode. -/
theorem State.masterFrameStart_eq (s : State) {m : Nat} (hrun : s.domRun 1 = true) (hpend : s.mpending = false)
    (hlost : s.lost = false) (hm : s.actMaster = m) (hm4 : m < 4) :
    s.masterFrameStart m false =
      let same := decide (s.ltb.cyc = 0) && decide (0 < s.ltb.gen)
      if s.endFill.vtAct ≤ s.endFill.ltb.line + 1 ∧ same = false then
        s.endFill.loadVt.catchUp.measure.frameBoundary.lineHooks
      else if s.endFill.ltb.line = 0 ∧ s.endFill.phase = 0 then s.endFill.loadVt.updLtb fun l => { l with cyc := 0 }
      else (s.endFill.ev pgLTB 4).reanchor 1 (!same) := by
  have hgo : ¬(s.domRun 1 = false ∨ 4 ≤ m) := by simp only [hrun, Bool.true_eq_false, false_or]; omega
  have hours : ¬(s.lost = true ∨ m ≠ s.actMaster) := by simp [hlost, hm]
  have hpend' : ¬ s.mpending = true := by simp [hpend]
  rw [State.masterFrameStart, if_neg hgo, if_neg hpend', if_neg hours]
  exact if_neg fun h => Bool.false_ne_true h.1

theorem State.pos_masterFrameStart (s : State) {m : Nat} (hrun : s.domRun 1 = true) (hpend : s.mpending = false)
    (hlost : s.lost = false) (hm : s.actMaster = m) (hm4 : m < 4)
    (h : s.ltb.line ≠ 0 ∨ (s.vtAct ≤ s.ltb.line + 1 ∧ s.ltb.gen = 0)) :
    (s.masterFrameStart m false).pos = (s.ltb.frame + 1, 0, 0) := by
  obtain ⟨hltb, hvt⟩ := s.endFill_keeps
  have hline : s.endFill.ltb.line = s.ltb.line := by rw [hltb]
  rw [s.masterFrameStart_eq hrun hpend hlost hm hm4]
  dsimp only
  split
  · have hframe := (State.Fires.refl sendRegs s.endFill.loadVt).catchUp.frame
    refine (State.pos_frameStart _).trans ?_
    rw [State.measure_ltb, hframe, State.loadVt_frame]; rfl
  · next hnot =>
    split
    · next hzero =>
      rcases h with h | ⟨hlast, hgen⟩
      · exact absurd (hline ▸ hzero.1) h
      · exact absurd ⟨by rw [hvt, hline]; exact hlast, by simp [hgen]⟩ hnot
    · rw [State.pos_reanchor, State.ltb_ev]; rfl

/-- A raster's frame start that serves as a master's and marks no new mode. -/
theorem State.masterFrame_eq (s : State) (m : Raster) (h : s.frameOf m = true) :
    s.masterFrame m false = s.masterFrameStart (rasterNum m) false := by
  cases m with
  | pipe p => rfl
  | cam c => exact if_pos h

/-! ### A lost master (R52) -/

/-- LTB_STAT of a lost master: master 4, not coasting, lost, and no master change pending. -/
def State.statMasterLost (s : State) : State :=
  (((s.sf pgLTB 0x044 2 0 4).sf pgLTB 0x044 4 4 0).sf pgLTB 0x044 5 5 1).sf pgLTB 0x044 6 6 0

theorem State.masterLost_eq (s : State) (hmax : s.coastMax ≤ s.ltb.gen) (hm : s.actMaster ≠ 4) :
    s.masterLost = (s.statMasterLost.ev pgLTB 3).updLtb fun l =>
      { l with virtK := 0, gen := 0, blankFill := false, mcommit := false } := by
  rw [State.masterLost, if_neg]
  · rfl
  · rintro (h | ⟨h, -⟩)
    · omega
    · exact hm h

theorem State.statMasterLost_keeps (s : State) : s.statMasterLost.ltb = s.ltb ∧ s.statMasterLost.mem = s.mem := ⟨rfl, rfl⟩

theorem State.f_statMasterLost (s : State) :
    s.statMasterLost.f pgLTB 0x044 2 0 = 4 ∧ s.statMasterLost.f pgLTB 0x044 5 5 = 1 := by
  unfold State.statMasterLost
  refine ⟨?_, ?_⟩ <;> simp (disch := decide) only [State.f_sf_other, State.f_sf_same] <;> rfl

/-- Settles O12: a frame start that is due and one that re-anchors both end in `State.frameBoundary`. -/
theorem frameStartsWrapAndReanchor : Obligations.FrameStartsWrapAndReanchor := by
  have hstart (s : State) (m : Raster) (hrun : s.domRun 1 = true) (hpend : s.mpending = false) (hlost : s.lost = false)
      (hm : s.actMaster = rasterNum m) (hof : s.frameOf m = true)
      (h : s.ltb.line ≠ 0 ∨ (s.vtAct ≤ s.ltb.line + 1 ∧ s.ltb.gen = 0)) :
      ∃ t, exec (.masterFrameStart m false) s = .next t ∧ t.ltb.frame = s.ltb.frame + 1 ∧ t.ltb.line = 0 ∧ t.ltb.cyc = 0 := by
    have hpos := s.pos_masterFrameStart hrun hpend hlost hm (rasterNum_lt m) h
    simp only [State.pos, Prod.mk.injEq] at hpos
    exact ⟨_, congrArg Host.Outcome.next (s.masterFrame_eq m hof), hpos⟩
  refine ⟨fun s m hrun hpend hlost hm hof hlast hgen => ?_, fun s m hrun hpend hlost hm hof _ hline => ?_, fun s hrun hmax hm => ?_⟩
  · exact hstart s m hrun hpend hlost hm hof (hgen.imp_right fun h => ⟨hlast, h⟩)
  · exact hstart s m hrun hpend hlost hm hof (.inl hline)
  · obtain ⟨hmaster, hlost⟩ := s.f_statMasterLost
    obtain ⟨hltb, hmem⟩ := s.statMasterLost_keeps
    refine ⟨_, congrArg Host.Outcome.next ((State.onSys_run hrun _).trans (s.masterLost_eq hmax hm)), ?_, ?_, ?_, ?_, ?_, ?_, ?_⟩
    · rw [State.actMaster, State.f_updLtb, State.f_ev_ne _ _ _ _ (by decide), hmaster]
    · rw [State.lost, State.f_updLtb, State.f_ev_ne _ _ _ _ (by decide), hlost]; rfl
    · rw [State.f_updLtb, State.f_ev_same _ _ (by decide)]
    all_goals simp only [State.ltb_updLtb, State.ltb_ev, hltb, State.mem_updLtb, State.mem_ev, hmem]

end Sys2Proof.Machine
end

section
/-! Entries and trackers (02 R63 to R68): the event of an entry that fires, and what a camera's starts do to its tracker. -/

namespace Sys2Proof.Machine

/-! ### The dispatcher's entry (R63, R65, R66) -/

/-- The event of entry `n`: its type, and the target and argument with the bits the type uses (R64). -/
def State.letEvent (s : State) (n : Nat) : LineEv :=
  ⟨n, fldOf (s.a pgLTB (letA n)) 27 24, evTgt (fldOf (s.a pgLTB (letA n)) 27 24) (fldOf (s.a pgLTB (letB n)) 23 16),
    evArg (fldOf (s.a pgLTB (letA n)) 27 24) (fldOf (s.a pgLTB (letB n)) 15 0)⟩

theorem State.letSend_sent (s : State) (n : Nat) (h : s.domRun (evDom (s.letEvent n).typ (s.letEvent n).target) = true) :
    s.letSend n = s.updLtb fun l => { l with evs := l.evs ++ [s.letEvent n] } := if_pos h

theorem State.letSend_missed (s : State) (n : Nat) (h : s.domRun (evDom (s.letEvent n).typ (s.letEvent n).target) = false) :
    s.letSend n = ((s.cntUp pgLTB 0x070 15 0 1).ev pgLTB 8).err pgLTB 0x3021 n := if_neg (by rw [← State.letEvent, h]; decide)

theorem satAdd_eq_min (top a b : Nat) : satAdd top a b = min top (a + b) := by
  unfold satAdd
  split <;> omega

/-- A counter that stops at its largest value. -/
theorem State.f_cntUp_same (s : State) (p o hi lo n : Nat) (hh : hi < 32) (hl : lo ≤ hi) :
    (s.cntUp p o hi lo n).f p o hi lo = min (2 ^ (hi + 1 - lo) - 1) (s.f p o hi lo + n) := by
  have hpos := Nat.two_pow_pos (hi + 1 - lo)
  rw [State.cntUp, State.f_sf_same _ _ _ _ _ _ hh hl, satAdd_eq_min, Nat.mod_eq_of_lt (by omega)]

theorem State.letFire_sent (s : State) (n : Nat) (h : s.domRun (evDom (s.letEvent n).typ (s.letEvent n).target) = true) :
    s.letFire n = s.updLtb fun l => { l with fired := l.fired ++ [n], evs := l.evs ++ [s.letEvent n] } :=
  State.letSend_sent (s.updLtb fun l => { l with fired := l.fired ++ [n] }) n h

theorem State.letFire_missed (s : State) (n : Nat) (h : s.domRun (evDom (s.letEvent n).typ (s.letEvent n).target) = false) :
    s.letFire n = (((s.updLtb fun l => { l with fired := l.fired ++ [n] }).cntUp pgLTB 0x070 15 0 1).ev pgLTB 8).err pgLTB 0x3021 n :=
  State.letSend_missed (s.updLtb fun l => { l with fired := l.fired ++ [n] }) n h

theorem State.letEntryFire_next (s : State) (n : Nat) (h : s.letNext = some n) : s.letEntryFire n = s.letFire n := if_pos h

/-! ### Trackers (R67, R68) -/

/-- The registers a change of a tracker's lock may write: LTB_STAT beside those of the events sent. -/
def lockRegs : List Nat := 0x044 :: sendRegs

theorem State.Fires.trkLock {s t : State} (h : State.Fires lockRegs s t) (n : Nat) (v : Bool) :
    State.Fires lockRegs s (t.trkLock n v) := by
  have hdue := h.trans (((State.Fires.refl sendRegs t).trkFireDue n).mono (List.subset_cons_self _ _))
  exact .ite h ((hdue.sf _ _ _ _ (by decide) (by decide)).ev _ _ (by decide))

/-- A frame start before its instants are computed: those reached fire and a missed one is noted, the position is latched, and
CFCNT counts. -/
def State.trkMissed (s : State) (n : Nat) : State :=
  if !((s.trkFireDue n).trk n).insts.isEmpty then (s.trkFireDue n).ev pgLTB 12 else s.trkFireDue n

def State.trkLatch (s : State) (n : Nat) : State :=
  ((s.trkMissed n).w pgLTB (0x084 + 0x10 * n) (s.trkMissed n).ltb.frame).w pgLTB (0x088 + 0x10 * n)
    (BitVec.ofNat 32 (s.trkMissed n).posLP)

def State.trkCount (s : State) (n : Nat) : State := (s.trkLatch n).cntWrap pgLTB (0x080 + 0x10 * n) 31 16

def State.trkJudge (s : State) (n : Nat) : State := if ((s.trkCount n).trk n).complete then s.trkCount n else (s.trkCount n).trkLock n false

/-- The instants of the tracker's entries from the position latched. -/
def State.trkInsts (s : State) (n : Nat) : List TrkInst := (s.letEnabled.filter fun e => s.trkEntry n e).map fun e => s.trkInstant n e

/-- The tracker waits for the lines of the frame that starts, with the instants `l`. -/
def Tracker.started (t : Tracker) (l : List TrkInst) : Tracker := { t with lines := 0, complete := false, insts := l }

theorem State.trkFrameStart_eq (s : State) (n : Nat) (hen : s.f pgLTB (0x080 + 0x10 * n) 0 0 = 1) :
    s.trkFrameStart n = (s.trkJudge n).updTrk n fun t => t.started ((s.trkJudge n).trkInsts n) := by
  rw [State.trkFrameStart, if_neg (by rw [hen]; decide)]
  rfl

theorem State.Fires.trkMissed (s : State) (n : Nat) : State.Fires sendRegs s (s.trkMissed n) :=
  .ite (((State.Fires.refl _ s).trkFireDue n).ev _ _ (by decide)) ((State.Fires.refl _ s).trkFireDue n)

theorem State.Fires.trkJudge (s : State) (n : Nat) : State.Fires lockRegs (s.trkCount n) (s.trkJudge n) :=
  .ite (.refl _ _) ((State.Fires.refl _ _).trkLock n false)

/-- The registers of a tracker are none that an event or a lock writes. -/
theorem trkReg_ne {n o : Nat} (hn : n < 2) (ho : o = 0x080 ∨ o = 0x084 ∨ o = 0x088) :
    o + 0x10 * n < 4096 ∧ o + 0x10 * n ∉ lockRegs ∧ o + 0x10 * n ∉ sendRegs := by
  simp only [lockRegs, sendRegs, List.mem_cons, List.not_mem_nil, or_false, not_or]
  omega

theorem State.trk_updTrk (s : State) (n : Nat) (f : Tracker → Tracker) : (s.updTrk n f).trk n = f (s.trk n) := by
  by_cases hn : n = 0 <;> simp [State.trk, State.updTrk, State.updLtb, hn]

/-- What an enabled tracker shows after a camera frame start. -/
theorem State.trkFrameStart_keeps (s : State) {n : Nat} (hn : n < 2) (hen : s.f pgLTB (0x080 + 0x10 * n) 0 0 = 1) :
    (s.trkFrameStart n).r pgLTB (0x084 + 0x10 * n) = s.ltb.frame ∧
      (s.trkFrameStart n).r pgLTB (0x088 + 0x10 * n) = BitVec.ofNat 32 s.posLP ∧
      (s.trkFrameStart n).f pgLTB (0x080 + 0x10 * n) 31 16 = (s.f pgLTB (0x080 + 0x10 * n) 31 16 + 1) % 65536 ∧
      ((s.trkFrameStart n).trk n).lines = 0 ∧ (s.trkFrameStart n).mem = s.mem := by
  have hmissed := State.Fires.trkMissed s n
  have hjudge := State.Fires.trkJudge s n
  have hend := hjudge.updTrk n fun t => t.started ((s.trkJudge n).trkInsts n)
  rw [← s.trkFrameStart_eq n hen] at hend
  have hne (o o' : Nat) (ho : o < 16) (ho' : o' < 16) (h : o ≠ o') :
      rkey pgLTB (0x080 + o + 0x10 * n) ≠ rkey pgLTB (0x080 + o' + 0x10 * n) := by
    unfold rkey; omega
  obtain ⟨hc, hcn, hcs⟩ := trkReg_ne (o := 0x080) hn (.inl rfl)
  obtain ⟨hf, hfn, -⟩ := trkReg_ne (o := 0x084) hn (.inr (.inl rfl))
  obtain ⟨hp, hpn, -⟩ := trkReg_ne (o := 0x088) hn (.inr (.inr rfl))
  refine ⟨?_, ?_, ?_, ?_, ?_⟩
  · rw [hend.reg _ _ hf hfn, State.trkCount, State.cntWrap, State.r_sf_ne _ _ _ _ (hne 4 0 (by omega) (by omega) (by omega)),
      State.trkLatch, State.r_w_ne _ _ (hne 4 8 (by omega) (by omega) (by omega)), State.r_w_same, hmissed.frame]
  · rw [hend.reg _ _ hp hpn, State.trkCount, State.cntWrap, State.r_sf_ne _ _ _ _ (hne 8 0 (by omega) (by omega) (by omega)),
      State.trkLatch, State.r_w_same, hmissed.posLP]
  · have hlatch : (s.trkLatch n).f pgLTB (0x080 + 0x10 * n) 31 16 = s.f pgLTB (0x080 + 0x10 * n) 31 16 := by
      rw [State.trkLatch, State.f, State.r_w_ne _ _ (hne 0 8 (by omega) (by omega) (by omega)),
        State.r_w_ne _ _ (hne 0 4 (by omega) (by omega) (by omega)), ← State.f, hmissed.field _ _ _ hc hcs]
    rw [hend.field _ _ _ hc hcn, State.trkCount, State.cntWrap, State.f_sf_same _ _ _ _ _ _ (by decide) (by decide), hlatch]; rfl
  · rw [s.trkFrameStart_eq n hen, State.trk_updTrk, Tracker.started]
  · exact hend.mem.trans hmissed.mem

/-- An enabled tracker's first line start of a frame latches the start of its measurement. -/
theorem State.trkLineStart_first (s : State) (n : Nat) (hen : s.f pgLTB (0x080 + 0x10 * n) 0 0 = 1) (hlines : (s.trk n).lines = 0) :
    s.trkLineStart n = s.updTrk n fun t => { t with lines := 1, startFrm := s.ltb.frame.toNat, startPh := s.posLP } := by
  rw [State.trkLineStart, if_neg (by rw [hen, hlines]; decide), hlines]
  by_cases hn : n = 0
  · subst hn; rfl
  · simp only [State.updTrk, if_neg hn]; rfl

theorem State.trkReached_now (s : State) {i : TrkInst} (hframe : i.frame = s.ltb.frame.toNat) (hpos : i.line * 256 + i.phase ≤ s.posLP) :
    s.trkReached i = true := by
  have hzero : (s.ltb.frame.toNat + 2 ^ 32 - i.frame) % 2 ^ 32 = 0 := by rw [hframe]; omega
  simp only [State.trkReached, hzero, hpos, decide_true, beq_self_eq_true, Bool.and_self, Bool.or_true]

/-- An instant that is reached is over; in lock and with the entry still standing it sends the entry's event. -/
theorem State.trkFire_reached (s : State) {n e : Nat} {i : TrkInst} (hfind : ((s.trk n).insts.find? fun i => i.entry == e) = some i)
    (hr : s.trkReached i = true) :
    s.trkFire n e = if s.trkLocked n = true ∧ s.trkEntry n e = true then
      (s.updTrk n fun t => { t with insts := t.insts.erase i }).letSend e else s.updTrk n fun t => { t with insts := t.insts.erase i } := by
  rw [State.trkFire, hfind]
  exact if_pos hr

/-- Settles O14: the dispatcher's entry is `State.letFire`, and the trackers' starts and instants have their lemmas above. -/
theorem entriesFireAndTrackersFollow : Obligations.EntriesFireAndTrackersFollow := by
  refine ⟨fun s n hrun hnext hdom => ?_, fun s n hrun hnext hdom => ?_, fun s c hrun hen hcam => ?_, fun s c hrun hen hcam hvc hl => ?_,
    fun s n e i hrun hfind hframe hpos hlock hentry => ?_, fun s n e i hrun hfind hframe hpos hlock => ?_⟩
  · exact congrArg Host.Outcome.next ((State.onSys_run hrun _).trans ((s.letEntryFire_next n hnext).trans (s.letFire_sent n hdom)))
  · have hfire := (State.onSys_run hrun fun s => s.letEntryFire n).trans ((s.letEntryFire_next n hnext).trans (s.letFire_missed n hdom))
    refine ⟨_, congrArg Host.Outcome.next hfire, ?_, ?_, ?_, ?_, ?_⟩
    · rw [State.ltb_err, State.ltb_ev, State.ltb_cntUp]; rfl
    · rw [State.f, State.r_err_ne _ _ _ (by decide) (by decide) (by decide), ← State.f, State.f_ev_ne _ _ _ _ (by decide),
        State.f_cntUp_same _ _ _ _ _ _ (by decide) (by decide)]; rfl
    · exact ((State.Within.refl (fun _ => True) _).err _ _ trivial).raised _ _ (State.f_ev_same _ _ (by decide))
    · rw [State.r_err_info]
    · rw [State.mem_err, State.mem_ev, State.mem_cntUp]; rfl
  · have hstart : s.trackerFrame c = s.trkFrameStart c.n := if_pos hcam
    refine ⟨_, congrArg Host.Outcome.next ((State.onSys_run hrun _).trans hstart), s.trkFrameStart_keeps c.n.isLt hen⟩
  · have hstart : s.trackerLine c = s.trkLineStart c.n := if_pos (by rw [hcam, hvc]; rfl)
    exact congrArg Host.Outcome.next ((State.onSys_run hrun _).trans (hstart.trans (s.trkLineStart_first c.n hen hl)))
  · refine congrArg Host.Outcome.next ((State.onSys_run hrun _).trans ?_)
    rw [s.trkFire_reached hfind (s.trkReached_now hframe hpos), if_pos ⟨hlock, hentry⟩]
  · refine congrArg Host.Outcome.next ((State.onSys_run hrun _).trans ?_)
    rw [s.trkFire_reached hfind (s.trkReached_now hframe hpos), if_neg (by simp [hlock])]

end Sys2Proof.Machine
end

section
/-! Memory traffic of the receivers (06 R131, R139, R147): a write changes no byte outside the bytes it names, and no stream. -/

namespace Sys2Proof.Machine

/-! ### What leaves the streams and memory alone -/

/-- The streams of the receivers, and what the bytes of memory read as. -/
def State.store (s : State) : List (List CapStr) × List Host.Cell × List Nat := (s.caps, s.mem, s.epoch)

theorem State.caps_of_store {s t : State} (h : t.store = s.store) : t.caps = s.caps := congrArg Prod.fst h

theorem State.mem_of_store {s t : State} (h : t.store = s.store) : t.mem = s.mem := congrArg (fun p => p.2.1) h

theorem State.rdByte_of_store {s t : State} (h : t.store = s.store) (a : Nat) : t.rdByte a = s.rdByte a := by
  simp only [State.store, Prod.mk.injEq] at h
  obtain ⟨-, hmem, hepoch⟩ := h
  rw [State.rdByte, hmem, hepoch, State.rdByte]

/-- The state of a pair that a function answers, where the function leaves streams and memory alone. -/
theorem State.store_of_eq {s t : State} {β : Type} {b : β} {p : State × β} (h : p = (t, b)) (hp : p.1.store = s.store) :
    t.store = s.store := by rw [← hp, h]

section
variable (s : State)

@[simp] theorem State.store_ite (c : Prop) [Decidable c] (a b : State) :
    (if c then a else b).store = if c then a.store else b.store := apply_ite _ _ _ _
@[simp] theorem State.store_fst_ite {β : Type} (c : Prop) [Decidable c] (a b : State × β) :
    (if c then a else b).1.store = if c then a.1.store else b.1.store := apply_ite (fun x : State × β => x.1.store) _ _ _
@[simp] theorem State.store_w (p o : Nat) (v : Word) : (s.w p o v).store = s.store := rfl
@[simp] theorem State.store_sf (p o hi lo x : Nat) : (s.sf p o hi lo x).store = s.store := rfl
@[simp] theorem State.store_cntUp (p o hi lo n : Nat) : (s.cntUp p o hi lo n).store = s.store := rfl
@[simp] theorem State.store_cntWrap (p o hi lo : Nat) : (s.cntWrap p o hi lo).store = s.store := rfl
@[simp] theorem State.store_ev (p b : Nat) : (s.ev p b).store = s.store := rfl
@[simp] theorem State.store_err (p code info : Nat) : (s.err p code info).store = s.store := by simp [State.err]
@[simp] theorem State.store_updDom (d : Nat) (f : Dom → Dom) : (s.updDom d f).store = s.store := rfl
@[simp] theorem State.store_updNi (n : Nat) (f : NiSt → NiSt) : (s.updNi n f).store = s.store := rfl
@[simp] theorem State.store_updCore (c : Nat) (f : CoreSt → CoreSt) : (s.updCore c f).store = s.store := rfl
/-- The streams and memory of a record all of whose other fields may be new. -/
@[simp] theorem State.store_update (grade fused regs act srst waiting lockWait fresh resp seam clk ltb ten doms adm welt cores
    grv ald sec trig isp sill scn dps icv light lace awl lanes links cans lin i2cs spis xspi adc pins wake pwr now osc time
    freeCtr pending) :
    State.store ⟨grade, fused, regs, act, srst, waiting, lockWait, fresh, resp, seam, clk, ltb, ten, doms, adm, welt, cores,
      grv, ald, sec, s.caps, trig, isp, sill, scn, dps, icv, light, lace, awl, lanes, links, cans, lin, i2cs, spis, xspi,
      adc, pins, wake, pwr, s.mem, s.epoch, now, osc, time, freeCtr, pending⟩ = s.store := rfl
@[simp] theorem State.store_tookFree : s.tookFree.store = s.store := rfl
@[simp] theorem State.store_violation (kind tnt ni det addr : Nat) (record : Bool) :
    (s.violation kind tnt ni det addr record).store = s.store := by
  simp only [State.violation]
  split_ifs <;> simp

/-! ### An initiator's NI (R136, R139, R142, R155) -/

@[simp] theorem State.store_statAnswer (n : Nat) (st : Sts) (dem late : Bool) : (s.statAnswer n st dem late).store = s.store := rfl
@[simp] theorem State.store_statRequest (n lat : Nat) (st : Sts) (size : Nat) : (s.statRequest n lat st size).store = s.store := rfl
@[simp] theorem State.store_selectRoute (n : Nat) (serving : List Nat) (cls : Nat) :
    (s.selectRoute n serving cls).1.store = s.store := by
  simp only [State.selectRoute]
  repeat' split
  all_goals simp
@[simp] theorem State.store_classCheck (n t cls route charge : Nat) (rev : Bool) :
    (s.classCheck n t cls route charge rev).1.store = s.store := by simp [State.classCheck]
@[simp] theorem State.store_niJudge (n t cmd cls a size : Nat) (rowsOk : Bool) :
    (s.niJudge n t cmd cls a size rowsOk).1.store = s.store := by
  simp only [State.niJudge]
  repeat' split
  any_goals simp
  all_goals exact State.store_of_eq ‹s.selectRoute _ _ _ = _› (by simp)
theorem State.store_addFlight (f : Flight) : (s.addFlight f).store = s.store := rfl
theorem State.store_inject (n : Nat) (p : Pkt) : (s.inject n p).store = s.store := s.store_addFlight _
@[simp] theorem State.store_engSend (n idx : Nat) (p : Pkt) (se : Bool) : (s.engSend n idx p se).store = s.store := by
  simp only [State.engSend, State.store_inject, State.store_updNi, State.store_update]

/-! ### A target's NI (R144, R147, R150) -/

@[simp] theorem State.store_domWake (d : Nat) : (s.domWake d).store = s.store := by simp [State.domWake]
@[simp] theorem State.store_askWake (n d : Nat) : (s.askWake n d).store = s.store := by simp [State.askWake]
@[simp] theorem State.store_denyWake (n d t src : Nat) : (s.denyWake n d t src).store = s.store := by simp [State.denyWake]
@[simp] theorem State.store_icvRefuse : s.icvRefuse.store = s.store := by simp [State.icvRefuse]
@[simp] theorem State.store_dramAccept (h : Hdr) : (s.dramAccept h).1.store = s.store := by simp [State.dramAccept]
@[simp] theorem State.store_coreExt (a : Nat) : (s.coreExt a).store = s.store := by
  rw [State.coreExt]
  split
  · rfl
  · exact s.store_updCore _ _

@[simp] theorem State.caps_wrBytes (a : Nat) (l : List Byte) : (s.wrBytes a l).caps = s.caps := by
  induction l generalizing s a with
  | nil => rfl
  | cons b l ih => rw [State.wrBytes, ih, State.caps_wrByte]

end

/-! ### Bytes written -/

/-- The `n` bytes from `a` on. -/
def span (a n b : Nat) : Prop := a ≤ b ∧ b < a + n

/-- Of streams and memory nothing has changed but bytes in `P`. -/
structure State.Wrote (P : Nat → Prop) (s t : State) : Prop where
  caps : t.caps = s.caps
  byte : ∀ b, ¬ P b → t.rdByte b = s.rdByte b

namespace State.Wrote

variable {P Q : Nat → Prop} {s t u : State}

theorem of_store (h : t.store = s.store) : Wrote P s t := ⟨State.caps_of_store h, fun b _ => State.rdByte_of_store h b⟩

theorem trans (h : Wrote P s t) (h' : Wrote P t u) : Wrote P s u :=
  ⟨h'.caps.trans h.caps, fun b hb => (h'.byte b hb).trans (h.byte b hb)⟩

theorem mono (h : Wrote P s t) (hP : ∀ b, P b → Q b) : Wrote Q s t := ⟨h.caps, fun b hb => h.byte b fun hp => hb (hP b hp)⟩

theorem store (h : Wrote P s t) (hu : u.store = t.store) : Wrote P s u := h.trans (.of_store hu)

theorem wrBytes (s : State) (a : Nat) (l : List Byte) : Wrote (span a l.length) s (s.wrBytes a l) :=
  ⟨s.caps_wrBytes a l, fun b hb => s.rdByte_wrBytes_ne l (by simp only [span] at hb; omega)⟩

theorem foldl_fst {α β : Type} {f : State × β → α → State × β} {l : List α} (hf : ∀ a ∈ l, ∀ r, Wrote P r.1 (f r a).1)
    (r : State × β) : Wrote P r.1 (l.foldl f r).1 := by
  induction l generalizing r with
  | nil => exact .of_store rfl
  | cons a l ih =>
    exact (hf a List.mem_cons_self r).trans (ih (fun b hb => hf b (List.mem_cons_of_mem a hb)) (f r a))

/-- The memory behind an NI. -/
theorem memServe (s : State) (p : Pkt) : Wrote (span p.h.addr p.data.length) s (s.memServe p).1 := by
  simp only [State.memServe]
  split_ifs
  · exact .of_store rfl
  · exact .of_store (by simp)
  · exact .of_store (by simp)
  · exact (of_store (by simp)).trans (wrBytes _ _ _)
  · exact .of_store (by simp)

theorem engServe (s : State) (m : Nat) (p : Pkt) : Wrote (span p.h.addr p.data.length) s (s.engServe m p).1 := by
  simp only [State.engServe]
  split
  · exact (memServe s p).store (by simp)
  · exact memServe s p

theorem engAdmit (s : State) (m : Nat) (p : Pkt) : Wrote (span p.h.addr p.data.length) s (s.engAdmit m p).1 := by
  simp only [State.engAdmit]
  split
  · exact .of_store (by simp)
  · split
    · exact engServe s m p
    · exact .of_store rfl
    · exact .of_store (by simp)
    · exact (of_store (by simp)).trans (engServe _ m p)

theorem engTarget (s : State) (m : Nat) (p : Pkt) : Wrote (span p.h.addr p.data.length) s (s.engTarget m p).1 := by
  simp only [State.engTarget]
  split
  · exact .of_store rfl
  · split
    · exact engAdmit s m p
    · split
      · exact (of_store (by simp)).trans (engAdmit _ m p)
      · exact .of_store (by simp)
      · exact .of_store (by simp)

/-- One part of a request. -/
theorem engPart (s : State) (n t cmd cls a size : Nat) (data : List Byte) (rowsOk : Bool) :
    Wrote (span a data.length) s (s.engPart n t cmd cls a size data rowsOk).1 := by
  unfold State.engPart
  split
  · next h => exact .of_store ((State.store_statAnswer _ _ _ _ _).trans (State.store_of_eq h (by simp)))
  · next h =>
    have hjudge := State.store_of_eq h (State.store_niJudge _ _ _ _ _ _ _ _)
    dsimp only
    split
    · exact .of_store ((State.store_engSend _ _ _ _ _).trans hjudge)
    · refine State.Wrote.store ((of_store ?_).trans ((engTarget (State.cntWrap _ _ _ _ _) _ _).mono fun b hb => hb))
        (State.store_statAnswer _ _ _ _ _)
      exact (State.store_cntWrap _ _ _ _ _).trans hjudge

end State.Wrote

/-- The parts of a request lie within it (R131). -/
theorem splitReq_within (f a n : Nat) : ∀ p ∈ splitReq f a n, a ≤ p.1 ∧ p.1 + p.2 ≤ a + n := by
  induction f generalizing a n with
  | zero => simp [splitReq]
  | succ f ih =>
    intro p hp
    rw [splitReq] at hp
    split at hp
    · simp at hp
    · rcases List.mem_cons.mp hp with rfl | hp
      · dsimp only; omega
      · have := ih _ _ p hp
        omega

namespace State.Wrote

theorem engReqT (s : State) (t n cmd cls a size : Nat) (data : List Byte) :
    Wrote (span a size) s (s.engReqT t n cmd cls a size data).1 := by
  simp only [State.engReqT]
  split
  · exact .of_store rfl
  · refine State.Wrote.store (foldl_fst (fun p hp r => ?_) (s, Sts.ok)) (State.store_statRequest _ _ _ _ _)
    obtain ⟨hlo, hhi⟩ := splitReq_within _ _ _ p hp
    refine (engPart r.1 n t cmd cls p.1 p.2 _ _).mono fun b hb => ?_
    have hlen := List.length_take_le p.2 (data.drop (p.1 - a))
    simp only [span] at hb ⊢
    omega

/-- A receiver's write. -/
theorem capWrite (s : State) (n : Nat) (c : List Word) (a : Nat) (l : List Byte) :
    Wrote (span a l.length) s (s.capWrite n c a l) := by
  simp only [State.capWrite, State.engWrite, State.engReq]
  split
  · exact .of_store rfl
  · exact engReqT _ _ _ _ _ _ _ _

end State.Wrote

end Sys2Proof.Machine
end

section
/-! The receivers' streams (12 R295 to R300): one stream is changed at a time, and what its slots and its record take in memory. -/

namespace Sys2Proof.Machine

/-! ### Lengths of what a receiver writes -/

theorem length_leBytes (n v : Nat) : (leBytes n v).length = n := by
  induction n generalizing v with
  | zero => rfl
  | succ n ih => rw [leBytes, List.length_cons, ih]

theorem length_packGroup (fmt : Nat) {p : List Nat} (h : p.length = (pixGroup fmt).1) :
    (packGroup fmt p).length = (pixGroup fmt).2.1 := by
  unfold packGroup
  split_ifs with h0 h4
  · subst h0
    rw [List.length_map, h]; rfl
  · have hg : pixGroup fmt = (1, 2, 0) := by
      unfold pixGroup
      rw [if_neg (by omega), if_neg (by omega), if_neg (by omega), if_neg (by omega)]
    rw [hg] at h ⊢
    obtain ⟨a, rfl⟩ := List.length_eq_one_iff.mp h
    rfl
  · have hle : (pixGroup fmt).1 ≤ (pixGroup fmt).2.1 := by
      unfold pixGroup
      split_ifs <;> decide
    rw [List.length_append, List.length_map, length_leBytes, h]
    omega

theorem length_packLine (fmt : Nat) (p : List Nat) (fill : Nat → Nat) : (packLine fmt p fill).length = pixBytes fmt p.length := by
  rw [packLine, List.length_flatMap, List.map_congr_left (g := fun _ => (pixGroup fmt).2.1)
    (fun _ _ => length_packGroup fmt (by simp))]
  simp [pixBytes]

theorem length_recHeader (x : CapStr) (flags frm lp filled : Nat) : (recHeader x flags frm lp filled).length = 64 := by
  simp [recHeader, length_leBytes]

/-! ### One stream of the receivers -/

/-- How many streams each receiver has. -/
def State.strCounts (s : State) : List Nat := s.caps.map List.length

/-- Receiver `n` has a stream `k`. -/
def State.HasStr (s : State) (n k : Nat) : Prop := k < s.strCounts.getD n 0

theorem State.hasStr_of_counts {s t : State} {n k : Nat} (h : s.HasStr n k) (ht : t.strCounts = s.strCounts) : t.HasStr n k := by
  rwa [State.HasStr, ht]

theorem State.hasStr_of_shape {s : State} (h : s.Shape) (n : Fin 2) (k : Fin 4) : s.HasStr n k := by
  obtain ⟨-, -, -, ⟨hlen, hfour, -⟩, -⟩ := h
  have hn : n.val < s.caps.length := by omega
  have hk : s.caps[n.val].length = 4 := hfour _ (List.getElem_mem hn)
  rw [State.HasStr, State.strCounts, List.getD_eq_getElem _ _ (by rwa [List.length_map]), List.getElem_map, hk]
  exact k.isLt

section
variable (s : State) (n k : Nat) (f : CapStr → CapStr)

theorem State.str_of_caps {s t : State} (h : t.caps = s.caps) (n k : Nat) : t.str n k = s.str n k := by
  rw [State.str, h, State.str]

theorem State.hasStr_iff {s : State} {n k : Nat} : s.HasStr n k ↔ k < (s.caps.getD n []).length := by
  rw [State.HasStr, State.strCounts, ← List.length_nil (α := CapStr), List.getD_map]

theorem State.str_of_not_hasStr {s : State} {n k : Nat} (h : ¬ s.HasStr n k) : s.str n k = CapStr.zero :=
  List.getD_eq_default _ _ (Nat.le_of_not_lt (mt State.hasStr_iff.mpr h))

@[simp] theorem State.strCounts_updStr : (s.updStr n k f).strCounts = s.strCounts := by
  apply List.ext_getElem?
  intro i
  simp only [State.strCounts, State.updStr, List.getElem?_map, List.getElem?_modify]
  split <;> cases s.caps[i]? <;> simp

/-- The stream named becomes what `f` makes of it. -/
theorem State.str_updStr_same {s : State} {n k : Nat} (h : s.HasStr n k) : (s.updStr n k f).str n k = f (s.str n k) := by
  have hk := State.hasStr_iff.mp h
  have hn : n < s.caps.length := by
    by_contra hn
    rw [List.getD_eq_default _ _ (by omega)] at hk
    exact absurd hk (Nat.not_lt_zero k)
  rw [List.getD_eq_getElem _ _ hn] at hk
  simp [State.str, State.updStr, hn, hk]

theorem State.str_updStr_ne {j : Nat} (h : j ≠ k) : (s.updStr n k f).str n j = s.str n j := by
  by_cases hn : n < s.caps.length <;> simp [State.str, State.updStr, hn, Ne.symm h]

/-- What `f` leaves of every stream, the change leaves. -/
theorem State.str_updStr_keeps {γ : Type} (g : CapStr → γ) (h : ∀ x, g (f x) = g x) :
    g ((s.updStr n k f).str n k) = g (s.str n k) := by
  by_cases hs : s.HasStr n k
  · rw [State.str_updStr_same f hs, h]
  · rw [State.str_of_not_hasStr hs, State.str_of_not_hasStr (mt (State.hasStr_of_counts · (s.strCounts_updStr n k f).symm) hs)]

@[simp] theorem State.rdByte_updStr (a : Nat) : (s.updStr n k f).rdByte a = s.rdByte a := rfl
@[simp] theorem State.mem_updStr : (s.updStr n k f).mem = s.mem := rfl
end

/-! ### A line slot and its status (R295, R300) -/

/-- The pixels of a line are in its slot. -/
def State.slotPix (s : State) (n k y : Nat) (pix : List Nat) : State :=
  let x := s.str n k
  let stored := s.capWrite n x.cfg (cfgBuf x.cfg x.buf + y * (x.cfg.getD 3 0).toNat)
    (packLine (cfgFmt x.cfg) pix fun _ => s.freeW.toNat % 256)
  if cfgWidth x.cfg % (pixGroup (cfgFmt x.cfg)).1 == 0 then stored else stored.tookFree

/-- So is the line's status; the line is yet to be noted. -/
def State.slotBytes (s : State) (n k y : Nat) (pix : List Nat) (st : Nat) : State :=
  (s.slotPix n k y pix).capWrite n (s.str n k).cfg (cfgRec (s.str n k).cfg (s.str n k).buf + 0x40 + y) [BitVec.ofNat 8 st]

/-- A line and its status are noted. -/
def CapStr.noted (st : Nat) (x : CapStr) : CapStr := { x with lines := x.lines ++ [st] }

theorem State.slotWrite_eq (s : State) (n k y : Nat) (pix : List Nat) (st : Nat) :
    s.slotWrite n k y pix st = (s.slotBytes n k y pix st).updStr n k (CapStr.noted st) := rfl

/-- The bytes of slot `y` of the open frame, and its status byte. -/
def CapStr.slot (x : CapStr) (y len b : Nat) : Prop :=
  span (cfgBuf x.cfg x.buf + y * (x.cfg.getD 3 0).toNat) len b ∨ b = cfgRec x.cfg x.buf + 0x40 + y

theorem State.Wrote.slotPix (s : State) (n k y : Nat) (pix : List Nat) :
    Wrote ((s.str n k).slot y (pixBytes (cfgFmt (s.str n k).cfg) pix.length)) s (s.slotPix n k y pix) := by
  have hstored := Wrote.capWrite s n (s.str n k).cfg
    (cfgBuf (s.str n k).cfg (s.str n k).buf + y * ((s.str n k).cfg.getD 3 0).toNat)
    (packLine (cfgFmt (s.str n k).cfg) pix fun _ => s.freeW.toNat % 256)
  rw [length_packLine] at hstored
  have hslot := hstored.mono (Q := (s.str n k).slot y (pixBytes (cfgFmt (s.str n k).cfg) pix.length)) fun _ hb => .inl hb
  unfold State.slotPix
  dsimp only
  split
  · exact hslot
  · exact hslot.store (State.store_tookFree _)

theorem State.Wrote.slotBytes (s : State) (n k y : Nat) (pix : List Nat) (st : Nat) :
    Wrote ((s.str n k).slot y (pixBytes (cfgFmt (s.str n k).cfg) pix.length)) s (s.slotBytes n k y pix st) := by
  refine (Wrote.slotPix s n k y pix).trans ((Wrote.capWrite _ n _ _ _).mono fun b hb => ?_)
  rw [span, List.length_singleton] at hb
  exact .inr (by omega)

theorem State.strCounts_of_caps {s t : State} (h : t.caps = s.caps) : t.strCounts = s.strCounts := by
  rw [State.strCounts, h, State.strCounts]

theorem State.strCounts_slotWrite (s : State) (n k y : Nat) (pix : List Nat) (st : Nat) :
    (s.slotWrite n k y pix st).strCounts = s.strCounts := by
  rw [State.slotWrite_eq, State.strCounts_updStr, State.strCounts_of_caps (State.Wrote.slotBytes s n k y pix st).caps]

theorem State.str_slotWrite {s : State} {n k : Nat} (h : s.HasStr n k) (y : Nat) (pix : List Nat) (st : Nat) :
    (s.slotWrite n k y pix st).str n k = CapStr.noted st (s.str n k) := by
  have hcaps := (State.Wrote.slotBytes s n k y pix st).caps
  rw [State.slotWrite_eq, State.str_updStr_same _ (State.hasStr_of_counts h (State.strCounts_of_caps hcaps)),
    State.str_of_caps hcaps]

/-! ### A frame closes (R299, R300) -/

/-- The slots that are missing are padded. -/
def State.padded (s : State) (n k : Nat) : State :=
  let x := s.str n k
  (List.range (cfgHeight x.cfg - x.lines.length)).foldl (fun s i =>
    s.slotWrite n k (x.lines.length + i) (List.replicate (cfgWidth x.cfg) (cfgPad x.cfg)) 0x10) s

/-- The flags of a closing frame of which `filled` lines of `h` came. -/
def CapStr.closeFlags (x : CapStr) (filled h : Nat) (fe : Bool) (why : Nat) : Nat :=
  let bad := x.lines.any fun l => l != 0
  x.flags ||| why ||| (if filled < h then 2 else 0) ||| (if bad then 0x20 else 0) ||| (if x.dropped = 0 then 0 else 0x80) |||
    (if fe ∧ h ≤ filled ∧ bad = false then 1 else 0)

/-- The open frame is among those closing, with its flags. -/
def CapStr.closed (flags : Nat) (x : CapStr) : CapStr :=
  { x with op := false, dropped := 0, hdrLoss := false, closing := x.closing ++ [⟨x.cfg, x.buf, x.id, flags⟩] }

/-- The flags with which a stream's frame closes. -/
def State.closeFlags (s : State) (n k : Nat) (fe : Bool) (why : Nat) : Nat :=
  ((s.padded n k).str n k).closeFlags (s.str n k).lines.length (cfgHeight (s.str n k).cfg) fe why

/-- The record of the frame is written. -/
def State.recorded (s : State) (n k : Nat) (fe : Bool) (why : Nat) : State :=
  let p := s.padded n k
  let x := p.str n k
  p.capWrite n x.cfg (cfgRec x.cfg x.buf) (recHeader x (s.closeFlags n k fe why) p.ltb.frame.toNat p.posLP (s.str n k).lines.length)

theorem State.strClose_eq (s : State) (n k : Nat) (fe : Bool) (why : Nat) :
    s.strClose n k fe why = (s.recorded n k fe why).updStr n k (CapStr.closed (s.closeFlags n k fe why)) := rfl

theorem State.Wrote.recorded (s : State) (n k : Nat) (fe : Bool) (why : Nat) :
    Wrote (span (cfgRec ((s.padded n k).str n k).cfg ((s.padded n k).str n k).buf) 64) (s.padded n k) (s.recorded n k fe why) := by
  have h := Wrote.capWrite (s.padded n k) n ((s.padded n k).str n k).cfg
    (cfgRec ((s.padded n k).str n k).cfg ((s.padded n k).str n k).buf)
    (recHeader ((s.padded n k).str n k) (s.closeFlags n k fe why) (s.padded n k).ltb.frame.toNat (s.padded n k).posLP
      (s.str n k).lines.length)
  rwa [length_recHeader] at h

theorem State.strCounts_padded (s : State) (n k : Nat) : (s.padded n k).strCounts = s.strCounts :=
  foldl_keeps State.strCounts (fun t _ => t.strCounts_slotWrite n k _ _ _) _ s

theorem State.closing_padded (s : State) (n k : Nat) : ((s.padded n k).str n k).closing = (s.str n k).closing := by
  refine foldl_keeps (fun t => (t.str n k).closing) (fun t i => ?_) _ s
  rw [State.slotWrite_eq, State.str_updStr_keeps _ n k (CapStr.noted 0x10) CapStr.closing fun _ => rfl,
    State.str_of_caps (State.Wrote.slotBytes t n k _ _ _).caps]

theorem State.str_strClose {s : State} {n k : Nat} (h : s.HasStr n k) (fe : Bool) (why : Nat) :
    (s.strClose n k fe why).str n k = CapStr.closed (s.closeFlags n k fe why) ((s.padded n k).str n k) := by
  have hcaps := (State.Wrote.recorded s n k fe why).caps
  have hcounts := (State.strCounts_of_caps hcaps).trans (s.strCounts_padded n k)
  rw [State.strClose_eq, State.str_updStr_same _ (State.hasStr_of_counts h hcounts), State.str_of_caps hcaps]

/-- A frame all of whose lines came has no slot to pad. -/
theorem State.padded_of_full {s : State} {n k : Nat} (h : (s.str n k).lines.length = cfgHeight (s.str n k).cfg) :
    s.padded n k = s := by
  rw [State.padded, h, Nat.sub_self]; rfl

/-- A complete frame without a fault closes with flags 1. -/
theorem State.closeFlags_clean {s : State} {n k : Nat} (hlen : (s.str n k).lines.length = cfgHeight (s.str n k).cfg)
    (hgood : ((s.str n k).lines.all fun l => l == 0) = true) (hflags : (s.str n k).flags = 0) (hdropped : (s.str n k).dropped = 0) :
    s.closeFlags n k true 0 = 1 := by
  have hbad : ((s.str n k).lines.any fun l => l != 0) = false := by
    rw [← Bool.not_eq_true', List.not_any_eq_all_not]
    simpa using hgood
  rw [State.closeFlags, State.padded_of_full hlen, CapStr.closeFlags, hbad, hlen, hflags, hdropped]
  simp

end Sys2Proof.Machine
end

section
/-! Frame starts at a receiver (12 R296, R297, R299): one stream on the channel opens its next free buffer, or drops the frame. -/

namespace Sys2Proof.Machine

/-! ### A fold in which one element acts -/

theorem foldl_stays {α β : Type} {f : β → α → β} {t : β} {l : List α} (h : ∀ j ∈ l, f t j = t) : l.foldl f t = t := by
  induction l with
  | nil => rfl
  | cons a l ih => rw [List.foldl_cons, h a List.mem_cons_self, ih fun j hj => h j (List.mem_cons_of_mem a hj)]

theorem foldl_single {α β : Type} {f : β → α → β} {l : List α} {k : α} {s t : β} (hk : k ∈ l) (hnd : l.Nodup)
    (hs : ∀ j ∈ l, j ≠ k → f s j = s) (hst : f s k = t) (ht : ∀ j ∈ l, j ≠ k → f t j = t) : l.foldl f s = t := by
  induction l with
  | nil => exact absurd hk List.not_mem_nil
  | cons a l ih =>
    obtain ⟨ha, hnd⟩ := List.nodup_cons.mp hnd
    rw [List.foldl_cons]
    by_cases hak : a = k
    · rw [hak, hst]
      exact foldl_stays fun j hj => ht j (List.mem_cons_of_mem a hj) fun e => ha (hak ▸ e ▸ hj)
    · rw [hs a List.mem_cons_self hak]
      exact ih ((List.mem_cons.mp hk).resolve_left fun e => hak e.symm) hnd
        (fun j hj => hs j (List.mem_cons_of_mem a hj)) fun j hj => ht j (List.mem_cons_of_mem a hj)

/-! ### The values that govern a stream -/

section
variable {s t : State} {n j : Nat}

theorem State.strAct_congr (ha : t.act = s.act) (hg : t.grade = s.grade) : t.strAct n j = s.strAct n j := by
  simp only [State.strAct, State.a, ha, hg]

theorem State.strCfg_congr (ha : t.act = s.act) (hg : t.grade = s.grade) (hx : t.str n j = s.str n j) : t.strCfg n j = s.strCfg n j := by
  rw [State.strCfg, hx, State.strAct_congr ha hg, State.strCfg]

theorem State.strOnVc_congr (ha : t.act = s.act) (hg : t.grade = s.grade) (hx : t.str n j = s.str n j) (vc : Nat) :
    t.strOnVc n j vc = s.strOnVc n j vc := by
  rw [State.strOnVc, State.strCfg_congr ha hg hx, State.strAct_congr ha hg, State.strOnVc]

end

/-! ### A stream meets a frame start -/

/-- The stream no longer waits for a frame start, drops nothing, and counts the frame. -/
def CapStr.met (x : CapStr) : CapStr :=
  { x with await := false, dropping := false, ctr := if x.ctr = 65535 then 1 else x.ctr + 1 }

/-- The frame is open in buffer `b` of the active values, stamped with the frame and the position. -/
def CapStr.opened (cfg : List Word) (num : Nat) (frm : Word) (lp b : Nat) (x : CapStr) : CapStr :=
  { x with
    op := true, cfg := cfg, buf := b, lines := [], flags := 0, extra := 0, hdrLoss := false,
    id := if cfgW cfg 0 18 18 = 1 ∨ num % 65536 = 0 then x.ctr else num % 65536,
    frm := frm, lp := lp, next := (b + 1) % cfgNbuf cfg }

/-- The frame is dropped. -/
def CapStr.missed (x : CapStr) : CapStr := { x with dropping := true, dropped := x.dropped + 1 }

theorem CapStr.met_missed (x : CapStr) :
    x.met.missed.op = x.op ∧ x.met.missed.dropping = true ∧ x.met.missed.dropped = x.dropped + 1 := ⟨rfl, rfl, rfl⟩

/-- The stream's next buffer. -/
def State.nextBuf (s : State) (n k : Nat) : Nat := (s.str n k).next % cfgNbuf (s.strAct n k)

section
variable {s : State} {n k : Nat}

theorem State.strStart_eq (num : Nat) (hs : s.HasStr n k) (hop : (s.str n k).op = false) :
    s.strStart n k num =
      if (s.str n k).free (s.nextBuf n k) then
        ((s.updStr n k CapStr.met).updStr n k
          (CapStr.opened (s.strAct n k) num s.ltb.frame s.posLP (s.nextBuf n k))).strSeen n k
      else (((s.updStr n k CapStr.met).updStr n k CapStr.missed).cntUp (pgCAP n) (strOff k 0x38) 15 0 1).ev (pgCAP n) (4 * k + 2) := by
  have hmet : (s.updStr n k CapStr.met).str n k = (s.str n k).met := State.str_updStr_same _ hs
  have hbuf : ((s.str n k).met).next % cfgNbuf (s.strAct n k) = s.nextBuf n k := rfl
  have heq : s.strStart n k num =
      if ((s.updStr n k CapStr.met).str n k).free (((s.updStr n k CapStr.met).str n k).next % cfgNbuf (s.strAct n k)) then
        ((s.updStr n k CapStr.met).updStr n k (CapStr.opened (s.strAct n k) num s.ltb.frame s.posLP
          (((s.updStr n k CapStr.met).str n k).next % cfgNbuf (s.strAct n k)))).strSeen n k
      else (((s.updStr n k CapStr.met).updStr n k CapStr.missed).cntUp (pgCAP n) (strOff k 0x38) 15 0 1).ev (pgCAP n) (4 * k + 2) := by
    rw [State.strStart, hop, if_neg Bool.false_ne_true]
    rfl
  rw [heq, hmet, hbuf]
  rfl

theorem State.str_strStart_free (num : Nat) (hs : s.HasStr n k) (hop : (s.str n k).op = false)
    (hfree : (s.str n k).free (s.nextBuf n k) = true) :
    (s.strStart n k num).str n k =
      { CapStr.opened (s.strAct n k) num s.ltb.frame s.posLP (s.nextBuf n k) (s.str n k).met with
        lastFrm := s.ltb.frame, lastLine := s.ltb.line } := by
  have hmet := State.hasStr_of_counts hs (s.strCounts_updStr n k CapStr.met)
  rw [State.strStart_eq num hs hop, if_pos hfree, State.strSeen,
    State.str_updStr_same _ (State.hasStr_of_counts hmet (State.strCounts_updStr _ n k _)),
    State.str_updStr_same _ hmet, State.str_updStr_same _ hs]
  rfl

theorem State.str_strStart_full (num : Nat) (hs : s.HasStr n k) (hop : (s.str n k).op = false)
    (hfull : (s.str n k).free (s.nextBuf n k) = false) : (s.strStart n k num).str n k = (s.str n k).met.missed := by
  have hmet := State.hasStr_of_counts hs (s.strCounts_updStr n k CapStr.met)
  rw [State.strStart_eq num hs hop, if_neg (by rw [hfull]; exact Bool.false_ne_true), State.str_of_caps (State.caps_ev _ _ _),
    State.str_of_caps (State.caps_cntUp _ _ _ _ _ _), State.str_updStr_same _ hmet, State.str_updStr_same _ hs]

theorem State.raised_strStart_full (num : Nat) (hs : s.HasStr n k) (hop : (s.str n k).op = false) (hk : k < 4)
    (hfull : (s.str n k).free (s.nextBuf n k) = false) :
    (s.strStart n k num).f (pgCAP n) 0x014 (4 * k + 2) (4 * k + 2) = 1 := by
  rw [State.strStart_eq num hs hop, if_neg (by rw [hfull]; exact Bool.false_ne_true)]
  exact State.f_ev_same _ _ (by omega)

/-- Another stream stays as it was. -/
theorem State.str_strStart_ne (num : Nat) (hs : s.HasStr n k) (hop : (s.str n k).op = false) {j : Nat} (hj : j ≠ k) :
    (s.strStart n k num).str n j = s.str n j := by
  rw [State.strStart_eq num hs hop]
  split
  · rw [State.strSeen, State.str_updStr_ne _ n k _ hj, State.str_updStr_ne _ n k _ hj, State.str_updStr_ne _ n k _ hj]
  · rw [State.str_of_caps (State.caps_ev _ _ _), State.str_of_caps (State.caps_cntUp _ _ _ _ _ _),
      State.str_updStr_ne _ n k _ hj, State.str_updStr_ne _ n k _ hj]

theorem State.mem_strStart (num : Nat) (hs : s.HasStr n k) (hop : (s.str n k).op = false) : (s.strStart n k num).mem = s.mem := by
  rw [State.strStart_eq num hs hop]
  split <;> rfl

theorem State.act_strStart (num : Nat) (hs : s.HasStr n k) (hop : (s.str n k).op = false) : (s.strStart n k num).act = s.act := by
  rw [State.strStart_eq num hs hop]
  split <;> rfl

theorem State.grade_strStart (num : Nat) (hs : s.HasStr n k) (hop : (s.str n k).op = false) :
    (s.strStart n k num).grade = s.grade := by
  rw [State.strStart_eq num hs hop]
  split <;> rfl

/-- A frame start of which one stream takes the channel. -/
theorem State.csiFrameStart_eq {vc hdr : Nat} (num : Nat) (hrun : s.camRun = true) (hn : n < 2) (hhdr : hdr ≠ 2) (hk : k < 4)
    (hs : s.HasStr n k) (hop : (s.str n k).op = false) (hen : cfgEn (s.strAct n k) = true) (hvc : cfgVc (s.strAct n k) = vc)
    (hothers : ∀ j < 4, j ≠ k → s.strOnVc n j vc = false) : s.csiFrameStart n vc num hdr = s.strStart n k num := by
  have hon : s.strOnVc n k vc = true := by simp [State.strOnVc, hen, hvc]
  have hstarted (j : Nat) (hj : j < 4) (hjk : j ≠ k) : (s.strStart n k num).strOnVc n j vc = false := by
    rw [State.strOnVc_congr (State.act_strStart num hs hop) (State.grade_strStart num hs hop) (State.str_strStart_ne num hs hop hjk)]
    exact hothers j hj hjk
  rw [State.csiFrameStart, if_neg (not_or.mpr ⟨by rw [hrun]; decide, by omega⟩), if_neg hhdr]
  refine foldl_single (List.mem_range.mpr hk) List.nodup_range (fun j hj hjk => ?_) ?_ fun j hj hjk => ?_
  · rw [hothers j (List.mem_range.mp hj) hjk, if_neg Bool.false_ne_true]
  · rw [if_pos hon, if_pos ⟨hen, hvc⟩]
  · rw [hstarted j (List.mem_range.mp hj) hjk, if_neg Bool.false_ne_true]

end

/-! ### What the scan engine makes of it (13 R326, R327) -/

theorem State.store_updSill (s : State) (f : Sill → Sill) : (s.updSill f).store = s.store := rfl
theorem State.store_updScn (s : State) (f : Scn → Scn) : (s.updScn f).store = s.store := rfl

theorem State.Within.updSill {P : Nat → Prop} {s t : State} (h : State.Within P s t) (f : Sill → Sill) :
    State.Within P s (t.updSill f) := h.update rfl rfl rfl rfl rfl rfl rfl

theorem State.Within.updScn {P : Nat → Prop} {s t : State} (h : State.Within P s t) (f : Scn → Scn) :
    State.Within P s (t.updScn f) := h.update rfl rfl rfl rfl rfl rfl rfl

theorem State.store_scnFs (s : State) (rx st : Nat) : (s.scnFs rx st).store = s.store := by
  rw [State.scnFs]
  dsimp only
  split
  · rfl
  · split
    · exact State.store_updSill _ _
    · split
      · exact ((State.store_ev _ _ _).trans (State.store_cntUp _ _ _ _ _ _)).trans (State.store_updSill _ _)
      · exact ((State.store_updScn _ _).trans (State.store_w _ _ _ _)).trans (State.store_updSill _ _)

theorem State.Within.scnFs (s : State) (rx st : Nat) : State.Within (· = pgSCN) s (s.scnFs rx st) := by
  have hrefl := State.Within.refl (· = pgSCN) s
  rw [State.scnFs]
  dsimp only
  split
  · exact hrefl
  · split
    · exact hrefl.updSill _
    · split
      · exact ((hrefl.updSill _).cntUp _ _ _ rfl (by decide) (by decide)).ev rfl (by decide)
      · exact ((hrefl.updSill _).w _ rfl (by decide) (by decide)).updScn _

theorem State.store_frameStartAll (s : State) (n vc num hdr : Nat) :
    (s.frameStartAll n vc num hdr).store = (s.csiFrameStart n vc num hdr).store := by
  unfold State.frameStartAll
  dsimp only
  split
  · rfl
  · refine foldl_keeps State.store (fun t k => ?_) _ _
    rw [State.store_ite, State.store_scnFs, ite_self]

theorem State.Within.frameStartAll (s : State) (n vc num hdr : Nat) :
    State.Within (· = pgSCN) (s.csiFrameStart n vc num hdr) (s.frameStartAll n vc num hdr) := by
  unfold State.frameStartAll
  exact .ite (.refl _ _) (.foldl (fun t k => .ite (.scnFs t n k) (.refl _ t)) _ (.refl _ _))

end Sys2Proof.Machine
end

section
/-! Lines and ends of frames at a receiver (12 R293, R294, R298, R300): a long packet, a frame end, a timeout, and FDONE. -/

namespace Sys2Proof.Machine

section
variable {s : State} {n k : Nat}

/-! ### Long packets -/

/-- CAP_FIFO keeps the highest fill met. -/
def State.fifoTop (s : State) (n fill : Nat) : State :=
  if s.f (pgCAP n) 0x050 31 16 < min fill (fifoUnits n) then s.sf (pgCAP n) 0x050 31 16 (min fill (fifoUnits n)) else s

@[simp] theorem State.store_fifoTop (s : State) (n fill : Nat) : (s.fifoTop n fill).store = s.store := by
  simp [State.fifoTop]

theorem State.strCfg_fifoTop (s : State) (n fill j : Nat) : (s.fifoTop n fill).strCfg n j = s.strCfg n j := by
  rw [State.fifoTop]
  split
  · exact State.strCfg_congr rfl rfl (State.str_of_caps (State.caps_sf _ _ _ _ _ _) n j)
  · rfl

/-- The line of the stream's last packet is noted. -/
def CapStr.seen (frm : Word) (line : Nat) (x : CapStr) : CapStr := { x with lastFrm := frm, lastLine := line }

/-- A line beyond the last is counted. -/
def CapStr.beyond (x : CapStr) : CapStr := { x with extra := x.extra + 1, flags := x.flags ||| 4 }

/-- A good line of the stream's width is in its slot. -/
def CapStr.taken (x : CapStr) : CapStr := { x with flags := x.flags ||| 0 ||| 0, lines := x.lines ++ [0] }

section
variable (x : CapStr) (frm : Word) (line : Nat)

theorem CapStr.seen_beyond : (x.seen frm line).beyond.extra = x.extra + 1 ∧ (x.seen frm line).beyond.lines = x.lines := ⟨rfl, rfl⟩

theorem CapStr.seen_taken : (x.seen frm line).taken.lines = x.lines ++ [0] ∧ (x.seen frm line).taken.flags = x.flags ∧
    (x.seen frm line).taken.op = x.op := ⟨rfl, (Nat.or_zero _).trans (Nat.or_zero _), rfl⟩

end

/-- A good long packet of a stream whose frame is open. -/
theorem State.csiLongPacket_open {vc dt wc fill : Nat} {payload : List Byte} (hrun : s.camRun = true) (hn : n < 2)
    (hknown : dtKnown dt = true)
    (hfind : ((List.range 4).find? fun j => cfgEn (s.strCfg n j) && cfgVc (s.strCfg n j) == vc && cfgDt (s.strCfg n j) == dt) = some k)
    (hop : (s.str n k).op = true) (hawait : (s.str n k).await = false) (hlen : payload.length = wc) :
    s.csiLongPacket n vc dt 0 wc payload true none fill =
      if cfgHeight (s.str n k).cfg ≤ (s.str n k).lines.length then ((s.fifoTop n fill).strSeen n k).updStr n k CapStr.beyond
      else ((s.fifoTop n fill).strSeen n k).lineIn n k 0 payload false none := by
  have hstr : (s.fifoTop n fill).str n k = s.str n k := State.str_of_caps (State.caps_of_store (s.store_fifoTop n fill)) n k
  have hfind' : ((List.range 4).find? fun j => cfgEn ((s.fifoTop n fill).strCfg n j) && cfgVc ((s.fifoTop n fill).strCfg n j) == vc &&
      cfgDt ((s.fifoTop n fill).strCfg n j) == dt) = some k := by
    simpa only [State.strCfg_fifoTop] using hfind
  have htake : payload.take wc = payload := List.take_of_length_le hlen.le
  have hshort : (!true || decide (payload.length < wc)) = false := by simp [hlen]
  rw [State.csiLongPacket, if_neg (not_or.mpr ⟨by rw [hrun]; decide, by omega⟩), if_neg (by decide)]
  dsimp only
  rw [← State.fifoTop, if_neg (by rw [hknown]; decide), hfind']
  dsimp only
  rw [hstr, if_neg (by simp [hawait, hop]), if_neg (by simp [hop]), htake, hshort]
  rfl

/-- The pixels of a line of the stream's width. -/
def CapStr.wholePix (x : CapStr) (payload : List Byte) : List Nat :=
  unpackLine (dtFmt (cfgDt x.cfg)) (cfgWidth x.cfg) payload ++ List.replicate (cfgWidth x.cfg - cfgWidth x.cfg) (cfgPad x.cfg)

theorem CapStr.length_wholePix (x : CapStr) (payload : List Byte) : (x.wholePix payload).length = cfgWidth x.cfg := by
  simp [CapStr.wholePix, unpackLine]

/-- A good line of the stream's width goes to the next slot with status 0. -/
theorem State.lineIn_whole {payload : List Byte}
    (hcount : pixCount (dtFmt (cfgDt (s.str n k).cfg)) payload.length = cfgWidth (s.str n k).cfg)
    (hloss : (s.str n k).hdrLoss = false) :
    s.lineIn n k 0 payload false none =
      (s.updStr n k fun x => { x with flags := x.flags ||| 0 ||| 0 }).slotWrite n k (s.str n k).lines.length
        ((s.str n k).wholePix payload) 0 := by
  have hstatus : b2n (decide (cfgWidth (s.str n k).cfg < cfgWidth (s.str n k).cfg)) = 0 := by rw [decide_eq_false (lt_irrefl _)]; rfl
  rw [State.lineIn, hcount, min_self, if_pos rfl, hstatus, hloss]
  rfl

theorem State.str_lineIn_whole {payload : List Byte} (hs : s.HasStr n k)
    (hcount : pixCount (dtFmt (cfgDt (s.str n k).cfg)) payload.length = cfgWidth (s.str n k).cfg)
    (hloss : (s.str n k).hdrLoss = false) :
    (s.lineIn n k 0 payload false none).str n k = (s.str n k).taken := by
  rw [State.lineIn_whole hcount hloss, State.str_slotWrite (State.hasStr_of_counts hs (s.strCounts_updStr n k _)),
    State.str_updStr_same _ hs, CapStr.noted, CapStr.taken]

theorem State.rdByte_lineIn_whole {payload : List Byte} (hs : s.HasStr n k)
    (hcount : pixCount (dtFmt (cfgDt (s.str n k).cfg)) payload.length = cfgWidth (s.str n k).cfg)
    (hloss : (s.str n k).hdrLoss = false) {b : Nat}
    (hb : ¬ (s.str n k).slot (s.str n k).lines.length (pixBytes (cfgFmt (s.str n k).cfg) (cfgWidth (s.str n k).cfg)) b) :
    (s.lineIn n k 0 payload false none).rdByte b = s.rdByte b := by
  have hslot := State.Wrote.slotBytes (s.updStr n k fun x => { x with flags := x.flags ||| 0 ||| 0 }) n k (s.str n k).lines.length
    ((s.str n k).wholePix payload) 0
  rw [State.str_updStr_same _ hs, CapStr.length_wholePix] at hslot
  rw [State.lineIn_whole hcount hloss, State.slotWrite_eq, State.rdByte_updStr]
  exact hslot.byte b hb

/-! ### Headers that could not be corrected (R293) -/

theorem State.f_updStr (s : State) (n k : Nat) (f : CapStr → CapStr) (p o hi lo : Nat) :
    (s.updStr n k f).f p o hi lo = s.f p o hi lo := rfl

/-- The open frames are marked: registers and memory stay. -/
theorem State.f_hdrLost (s : State) (n p o hi lo : Nat) :
    (s.hdrLost n).f p o hi lo = ((s.cntUp (pgCAP n) 0x04C 7 0 1).ev (pgCAP n) 16).f p o hi lo := by
  refine foldl_keeps (fun t => t.f p o hi lo) (fun t k => ?_) _ _
  split
  · exact t.f_updStr n k _ p o hi lo
  · rfl

theorem State.mem_hdrLost (s : State) (n : Nat) : (s.hdrLost n).mem = s.mem := by
  refine (foldl_keeps State.mem (fun t k => ?_) _ _).trans rfl
  split
  · exact t.mem_updStr n k _
  · rfl

theorem State.hdrLost_count (s : State) (n : Nat) :
    (s.hdrLost n).f (pgCAP n) 0x04C 7 0 = min 255 (s.f (pgCAP n) 0x04C 7 0 + 1) := by
  rw [State.f_hdrLost, State.f_ev_ne _ _ _ _ (by unfold rkey; omega), State.f_cntUp_same _ _ _ _ _ _ (by decide) (by decide)]
  rfl

theorem State.hdrLost_event (s : State) (n : Nat) : (s.hdrLost n).f (pgCAP n) 0x014 16 16 = 1 := by
  rw [State.f_hdrLost, State.f_ev_same _ _ (by decide)]

theorem State.csiLongPacket_lost (vc dt wc fill : Nat) (payload : List Byte) (ok : Bool) (fifo : Option Nat)
    (hrun : s.camRun = true) (hn : n < 2) : s.csiLongPacket n vc dt 2 wc payload ok fifo fill = s.hdrLost n := by
  rw [State.csiLongPacket, if_neg (not_or.mpr ⟨by rw [hrun]; decide, by omega⟩), if_pos rfl]

/-! ### Frame ends (R300) -/

theorem filter_range_single {m k : Nat} {p : Nat → Bool} (hk : k < m) (hp : p k = true) (hq : ∀ j < m, j ≠ k → p j = false) :
    (List.range m).filter p = [k] := by
  rw [List.filter_congr (q := (· == k)) fun j hj => ?_, List.filter_beq, List.count_eq_one_of_mem List.nodup_range (List.mem_range.mpr hk)]
  · rfl
  · by_cases hjk : j = k
    · rw [hjk, hp, beq_self_eq_true]
    · rw [hq j (List.mem_range.mp hj) hjk, beq_eq_false_iff_ne.mpr hjk]

/-- Blank-fill begins where the master's frame has ended (02 R51). -/
def State.frameEnded (s : State) (n vc : Nat) : State :=
  if s.actMaster = 2 + n ∧ s.af pgLTB 0x040 5 4 = vc ∧ s.mpending = false then s.updLtb fun l => { l with blankFill := true } else s

theorem State.store_frameEnded (s : State) (n vc : Nat) : (s.frameEnded n vc).store = s.store := by
  rw [State.frameEnded]
  split <;> rfl

theorem State.strOnVc_frameEnded (s : State) (n vc j : Nat) : (s.frameEnded n vc).strOnVc n j vc = s.strOnVc n j vc := by
  rw [State.frameEnded]
  split <;> rfl

/-- The stream drops no frame any more. -/
def CapStr.kept (x : CapStr) : CapStr := { x with dropping := false }

/-- What the stream is like as its frame closes. -/
theorem State.frameEnd_stream (s : State) (n k vc : Nat) (hs : s.HasStr n k) :
    ((s.frameEnded n vc).updStr n k CapStr.kept).str n k = (s.str n k).kept ∧
      ((s.frameEnded n vc).updStr n k CapStr.kept).HasStr n k ∧
      ∀ b, ((s.frameEnded n vc).updStr n k CapStr.kept).rdByte b = s.rdByte b := by
  have hstore := s.store_frameEnded n vc
  have hended := State.hasStr_of_counts hs (State.strCounts_of_caps (State.caps_of_store hstore))
  refine ⟨?_, State.hasStr_of_counts hended (State.strCounts_updStr _ n k _), fun b => ?_⟩
  · rw [State.str_updStr_same _ hended, State.str_of_caps (State.caps_of_store hstore)]
  · rw [State.rdByte_updStr, State.rdByte_of_store hstore]

/-- A frame end of which one stream takes the channel, with a frame open. -/
theorem State.csiFrameEnd_eq {vc hdr : Nat} (hrun : s.camRun = true) (hn : n < 2) (hhdr : hdr ≠ 2) (hk : k < 4)
    (hon : s.strOnVc n k vc = true) (hothers : ∀ j < 4, j ≠ k → s.strOnVc n j vc = false)
    (hop : (s.str n k).op = true) (hawait : (s.str n k).await = false) :
    s.csiFrameEnd n vc hdr = ((s.frameEnded n vc).updStr n k CapStr.kept).strClose n k true 0 := by
  have hstr : (s.frameEnded n vc).str n k = s.str n k := State.str_of_caps (State.caps_of_store (s.store_frameEnded n vc)) n k
  have htake : (List.range 4).filter (fun j =>
      (s.frameEnded n vc).strOnVc n j vc && ((s.frameEnded n vc).str n j).await == false) = [k] := by
    refine filter_range_single hk ?_ fun j hj hjk => ?_
    · rw [s.strOnVc_frameEnded, hon, hstr, hawait]; rfl
    · rw [s.strOnVc_frameEnded, hothers j hj hjk, Bool.false_and]
  have hopen : [k].filter (fun j => ((s.frameEnded n vc).str n j).op) = [k] := by
    rw [List.filter_cons, hstr, hop, if_pos rfl, List.filter_nil]
  rw [State.csiFrameEnd, if_neg (not_or.mpr ⟨by rw [hrun]; decide, by omega⟩), if_neg hhdr]
  dsimp only
  rw [← State.frameEnded, htake, hopen, if_pos (.inr (.inl (by simp)))]
  rfl

end

end Sys2Proof.Machine
end

section
/-! The obligation on streams (12 R292 to R300, R316, 02 R42, R64): their registers, and each packet in its turn. -/

namespace Sys2Proof.Machine

/-! ### Registers of a receiver (R296, R316) -/

/-- A write that reaches a register of receiver `n`. -/
theorem State.put_cap {s : State} {w : By} {n o : Nat} (v : Word) (h : s.Writes w .cap (pgCAP n) o) (h4 : o % 4 = 0) (ho : 0x040 ≤ o) :
    s.put w (pgCAP n) o v = (s.capRegWrite n o v).answer .ok 0 := by
  have hn : pgCAP n - 0x070 = n := Nat.add_sub_cancel_left _ _
  rw [State.put_eq v h h4 (by decide) (.inl (by decide)) (.inl (by decide)), State.pageWrite, if_neg (by omega)]
  change (s.capRegWrite (pgCAP n - 0x070) o v).answer .ok 0 = _
  rw [hn]

/-- A write of STR_REL. -/
theorem State.capRegWrite_strRel (s : State) (n : Nat) {k : Nat} (v : Word) (hk : k < 4) :
    s.capRegWrite n (0x130 + 0x40 * k) v = s.strRel n k (fldOf v 3 0) := by
  have hdiv : (0x130 + 0x40 * k - 0x100) / 0x40 = k := by omega
  rw [State.capRegWrite, hdiv, if_neg (by omega), if_pos (by omega)]

theorem State.strRel_bits (s : State) (n k : Nat) (m : BitVec 4) :
    s.strRel n k (fldOf (m.zeroExtend 32) 3 0) =
      s.updStr n k fun x => { x with held := x.held.filter fun b => !m.getLsbD b } := by
  have hbit (b : Nat) : (fldOf (m.zeroExtend 32) 3 0).testBit b = m.getLsbD b := by
    rw [testBit_fldOf]
    by_cases hb : b < 4
    · simp [hb]; omega
    · simp [hb, BitVec.getLsbD_of_ge m b (by omega)]
  simp only [State.strRel, hbit]

/-- A register written with 0, or 0 before. -/
theorem State.r_w_zero {s : State} {p o p' o' : Nat} (h : rkey p' o' = rkey p o ∨ s.r p' o' = 0) : (s.w p o 0).r p' o' = 0 := by
  by_cases he : rkey p' o' = rkey p o
  · rw [State.r, he]
    exact s.r_w_same p o 0
  · rw [State.r_w_ne s _ he]
    exact h.resolve_left he

theorem State.r_foldl_w_zero {p p' o' : Nat} (o : Nat → Nat) (l : List Nat) {s : State}
    (h : (∃ k ∈ l, rkey p' o' = rkey p (o k)) ∨ s.r p' o' = 0) : (l.foldl (fun s k => s.w p (o k) 0) s).r p' o' = 0 := by
  induction l generalizing s with
  | nil => exact h.resolve_left fun ⟨_, hk, _⟩ => List.not_mem_nil hk
  | cons a l ih =>
    refine ih ?_
    rcases h with ⟨k, hk, he⟩ | h
    · rcases List.mem_cons.mp hk with rfl | hk
      · exact .inr (State.r_w_zero (.inl he))
      · exact .inl ⟨k, hk, he⟩
    · exact .inr (State.r_w_zero (.inr h))

theorem State.regless_capClr (s : State) (n : Nat) : (s.capClr n).regless = s.regless :=
  (foldl_keeps State.regless (fun t _ => t.regless_w _ _ _) _ _).trans rfl

theorem State.r_capClr_counts (s : State) (n : Nat) : (s.capClr n).r (pgCAP n) 0x04C = 0 :=
  State.r_foldl_w_zero (fun k => strOff k 0x38) _ (.inr (State.r_w_zero (.inr (s.r_w_same _ _ 0))))

theorem State.r_capClr_fifo (s : State) (n : Nat) : (s.capClr n).r (pgCAP n) 0x050 = 0 :=
  State.r_foldl_w_zero (fun k => strOff k 0x38) _ (.inr (State.r_w_same _ _ _ 0))

theorem State.r_capClr_dropped (s : State) (n : Nat) {k : Nat} (hk : k < 4) : (s.capClr n).r (pgCAP n) (0x138 + 0x40 * k) = 0 :=
  State.r_foldl_w_zero (fun k => strOff k 0x38) _ (.inl ⟨k, List.mem_range.mpr hk, by unfold rkey strOff; omega⟩)

/-- CAP_CTRL with CLR is a plain write, after which the counters are cleared. -/
theorem State.capRegWrite_clr (s : State) (n : Nat) (v : Word) :
    ∃ u : State, u.regless = s.regless ∧ s.capRegWrite n 0x040 (withBit v 16) = u.capClr n := by
  refine ⟨s.plainWrite (pgCAP n) 0x040 (withBit v 16)
    (if fldOf (withBit v 16) 2 0 = 1 ∨ fldOf (withBit v 16) 2 0 = 2 ∨ (fldOf (withBit v 16) 2 0 = 4 ∧ n = 0) then 0 else 7) 0 0x040,
    s.regless_plainWrite _ _ _ _ _ _, ?_⟩
  rw [State.capRegWrite, if_pos rfl]
  exact if_pos (getLsbD_withBit_same v (by decide))

/-! ### A timeout and FDONE (R300) -/

section
variable {s : State} {n k : Nat}

theorem State.frameEndTimeout_due (hrun : s.camRun = true) (hop : (s.str n k).op = true) (hpos : 0 < s.f (pgCAP n) 0x054 11 0)
    (hdue : s.f (pgCAP n) 0x054 11 0 ≤ s.strQuiet n k) :
    s.frameEndTimeout n k = (s.strClose n k false 0x10).ev (pgCAP n) 17 :=
  if_pos ⟨hrun, hop, hpos.ne', hdue⟩

/-- The buffer of the frame closed first is held, and its register and its event tell of it. -/
def State.frameDone (s : State) (n k : Nat) (c : CapClose) (q : List CapClose) : State :=
  ((s.updStr n k fun x => { x with closing := q, held := x.held ++ [c.buf] }).w (pgCAP n) (strOff k 0x3C)
    (BitVec.ofNat 32 (c.buf + c.id * 2 ^ 16))).ev (pgCAP n) (4 * k)

theorem State.str_frameDone {c : CapClose} {q : List CapClose} (hs : s.HasStr n k) :
    (s.frameDone n k c q).str n k = { s.str n k with closing := q, held := (s.str n k).held ++ [c.buf] } := by
  rw [State.frameDone, State.str_of_caps (State.caps_ev _ _ _), State.str_of_caps (State.caps_w _ _ _ _), State.str_updStr_same _ hs]

theorem State.r_frameDone (c : CapClose) (q : List CapClose) :
    (s.frameDone n k c q).r (pgCAP n) (0x13C + 0x40 * k) = BitVec.ofNat 32 (c.buf + c.id * 2 ^ 16) := by
  have hoff : strOff k 0x3C = 0x13C + 0x40 * k := by unfold strOff; omega
  rw [State.frameDone, State.r_ev_ne _ _ (by unfold rkey; omega), hoff, State.r_w_same]

theorem State.frameDone_keeps (c : CapClose) (q : List CapClose) :
    (s.frameDone n k c q).isp = s.isp ∧ (s.frameDone n k c q).mem = s.mem :=
  ⟨(State.isp_ev _ _ _).trans (State.isp_w _ _ _ _), (State.mem_ev _ _ _).trans (State.mem_w _ _ _ _)⟩

theorem State.raised_frameDone (c : CapClose) (q : List CapClose) (hk : k < 4) :
    (s.frameDone n k c q).f (pgCAP n) 0x014 (4 * k) (4 * k) = 1 := State.f_ev_same _ _ (by omega)

theorem State.capFdone_eq {c : CapClose} {q : List CapClose} (hrun : s.camRun = true) (hc : (s.str n k).closing = c :: q)
    (hmanual : cfgW c.cfg 0 17 17 = 0) :
    s.capFdone n k = if c.flags = 1 then s.frameDone n k c q else (s.frameDone n k c q).ev (pgCAP n) (4 * k + 1) := by
  rw [State.capFdone, hc]
  dsimp only
  rw [if_neg (by rw [hrun]; decide), if_neg (by rw [hmanual]; decide)]
  rfl

end

/-! ### The packets as commands -/

theorem fin_others {k : Fin 4} {p : Nat → Bool} (h : ∀ j : Fin 4, j ≠ k → p j = false) : ∀ j < 4, j ≠ k.val → p j = false :=
  fun j hj hjk => h ⟨j, hj⟩ fun e => hjk (congrArg Fin.val e)

/-- A complete frame without a fault closes with flags 1, and only its record is written. -/
theorem State.strClose_clean {s : State} {n k : Nat} (hs : s.HasStr n k) (hlen : (s.str n k).lines.length = cfgHeight (s.str n k).cfg)
    (hgood : ((s.str n k).lines.all fun l => l == 0) = true) (hflags : (s.str n k).flags = 0) (hdropped : (s.str n k).dropped = 0) :
    (s.strClose n k true 0).str n k = CapStr.closed 1 (s.str n k) ∧
      ∀ b, ¬ span (cfgRec (s.str n k).cfg (s.str n k).buf) 64 b → (s.strClose n k true 0).rdByte b = s.rdByte b := by
  have hrecord := State.Wrote.recorded s n k true 0
  rw [State.padded_of_full hlen] at hrecord
  refine ⟨?_, fun b hb => ?_⟩
  · rw [State.str_strClose hs, State.closeFlags_clean hlen hgood hflags hdropped, State.padded_of_full hlen]
  · rw [State.strClose_eq, State.rdByte_updStr, hrecord.byte b hb]

/-- A frame start of which stream `k` alone takes the channel: the scan engine changes neither streams nor memory, nor the
receiver's registers. -/
theorem State.frameStartAll_single {s : State} {n k vc num hdr : Nat} (hrun : s.camRun = true) (hn : n < 2) (hhdr : hdr ≠ 2)
    (hk : k < 4) (hs : s.HasStr n k) (hop : (s.str n k).op = false) (hen : cfgEn (s.strAct n k) = true)
    (hvc : cfgVc (s.strAct n k) = vc) (hothers : ∀ j < 4, j ≠ k → s.strOnVc n j vc = false) :
    (s.frameStartAll n vc num hdr).store = (s.strStart n k num).store ∧
      State.Within (· = pgSCN) (s.strStart n k num) (s.frameStartAll n vc num hdr) := by
  have hstart := State.csiFrameStart_eq num hrun hn hhdr hk hs hop hen hvc hothers
  rw [← hstart]
  exact ⟨s.store_frameStartAll n vc num hdr, .frameStartAll s n vc num hdr⟩

/-! ### Line starts of the cameras (02 R42) -/

/-- Short packets are no line starts with LINE_SRC 1. -/
theorem State.camLine_short {s : State} {n : Fin 2} {vc : Fin 4} (hrun : s.camRun = true) :
    s.camLine ⟨n, vc, false⟩ = (s.af pgLTB 0x040 8 8 == 0) := by
  rw [State.camLine, ← State.camRun, hrun, Bool.true_and]; rfl

/-- Long packets are no line starts with LINE_SRC 0. -/
theorem State.camLineStart_long {s : State} {n : Fin 2} {vc : Fin 4} (h : s.af pgLTB 0x040 8 8 = 0) :
    s.camLineStart ⟨n, vc, true⟩ = s := by
  have hno : s.camLine ⟨n, vc, true⟩ = false := by
    rw [State.camLine, h]; exact Bool.and_false _
  rw [State.camLineStart, State.masterLine, hno, Bool.false_and, if_neg Bool.false_ne_true, State.trackerLine, hno, Bool.false_and,
    if_neg Bool.false_ne_true]

theorem State.camLineStart_short_on {s : State} {n : Fin 2} {vc : Fin 4} (hrun : s.camRun = true) (hsrc : s.af pgLTB 0x040 8 8 = 0)
    (hvc : s.af pgLTB 0x040 5 4 = vc) :
    s.camLineStart ⟨n, vc, false⟩ = (s.masterLineStart (2 + n)).trackerLine ⟨n, vc, false⟩ := by
  have hon : (s.camLine ⟨n, vc, false⟩ && s.camVc ⟨n, vc, false⟩) = true := by
    rw [State.camLine_short hrun, State.camVc, hsrc, hvc]; simp
  rw [State.camLineStart, State.masterLine, hon, if_pos rfl]

theorem State.camLineStart_short_off {s : State} {n : Fin 2} {vc : Fin 4} (hvc : s.af pgLTB 0x040 5 4 ≠ vc) :
    s.camLineStart ⟨n, vc, false⟩ = s.trackerLine ⟨n, vc, false⟩ := by
  have hoff : s.camVc ⟨n, vc, false⟩ = false := beq_eq_false_iff_ne.mpr hvc
  rw [State.camLineStart, State.masterLine, hoff, Bool.and_false, if_neg Bool.false_ne_true]

theorem State.camLineStart_short_none {s : State} {n : Fin 2} {vc : Fin 4} (hrun : s.camRun = true)
    (hsrc : s.af pgLTB 0x040 8 8 = 1) : s.camLineStart ⟨n, vc, false⟩ = s := by
  have hno : s.camLine ⟨n, vc, false⟩ = false := by rw [State.camLine_short hrun, hsrc]; rfl
  rw [State.camLineStart, State.masterLine, hno, Bool.false_and, if_neg Bool.false_ne_true, State.trackerLine, hno, Bool.false_and,
    if_neg Bool.false_ne_true]

/-! ### A long packet of an open frame -/

section
variable {s : State} {n k : Nat}

/-- The state in which a long packet meets its slot: the stream notes its line. -/
theorem State.str_strSeen_fifoTop (hs : s.HasStr n k) (fill : Nat) :
    ((s.fifoTop n fill).strSeen n k).str n k = (s.str n k).seen (s.fifoTop n fill).ltb.frame (s.fifoTop n fill).ltb.line := by
  have hcaps := State.caps_of_store (s.store_fifoTop n fill)
  rw [State.strSeen, State.str_updStr_same _ (State.hasStr_of_counts hs (State.strCounts_of_caps hcaps)), State.str_of_caps hcaps,
    CapStr.seen]

theorem State.hasStr_strSeen_fifoTop (hs : s.HasStr n k) (fill : Nat) : ((s.fifoTop n fill).strSeen n k).HasStr n k :=
  State.hasStr_of_counts hs
    ((State.strCounts_updStr _ n k _).trans (State.strCounts_of_caps (State.caps_of_store (s.store_fifoTop n fill))))

theorem State.mem_strSeen_fifoTop (fill : Nat) : ((s.fifoTop n fill).strSeen n k).mem = s.mem :=
  (State.mem_updStr _ n k _).trans (State.mem_of_store (s.store_fifoTop n fill))

theorem State.rdByte_strSeen_fifoTop (fill b : Nat) : ((s.fifoTop n fill).strSeen n k).rdByte b = s.rdByte b := by
  rw [State.strSeen, State.rdByte_updStr, State.rdByte_of_store (s.store_fifoTop n fill)]

/-- A good line of the stream's width takes the next slot with status 0, and only the slot and its status byte are written. -/
theorem State.lineIn_seen {payload : List Byte} (hs : s.HasStr n k) (fill : Nat)
    (hcount : pixCount (dtFmt (cfgDt (s.str n k).cfg)) payload.length = cfgWidth (s.str n k).cfg)
    (hloss : (s.str n k).hdrLoss = false) :
    (((s.fifoTop n fill).strSeen n k).lineIn n k 0 payload false none).str n k =
        ((s.str n k).seen (s.fifoTop n fill).ltb.frame (s.fifoTop n fill).ltb.line).taken ∧
      ∀ b, ¬ (s.str n k).slot (s.str n k).lines.length (pixBytes (cfgFmt (s.str n k).cfg) (cfgWidth (s.str n k).cfg)) b →
        (((s.fifoTop n fill).strSeen n k).lineIn n k 0 payload false none).rdByte b = s.rdByte b := by
  have hu := State.hasStr_strSeen_fifoTop hs fill
  have hseen := State.str_strSeen_fifoTop hs fill
  have hstr := State.str_lineIn_whole (payload := payload) hu
  have hbyte (b : Nat) := State.rdByte_lineIn_whole (payload := payload) (b := b) hu
  rw [hseen] at hstr
  simp only [hseen, State.rdByte_strSeen_fifoTop] at hbyte
  exact ⟨hstr hcount hloss, fun b hb => hbyte b hcount hloss hb⟩

end

/-- Settles O42: each packet is one stream's, whose slot and record are the only bytes it writes. -/
theorem framesOfStreams : Obligations.FramesOfStreams := by
  refine ⟨?_, ?_, ?_, ?_, ?_, ?_, ?_, ?_, ?_, ?_, ?_⟩
  · intro s n vc k num hdr u b hsys hshape hrun hhdr hen hvc hop hothers
    have hs := State.hasStr_of_shape hshape n k
    have hnot : hdr.val ≠ 2 := by omega
    obtain ⟨hstore, hwithin⟩ := State.frameStartAll_single (num := num.toNat) hrun n.isLt hnot k.isLt hs hop hen hvc
      (fin_others (p := fun j => u.strOnVc n j vc) hothers)
    have hstr := State.str_of_caps (State.caps_of_store hstore) n k
    have hexec : exec (.csiFrameStart n vc num hdr) s = .next (u.frameStartAll n vc num.toNat hdr) := by
      change Host.Outcome.next (s.onSys fun s => s.csiFs n vc num.toNat hdr) = _
      rw [State.onSys_run hsys, State.csiFs, if_neg hnot]
    refine ⟨_, hexec, (State.mem_of_store hstore).trans (State.mem_strStart _ hs hop), fun hfree => ?_, fun hfull => ?_⟩
    · rw [hstr, State.str_strStart_free _ hs hop hfree]
      exact ⟨rfl, rfl, rfl, rfl, rfl, rfl, rfl, rfl⟩
    · rw [hstr, State.str_strStart_full _ hs hop hfull]
      obtain ⟨hop', hdropping, hdropped⟩ := (u.str n k).met_missed
      refine ⟨hop'.trans hop, hdropping, hdropped, ?_⟩
      rw [hwithin.field _ _ (by unfold pgCAP pgSCN; omega) (by decide)]
      exact State.raised_strStart_full _ hs hop k.isLt hfull
  · intro s n vc hsys hrun
    have hexec : exec (.csiLineStart n vc) s = .next (s.camLineStart ⟨n, vc, false⟩) :=
      congrArg Host.Outcome.next (State.onSys_run hsys _)
    refine ⟨fun hsrc hvc => ?_, fun _ hvc => ?_, fun hsrc => ?_⟩
    · rw [hexec, State.camLineStart_short_on hrun hsrc hvc]
    · rw [hexec, State.camLineStart_short_off hvc]
    · rw [hexec, State.camLineStart_short_none hrun hsrc]
  · intro s₀ n vc k dt wc payload fill s x hsys hshape hrun hknown hfind hop hawait hloss hlen
    have hs := State.hasStr_of_shape hshape n k
    have hexec : exec (.csiLongPacket n vc dt 0 wc payload true none fill) s₀ =
        .next (s.csiLongPacket n vc dt.toNat 0 wc.toNat payload true none fill) :=
      congrArg Host.Outcome.next (State.onSys_run hsys _)
    refine ⟨_, hexec, State.camLineStart_long, fun hover => ?_, fun hroom hcount => ?_⟩
    · rw [State.csiLongPacket_open hrun n.isLt hknown hfind hop hawait hlen, if_pos hover,
        State.str_updStr_same _ (State.hasStr_strSeen_fifoTop hs fill), State.str_strSeen_fifoTop hs fill]
      obtain ⟨hextra, hlines⟩ := x.seen_beyond (s.fifoTop n fill).ltb.frame (s.fifoTop n fill).ltb.line
      exact ⟨hextra, hlines, (State.mem_updStr _ n k _).trans (State.mem_strSeen_fifoTop fill)⟩
    · rw [State.csiLongPacket_open hrun n.isLt hknown hfind hop hawait hlen, if_neg (Nat.not_le.mpr hroom)]
      obtain ⟨hstr, hbytes⟩ := State.lineIn_seen hs fill hcount hloss
      obtain ⟨hlines, hflags, hop'⟩ := x.seen_taken (s.fifoTop n fill).ltb.frame (s.fifoTop n fill).ltb.line
      rw [hstr]
      exact ⟨hlines, hflags, hop'.trans hop, fun a hslot hstatus => hbytes a (not_or.mpr ⟨hslot, hstatus⟩)⟩
  · intro s n vc dt wc payload ok fifo fill hsys hrun
    have hexec : exec (.csiLongPacket n vc dt 2 wc payload ok fifo fill) s = .next (s.hdrLost n) :=
      congrArg Host.Outcome.next
        ((State.onSys_run hsys _).trans (State.csiLongPacket_lost vc dt.toNat wc.toNat fill payload ok fifo hrun n.isLt))
    exact ⟨_, hexec, s.hdrLost_count n, s.hdrLost_event n, s.mem_hdrLost n⟩
  · intro s n vc k hdr hsys hshape hrun hhdr hon hothers x hop hawait hlen hgood hflags hdropped
    have hs := State.hasStr_of_shape hshape n k
    obtain ⟨hstr, hcounts, hbytes⟩ := s.frameEnd_stream n k vc hs
    have hexec : exec (.csiFrameEnd n vc hdr) s =
        .next (((s.frameEnded n vc).updStr n k CapStr.kept).strClose n k true 0) :=
      congrArg Host.Outcome.next ((State.onSys_run hsys _).trans (State.csiFrameEnd_eq hrun n.isLt (by omega) k.isLt hon
        (fin_others (p := fun j => s.strOnVc n j vc) hothers) hop hawait))
    have hclean := State.strClose_clean hcounts
    rw [hstr] at hclean
    obtain ⟨hclosed, hrecord⟩ := hclean hlen hgood hflags hdropped
    refine ⟨_, hexec, ?_, ?_, fun a ha => (hrecord a ha).trans (hbytes a)⟩
    · rw [hclosed, CapStr.closed]
    · rw [hclosed, CapStr.closed]
      rfl
  · intro s n k hsys hshape hrun hop hpos hdue
    have hexec : exec (.frameEndTimeout n k) s = .next ((s.strClose n k false 0x10).ev (pgCAP n) 17) :=
      congrArg Host.Outcome.next ((State.onSys_run hsys _).trans (State.frameEndTimeout_due hrun hop hpos hdue))
    refine ⟨_, hexec, ?_, ?_, State.f_ev_same _ _ (by decide)⟩
    · rw [State.str_of_caps (State.caps_ev _ _ _), State.str_strClose (State.hasStr_of_shape hshape n k), CapStr.closed]
    · rw [State.str_of_caps (State.caps_ev _ _ _), State.str_strClose (State.hasStr_of_shape hshape n k), CapStr.closed,
        List.length_append, State.closing_padded]
      rfl
  · intro s n k c q hsys hshape hrun hclosing hmanual
    have hexec : exec (.capFdone n k) s = .next (s.capFdone n k) := congrArg Host.Outcome.next (State.onSys_run hsys _)
    refine ⟨_, hexec, ?_⟩
    rw [State.capFdone_eq hrun hclosing hmanual]
    have hs := State.hasStr_of_shape hshape n k
    obtain ⟨hisp, hmem⟩ := s.frameDone_keeps (n := n) (k := k) c q
    split
    · next hwhole =>
      rw [State.str_frameDone hs]
      dsimp only
      exact ⟨rfl, rfl, State.r_frameDone c q, State.raised_frameDone c q k.isLt, fun hflags => absurd hwhole hflags, hisp, hmem⟩
    · rw [State.str_of_caps (State.caps_ev _ _ _), State.str_frameDone hs, State.r_ev_ne _ _ (by unfold rkey; omega),
        State.r_frameDone]
      dsimp only
      exact ⟨rfl, rfl, rfl, State.f_ev_of_raised _ (by omega) (State.raised_frameDone c q k.isLt),
        fun _ => State.f_ev_same _ _ (by omega),
        (State.isp_ev _ _ _).trans hisp, (State.mem_ev _ _ _).trans hmem⟩
  · intro s w n k m hw
    refine congrArg Host.Outcome.next ((State.put_cap _ hw (by omega) (by omega)).trans ?_)
    rw [State.capRegWrite_strRel _ _ _ k.isLt, State.strRel_bits]
  · intro s w n v hw
    obtain ⟨u, hu, hclr⟩ := s.capRegWrite_clr n v
    have hless : (u.capClr n).regless = s.regless := (u.regless_capClr n).trans hu
    have hput := State.put_cap (withBit v 16) hw (by decide) (by decide)
    rw [hclr] at hput
    refine ⟨_, congrArg Host.Outcome.next hput, ?_, ?_, fun k hk => ?_, (State.caps_answer _ _ _).trans (State.caps_of_regless hless),
      (State.mem_answer _ _ _).trans (State.mem_of_regless hless)⟩
    · rw [State.r_answer, u.r_capClr_counts n]
    · rw [State.r_answer, u.r_capClr_fifo n]
    · rw [State.r_answer, u.r_capClr_dropped n hk]
  · intro s n arg hsys hrun
    have harg : arg.toNat % 256 = arg.toNat := Nat.mod_eq_of_lt arg.isLt
    refine congrArg Host.Outcome.next ((State.onSys_run hsys _).trans ?_)
    dsimp only
    rw [State.camTrigger, if_neg (not_or.mpr ⟨by rw [hrun]; decide, by omega⟩), harg]
  · intro s n e hsys hset hdue
    refine congrArg Host.Outcome.next ((State.onSys_run hsys _).trans ?_)
    rw [State.camTriggerEnd, hset]
    exact if_pos hdue

end Sys2Proof.Machine
end

section
/-! The canonical form of the stores (03 R70, R72, R78): every command keeps it. One lemma per function of the model that
answers a state, in the order of the model's files; each rests on those of the functions it calls. Only the stores of a
register, an active copy and a byte, the loss of a region, the two resets that drop pairs and the commit of a page touch the
stores themselves. -/

namespace Sys2Proof.Machine

/-! ### How the form passes through updates, choices, pairs and folds -/

/-- If `s` is in canonical form, so is `t`. -/
def State.CanonTo (s t : State) : Prop := s.Canon → t.Canon

/-- `t.Canon`, where simp does not look into it. -/
def State.CanonAnyway (t : State) : Prop := t.Canon

/-- Where `P` is enough for `t` to have the canonical form of `s`, simp may replace the one by the other: the second disjunct
makes this an equivalence. -/
theorem canonTo_iff {s t : State} {P : Prop} (h : P → s.CanonTo t) (hn : ¬ s.Canon → P) :
    s.CanonTo t ↔ P ∨ t.CanonAnyway :=
  ⟨fun ht => (Classical.em s.Canon).elim (fun hs => .inr (ht hs)) fun hs => .inl (hn hs),
    fun ht => ht.elim h fun ht _ => ht⟩

/-- `f` keeps the canonical form, said so that simp replaces `s.CanonTo (f t)` by `s.CanonTo t`. -/
abbrev CarriesCanon (f : State → State) : Prop :=
  ∀ s t : State, s.CanonTo (f t) ↔ s.CanonTo t ∨ (f t).CanonAnyway

theorem carriesCanon {f : State → State} (h : ∀ t : State, t.CanonTo (f t)) : CarriesCanon f :=
  fun _ t => canonTo_iff (fun ht hs => h t (ht hs)) fun hs h => absurd h hs

@[simp, refl] theorem State.canonTo_refl (s : State) : s.CanonTo s := id

@[simp] theorem State.canonTo_ite (s : State) (c : Prop) [Decidable c] (a b : State) :
    s.CanonTo (if c then a else b) ↔ (s.CanonTo a ∧ s.CanonTo b) ∨ (if c then a else b).CanonAnyway := by
  refine canonTo_iff (fun ⟨ha, hb⟩ => ?_) fun hs => ⟨fun h => absurd h hs, fun h => absurd h hs⟩
  split
  · exact ha
  · exact hb

@[simp] theorem State.canonTo_fst_ite {β : Type} (s : State) (c : Prop) [Decidable c] (a b : State × β) :
    s.CanonTo (if c then a else b).1 ↔ (s.CanonTo a.1 ∧ s.CanonTo b.1) ∨ (if c then a else b).1.CanonAnyway := by
  rw [apply_ite Prod.fst]
  exact s.canonTo_ite c a.1 b.1

/-- The state of a pair that a function answers, where the function keeps the form. -/
theorem State.canonTo_of_eq {s t : State} {β : Type} {b : β} {p : State × β} (h : p = (t, b)) (hp : s.CanonTo p.1) :
    s.CanonTo t := by rwa [h] at hp

theorem State.CanonTo.trans {s t u : State} (h : s.CanonTo t) (h' : t.CanonTo u) : s.CanonTo u := fun hs => h' (h hs)

theorem State.CanonTo.foldl {α : Type} {f : State → α → State} (hf : ∀ (t : State) a, t.CanonTo (f t a))
    (l : List α) {s t : State} (h : s.CanonTo t) : s.CanonTo (l.foldl f t) := by
  induction l generalizing t with
  | nil => exact h
  | cons a l ih => exact ih (h.trans (hf t a))

@[simp] theorem canonTo_foldl {α : Type} {f : State → α → State} (hf : ∀ (t : State) a, t.CanonTo (f t a))
    (l : List α) : CarriesCanon (l.foldl f ·) := carriesCanon fun s => s.canonTo_refl.foldl hf l

theorem State.CanonTo.foldl_fst {α β : Type} {f : State × β → α → State × β}
    (hf : ∀ (r : State × β) a, r.1.CanonTo (f r a).1) (l : List α) {s : State} {r : State × β} (h : s.CanonTo r.1) :
    s.CanonTo (l.foldl f r).1 := by
  induction l generalizing r with
  | nil => exact h
  | cons a l ih => exact ih (h.trans (hf r a))

@[simp] theorem canonTo_foldl_fst {α β : Type} {f : State × β → α → State × β}
    (hf : ∀ (r : State × β) a, r.1.CanonTo (f r a).1) (l : List α) (s : State) (r : State × β) :
    s.CanonTo (l.foldl f r).1 ↔ s.CanonTo r.1 ∨ (l.foldl f r).1.CanonAnyway :=
  canonTo_iff (fun h => h.foldl_fst hf l) fun hs h => absurd h hs

/-- An update of any field but the stores and what their form depends on. -/
@[simp] theorem State.canonTo_update (s t : State) (fused srst waiting lockWait fresh resp seam clk ltb ten doms adm welt
    cores grv ald sec caps trig isp sill scn dps icv light lace awl lanes links cans lin i2cs spis xspi adc pins wake
    pwr now osc time freeCtr pending) :
    s.CanonTo ⟨t.grade, fused, t.regs, t.act, srst, waiting, lockWait, fresh, resp, seam, clk, ltb, ten, doms, adm,
      welt, cores, grv, ald, sec, caps, trig, isp, sill, scn, dps, icv, light, lace, awl, lanes, links, cans, lin,
      i2cs, spis, xspi, adc, pins, wake, pwr, t.mem, t.epoch, now, osc, time, freeCtr, pending⟩ ↔ s.CanonTo t := Iff.rfl

/-! ### Registers, events, errors and answers (Machine/Ops.lean) -/

@[simp] theorem State.canon_w (p o v) : CarriesCanon (·.w p o v) := carriesCanon fun _ ⟨hr, ha, hm⟩ =>
  ⟨Sparse.put_wf _ _ _ _ hr, ha, hm⟩
@[simp] theorem State.canon_sf (p o hi lo x) : CarriesCanon (·.sf p o hi lo x) := carriesCanon fun s => by simp [State.sf]
@[simp] theorem State.canon_wa (p o v) : CarriesCanon (·.wa p o v) := carriesCanon fun _ ⟨hr, ha, hm⟩ =>
  ⟨hr, Sparse.put_wf _ _ _ _ ha, hm⟩
@[simp] theorem State.canon_cntUp (p o hi lo n) : CarriesCanon (·.cntUp p o hi lo n) :=
  carriesCanon fun s => by simp [State.cntUp]
@[simp] theorem State.canon_cntWrap (p o hi lo) : CarriesCanon (·.cntWrap p o hi lo) :=
  carriesCanon fun s => by simp [State.cntWrap]
@[simp] theorem State.canon_touch (p o b) : CarriesCanon (·.touch p o b) := carriesCanon fun _ => id
@[simp] theorem State.canon_setW1 (p o b) : CarriesCanon (·.setW1 p o b) := carriesCanon fun s => by simp [State.setW1]
@[simp] theorem State.canon_ev (p b) : CarriesCanon (·.ev p b) := carriesCanon fun s => by simp [State.ev]
@[simp] theorem State.canon_err (p code info) : CarriesCanon (·.err p code info) :=
  carriesCanon fun s => by simp [State.err]
@[simp] theorem State.canon_errSize (p o) : CarriesCanon (·.errSize p o) := carriesCanon fun s => by simp [State.errSize]
@[simp] theorem State.canon_errLocked (p o) : CarriesCanon (·.errLocked p o) :=
  carriesCanon fun s => by simp [State.errLocked]
@[simp] theorem State.canon_errValue (p o) : CarriesCanon (·.errValue p o) := carriesCanon fun s => by simp [State.errValue]
@[simp] theorem State.canon_errBusy (p o) : CarriesCanon (·.errBusy p o) := carriesCanon fun s => by simp [State.errBusy]
@[simp] theorem State.canon_errCap (p o) : CarriesCanon (·.errCap p o) := carriesCanon fun s => by simp [State.errCap]
@[simp] theorem State.canon_updDom (d f) : CarriesCanon (·.updDom d f) := carriesCanon fun _ => id
@[simp] theorem State.canon_violation (kind tnt ni det addr record) :
    CarriesCanon (·.violation kind tnt ni det addr record) := carriesCanon fun s => by
  simp only [State.violation, State.canonTo_ite, State.canonTo_update, State.canon_ev, State.canon_cntUp,
    State.canonTo_refl, true_or, and_self]
@[simp] theorem State.canon_answer (st d) : CarriesCanon (·.answer st d) := carriesCanon fun _ => id
@[simp] theorem State.canon_tookFree : CarriesCanon (·.tookFree) := carriesCanon fun _ => id
@[simp] theorem State.canon_plainWrite (p o v refused frozen info) :
    CarriesCanon (·.plainWrite p o v refused frozen info) := carriesCanon fun s => by
  simp only [State.plainWrite]
  repeat' split
  all_goals simp
@[simp] theorem State.canon_plain (p o v) : CarriesCanon (·.plain p o v) := carriesCanon fun s => by simp [State.plain]

/-! ### Memory (Machine/Memory.lean) -/

@[simp] theorem State.canon_wrByte (a v) : CarriesCanon (·.wrByte a v) := carriesCanon fun s ⟨hr, ha, hm⟩ => by
  refine ⟨?_, ?_, s.wrByte_wf a v hm⟩ <;> unfold State.wrByte <;> split <;> assumption
@[simp] theorem State.canon_wrBytes (a l) : CarriesCanon (·.wrBytes a l) := carriesCanon fun s => by
  induction l generalizing s a with
  | nil => exact id
  | cons b l ih => exact State.CanonTo.trans (by simp) (ih (a + 1) (s.wrByte a b))
@[simp] theorem State.canon_wr16 (a v) : CarriesCanon (·.wr16 a v) := carriesCanon fun s => by simp [State.wr16]
@[simp] theorem State.canon_loseRegion (r) : CarriesCanon (·.loseRegion r) :=
  carriesCanon fun s ⟨hr, ha, hm⟩ => ⟨hr, ha, s.loseRegion_wf r hm⟩

/-! ### The Admission Unit (Machine/Admission.lean) -/

@[simp] theorem State.canon_admReport (r tnt src overbook) : CarriesCanon (·.admReport r tnt src overbook) :=
  carriesCanon fun s => by simp [State.admReport]
@[simp] theorem State.canon_admQueue (c) : CarriesCanon (·.admQueue c) := carriesCanon fun _ => id
@[simp] theorem State.canon_cpCmd (t v) : CarriesCanon (·.cpCmd t v) := carriesCanon fun s => by simp [State.cpCmd]
@[simp] theorem State.canon_cpStage (t o v) : CarriesCanon (·.cpStage t o v) :=
  carriesCanon fun s => by simp [State.cpStage]
@[simp] theorem State.canon_wdMask (m) : CarriesCanon (·.wdMask m) := carriesCanon fun s => by simp [State.wdMask]
@[simp] theorem State.canon_admStart : CarriesCanon (·.admStart) :=
  carriesCanon fun s => by unfold State.admStart; split <;> simp
@[simp] theorem State.canon_admEnd (tnt src cl ok) : CarriesCanon (·.admEnd tnt src cl ok) :=
  carriesCanon fun s => by simp [State.admEnd]
@[simp] theorem State.canon_withMxCap (src) : CarriesCanon (·.withMxCap src) :=
  carriesCanon fun s => by simp [State.withMxCap]
@[simp] theorem State.canon_admAccept (com srcs) : CarriesCanon (·.admAccept com srcs) :=
  carriesCanon fun s => by simp [State.admAccept]
@[simp] theorem State.canon_admDone : CarriesCanon (·.admDone) := carriesCanon fun s => by
  simp only [State.admDone]
  split
  · rfl
  · split
    · rfl
    · simp
    · split <;> simp
@[simp] theorem State.canon_admEffect : CarriesCanon (·.admEffect) := carriesCanon fun s => by simp [State.admEffect]
@[simp] theorem State.canon_admRecompute : CarriesCanon (·.admRecompute) := carriesCanon fun s => by
  unfold State.admRecompute
  split
  · rfl
  · dsimp only
    split <;> simp only [State.canonTo_update, State.canon_w, State.canon_ev, State.canon_err, State.canon_admReport,
      State.canonTo_refl, true_or]
@[simp] theorem State.canon_capSelWrite (v) : CarriesCanon (·.capSelWrite v) :=
  carriesCanon fun s => by simp [State.capSelWrite]

/-! ### Key slots, OTP and the island fault (Machine/Island.lean) -/

@[simp] theorem State.canon_updSec (f) : CarriesCanon (·.updSec f) := carriesCanon fun _ => id
@[simp] theorem State.canon_setSlot (n k) : CarriesCanon (·.setSlot n k) := carriesCanon fun s => by simp [State.setSlot]
@[simp] theorem State.canon_zeroise : CarriesCanon (·.zeroise) := carriesCanon fun s => by simp [State.zeroise]
@[simp] theorem State.canon_setOtp (w v) : CarriesCanon (·.setOtp w v) := carriesCanon fun s => by simp [State.setOtp]
@[simp] theorem State.canon_burnOtp (w v) : CarriesCanon (·.burnOtp w v) := carriesCanon fun s => by simp [State.burnOtp]
@[simp] theorem State.canon_thermoSet (w k) : CarriesCanon (·.thermoSet w k) :=
  carriesCanon fun s => by simp [State.thermoSet]
@[simp] theorem State.canon_engAsk (u) : CarriesCanon (·.engAsk u) := carriesCanon fun s => by simp [State.engAsk]
@[simp] theorem State.canon_engLeave (u) : CarriesCanon (·.engLeave u) := carriesCanon fun s => by simp [State.engLeave]
@[simp] theorem State.canon_evalUpd : CarriesCanon (·.evalUpd) := carriesCanon fun s => by simp [State.evalUpd]
@[simp] theorem State.canon_islandFault : CarriesCanon (·.islandFault) := carriesCanon fun s => by simp [State.islandFault]

/-! ### The tenant table and the event router (Machine/Tenants.lean) -/

@[simp] theorem State.canon_tenWA (o v) : CarriesCanon (·.tenWA o v) := carriesCanon fun s => by simp [State.tenWA]
@[simp] theorem State.canon_tenWB (o v) : CarriesCanon (·.tenWB o v) := carriesCanon fun s => by simp [State.tenWB]
@[simp] theorem State.canon_tenLock : CarriesCanon (·.tenLock) := carriesCanon fun s => by simp [State.tenLock]
@[simp] theorem State.canon_tenPop : CarriesCanon (·.tenPop) := carriesCanon fun _ => id
@[simp] theorem State.canon_tenWrite (o v) : CarriesCanon (·.tenWrite o v) := carriesCanon fun s => by simp [State.tenWrite]
@[simp] theorem State.canon_evrRouteWrite (t i v) : CarriesCanon (·.evrRouteWrite t i v) :=
  carriesCanon fun s => by simp [State.evrRouteWrite]
@[simp] theorem State.canon_evrLockCheck : CarriesCanon (·.evrLockCheck) := carriesCanon fun s => by
  simp only [State.evrLockCheck]
  repeat' split
  all_goals simp
@[simp] theorem State.canon_lockOutcome : CarriesCanon (·.lockOutcome) :=
  carriesCanon fun s => by unfold State.lockOutcome; split <;> simp

/-! ### Operands of a Rhoif-16 core (Machine/Operands.lean) -/

@[simp] theorem State.canon_updCore (c f) : CarriesCanon (·.updCore c f) := carriesCanon fun _ => id

/-! ### Units on links (Machine/Links.lean) -/

@[simp] theorem State.canon_meshFeed : CarriesCanon (·.meshFeed) := carriesCanon fun _ => id
theorem State.canonTo_meshCycle {s t : State} (h : s.meshCycle = some t) : s.CanonTo t := by
  unfold State.meshCycle at h
  split at h
  · cases h
  · cases h; simp
@[simp] theorem State.canon_meshCycles (n) : CarriesCanon (State.meshCycles n ·) := carriesCanon fun s => by
  induction n generalizing s with
  | zero => exact id
  | succ n ih =>
    rw [State.meshCycles]
    split
    · simp
    · next t ht => exact (State.canonTo_meshCycle ht).trans (ih t)
@[simp] theorem State.canon_meshRun : CarriesCanon (·.meshRun) := carriesCanon fun s => by simp [State.meshRun]
@[simp] theorem State.canon_addFlight (f) : CarriesCanon (·.addFlight f) := carriesCanon fun _ => id
@[simp] theorem State.canon_inject (n p) : CarriesCanon (·.inject n p) := carriesCanon fun s => by simp [State.inject]

/-! ### Network interfaces, probes and the trace buffer (Machine/Welt.lean) -/

@[simp] theorem State.canon_updNi (n f) : CarriesCanon (·.updNi n f) := carriesCanon fun _ => id
@[simp] theorem State.canon_selectRoute (n serving cls) :
    CarriesCanon (fun s => (s.selectRoute n serving cls).1) := carriesCanon fun s => by
  simp only [State.selectRoute]
  repeat' split
  all_goals simp
@[simp] theorem State.canon_classCheck (n t cls route charge rev) :
    CarriesCanon (fun s => (s.classCheck n t cls route charge rev).1) := carriesCanon fun s => by simp [State.classCheck]
@[simp] theorem State.canon_updStat (n f) : CarriesCanon (·.updStat n f) := carriesCanon fun s => by simp [State.updStat]
@[simp] theorem State.canon_statAnswer (n st dem late) : CarriesCanon (·.statAnswer n st dem late) :=
  carriesCanon fun s => by simp [State.statAnswer]
@[simp] theorem State.canon_statRequest (n lat st size) : CarriesCanon (·.statRequest n lat st size) :=
  carriesCanon fun s => by simp [State.statRequest]
@[simp] theorem State.canon_partDone (n grp a st dem late bytes) : CarriesCanon (·.partDone n grp a st dem late bytes) :=
  carriesCanon fun s => by simp only [State.partDone]; split <;> simp
@[simp] theorem State.canon_niJudge (n t cmd cls a size rowsOk) :
    CarriesCanon (fun s => (s.niJudge n t cmd cls a size rowsOk).1) := carriesCanon fun s => by
  simp only [State.niJudge]
  repeat' split
  any_goals simp
  all_goals
    have ht := State.canonTo_of_eq (s := s) ‹s.selectRoute _ _ _ = _› (by simp)
    simp [ht]
@[simp] theorem State.canon_issuePart (n t cmd cls grp a size data rowsOk) :
    CarriesCanon (·.issuePart n t cmd cls grp a size data rowsOk) := carriesCanon fun s => by
  unfold State.issuePart
  split <;> next h =>
    have ht := State.canonTo_of_eq (s := s) h (by simp)
    simp [ht]
@[simp] theorem State.canon_weltRequest (n sub cmd cls a size data) :
    CarriesCanon (·.weltRequest n sub cmd cls a size data) := carriesCanon fun s => by
  simp only [State.weltRequest]
  repeat' split
  all_goals simp
@[simp] theorem State.canon_acceptResponse (n p) : CarriesCanon (·.acceptResponse n p) :=
  carriesCanon fun s => by unfold State.acceptResponse; split <;> simp
@[simp] theorem State.canon_responseTimeout (n tid) : CarriesCanon (·.responseTimeout n tid) :=
  carriesCanon fun s => by unfold State.responseTimeout; split <;> simp
@[simp] theorem State.canon_rteWrite (n i v) : CarriesCanon (·.rteWrite n i v) :=
  carriesCanon fun s => by simp [State.rteWrite]
@[simp] theorem State.canon_niCtrl (n v) : CarriesCanon (·.niCtrl n v) := carriesCanon fun s => by simp [State.niCtrl]
@[simp] theorem State.canon_niWrite (n o v) : CarriesCanon (·.niWrite n o v) :=
  carriesCanon fun s => by simp [State.niWrite]
@[simp] theorem State.canon_lineCredits : CarriesCanon (·.lineCredits) := carriesCanon fun s => by simp [State.lineCredits]
@[simp] theorem State.canon_statCopy (n) : CarriesCanon (·.statCopy n) := carriesCanon fun s => by simp [State.statCopy]
@[simp] theorem State.canon_statFrame : CarriesCanon (·.statFrame) := carriesCanon fun s => by
  simp only [State.statFrame, State.canonTo_ite, State.canonTo_update, State.canon_w, canonTo_foldl, State.canon_statCopy,
    State.canonTo_refl, true_or, and_self, implies_true]
@[simp] theorem State.canon_utilFrame : CarriesCanon (·.utilFrame) := carriesCanon fun s => by simp [State.utilFrame]
@[simp] theorem State.canon_trcPush (r) : CarriesCanon (·.trcPush r) := carriesCanon fun s => by
  simp only [State.trcPush, State.canonTo_ite, State.canonTo_update, State.canon_cntUp, State.canonTo_refl, true_or, and_self]
@[simp] theorem State.canon_probes (d p) : CarriesCanon (·.probes d p) := carriesCanon fun s => by simp [State.probes]
@[simp] theorem State.canon_trcStore (r) : CarriesCanon (·.trcStore r) := carriesCanon fun s => by simp [State.trcStore]
@[simp] theorem State.canon_trcWrite : CarriesCanon (·.trcWrite) := carriesCanon fun s => by
  unfold State.trcWrite
  split
  · simp
  · split <;> simp
@[simp] theorem State.canon_prbWrite (o v) : CarriesCanon (·.prbWrite o v) := carriesCanon fun s => by simp [State.prbWrite]
@[simp] theorem State.canon_routerWrite (r o v) : CarriesCanon (·.routerWrite r o v) :=
  carriesCanon fun s => by simp [State.routerWrite]
@[simp] theorem State.canon_respond (n p st dem late data) : CarriesCanon (·.respond n p st dem late data) :=
  carriesCanon fun s => by simp [State.respond]
@[simp] theorem State.canon_domWake (d) : CarriesCanon (·.domWake d) := carriesCanon fun s => by simp [State.domWake]
@[simp] theorem State.canon_askWake (n d) : CarriesCanon (·.askWake n d) := carriesCanon fun s => by simp [State.askWake]
@[simp] theorem State.canon_denyWake (n d t src) : CarriesCanon (·.denyWake n d t src) :=
  carriesCanon fun s => by simp [State.denyWake]

/-! ### Memory traffic of the engines (Machine/Engine.lean) -/

@[simp] theorem State.canon_icvRefuse : CarriesCanon (·.icvRefuse) := carriesCanon fun s => by simp [State.icvRefuse]
@[simp] theorem State.canon_dramAccept (h) : CarriesCanon (fun s => (s.dramAccept h).1) :=
  carriesCanon fun s => by simp [State.dramAccept]
@[simp] theorem State.canon_coreExt (a) : CarriesCanon (·.coreExt a) := carriesCanon fun s => by simp [State.coreExt]
@[simp] theorem State.canon_memServe (p) : CarriesCanon (fun s => (s.memServe p).1) :=
  carriesCanon fun s => by simp [State.memServe]
@[simp] theorem State.canon_engServe (m p) : CarriesCanon (fun s => (s.engServe m p).1) :=
  carriesCanon fun s => by simp [State.engServe]
@[simp] theorem State.canon_engAdmit (m p) : CarriesCanon (fun s => (s.engAdmit m p).1) := carriesCanon fun s => by
  simp only [State.engAdmit]
  split
  · simp
  · split <;> simp
@[simp] theorem State.canon_engTarget (m p) : CarriesCanon (fun s => (s.engTarget m p).1) := carriesCanon fun s => by
  simp only [State.engTarget]
  repeat' split
  all_goals simp
@[simp] theorem State.canon_engSend (n idx p se) : CarriesCanon (·.engSend n idx p se) :=
  carriesCanon fun s => by simp [State.engSend]
@[simp] theorem State.canon_engPart (n t cmd cls a size data rowsOk) :
    CarriesCanon (fun s => (s.engPart n t cmd cls a size data rowsOk).1) := carriesCanon fun s => by
  unfold State.engPart
  split <;> next h =>
    have ht := State.canonTo_of_eq (s := s) h (by simp)
    simp [ht]
@[simp] theorem State.canon_engReqT (t n cmd cls a size data) :
    CarriesCanon (fun s => (s.engReqT t n cmd cls a size data).1) :=
  carriesCanon fun s => by simp [State.engReqT, canonTo_foldl_fst]
@[simp] theorem State.canon_engReq (n cmd cls a size data) : CarriesCanon (fun s => (s.engReq n cmd cls a size data).1) :=
  carriesCanon fun s => by unfold State.engReq; split <;> simp
@[simp] theorem State.canon_engWrite (n cls a data) : CarriesCanon (fun s => (s.engWrite n cls a data).1) :=
  carriesCanon fun s => by simp [State.engWrite]
@[simp] theorem State.canon_engRead (n cls a size) : CarriesCanon (fun s => (s.engRead n cls a size).1) :=
  carriesCanon fun s => by simp [State.engRead]
@[simp] theorem State.canon_engReads (n cls l) : CarriesCanon (fun s => (s.engReads n cls l).1) := carriesCanon fun s => by
  induction l generalizing s with
  | nil => rfl
  | cons e t ih => simp [State.engReads, carriesCanon ih]
@[simp] theorem State.canon_engWrites (n cls l) :
    CarriesCanon (fun s => (s.engWrites n cls l).1) := carriesCanon fun s => by
  induction l generalizing s with
  | nil => rfl
  | cons e t ih => simp [State.engWrites, carriesCanon ih]
@[simp] theorem State.canon_engReadAt (t n cls a size) : CarriesCanon (fun s => (s.engReadAt t n cls a size).1) :=
  carriesCanon fun s => by simp [State.engReadAt, canonTo_foldl_fst]

/-! ### The Line Event Table and the trackers (Machine/Ltb.lean) -/

@[simp] theorem State.canon_updLtb (f) : CarriesCanon (·.updLtb f) := carriesCanon fun _ => id
@[simp] theorem State.canon_letAWrite (n v) : CarriesCanon (·.letAWrite n v) :=
  carriesCanon fun s => by simp [State.letAWrite]
@[simp] theorem State.canon_letBWrite (t n v) : CarriesCanon (·.letBWrite t n v) :=
  carriesCanon fun s => by simp only [State.letBWrite]; split <;> simp
@[simp] theorem State.canon_letApply : CarriesCanon (·.letApply) := carriesCanon fun s => by simp [State.letApply]
@[simp] theorem State.canon_ltbWrite (t o v) : CarriesCanon (·.ltbWrite t o v) :=
  carriesCanon fun s => by simp [State.ltbWrite]
@[simp] theorem State.canon_letSend (n) : CarriesCanon (·.letSend n) := carriesCanon fun s => by simp [State.letSend]
@[simp] theorem State.canon_evArrive (typ tgt arg) : CarriesCanon (·.evArrive typ tgt arg) :=
  carriesCanon fun s => by unfold State.evArrive; split <;> simp
@[simp] theorem State.canon_letFire (n) : CarriesCanon (·.letFire n) := carriesCanon fun s => by simp [State.letFire]
@[simp] theorem State.canon_letEntryFire (n) : CarriesCanon (·.letEntryFire n) :=
  carriesCanon fun s => by simp [State.letEntryFire]
@[simp] theorem State.canon_catchUp : CarriesCanon (·.catchUp) := carriesCanon fun s => by simp [State.catchUp]
@[simp] theorem State.canon_unreach : CarriesCanon (·.unreach) :=
  carriesCanon fun s => by unfold State.unreach; split <;> simp
@[simp] theorem State.canon_skipFire : CarriesCanon (·.skipFire) := carriesCanon fun s => by simp [State.skipFire]
@[simp] theorem State.canon_measure : CarriesCanon (·.measure) := carriesCanon fun s => by simp [State.measure]
@[simp] theorem State.canon_masterChange : CarriesCanon (·.masterChange) :=
  carriesCanon fun s => by simp [State.masterChange]
@[simp] theorem State.canon_masterLost : CarriesCanon (·.masterLost) := carriesCanon fun s => by simp [State.masterLost]
@[simp] theorem State.canon_ltbCrystalLoss : CarriesCanon (·.ltbCrystalLoss) :=
  carriesCanon fun s => by simp [State.ltbCrystalLoss]
@[simp] theorem State.canon_ltbClockChange : CarriesCanon (·.ltbClockChange) :=
  carriesCanon fun s => by simp [State.ltbClockChange]
@[simp] theorem State.canon_posRead : CarriesCanon (·.posRead) := carriesCanon fun s => by simp [State.posRead]
@[simp] theorem State.canon_updTrk (n f) : CarriesCanon (·.updTrk n f) := carriesCanon fun s => by simp [State.updTrk]
@[simp] theorem State.canon_trkFire (n e) : CarriesCanon (·.trkFire n e) :=
  carriesCanon fun s => by unfold State.trkFire; split <;> simp
@[simp] theorem State.canon_trkFireDue (n) : CarriesCanon (·.trkFireDue n) :=
  carriesCanon fun s => by simp [State.trkFireDue]
@[simp] theorem State.canon_trkLock (n v) : CarriesCanon (·.trkLock n v) := carriesCanon fun s => by simp [State.trkLock]
@[simp] theorem State.canon_trkFrameStart (n) : CarriesCanon (·.trkFrameStart n) :=
  carriesCanon fun s => by simp [State.trkFrameStart]
@[simp] theorem State.canon_trkLineStart (n) : CarriesCanon (·.trkLineStart n) :=
  carriesCanon fun s => by simp [State.trkLineStart]
@[simp] theorem State.canon_trkCancel : CarriesCanon (·.trkCancel) := carriesCanon fun s => by simp [State.trkCancel]
@[simp] theorem State.canon_trkStop (n) : CarriesCanon (·.trkStop n) := carriesCanon fun s => by simp [State.trkStop]

/-! ### The receivers and the ISP (Machine/Capture.lean) -/

@[simp] theorem State.canon_updStr (n k f) : CarriesCanon (·.updStr n k f) := carriesCanon fun _ => id
@[simp] theorem State.canon_capWrite (n c a b) : CarriesCanon (·.capWrite n c a b) :=
  carriesCanon fun s => by simp [State.capWrite]
@[simp] theorem State.canon_slotWrite (n k y pix st) : CarriesCanon (·.slotWrite n k y pix st) :=
  carriesCanon fun s => by simp [State.slotWrite]
@[simp] theorem State.canon_hdrLost (n) : CarriesCanon (·.hdrLost n) := carriesCanon fun s => by simp [State.hdrLost]
@[simp] theorem State.canon_strSeen (n k) : CarriesCanon (·.strSeen n k) := carriesCanon fun s => by simp [State.strSeen]
@[simp] theorem State.canon_strClose (n k fe why) : CarriesCanon (·.strClose n k fe why) :=
  carriesCanon fun s => by simp [State.strClose]
@[simp] theorem State.canon_strStart (n k num) : CarriesCanon (·.strStart n k num) :=
  carriesCanon fun s => by simp [State.strStart]
@[simp] theorem State.canon_csiFrameStart (n vc num hdr) : CarriesCanon (·.csiFrameStart n vc num hdr) :=
  carriesCanon fun s => by simp [State.csiFrameStart]
@[simp] theorem State.canon_csiFrameEnd (n vc hdr) : CarriesCanon (·.csiFrameEnd n vc hdr) :=
  carriesCanon fun s => by simp [State.csiFrameEnd]
@[simp] theorem State.canon_lineIn (n k hdr payload crcBad fifo) : CarriesCanon (·.lineIn n k hdr payload crcBad fifo) :=
  carriesCanon fun s => by simp [State.lineIn]
@[simp] theorem State.canon_csiLongPacket (n vc dt hdr wc payload crcOk fifo fill) :
    CarriesCanon (·.csiLongPacket n vc dt hdr wc payload crcOk fifo fill) := carriesCanon fun s => by
  simp only [State.csiLongPacket]
  repeat' split
  all_goals simp
@[simp] theorem State.canon_frameEndTimeout (n k) : CarriesCanon (·.frameEndTimeout n k) :=
  carriesCanon fun s => by simp [State.frameEndTimeout]
@[simp] theorem State.canon_strRel (n k m) : CarriesCanon (·.strRel n k m) := carriesCanon fun s => by simp [State.strRel]
@[simp] theorem State.canon_capClr (n) : CarriesCanon (·.capClr n) := carriesCanon fun s => by simp [State.capClr]
@[simp] theorem State.canon_capRegWrite (n o v) : CarriesCanon (·.capRegWrite n o v) :=
  carriesCanon fun s => by simp [State.capRegWrite]
@[simp] theorem State.canon_camTrigger (n arg) : CarriesCanon (·.camTrigger n arg) :=
  carriesCanon fun s => by simp [State.camTrigger]
@[simp] theorem State.canon_camTriggerEnd (n) : CarriesCanon (·.camTriggerEnd n) :=
  carriesCanon fun s => by unfold State.camTriggerEnd; split <;> simp
@[simp] theorem State.canon_updIsp (f) : CarriesCanon (·.updIsp f) := carriesCanon fun _ => id
@[simp] theorem State.canon_ispQueue (j) : CarriesCanon (·.ispQueue j) := carriesCanon fun s => by simp [State.ispQueue]
@[simp] theorem State.canon_ispSubmit : CarriesCanon (·.ispSubmit) := carriesCanon fun s => by simp [State.ispSubmit]
@[simp] theorem State.canon_capFdone (n k) : CarriesCanon (·.capFdone n k) :=
  carriesCanon fun s => by unfold State.capFdone; split <;> simp
@[simp] theorem State.canon_tqPush : CarriesCanon (·.tqPush) := carriesCanon fun s => by simp [State.tqPush]
@[simp] theorem State.canon_tqFlush : CarriesCanon (·.tqFlush) := carriesCanon fun s => by simp [State.tqFlush]
@[simp] theorem State.canon_ispWrite (a b) : CarriesCanon (·.ispWrite a b) := carriesCanon fun s => by simp [State.ispWrite]
@[simp] theorem State.canon_jobEnd (j d id err reason) :
    CarriesCanon (·.jobEnd j d id err reason) := carriesCanon fun s => by
  simp only [State.jobEnd]
  repeat' split
  all_goals simp
@[simp] theorem State.canon_ispJobStart (st) : CarriesCanon (·.ispJobStart st) := carriesCanon fun s => by
  simp only [State.ispJobStart]
  repeat' split
  all_goals simp
@[simp] theorem State.canon_ispStop (reason) : CarriesCanon (·.ispStop reason) :=
  carriesCanon fun s => by unfold State.ispStop; split <;> simp
@[simp] theorem State.canon_ispJobDone : CarriesCanon (·.ispJobDone) := carriesCanon fun s => by
  simp only [State.ispJobDone]
  split
  · rfl
  split
  · rfl
  split
  next hreads =>
    have hr := State.canonTo_of_eq (s := s) hreads (by simp)
    split <;> next hwrites =>
      have hw := State.canonTo_of_eq (s := s) hwrites (by simp [hr])
      simp [hw]
  next hreads => simp [State.canonTo_of_eq (s := s) hreads (by simp)]
@[simp] theorem State.canon_ispXferError (sts) : CarriesCanon (·.ispXferError sts) :=
  carriesCanon fun s => by simp [State.ispXferError]
@[simp] theorem State.canon_ispRegWrite (o v) : CarriesCanon (·.ispRegWrite o v) :=
  carriesCanon fun s => by simp [State.ispRegWrite]
@[simp] theorem State.canon_camLeave : CarriesCanon (·.camLeave) := carriesCanon fun s => by simp [State.camLeave]
@[simp] theorem State.canon_capReset (n) : CarriesCanon (·.capReset n) := carriesCanon fun s => by simp [State.capReset]
@[simp] theorem State.canon_ispReset : CarriesCanon (·.ispReset) := carriesCanon fun s => by simp [State.ispReset]

/-! ### The AGU and the decoupling queues (Machine/RhoifAgu.lean) -/

@[simp] theorem State.canon_qStop (c q sts) : CarriesCanon (·.qStop c q sts) := carriesCanon fun s => by simp [State.qStop]
@[simp] theorem State.canon_qMisal (c q) : CarriesCanon (·.qMisal c q) := carriesCanon fun s => by simp [State.qMisal]
@[simp] theorem State.canon_queueReadIssue (c q) : CarriesCanon (·.queueReadIssue c q) :=
  carriesCanon fun s => by simp [State.queueReadIssue]
@[simp] theorem State.canon_qDrain (n c q flush) : CarriesCanon (State.qDrain n · c q flush) := carriesCanon fun s => by
  induction n generalizing s with
  | zero => exact id
  | succ n ih => simp [State.qDrain, carriesCanon ih]
@[simp] theorem State.canon_queueMergeTimeout (c q) : CarriesCanon (·.queueMergeTimeout c q) :=
  carriesCanon fun s => by simp [State.queueMergeTimeout]
@[simp] theorem State.canon_queueResponse (c q i sts dem late data) :
    CarriesCanon (·.queueResponse c q i sts dem late data) := carriesCanon fun s => by
  simp only [State.queueResponse]
  repeat' split
  all_goals simp

/-! ### Bundles, interrupts and the control page of a core (Machine/Rhoif.lean) -/

@[simp] theorem State.canon_applyMem (c es) : CarriesCanon (·.applyMem c es) :=
  carriesCanon fun s => by simp [State.applyMem]
@[simp] theorem State.canon_queueOp (s0 c wrote y) : CarriesCanon (·.queueOp s0 c wrote y) :=
  carriesCanon fun s => by unfold State.queueOp; split <;> simp
@[simp] theorem State.canon_refill (c n) : CarriesCanon (·.refill c n) := carriesCanon fun s => by simp [State.refill]
@[simp] theorem State.canon_cycles (c run stall) : CarriesCanon (·.cycles c run stall) :=
  carriesCanon fun s => by simp [State.cycles]
@[simp] theorem State.canon_waitEnd (c) : CarriesCanon (·.waitEnd c) :=
  carriesCanon fun s => by unfold State.waitEnd; split <;> simp
@[simp] theorem State.canon_waitPause (c) : CarriesCanon (·.waitPause c) := carriesCanon fun s => by simp [State.waitPause]
@[simp] theorem State.canon_waitResume (c) : CarriesCanon (·.waitResume c) :=
  carriesCanon fun s => by simp [State.waitResume]
@[simp] theorem State.canon_coreStop (c ev) : CarriesCanon (·.coreStop c ev) :=
  carriesCanon fun s => by simp [State.coreStop]
@[simp] theorem State.canon_coreFault (c cause pc) : CarriesCanon (·.coreFault c cause pc) :=
  carriesCanon fun s => by simp [State.coreFault]
@[simp] theorem State.canon_boundary (c) : CarriesCanon (·.boundary c) := carriesCanon fun s => by simp [State.boundary]
@[simp] theorem State.canon_issueNow (c b) : CarriesCanon (·.issueNow c b) := carriesCanon fun s => by
  simp only [State.issueNow]
  split
  · simp
  · simp only [State.canon_boundary, State.canonTo_ite, State.canon_coreStop, State.canon_sf, State.canon_refill,
      State.canon_updCore, State.canon_cycles, canonTo_foldl, State.canon_queueOp, State.canon_applyMem,
      State.canonTo_refl, true_or, and_self, implies_true]
@[simp] theorem State.canon_issueSquashed (c b) : CarriesCanon (·.issueSquashed c b) :=
  carriesCanon fun s => by simp [State.issueSquashed]
@[simp] theorem State.canon_repCount (c) : CarriesCanon (·.repCount c) :=
  carriesCanon fun s => by unfold State.repCount; split <;> simp
@[simp] theorem State.canon_issue (c b) : CarriesCanon (·.issue c b) := carriesCanon fun s => by
  simp only [State.issue]
  repeat' split
  all_goals simp
@[simp] theorem State.canon_issueRow (c pre y post) : CarriesCanon (·.issueRow c pre y post) :=
  carriesCanon fun s => by simp [State.issueRow]
@[simp] theorem State.canon_waitBundleIssue (c) : CarriesCanon (·.waitBundleIssue c) :=
  carriesCanon fun s => by unfold State.waitBundleIssue; split <;> simp
@[simp] theorem State.canon_queueWaitTimeout (c) : CarriesCanon (·.queueWaitTimeout c) :=
  carriesCanon fun s => by unfold State.queueWaitTimeout; split <;> simp
@[simp] theorem State.canon_irqEvent (c n) : CarriesCanon (·.irqEvent c n) := carriesCanon fun s => by simp [State.irqEvent]
@[simp] theorem State.canon_interruptEntry (c) : CarriesCanon (·.interruptEntry c) :=
  carriesCanon fun s => by unfold State.interruptEntry; split <;> simp
@[simp] theorem State.canon_releaseEvent (c arg) : CarriesCanon (·.releaseEvent c arg) :=
  carriesCanon fun s => by simp [State.releaseEvent]
@[simp] theorem State.canon_stepLoop (n c) : CarriesCanon (State.stepLoop n · c) := carriesCanon fun s => by
  induction n generalizing s with
  | zero => exact id
  | succ n ih => simp [State.stepLoop, carriesCanon ih]
@[simp] theorem State.canon_coreStart (c) : CarriesCanon (·.coreStart c) := carriesCanon fun s => by simp [State.coreStart]
@[simp] theorem State.canon_coreHaltReq (c) : CarriesCanon (·.coreHaltReq c) :=
  carriesCanon fun s => by simp [State.coreHaltReq]
@[simp] theorem State.canon_coreStep (c) : CarriesCanon (·.coreStep c) := carriesCanon fun s => by simp [State.coreStep]
@[simp] theorem State.canon_coreWrite (c o v) : CarriesCanon (·.coreWrite c o v) :=
  carriesCanon fun s => by simp [State.coreWrite]
@[simp] theorem State.canon_coreReset (c) : CarriesCanon (·.coreReset c) := carriesCanon fun s => by simp [State.coreReset]
@[simp] theorem State.canon_coreRelease (c) : CarriesCanon (·.coreRelease c) :=
  carriesCanon fun s => by simp [State.coreRelease]

/-! ### The array (Machine/Gralvo.lean) -/

@[simp] theorem State.canon_updGrv (f) : CarriesCanon (·.updGrv f) := carriesCanon fun _ => id
@[simp] theorem State.canon_updPort (p f) : CarriesCanon (·.updPort p f) := carriesCanon fun s => by simp [State.updPort]
@[simp] theorem State.canon_putTok (h v) : CarriesCanon (·.putTok h v) :=
  carriesCanon fun s => by unfold State.putTok; split <;> simp
@[simp] theorem State.canon_sendTo (cell l v) : CarriesCanon (·.sendTo cell l v) :=
  carriesCanon fun s => by simp [State.sendTo]
@[simp] theorem State.canon_emit (cell v) : CarriesCanon (·.emit cell v) := carriesCanon fun s => by simp [State.emit]
@[simp] theorem State.canon_moveOut (cell) : CarriesCanon (·.moveOut cell) := carriesCanon fun s => by
  simp only [State.moveOut]
  repeat' split
  all_goals simp
@[simp] theorem State.canon_moveTrack (key) : CarriesCanon (·.moveTrack key) :=
  carriesCanon fun s => by unfold State.moveTrack; split <;> simp
@[simp] theorem State.canon_moveIn (p) : CarriesCanon (·.moveIn p) :=
  carriesCanon fun s => by simp only [State.moveIn]; split <;> simp
@[simp] theorem State.canon_sweep : CarriesCanon (·.sweep) := carriesCanon fun s => by simp [State.sweep]
@[simp] theorem State.canon_portStop (p ctx sts) : CarriesCanon (·.portStop p ctx sts) :=
  carriesCanon fun s => by simp [State.portStop]
@[simp] theorem State.canon_portMisal (p) : CarriesCanon (·.portMisal p) := carriesCanon fun s => by simp [State.portMisal]
@[simp] theorem State.canon_portReadIssue (p) : CarriesCanon (·.portReadIssue p) :=
  carriesCanon fun s => by simp [State.portReadIssue]
@[simp] theorem State.canon_portDrain (n p flush) : CarriesCanon (State.portDrain n · p flush) := carriesCanon fun s => by
  induction n generalizing s with
  | zero => exact id
  | succ n ih => simp [State.portDrain, carriesCanon ih]
@[simp] theorem State.canon_trackAdvance : CarriesCanon (·.trackAdvance) :=
  carriesCanon fun s => by simp [State.trackAdvance]
@[simp] theorem State.canon_portMergeTimeout (p) : CarriesCanon (·.portMergeTimeout p) :=
  carriesCanon fun s => by simp [State.portMergeTimeout]
@[simp] theorem State.canon_portResponse (p i sts dem late data) : CarriesCanon (·.portResponse p i sts dem late data) :=
  carriesCanon fun s => by simp only [State.portResponse]; split <;> simp
@[simp] theorem State.canon_portRetry (p i) : CarriesCanon (·.portRetry p i) := carriesCanon fun s => by
  simp only [State.portRetry]
  split
  · rfl
  · split <;> simp
@[simp] theorem State.canon_cellFire (c r) : CarriesCanon (·.cellFire c r) := carriesCanon fun s => by
  simp only [State.cellFire]
  repeat' split
  all_goals simp
@[simp] theorem State.canon_endActivation : CarriesCanon (·.endActivation) :=
  carriesCanon fun s => by simp [State.endActivation]
@[simp] theorem State.canon_doSwitch (n cause) : CarriesCanon (·.doSwitch n cause) :=
  carriesCanon fun s => by simp [State.doSwitch]
@[simp] theorem State.canon_trigger (t n cause lost) : CarriesCanon (·.trigger t n cause lost) :=
  carriesCanon fun s => by simp only [State.trigger]; split <;> simp
@[simp] theorem State.canon_ctxSwitchEvent (e n lost) : CarriesCanon (·.ctxSwitchEvent e n lost) :=
  carriesCanon fun s => by simp [State.ctxSwitchEvent]
@[simp] theorem State.canon_queueTrigger : CarriesCanon (·.queueTrigger) :=
  carriesCanon fun s => by simp [State.queueTrigger]
@[simp] theorem State.canon_grvIdle : CarriesCanon (·.grvIdle) := carriesCanon fun s => by simp [State.grvIdle]
@[simp] theorem State.canon_grvCtrl (t v) : CarriesCanon (·.grvCtrl t v) := carriesCanon fun s => by simp [State.grvCtrl]
@[simp] theorem State.canon_activationDone : CarriesCanon (·.activationDone) :=
  carriesCanon fun s => by simp [State.activationDone]
@[simp] theorem State.canon_activationWatchdog : CarriesCanon (·.activationWatchdog) :=
  carriesCanon fun s => by simp [State.activationWatchdog]
@[simp] theorem State.canon_grvFrame : CarriesCanon (·.grvFrame) := carriesCanon fun s => by simp [State.grvFrame]
@[simp] theorem State.canon_grvPause : CarriesCanon (·.grvPause) := carriesCanon fun s => by simp [State.grvPause]
@[simp] theorem State.canon_grvResume : CarriesCanon (·.grvResume) := carriesCanon fun s => by simp [State.grvResume]
@[simp] theorem State.canon_grvFromOff : CarriesCanon (·.grvFromOff) := carriesCanon fun s => by simp [State.grvFromOff]
@[simp] theorem State.canon_grvWrite (t o v) : CarriesCanon (·.grvWrite t o v) :=
  carriesCanon fun s => by simp [State.grvWrite]
@[simp] theorem State.canon_gctxWrite (n o v) : CarriesCanon (·.gctxWrite n o v) :=
  carriesCanon fun s => by simp [State.gctxWrite]

/-! ### The Array Loader (Machine/Loader.lean) -/

@[simp] theorem State.canon_updAld (f) : CarriesCanon (·.updAld f) := carriesCanon fun _ => id
@[simp] theorem State.canon_setPhase (p) : CarriesCanon (·.setPhase p) := carriesCanon fun s => by simp [State.setPhase]
@[simp] theorem State.canon_loadRefuse (r) : CarriesCanon (·.loadRefuse r) :=
  carriesCanon fun s => by simp [State.loadRefuse]
@[simp] theorem State.canon_ldStart (t) : CarriesCanon (·.ldStart t) := carriesCanon fun s => by
  simp only [State.ldStart]
  repeat' split
  all_goals simp
@[simp] theorem State.canon_ldAbort : CarriesCanon (·.ldAbort) := carriesCanon fun s => by simp [State.ldAbort]
@[simp] theorem State.canon_loadPlace : CarriesCanon (·.loadPlace) := carriesCanon fun s => by
  unfold State.loadPlace
  extract_lets m t mask fs placedAll s' tileBad miss
  have hs : s.CanonTo s' := by simp [s']
  clear_value s' miss
  dsimp only
  repeat' split
  all_goals simp only [State.canon_loadRefuse, State.canon_admQueue, State.canonTo_update, State.canon_w,
    State.canon_setPhase, State.canon_updAld, hs, true_or]
@[simp] theorem State.canon_loadReadDone (sts ofs) : CarriesCanon (·.loadReadDone sts ofs) := carriesCanon fun s => by
  simp only [State.loadReadDone]
  repeat' split
  any_goals simp
  all_goals
    have ht := State.canonTo_of_eq (s := s) ‹s.engReadAt _ _ _ _ _ = _› (by simp)
    simp [ht]
@[simp] theorem State.canon_loadVerifyDone : CarriesCanon (·.loadVerifyDone) :=
  carriesCanon fun s => by simp [State.loadVerifyDone]
@[simp] theorem State.canon_loadPartEvalDone : CarriesCanon (·.loadPartEvalDone) := carriesCanon fun s => by
  simp only [State.loadPartEvalDone]
  repeat' split
  all_goals simp
@[simp] theorem State.canon_loadEffect : CarriesCanon (·.loadEffect) := carriesCanon fun s => by simp [State.loadEffect]
@[simp] theorem State.canon_loadPart (p next) : CarriesCanon (·.loadPart p next) := carriesCanon fun s => by
  simp only [State.loadPart, State.canon_sf, State.canon_w, State.canon_wa, State.canon_ev, State.canon_cntWrap,
    State.canonTo_ite, State.canon_updGrv, canonTo_foldl, State.canonTo_refl, true_or, and_self, implies_true]
@[simp] theorem State.canon_loadWriteDone : CarriesCanon (·.loadWriteDone) := carriesCanon fun s => by
  unfold State.loadWriteDone
  split
  · rfl
  · simp only [State.canon_updAld, State.canon_ev, State.canon_sf, State.canon_setPhase]
    refine .inl (.inl (.inl (.inl (s.canonTo_refl.foldl (fun t j => ?_) _))))
    split <;> simp
@[simp] theorem State.canon_ldOff : CarriesCanon (·.ldOff) := carriesCanon fun s => by simp [State.ldOff]
@[simp] theorem State.canon_aldWrite (t o v) : CarriesCanon (·.aldWrite t o v) :=
  carriesCanon fun s => by simp [State.aldWrite]

/-! ### The illumination sequencer and the scan engine (Machine/Scan.lean) -/

@[simp] theorem State.canon_updSill (f) : CarriesCanon (·.updSill f) := carriesCanon fun _ => id
@[simp] theorem State.canon_updScn (f) : CarriesCanon (·.updScn f) := carriesCanon fun _ => id
@[simp] theorem State.canon_ebLock (t) : CarriesCanon (·.ebLock t) := carriesCanon fun s => by simp [State.ebLock]
@[simp] theorem State.canon_budgetTick : CarriesCanon (·.budgetTick) := carriesCanon fun s => by simp [State.budgetTick]
@[simp] theorem State.canon_fire : CarriesCanon (·.fire) := carriesCanon fun s => by unfold State.fire; split <;> simp
@[simp] theorem State.canon_strobeArm (n arg) : CarriesCanon (·.strobeArm n arg) := carriesCanon fun s => by
  simp only [State.strobeArm, State.canonTo_ite, State.canon_w, State.canon_ev, State.canon_err, State.canon_evArrive,
    State.canon_updSill, State.canon_fire, State.canon_cntUp, State.canon_violation, State.canonTo_refl, true_or, and_self]
@[simp] theorem State.canon_pulseStart : CarriesCanon (·.pulseStart) :=
  carriesCanon fun s => by unfold State.pulseStart; split <;> simp
@[simp] theorem State.canon_pulseEnd : CarriesCanon (·.pulseEnd) :=
  carriesCanon fun s => by unfold State.pulseEnd; split <;> simp
@[simp] theorem State.canon_skpStop : CarriesCanon (·.skpStop) :=
  carriesCanon fun s => by unfold State.skpStop; split <;> simp
@[simp] theorem State.canon_skpFault : CarriesCanon (·.skpFault) := carriesCanon fun s => by simp [State.skpFault]
@[simp] theorem State.canon_sillFrame : CarriesCanon (·.sillFrame) := carriesCanon fun s => by simp [State.sillFrame]
@[simp] theorem State.canon_sillWrite (t o v) : CarriesCanon (·.sillWrite t o v) :=
  carriesCanon fun s => by simp [State.sillWrite]
@[simp] theorem State.canon_scnWrite16 (a b) : CarriesCanon (·.scnWrite16 a b) :=
  carriesCanon fun s => by simp [State.scnWrite16]
@[simp] theorem State.canon_put2c (slot v) : CarriesCanon (·.put2c slot v) :=
  carriesCanon fun s => by unfold State.put2c; split <;> simp
@[simp] theorem State.canon_heldEnd (h rewrite) : CarriesCanon (·.heldEnd h rewrite) :=
  carriesCanon fun s => by simp only [State.heldEnd]; split <;> simp
@[simp] theorem State.canon_fwdSend : CarriesCanon (·.fwdSend) :=
  carriesCanon fun s => by unfold State.fwdSend; split <;> simp
@[simp] theorem State.canon_fwdAdd (rseq slot hdr payload) : CarriesCanon (·.fwdAdd rseq slot hdr payload) :=
  carriesCanon fun s => by simp [State.fwdAdd]
@[simp] theorem State.canon_newRecord (f idx c payload st) :
    CarriesCanon (fun s => (s.newRecord f idx c payload st).1) := carriesCanon fun s => by
  simp only [State.newRecord]
  repeat' split
  all_goals simp
@[simp] theorem State.canon_sighting (f idx c seen) : CarriesCanon (·.sighting f idx c seen) := carriesCanon fun s => by
  simp only [State.sighting]
  repeat' split
  all_goals simp
@[simp] theorem State.canon_results (f l seen) : CarriesCanon (·.results f l seen) := carriesCanon fun s => by
  induction l generalizing s seen with
  | nil => rfl
  | cons e l ih => simp [State.results, carriesCanon (ih _)]
@[simp] theorem State.canon_takeCands (found) : CarriesCanon (fun s => (s.takeCands found).1) :=
  carriesCanon fun s => by simp [State.takeCands]
@[simp] theorem State.canon_scnFs (rx st) : CarriesCanon (·.scnFs rx st) := carriesCanon fun s => by simp [State.scnFs]
@[simp] theorem State.canon_scnSubmit : CarriesCanon (·.scnSubmit) := carriesCanon fun s => by simp [State.scnSubmit]
@[simp] theorem State.canon_scnRun : CarriesCanon (·.scnRun) := carriesCanon fun s => by simp [State.scnRun]
@[simp] theorem State.canon_scnStop : CarriesCanon (·.scnStop) := carriesCanon fun s => by simp [State.scnStop]
@[simp] theorem State.canon_scnCancel : CarriesCanon (·.scnCancel) := carriesCanon fun s => by simp [State.scnCancel]
@[simp] theorem State.canon_scanXferErr (sts) : CarriesCanon (·.scanXferErr sts) :=
  carriesCanon fun s => by simp [State.scanXferErr]
@[simp] theorem State.canon_scanLineRead : CarriesCanon (·.scanLineRead) := carriesCanon fun s => by
  simp only [State.scanLineRead]
  repeat' split
  any_goals simp
  all_goals
    have ht := State.canonTo_of_eq (s := s) ‹s.engRead _ _ _ _ = _› (by simp)
    simp [ht]
@[simp] theorem State.canon_scnFlush : CarriesCanon (·.scnFlush) := carriesCanon fun s => by
  simp only [State.scnFlush]
  repeat' split
  all_goals simp
@[simp] theorem State.canon_scanReadoutEnd : CarriesCanon (·.scanReadoutEnd) := carriesCanon fun s => by
  unfold State.scanReadoutEnd; split <;> simp
@[simp] theorem State.canon_scanRecordDone : CarriesCanon (·.scanRecordDone) := carriesCanon fun s => by
  unfold State.scanRecordDone; split <;> simp
@[simp] theorem State.canon_holdRepeats (f) : CarriesCanon (·.holdRepeats f) := carriesCanon fun s => by
  simp only [State.holdRepeats]
  refine s.canonTo_refl.foldl (fun t i => ?_) _
  repeat' split
  all_goals simp
@[simp] theorem State.canon_scanFrameDone : CarriesCanon (·.scanFrameDone) := carriesCanon fun s => by
  simp only [State.scanFrameDone]
  repeat' split
  all_goals simp
@[simp] theorem State.canon_holdExpire (i) : CarriesCanon (·.holdExpire i) :=
  carriesCanon fun s => by unfold State.holdExpire; split <;> simp
@[simp] theorem State.canon_fwdEnd (f ok) : CarriesCanon (·.fwdEnd f ok) := carriesCanon fun s => by
  simp only [State.fwdEnd]
  repeat' split
  all_goals simp
@[simp] theorem State.canon_forwardResponse (sts) : CarriesCanon (·.forwardResponse sts) :=
  carriesCanon fun s => by unfold State.forwardResponse; split <;> simp
@[simp] theorem State.canon_forwardRetry : CarriesCanon (·.forwardRetry) := carriesCanon fun s => by
  unfold State.forwardRetry
  split
  · rfl
  · split <;> simp
@[simp] theorem State.canon_scnRegWrite (o v) : CarriesCanon (·.scnRegWrite o v) :=
  carriesCanon fun s => by simp [State.scnRegWrite]
@[simp] theorem State.canon_frameStartAll (n vc num hdr) : CarriesCanon (·.frameStartAll n vc num hdr) :=
  carriesCanon fun s => by simp [State.frameStartAll]
@[simp] theorem State.canon_scnReset : CarriesCanon (·.scnReset) := carriesCanon fun s => by simp [State.scnReset]
@[simp] theorem State.canon_sillReset : CarriesCanon (·.sillReset) := carriesCanon fun s => by simp [State.sillReset]

/-! ### The fault injector (Machine/Awl.lean) -/

@[simp] theorem State.canon_updInj (i f) : CarriesCanon (·.updInj i f) := carriesCanon fun _ => id
@[simp] theorem State.canon_awlTrig (i) : CarriesCanon (fun s => (s.awlTrig i).1) :=
  carriesCanon fun s => by simp [State.awlTrig]
@[simp] theorem State.canon_awlAct (i) : CarriesCanon (·.awlAct i) := carriesCanon fun s => by simp [State.awlAct]
@[simp] theorem State.canon_awlUnit (p sel vals) :
    CarriesCanon (fun s => (s.awlUnit p sel vals).1) := carriesCanon fun s => by
  refine State.CanonTo.foldl_fst (fun r i => ?_) _ s.canonTo_refl
  simp
@[simp] theorem State.canon_awlHold (i h) : CarriesCanon (·.awlHold i h) := carriesCanon fun s => by simp [State.awlHold]
@[simp] theorem State.canon_awlAfter (h) : CarriesCanon (fun s => (s.awlAfter h).1) := carriesCanon fun s => by
  refine State.CanonTo.foldl_fst (fun r i => ?_) _ s.canonTo_refl
  split <;> simp
@[simp] theorem State.canon_awlLane (rx n proto u) :
    CarriesCanon (fun s => (s.awlLane rx n proto u).1) := carriesCanon fun s => by
  simp only [State.awlLane]
  split <;> next h =>
    have ht := State.canonTo_of_eq (s := s) h (by simp)
    simp [ht]
@[simp] theorem State.canon_awlLace (sel addr rd reg b) :
    CarriesCanon (fun s => (s.awlLace sel addr rd reg b).1) := carriesCanon fun s => by
  simp only [State.awlLace]
  split <;> next h =>
    have ht := State.canonTo_of_eq (s := s) h (by simp)
    simp [ht]
@[simp] theorem State.canon_awlCtrl (i v) : CarriesCanon (·.awlCtrl i v) := carriesCanon fun s => by
  simp only [State.awlCtrl]
  repeat' split
  all_goals simp
@[simp] theorem State.canon_awlDisarm : CarriesCanon (·.awlDisarm) := carriesCanon fun s => by simp [State.awlDisarm]
@[simp] theorem State.canon_awlClr : CarriesCanon (·.awlClr) := carriesCanon fun s => by simp [State.awlClr]
@[simp] theorem State.canon_awlWrite (o v) : CarriesCanon (·.awlWrite o v) := carriesCanon fun s => by simp [State.awlWrite]
@[simp] theorem State.canon_awlMark (m) : CarriesCanon (·.awlMark m) := carriesCanon fun s => by simp [State.awlMark]

/-! ### The island: commands, boot, unlock, credentials (Machine/Sec.lean) -/

@[simp] theorem State.canon_argRead (a n) : CarriesCanon (fun s => (s.argRead a n).1) :=
  carriesCanon fun s => by simp [State.argRead]
@[simp] theorem State.canon_withArgs {k : State → State × Nat} (hk : ∀ t : State, t.CanonTo (k t).1) (l) :
    CarriesCanon (fun s => (s.withArgs l k).1) := carriesCanon fun s => by
  induction l generalizing s with
  | nil => exact hk s
  | cons e q ih => simp [State.withArgs, carriesCanon ih]
@[simp] theorem State.canon_loadSlot (n a v) : CarriesCanon (fun s => (s.loadSlot n a v).1) :=
  carriesCanon fun s => by simp [State.loadSlot]
@[simp] theorem State.canon_putArg (a b) : CarriesCanon (fun s => (s.putArg a b).1) :=
  carriesCanon fun s => by simp [State.putArg]
@[simp] theorem State.canon_thermoTo (w n) : CarriesCanon (·.thermoTo w n) := carriesCanon fun s => by simp [State.thermoTo]
@[simp] theorem State.canon_otpProg (w v supplyOk) :
    CarriesCanon (fun s => (s.otpProg w v supplyOk).1) := carriesCanon fun s => by
  simp only [State.otpProg]
  repeat' split
  all_goals simp
@[simp] theorem State.canon_nextEpoch : CarriesCanon (fun s => (s.nextEpoch).1) :=
  carriesCanon fun s => by simp [State.nextEpoch]
@[simp] theorem State.canon_mcInc (n) : CarriesCanon (fun s => (s.mcInc n).1) := carriesCanon fun s => by simp [State.mcInc]
@[simp] theorem State.canon_setWin (i h m) : CarriesCanon (·.setWin i h m) := carriesCanon fun s => by simp [State.setWin]
@[simp] theorem State.canon_imgCheck (b) : CarriesCanon (fun s => (s.imgCheck b).1) := carriesCanon fun s => by
  simp only [State.imgCheck]
  repeat' split
  all_goals simp
@[simp] theorem State.canon_kRun (k) : CarriesCanon (fun s => (s.kRun k).1) := carriesCanon fun s => by
  cases k
  case aes | ksUnwrap =>
    simp only [State.kRun]
    repeat' split
    any_goals rfl
    all_goals
      refine ((State.canon_withArgs (fun t => ?_) _) s s).mpr (.inl s.canonTo_refl)
      split <;> simp
  case arbAdvance => simp only [State.kRun]; split <;> simp
  case winRaise =>
    simp only [State.kRun]
    split
    · rfl
    · split <;> simp
  all_goals simp [State.kRun]
@[simp] theorem State.canon_kCmd (k) : CarriesCanon (·.kCmd k) := carriesCanon fun s => by simp [State.kCmd]
@[simp] theorem State.canon_kImgCheck (src) : CarriesCanon (·.kImgCheck src) :=
  carriesCanon fun s => by simp [State.kImgCheck]
@[simp] theorem State.canon_cryptoOpDone : CarriesCanon (·.cryptoOpDone) :=
  carriesCanon fun s => by unfold State.cryptoOpDone; split <;> simp
@[simp] theorem State.canon_seckWrite (o v) : CarriesCanon (·.seckWrite o v) :=
  carriesCanon fun s => by simp [State.seckWrite]
@[simp] theorem State.canon_trngStartupDone : CarriesCanon (·.trngStartupDone) :=
  carriesCanon fun s => by simp [State.trngStartupDone]
@[simp] theorem State.canon_trngHealthFail : CarriesCanon (·.trngHealthFail) :=
  carriesCanon fun s => by simp [State.trngHealthFail]
@[simp] theorem State.canon_bootGo (base slot) : CarriesCanon (·.bootGo base slot) :=
  carriesCanon fun s => by simp [State.bootGo]
@[simp] theorem State.canon_bootBody (base) : CarriesCanon (·.bootBody base) :=
  carriesCanon fun s => by simp [State.bootBody]
@[simp] theorem State.canon_retStart : CarriesCanon (·.retStart) := carriesCanon fun s => by simp [State.retStart]
@[simp] theorem State.canon_bootRomStart : CarriesCanon (·.bootRomStart) := carriesCanon fun s => by
  simp only [State.bootRomStart]
  repeat' split
  all_goals simp
@[simp] theorem State.canon_dbgRequest (perm) : CarriesCanon (·.dbgRequest perm) :=
  carriesCanon fun s => by simp [State.dbgRequest]
@[simp] theorem State.canon_dbgFail : CarriesCanon (·.dbgFail) := carriesCanon fun s => by simp [State.dbgFail]
@[simp] theorem State.canon_dbgToken (k sg) : CarriesCanon (·.dbgToken k sg) := carriesCanon fun s => by
  simp only [State.dbgToken]
  repeat' split
  all_goals simp
@[simp] theorem State.canon_dbgVerifyDone : CarriesCanon (·.dbgVerifyDone) :=
  carriesCanon fun s => by unfold State.dbgVerifyDone; split <;> simp
@[simp] theorem State.canon_credCheckStart : CarriesCanon (·.credCheckStart) := carriesCanon fun s => by
  simp only [State.credCheckStart]
  repeat' split
  all_goals simp
@[simp] theorem State.canon_intakeEnd (k hdr r c) : CarriesCanon (·.intakeEnd k hdr r c) := carriesCanon fun s => by
  simp only [State.intakeEnd]
  repeat' split
  all_goals simp only [State.canon_w, State.canon_ev, State.canon_err, State.canon_sf, State.canon_updSec,
    State.canon_cntUp, State.canon_setWin, State.canon_mcInc, State.canonTo_refl, true_or]
@[simp] theorem State.canon_credCheckDone : CarriesCanon (·.credCheckDone) := carriesCanon fun s => by
  simp only [State.credCheckDone]
  repeat' split
  all_goals simp
@[simp] theorem State.canon_grantTimeout : CarriesCanon (·.grantTimeout) :=
  carriesCanon fun s => by unfold State.grantTimeout; split <;> simp
@[simp] theorem State.canon_grantSent : CarriesCanon (·.grantSent) :=
  carriesCanon fun s => by unfold State.grantSent; split <;> simp
@[simp] theorem State.canon_intakeSlotClose (k) : CarriesCanon (·.intakeSlotClose k) :=
  carriesCanon fun s => by simp [State.intakeSlotClose]
@[simp] theorem State.canon_intakeWrite (n o v) : CarriesCanon (fun s => (s.intakeWrite n o v).1) :=
  carriesCanon fun s => by simp [State.intakeWrite]
@[simp] theorem State.canon_svVerify : CarriesCanon (·.svVerify) := carriesCanon fun s => by simp [State.svVerify]
@[simp] theorem State.canon_svcWrite (o v) : CarriesCanon (·.svcWrite o v) := carriesCanon fun s => by simp [State.svcWrite]
@[simp] theorem State.canon_svRnd : CarriesCanon (fun s => (s.svRnd).1) := carriesCanon fun s => by simp [State.svRnd]
@[simp] theorem State.canon_secWrite (t o v) : CarriesCanon (·.secWrite t o v) :=
  carriesCanon fun s => by simp [State.secWrite]

/-! ### The display pipes, the icon vault and the Guard (Machine/Display.lean) -/

@[simp] theorem State.canon_updDp (p f) : CarriesCanon (·.updDp p f) := carriesCanon fun _ => id
@[simp] theorem State.canon_icvSeal : CarriesCanon (·.icvSeal) := carriesCanon fun s => by simp [State.icvSeal]
@[simp] theorem State.canon_icvOpen : CarriesCanon (·.icvOpen) := carriesCanon fun s => by
  simp only [State.icvOpen, State.canonTo_ite, State.canonTo_update, State.canon_err, State.canon_sf, State.canonTo_refl,
    true_or, and_self]
@[simp] theorem State.canon_icvWrite (o v) : CarriesCanon (·.icvWrite o v) := carriesCanon fun s => by simp [State.icvWrite]
@[simp] theorem State.canon_imgCheckAccept (src) : CarriesCanon (·.imgCheckAccept src) :=
  carriesCanon fun s => by simp [State.imgCheckAccept]
@[simp] theorem State.canon_islandDone : CarriesCanon (·.islandDone) := carriesCanon fun s => by
  simp only [State.islandDone]
  split
  · simp only [State.canonTo_ite, State.canonTo_update, State.canon_w, State.canon_sf, State.canon_cryptoOpDone,
      State.canonTo_refl, true_or, and_self]
  · simp
@[simp] theorem State.canon_icvFormatDone : CarriesCanon (·.icvFormatDone) :=
  carriesCanon fun s => by simp [State.icvFormatDone]
@[simp] theorem State.canon_setRst (p k st cnt good) : CarriesCanon (·.setRst p k st cnt good) :=
  carriesCanon fun s => by simp [State.setRst]
@[simp] theorem State.canon_regionsAtLatch (p v) : CarriesCanon (·.regionsAtLatch p v) :=
  carriesCanon fun s => by simp [State.regionsAtLatch]
@[simp] theorem State.canon_setPpll (p v) : CarriesCanon (·.setPpll p v) := carriesCanon fun _ => id
@[simp] theorem State.canon_dpTake (p) : CarriesCanon (·.dpTake p) := carriesCanon fun s => by
  simp only [State.dpTake]
  repeat' split
  all_goals simp
@[simp] theorem State.canon_planeFetch (p v y) : CarriesCanon (·.planeFetch p v y) := carriesCanon fun s => by
  simp only [State.planeFetch, State.canon_updDp]
  refine .inl (s.canonTo_refl.foldl (fun t e => ?_) _)
  split <;> simp
@[simp] theorem State.canon_heldRows (p) : CarriesCanon (·.heldRows p) := carriesCanon fun s => by simp [State.heldRows]
@[simp] theorem State.canon_dpLatch (p) : CarriesCanon (·.dpLatch p) := carriesCanon fun s => by simp [State.dpLatch]
@[simp] theorem State.canon_ppllLock (p) : CarriesCanon (·.ppllLock p) := carriesCanon fun s => by simp [State.ppllLock]
@[simp] theorem State.canon_dpFrameStart (p) : CarriesCanon (·.dpFrameStart p) :=
  carriesCanon fun s => by simp [State.dpFrameStart]
@[simp] theorem State.canon_crcLine (p y row) : CarriesCanon (·.crcLine p y row) :=
  carriesCanon fun s => by simp [State.crcLine]
@[simp] theorem State.canon_dpLine (p late) : CarriesCanon (·.dpLine p late) := carriesCanon fun s => by simp [State.dpLine]
@[simp] theorem State.canon_dpStop (p) : CarriesCanon (·.dpStop p) := carriesCanon fun s => by simp [State.dpStop]
@[simp] theorem State.canon_ppllStop (p) : CarriesCanon (·.ppllStop p) := carriesCanon fun s => by simp [State.ppllStop]
@[simp] theorem State.canon_guardStep (p k reason fseq) : CarriesCanon (·.guardStep p k reason fseq) :=
  carriesCanon fun s => by simp [State.guardStep]
@[simp] theorem State.canon_guardDecision (p) : CarriesCanon (·.guardDecision p) := carriesCanon fun s => by
  simp only [State.guardDecision]
  repeat' split
  all_goals simp
@[simp] theorem State.canon_guardMissed (p) : CarriesCanon (·.guardMissed p) :=
  carriesCanon fun s => by simp [State.guardMissed]
@[simp] theorem State.canon_guardReport (p fseq r) : CarriesCanon (·.guardReport p fseq r) :=
  carriesCanon fun s => by unfold State.guardReport; split <;> simp
@[simp] theorem State.canon_ttgRelease (p) : CarriesCanon (·.ttgRelease p) :=
  carriesCanon fun s => by simp [State.ttgRelease]
@[simp] theorem State.canon_forceOff (t) : CarriesCanon (·.forceOff t) := carriesCanon fun s => by simp [State.forceOff]
@[simp] theorem State.canon_ttgWrite (t o v) : CarriesCanon (·.ttgWrite t o v) :=
  carriesCanon fun s => by simp [State.ttgWrite]
@[simp] theorem State.canon_dpWrite (p o v) : CarriesCanon (·.dpWrite p o v) :=
  carriesCanon fun s => by simp [State.dpWrite]
@[simp] theorem State.canon_dispLeave : CarriesCanon (·.dispLeave) := carriesCanon fun s => by simp [State.dispLeave]

/-! ### The light drive (Machine/Light.lean) -/

@[simp] theorem State.canon_updLight (f) : CarriesCanon (·.updLight f) := carriesCanon fun _ => id
@[simp] theorem State.canon_updPwm (t f) : CarriesCanon (·.updPwm t f) := carriesCanon fun s => by simp [State.updPwm]
@[simp] theorem State.canon_periodAt (t at_) : CarriesCanon (·.periodAt t at_) := carriesCanon fun s => by
  simp only [State.periodAt]
  repeat' split
  all_goals simp
@[simp] theorem State.canon_pwmPeriod (t) : CarriesCanon (·.pwmPeriod t) := carriesCanon fun s => by simp [State.pwmPeriod]
@[simp] theorem State.canon_pwmSub (t) : CarriesCanon (·.pwmSub t) := carriesCanon fun s => by simp [State.pwmSub]
@[simp] theorem State.canon_lampSync (g) : CarriesCanon (·.lampSync g) := carriesCanon fun s => by simp [State.lampSync]
@[simp] theorem State.canon_mxCommit : CarriesCanon (·.mxCommit) := carriesCanon fun s => by
  simp only [State.mxCommit]
  repeat' split
  all_goals simp only [State.canon_updLight, State.canon_admQueue, State.canonTo_update, State.canon_w, State.canon_sf,
    State.canon_ev, State.canon_err, State.canon_errBusy, State.canonTo_refl, true_or]
@[simp] theorem State.canon_mxResult : CarriesCanon (·.mxResult) :=
  carriesCanon fun s => by unfold State.mxResult; split <;> simp
@[simp] theorem State.canon_mxFrame : CarriesCanon (·.mxFrame) := carriesCanon fun s => by simp [State.mxFrame]
@[simp] theorem State.canon_lightFreeze : CarriesCanon (·.lightFreeze) := carriesCanon fun s => by simp [State.lightFreeze]
@[simp] theorem State.canon_blScan (arg) : CarriesCanon (·.blScan arg) := carriesCanon fun s => by simp [State.blScan]
@[simp] theorem State.canon_scanMiss : CarriesCanon (·.scanMiss) :=
  carriesCanon fun s => by unfold State.scanMiss; split <;> simp
@[simp] theorem State.canon_pdPend (x) : CarriesCanon (·.pdPend x) := carriesCanon fun s => by simp [State.pdPend]
@[simp] theorem State.canon_ovpFlag (v) : CarriesCanon (·.ovpFlag v) := carriesCanon fun s => by simp [State.ovpFlag]
@[simp] theorem State.canon_boostOvp (v) : CarriesCanon (·.boostOvp v) := carriesCanon fun s => by simp [State.boostOvp]
@[simp] theorem State.canon_bldWrite (o v) : CarriesCanon (·.bldWrite o v) := carriesCanon fun s => by simp [State.bldWrite]
@[simp] theorem State.canon_calWrite (o v) : CarriesCanon (·.calWrite o v) := carriesCanon fun s => by simp [State.calWrite]
@[simp] theorem State.canon_calApply (p) : CarriesCanon (·.calApply p) := carriesCanon fun s => by simp [State.calApply]
@[simp] theorem State.canon_calLatch : CarriesCanon (·.calLatch) := carriesCanon fun s => by simp [State.calLatch]
@[simp] theorem State.canon_calRegWrite (o v) : CarriesCanon (·.calRegWrite o v) :=
  carriesCanon fun s => by simp [State.calRegWrite]
@[simp] theorem State.canon_grpAct (g) : CarriesCanon (·.grpAct g) := carriesCanon fun s => by
  simp only [State.grpAct, State.canonTo_ite, State.canonTo_update, State.canon_sf, State.canon_ev, State.canonTo_refl,
    true_or, and_self]
@[simp] theorem State.canon_shedStart : CarriesCanon (·.shedStart) := carriesCanon fun s => by simp [State.shedStart]
@[simp] theorem State.canon_shedEnd : CarriesCanon (·.shedEnd) := carriesCanon fun s => by simp [State.shedEnd]
@[simp] theorem State.canon_lampFlag (c short) : CarriesCanon (·.lampFlag c short) :=
  carriesCanon fun s => by simp [State.lampFlag]
@[simp] theorem State.canon_lampFault (c short) : CarriesCanon (·.lampFault c short) :=
  carriesCanon fun s => by simp [State.lampFault]
@[simp] theorem State.canon_rowFlag (r) : CarriesCanon (·.rowFlag r) := carriesCanon fun s => by simp [State.rowFlag]
@[simp] theorem State.canon_rowOver (r) : CarriesCanon (·.rowOver r) := carriesCanon fun s => by simp [State.rowOver]
@[simp] theorem State.canon_grpRelease : CarriesCanon (·.grpRelease) := carriesCanon fun s => by simp [State.grpRelease]
@[simp] theorem State.canon_ldFclr : CarriesCanon (·.ldFclr) := carriesCanon fun s => by simp [State.ldFclr]
@[simp] theorem State.canon_headroomLow (n) : CarriesCanon (·.headroomLow n) :=
  carriesCanon fun s => by simp [State.headroomLow]
@[simp] theorem State.canon_pdFlush : CarriesCanon (·.pdFlush) := carriesCanon fun s => by
  refine State.CanonTo.foldl (fun t x => ?_) _ (by simp)
  cases x <;> simp
@[simp] theorem State.canon_lightThaw : CarriesCanon (·.lightThaw) := carriesCanon fun s => by simp [State.lightThaw]
@[simp] theorem State.canon_setF (f) : CarriesCanon (·.setF f) := carriesCanon fun s => by unfold State.setF; split <;> simp
@[simp] theorem State.canon_ldNtc (x flag) : CarriesCanon (·.ldNtc x flag) := carriesCanon fun s => by simp [State.ldNtc]
@[simp] theorem State.canon_fgClr (t n m) : CarriesCanon (·.fgClr t n m) := carriesCanon fun s => by simp [State.fgClr]
@[simp] theorem State.canon_fgWrite (t n o v) : CarriesCanon (·.fgWrite t n o v) :=
  carriesCanon fun s => by simp [State.fgWrite]
@[simp] theorem State.canon_ldWrite (o v) : CarriesCanon (·.ldWrite o v) := carriesCanon fun s => by simp [State.ldWrite]
@[simp] theorem State.canon_holdTick : CarriesCanon (·.holdTick) := carriesCanon fun s => by simp [State.holdTick]

/-! ### The Lace lamp bus (Machine/Lace.lean) -/

@[simp] theorem State.canon_updLace (f) : CarriesCanon (·.updLace f) := carriesCanon fun _ => id
@[simp] theorem State.canon_flipSeq (a) : CarriesCanon (·.flipSeq a) := carriesCanon fun s => by simp [State.flipSeq]
@[simp] theorem State.canon_setOnline (a v) : CarriesCanon (·.setOnline a v) :=
  carriesCanon fun s => by simp [State.setOnline]
@[simp] theorem State.canon_laceDone (t res status data) : CarriesCanon (·.laceDone t res status data) :=
  carriesCanon fun s => by simp [State.laceDone]
@[simp] theorem State.canon_lacePush (t n) : CarriesCanon (·.lacePush t n) := carriesCanon fun s => by simp [State.lacePush]
@[simp] theorem State.canon_laceFlush : CarriesCanon (·.laceFlush) := carriesCanon fun s => by simp [State.laceFlush]
@[simp] theorem State.canon_laceSend (t fr) : CarriesCanon (fun s => (s.laceSend t fr).1) := carriesCanon fun s => by
  simp only [State.laceSend]
  split <;> next h => exact State.canonTo_of_eq h (by simp)
@[simp] theorem State.canon_laceGo (t) : CarriesCanon (·.laceGo t) := carriesCanon fun s => by simp [State.laceGo]
@[simp] theorem State.canon_laceCast : CarriesCanon (·.laceCast) :=
  carriesCanon fun s => by unfold State.laceCast; split <;> simp
@[simp] theorem State.canon_laceStart : CarriesCanon (·.laceStart) := carriesCanon fun s => by
  simp only [State.laceStart]
  repeat' split
  all_goals simp
@[simp] theorem State.canon_laceFail (b) : CarriesCanon (·.laceFail b) := carriesCanon fun s => by simp [State.laceFail]
@[simp] theorem State.canon_laceTimeout (readback) : CarriesCanon (·.laceTimeout readback) :=
  carriesCanon fun s => by unfold State.laceTimeout; split <;> simp
@[simp] theorem State.canon_eyeStatus (a status) : CarriesCanon (·.eyeStatus a status) :=
  carriesCanon fun s => by simp [State.eyeStatus]
@[simp] theorem State.canon_laceTake (bytes) : CarriesCanon (·.laceTake bytes) :=
  carriesCanon fun s => by unfold State.laceTake; split <;> simp
@[simp] theorem State.canon_laceAnswer (b) : CarriesCanon (·.laceAnswer b) := carriesCanon fun s => by
  simp only [State.laceAnswer]
  split
  · rfl
  · split <;> next h =>
      have ht := State.canonTo_of_eq (s := s) h (by simp)
      simp [ht]
@[simp] theorem State.canon_laceLatch : CarriesCanon (·.laceLatch) := carriesCanon fun s => by simp [State.laceLatch]
@[simp] theorem State.canon_lacePoll : CarriesCanon (·.lacePoll) := carriesCanon fun s => by simp [State.lacePoll]
@[simp] theorem State.canon_laceOnline (o v) : CarriesCanon (·.laceOnline o v) :=
  carriesCanon fun s => by simp [State.laceOnline]
@[simp] theorem State.canon_laceWrite (t n o v) : CarriesCanon (·.laceWrite t n o v) :=
  carriesCanon fun s => by simp [State.laceWrite]
@[simp] theorem State.canon_lacePop : CarriesCanon (fun s => (s.lacePop).1) :=
  carriesCanon fun s => by unfold State.lacePop; split <;> simp
@[simp] theorem State.canon_laceReset : CarriesCanon (·.laceReset) := carriesCanon fun s => by simp [State.laceReset]

/-! ### The serial lanes and links (Machine/Lanes.lean) -/

@[simp] theorem State.canon_updLn (n f) : CarriesCanon (·.updLn n f) := carriesCanon fun _ => id
@[simp] theorem State.canon_updLk (n f) : CarriesCanon (·.updLk n f) := carriesCanon fun _ => id
@[simp] theorem State.canon_laneSend (n us) : CarriesCanon (·.laneSend n us) :=
  carriesCanon fun s => by simp [State.laneSend, canonTo_foldl_fst]
@[simp] theorem State.canon_laneTrain (n) : CarriesCanon (·.laneTrain n) := carriesCanon fun s => by simp [State.laneTrain]
@[simp] theorem State.canon_laneExit (n early) : CarriesCanon (·.laneExit n early) :=
  carriesCanon fun s => by simp [State.laneExit]
@[simp] theorem State.canon_laneSleep (n dormant win) : CarriesCanon (·.laneSleep n dormant win) :=
  carriesCanon fun s => by simp [State.laneSleep]
@[simp] theorem State.canon_linkDown (n cause) : CarriesCanon (·.linkDown n cause) :=
  carriesCanon fun s => by simp [State.linkDown]
@[simp] theorem State.canon_laneDown (n cause) : CarriesCanon (·.laneDown n cause) :=
  carriesCanon fun s => by simp [State.laneDown]
@[simp] theorem State.canon_linkPump (n) : CarriesCanon (·.linkPump n) := carriesCanon fun s => by simp [State.linkPump]
@[simp] theorem State.canon_linkReplay (n ls) : CarriesCanon (·.linkReplay n ls) :=
  carriesCanon fun s => by simp [State.linkReplay]
@[simp] theorem State.canon_addCtl (n typ lseq) : CarriesCanon (·.addCtl n typ lseq) :=
  carriesCanon fun s => by simp [State.addCtl]
@[simp] theorem State.canon_linkTryUp (n) : CarriesCanon (·.linkTryUp n) := carriesCanon fun s => by simp [State.linkTryUp]
@[simp] theorem State.canon_apertureDone (n net st dem late d) : CarriesCanon (·.apertureDone n net st dem late d) :=
  carriesCanon fun s => by unfold State.apertureDone; split <;> simp
@[simp] theorem State.canon_aperture (n src q cls write o v net) : CarriesCanon (·.aperture n src q cls write o v net) :=
  carriesCanon fun s => by simp [State.aperture]
@[simp] theorem State.canon_linkReply (n h st dem late d) : CarriesCanon (·.linkReply n h st dem late d) :=
  carriesCanon fun s => by simp [State.linkReply]
@[simp] theorem State.canon_linkSettle (ni) : CarriesCanon (·.linkSettle ni) :=
  carriesCanon fun s => by simp [State.linkSettle]
@[simp] theorem State.canon_linkIssue (n h d) : CarriesCanon (·.linkIssue n h d) :=
  carriesCanon fun s => by simp [State.linkIssue]
@[simp] theorem State.canon_linkRequest (n h d) : CarriesCanon (·.linkRequest n h d) := carriesCanon fun s => by
  simp only [State.linkRequest]
  repeat' split
  all_goals simp
@[simp] theorem State.canon_linkResponse (n h b) : CarriesCanon (·.linkResponse n h b) :=
  carriesCanon fun s => by unfold State.linkResponse; split <;> simp
@[simp] theorem State.canon_linkNak (n) : CarriesCanon (·.linkNak n) := carriesCanon fun s => by simp [State.linkNak]
@[simp] theorem State.canon_linkData (n b bad) : CarriesCanon (·.linkData n b bad) :=
  carriesCanon fun s => by simp [State.linkData]
theorem State.canonTo_linkAck {s t : State} {n q : Nat} (h : s.linkAck n q = some t) : s.CanonTo t := by
  simp only [State.linkAck] at h
  repeat' split at h
  all_goals cases h
  all_goals simp
@[simp] theorem State.canon_linkCtl (n b) : CarriesCanon (·.linkCtl n b) := carriesCanon fun s => by
  simp only [State.linkCtl]
  repeat' split
  any_goals simp
  all_goals simp [State.canonTo_linkAck ‹s.linkAck _ _ = _›]
@[simp] theorem State.canon_linkInit (n) : CarriesCanon (·.linkInit n) := carriesCanon fun s => by simp [State.linkInit]
@[simp] theorem State.canon_linkTimeout (n) : CarriesCanon (·.linkTimeout n) :=
  carriesCanon fun s => by unfold State.linkTimeout; split <;> simp
@[simp] theorem State.canon_paneOut (n us) : CarriesCanon (·.paneOut n us) := carriesCanon fun s => by simp [State.paneOut]
@[simp] theorem State.canon_paneLatch (p) : CarriesCanon (·.paneLatch p) := carriesCanon fun s => by simp [State.paneLatch]
@[simp] theorem State.canon_paneSegment (n x) : CarriesCanon (·.paneSegment n x) :=
  carriesCanon fun s => by unfold State.paneSegment; split <;> simp
@[simp] theorem State.canon_panePrep (n b bad) : CarriesCanon (·.panePrep n b bad) := carriesCanon fun s => by
  simp only [State.panePrep]
  repeat' split
  all_goals simp
@[simp] theorem State.canon_hostClose (n) : CarriesCanon (·.hostClose n) :=
  carriesCanon fun s => by unfold State.hostClose; split <;> simp
@[simp] theorem State.canon_hostStart (n b) : CarriesCanon (·.hostStart n b) :=
  carriesCanon fun s => by simp [State.hostStart]
@[simp] theorem State.canon_hostStore (n base ps) : CarriesCanon (·.hostStore n base ps) :=
  carriesCanon fun s => by simp [State.hostStore]
@[simp] theorem State.canon_hostLine (n b) : CarriesCanon (·.hostLine n b) :=
  carriesCanon fun s => by unfold State.hostLine; split <;> simp
@[simp] theorem State.canon_hostPkt (n b bad) : CarriesCanon (·.hostPkt n b bad) :=
  carriesCanon fun s => by simp [State.hostPkt]
@[simp] theorem State.canon_laneTake (n u) : CarriesCanon (·.laneTake n u) :=
  carriesCanon fun s => by unfold State.laneTake; split <;> simp
@[simp] theorem State.canon_laneRx (n proto u) : CarriesCanon (·.laneRx n proto u) :=
  carriesCanon fun s => by simp [State.laneRx]
@[simp] theorem State.canon_hostRx (n typ b bad) : CarriesCanon (·.hostRx n typ b bad) :=
  carriesCanon fun s => by simp [State.hostRx]
@[simp] theorem State.canon_ctlRx (n typ b) : CarriesCanon (·.ctlRx n typ b) := carriesCanon fun s => by simp [State.ctlRx]
@[simp] theorem State.canon_laneFlush (n) : CarriesCanon (·.laneFlush n) := carriesCanon fun s => by simp [State.laneFlush]
@[simp] theorem State.canon_laneAligned (n) : CarriesCanon (·.laneAligned n) :=
  carriesCanon fun s => by simp [State.laneAligned]
@[simp] theorem State.canon_laneLost (n errs) : CarriesCanon (·.laneLost n errs) :=
  carriesCanon fun s => by simp [State.laneLost]
@[simp] theorem State.canon_allLanes {f : State → Nat → State} (h : ∀ (s : State) n, s.CanonTo (f s n)) :
    CarriesCanon (·.allLanes f) := carriesCanon fun s => by simp [State.allLanes, h]
@[simp] theorem State.canon_setLanePll (v) : CarriesCanon (·.setLanePll v) := carriesCanon fun _ => id
@[simp] theorem State.canon_refOff : CarriesCanon (·.refOff) := carriesCanon fun s => by simp [State.refOff]
@[simp] theorem State.canon_refLoss : CarriesCanon (·.refLoss) := carriesCanon fun s => by simp [State.refLoss]
@[simp] theorem State.canon_lanePllLock : CarriesCanon (·.lanePllLock) := carriesCanon fun s => by simp [State.lanePllLock]
@[simp] theorem State.canon_laneLp (arg) : CarriesCanon (·.laneLp arg) := carriesCanon fun s => by simp [State.laneLp]
@[simp] theorem State.canon_laneFarLp (n) : CarriesCanon (·.laneFarLp n) := carriesCanon fun s => by simp [State.laneFarLp]
@[simp] theorem State.canon_laneLine : CarriesCanon (·.laneLine) := carriesCanon fun s => by simp [State.laneLine]
@[simp] theorem State.canon_laneWindowEnd (n) : CarriesCanon (·.laneWindowEnd n) :=
  carriesCanon fun s => by simp [State.laneWindowEnd]
@[simp] theorem State.canon_laneExitDone (n) : CarriesCanon (·.laneExitDone n) :=
  carriesCanon fun s => by simp [State.laneExitDone]
@[simp] theorem State.canon_laneCommit (n old oldPr) : CarriesCanon (·.laneCommit n old oldPr) :=
  carriesCanon fun s => by simp [State.laneCommit]
@[simp] theorem State.canon_prbsLock (n) : CarriesCanon (·.prbsLock n) := carriesCanon fun s => by simp [State.prbsLock]
@[simp] theorem State.canon_prbsLost (n errs bits) : CarriesCanon (·.prbsLost n errs bits) :=
  carriesCanon fun s => by simp [State.prbsLost]
@[simp] theorem State.canon_esDone (n errs) : CarriesCanon (·.esDone n errs) := carriesCanon fun s => by simp [State.esDone]
@[simp] theorem State.canon_esCtrl (n v) : CarriesCanon (·.esCtrl n v) := carriesCanon fun s => by simp [State.esCtrl]
@[simp] theorem State.canon_laneWrite (t n o v) : CarriesCanon (·.laneWrite t n o v) :=
  carriesCanon fun s => by simp [State.laneWrite]
@[simp] theorem State.canon_laneRead (n o) : CarriesCanon (fun s => (s.laneRead n o).1) :=
  carriesCanon fun s => by simp [State.laneRead]
@[simp] theorem State.canon_linkWrite (n o v) : CarriesCanon (·.linkWrite n o v) :=
  carriesCanon fun s => by simp [State.linkWrite]
@[simp] theorem State.canon_paneWrite (n o v) : CarriesCanon (·.paneWrite n o v) :=
  carriesCanon fun s => by simp [State.paneWrite]
@[simp] theorem State.canon_laneReset (n) : CarriesCanon (·.laneReset n) := carriesCanon fun s => by simp [State.laneReset]
@[simp] theorem State.canon_linkReset (n) : CarriesCanon (·.linkReset n) := carriesCanon fun s => by simp [State.linkReset]
@[simp] theorem State.canon_paneReset (n) : CarriesCanon (·.paneReset n) := carriesCanon fun s => by simp [State.paneReset]
@[simp] theorem State.canon_lanesOff : CarriesCanon (·.lanesOff) := carriesCanon fun _ => id

/-! ### The vehicle interfaces and the converter (Machine/Vehicle.lean) -/

@[simp] theorem State.canon_updCan (n f) : CarriesCanon (·.updCan n f) := carriesCanon fun _ => id
@[simp] theorem State.canon_canPick (n) : CarriesCanon (·.canPick n) := carriesCanon fun s => by simp [State.canPick]
@[simp] theorem State.canon_canRequest (n m) : CarriesCanon (·.canRequest n m) :=
  carriesCanon fun s => by simp [State.canRequest]
@[simp] theorem State.canon_canDrop (n p) : CarriesCanon (·.canDrop n p) := carriesCanon fun s => by simp [State.canDrop]
@[simp] theorem State.canon_canAbort (n m) : CarriesCanon (·.canAbort n m) := carriesCanon fun s => by simp [State.canAbort]
@[simp] theorem State.canon_canMode (n) : CarriesCanon (·.canMode n) := carriesCanon fun s => by simp [State.canMode]
@[simp] theorem State.canon_grantLoad (again) : CarriesCanon (·.grantLoad again) := carriesCanon fun s => by
  simp only [State.grantLoad]
  repeat' split
  all_goals simp
@[simp] theorem State.canon_grantExpire : CarriesCanon (·.grantExpire) := carriesCanon fun s => by simp [State.grantExpire]
@[simp] theorem State.canon_canError (n lost dTec dRec) : CarriesCanon (·.canError n lost dTec dRec) :=
  carriesCanon fun s => by simp [State.canError]
@[simp] theorem State.canon_canSent (n) : CarriesCanon (·.canSent n) :=
  carriesCanon fun s => by unfold State.canSent; split <;> simp
@[simp] theorem State.canon_canReceive (n f) : CarriesCanon (·.canReceive n f) :=
  carriesCanon fun s => by simp [State.canReceive]
@[simp] theorem State.canon_canBusOff (n) : CarriesCanon (·.canBusOff n) := carriesCanon fun s => by simp [State.canBusOff]
@[simp] theorem State.canon_canRecovered (n) : CarriesCanon (·.canRecovered n) :=
  carriesCanon fun s => by simp [State.canRecovered]
@[simp] theorem State.canon_canCommit (n) : CarriesCanon (·.canCommit n) := carriesCanon fun s => by simp [State.canCommit]
@[simp] theorem State.canon_canWrite (n o v) : CarriesCanon (·.canWrite n o v) := carriesCanon fun s => by
  simp only [State.canWrite]
  repeat' split
  all_goals simp
@[simp] theorem State.canon_updLin (f) : CarriesCanon (·.updLin f) := carriesCanon fun _ => id
@[simp] theorem State.canon_linSchedule : CarriesCanon (·.linSchedule) := carriesCanon fun s => by
  simp only [State.linSchedule]
  repeat' split
  all_goals simp
@[simp] theorem State.canon_linHeader (pid) : CarriesCanon (·.linHeader pid) := carriesCanon fun s => by
  simp only [State.linHeader]
  repeat' split
  all_goals simp
@[simp] theorem State.canon_linDone (errs data) : CarriesCanon (·.linDone errs data) :=
  carriesCanon fun s => by unfold State.linDone; split <;> simp
@[simp] theorem State.canon_linWrite (o v) : CarriesCanon (·.linWrite o v) := carriesCanon fun s => by simp [State.linWrite]
@[simp] theorem State.canon_linRead (o) : CarriesCanon (fun s => (s.linRead o).1) :=
  carriesCanon fun s => by simp [State.linRead]
@[simp] theorem State.canon_linCommit : CarriesCanon (·.linCommit) := carriesCanon fun s => by simp [State.linCommit]
@[simp] theorem State.canon_updI2c (n f) : CarriesCanon (·.updI2c n f) := carriesCanon fun _ => id
@[simp] theorem State.canon_i2cShift (n) : CarriesCanon (·.i2cShift n) :=
  carriesCanon fun s => by unfold State.i2cShift; split <;> simp
@[simp] theorem State.canon_i2cCmd (n v) : CarriesCanon (·.i2cCmd n v) := carriesCanon fun s => by simp [State.i2cCmd]
@[simp] theorem State.canon_i2cDone (n outcome data) : CarriesCanon (·.i2cDone n outcome data) :=
  carriesCanon fun s => by unfold State.i2cDone; split <;> simp
@[simp] theorem State.canon_i2cStuck (n) : CarriesCanon (·.i2cStuck n) := carriesCanon fun s => by simp [State.i2cStuck]
@[simp] theorem State.canon_i2cTarget (n write data k) : CarriesCanon (·.i2cTarget n write data k) :=
  carriesCanon fun s => by simp [State.i2cTarget]
@[simp] theorem State.canon_i2cWrite (n o v) : CarriesCanon (·.i2cWrite n o v) :=
  carriesCanon fun s => by simp [State.i2cWrite]
@[simp] theorem State.canon_i2cRead (n o) : CarriesCanon (fun s => (s.i2cRead n o).1) := carriesCanon fun s => by
  simp only [State.i2cRead]
  repeat' split
  all_goals simp
@[simp] theorem State.canon_updSpi (n f) : CarriesCanon (·.updSpi n f) := carriesCanon fun _ => id
@[simp] theorem State.canon_spiDone (n v) : CarriesCanon (·.spiDone n v) := carriesCanon fun s => by simp [State.spiDone]
@[simp] theorem State.canon_spiWrite (n o v) : CarriesCanon (·.spiWrite n o v) :=
  carriesCanon fun s => by simp [State.spiWrite]
@[simp] theorem State.canon_spiRead (n o) : CarriesCanon (fun s => (s.spiRead n o).1) := carriesCanon fun s => by
  simp only [State.spiRead]
  repeat' split
  all_goals simp
@[simp] theorem State.canon_updXs (f) : CarriesCanon (·.updXs f) := carriesCanon fun _ => id
@[simp] theorem State.canon_xsDone (data flash) : CarriesCanon (·.xsDone data flash) := carriesCanon fun s => by
  simp only [State.xsDone]
  repeat' split
  all_goals simp
@[simp] theorem State.canon_xsReady : CarriesCanon (·.xsReady) := carriesCanon fun s => by simp [State.xsReady]
@[simp] theorem State.canon_xsWrite (o v) : CarriesCanon (·.xsWrite o v) := carriesCanon fun s => by simp [State.xsWrite]
@[simp] theorem State.canon_gpEvent (pin arg) : CarriesCanon (·.gpEvent pin arg) :=
  carriesCanon fun s => by simp [State.gpEvent]
@[simp] theorem State.canon_gpEdge (pin level) : CarriesCanon (·.gpEdge pin level) :=
  carriesCanon fun s => by simp [State.gpEdge]
@[simp] theorem State.canon_gpWrite (t o v) : CarriesCanon (·.gpWrite t o v) :=
  carriesCanon fun s => by simp [State.gpWrite]
@[simp] theorem State.canon_updAdc (f) : CarriesCanon (·.updAdc f) := carriesCanon fun _ => id
@[simp] theorem State.canon_adcBegin : CarriesCanon (·.adcBegin) := carriesCanon fun s => by simp [State.adcBegin]
@[simp] theorem State.canon_adcScan : CarriesCanon (·.adcScan) := carriesCanon fun s => by simp [State.adcScan]
@[simp] theorem State.canon_adcResult (ch code ovr unr off settling) :
    CarriesCanon (·.adcResult ch code ovr unr off settling) := carriesCanon fun s => by simp [State.adcResult]
@[simp] theorem State.canon_adcDone (x off) : CarriesCanon (·.adcDone x off) :=
  carriesCanon fun s => by simp [State.adcDone]
@[simp] theorem State.canon_adcWrite (o v) : CarriesCanon (·.adcWrite o v) := carriesCanon fun s => by simp [State.adcWrite]
@[simp] theorem State.canon_adcRead (o) : CarriesCanon (fun s => (s.adcRead o).1) :=
  carriesCanon fun s => by simp [State.adcRead]
@[simp] theorem State.canon_vehReset (b p) : CarriesCanon (·.vehReset b p) :=
  carriesCanon fun s => by unfold State.vehReset; split <;> simp

/-! ### The Seam, clocks, resets, domains and the watchdog (Machine/Power.lean) -/

@[simp] theorem State.canon_updPwr (f) : CarriesCanon (·.updPwr f) := carriesCanon fun _ => id
@[simp] theorem State.canon_supplyTold : CarriesCanon (·.supplyTold) := carriesCanon fun s => by simp [State.supplyTold]
@[simp] theorem State.canon_seamFault : CarriesCanon (·.seamFault) := carriesCanon fun s => by simp [State.seamFault]
@[simp] theorem State.canon_seamTransfer (up ok) : CarriesCanon (·.seamTransfer up ok) :=
  carriesCanon fun s => by simp [State.seamTransfer]
@[simp] theorem State.canon_seamRecovered : CarriesCanon (·.seamRecovered) :=
  carriesCanon fun s => by simp [State.seamRecovered]
@[simp] theorem State.canon_seamRefreshed : CarriesCanon (·.seamRefreshed) :=
  carriesCanon fun s => by simp [State.seamRefreshed]
@[simp] theorem State.canon_sysPllLock : CarriesCanon (·.sysPllLock) := carriesCanon fun s => by simp [State.sysPllLock]
@[simp] theorem State.canon_crystalLoss : CarriesCanon (·.crystalLoss) := carriesCanon fun s => by simp [State.crystalLoss]
@[simp] theorem State.canon_pllRestart : CarriesCanon (·.pllRestart) := carriesCanon fun s => by simp [State.pllRestart]
@[simp] theorem State.canon_clearPage (p lk keep) : CarriesCanon (·.clearPage p lk keep) := carriesCanon fun s => by
  refine State.CanonTo.foldl (fun t e => ?_) _ fun ⟨hr, ha, hm⟩ =>
    ⟨Sparse.filter_wf _ _ _ hr, Sparse.filter_wf _ _ _ ha, hm⟩
  dsimp only
  repeat' split
  all_goals simp
@[simp] theorem State.canon_coldBase (por doms) : CarriesCanon (·.coldBase por doms) := carriesCanon fun s ⟨_, _, hm⟩ => by
  have hcold := s.cold_wf por doms hm
  rw [(s.cold_mem por doms).1, (s.cold_mem por doms).2] at hcold
  exact ⟨rfl, rfl, hcold⟩
@[simp] theorem State.canon_keepRegs (x0) : CarriesCanon (·.keepRegs x0) := carriesCanon fun s => by simp [State.keepRegs]
@[simp] theorem State.canon_cold (por doms) : CarriesCanon (·.cold por doms) := carriesCanon fun s => by simp [State.cold]
@[simp] theorem State.canon_sysReset (bit) : CarriesCanon (·.sysReset bit) := carriesCanon fun s => by simp [State.sysReset]
@[simp] theorem State.canon_wakeUp (bits lead) : CarriesCanon (·.wakeUp bits lead) :=
  carriesCanon fun s => by simp [State.wakeUp]
@[simp] theorem State.canon_wakeNote (src) : CarriesCanon (·.wakeNote src) := carriesCanon fun s => by simp [State.wakeNote]
@[simp] theorem State.canon_wakeSource (bit cause lead) : CarriesCanon (·.wakeSource bit cause lead) :=
  carriesCanon fun s => by simp [State.wakeSource]
@[simp] theorem State.canon_porReset : CarriesCanon (·.porReset) := carriesCanon fun s => by simp [State.porReset]
@[simp] theorem State.canon_borReset : CarriesCanon (·.borReset) := carriesCanon fun s => by simp [State.borReset]
@[simp] theorem State.canon_deepRest : CarriesCanon (·.deepRest) := carriesCanon fun s => by simp [State.deepRest]
@[simp] theorem State.canon_borRestart : CarriesCanon (·.borRestart) := carriesCanon fun s => by simp [State.borRestart]
@[simp] theorem State.canon_setLow (v) : CarriesCanon (·.setLow v) := carriesCanon fun s => by simp [State.setLow]
@[simp] theorem State.canon_setShed (shed ov) : CarriesCanon (·.setShed shed ov) :=
  carriesCanon fun s => by simp [State.setShed]
@[simp] theorem State.canon_shedSet : CarriesCanon (·.shedSet) := carriesCanon fun s => by simp [State.shedSet]
@[simp] theorem State.canon_shedClear : CarriesCanon (·.shedClear) := carriesCanon fun s => by simp [State.shedClear]
@[simp] theorem State.canon_ovSet : CarriesCanon (·.ovSet) := carriesCanon fun s => by simp [State.ovSet]
@[simp] theorem State.canon_ovClear : CarriesCanon (·.ovClear) := carriesCanon fun s => by simp [State.ovClear]
@[simp] theorem State.canon_pwrSleep (n) : CarriesCanon (·.pwrSleep n) := carriesCanon fun s => by simp [State.pwrSleep]
@[simp] theorem State.canon_dropHeld : CarriesCanon (·.dropHeld) := carriesCanon fun s => by simp [State.dropHeld]
@[simp] theorem State.canon_sleepEntered : CarriesCanon (·.sleepEntered) := carriesCanon fun s => by
  simp only [State.sleepEntered]
  repeat' split
  all_goals simp
@[simp] theorem State.canon_wakeEdge (i level) : CarriesCanon (·.wakeEdge i level) :=
  carriesCanon fun s => by simp [State.wakeEdge]
@[simp] theorem State.canon_canWake (cause f) : CarriesCanon (·.canWake cause f) :=
  carriesCanon fun s => by simp [State.canWake]
@[simp] theorem State.canon_linWake : CarriesCanon (·.linWake) := carriesCanon fun s => by simp [State.linWake]
@[simp] theorem State.canon_rtcTick : CarriesCanon (·.rtcTick) := carriesCanon fun s => by simp [State.rtcTick]
@[simp] theorem State.canon_rtcAlarm : CarriesCanon (·.rtcAlarm) := carriesCanon fun s => by simp [State.rtcAlarm]
@[simp] theorem State.canon_bootGiveUp : CarriesCanon (·.bootGiveUp) :=
  carriesCanon fun s => by unfold State.bootGiveUp; split <;> simp
@[simp] theorem State.canon_alwaysCan : CarriesCanon (·.alwaysCan) := carriesCanon fun s => by simp [State.alwaysCan]
@[simp] theorem State.canon_alwaysWake : CarriesCanon (·.alwaysWake) := carriesCanon fun s => by simp [State.alwaysWake]
@[simp] theorem State.canon_domLeave (d) : CarriesCanon (·.domLeave d) := carriesCanon fun s => by simp [State.domLeave]
@[simp] theorem State.canon_domOff (d) : CarriesCanon (·.domOff d) := carriesCanon fun s => by simp [State.domOff]
@[simp] theorem State.canon_domWakeUp (d) : CarriesCanon (·.domWakeUp d) := carriesCanon fun s => by simp [State.domWakeUp]
@[simp] theorem State.canon_domArrive (d dst) : CarriesCanon (·.domArrive d dst) :=
  carriesCanon fun s => by simp [State.domArrive]
@[simp] theorem State.canon_domNext (d) : CarriesCanon (·.domNext d) := carriesCanon fun s => by simp [State.domNext]
@[simp] theorem State.canon_pwrDomWrite (d v) : CarriesCanon (·.pwrDomWrite d v) :=
  carriesCanon fun s => by simp only [State.pwrDomWrite]; split <;> simp
@[simp] theorem State.canon_domIdle (d) : CarriesCanon (·.domIdle d) := carriesCanon fun s => by simp [State.domIdle]
@[simp] theorem State.canon_dramTrained (code crc) : CarriesCanon (·.dramTrained code crc) :=
  carriesCanon fun s => by simp [State.dramTrained]
@[simp] theorem State.canon_dramRef (arg n) : CarriesCanon (·.dramRef arg n) :=
  carriesCanon fun s => by simp [State.dramRef]
@[simp] theorem State.canon_dramForced (n) : CarriesCanon (·.dramForced n) :=
  carriesCanon fun s => by simp [State.dramForced]
@[simp] theorem State.canon_dramLine : CarriesCanon (·.dramLine) := carriesCanon fun s => by simp [State.dramLine]
@[simp] theorem State.canon_wdRestart (at_) : CarriesCanon (·.wdRestart at_) :=
  carriesCanon fun s => by simp [State.wdRestart]
@[simp] theorem State.canon_wdCtrl (v) : CarriesCanon (·.wdCtrl v) := carriesCanon fun s => by simp [State.wdCtrl]
@[simp] theorem State.canon_wdKick (v) : CarriesCanon (·.wdKick v) := carriesCanon fun s => by simp [State.wdKick]
@[simp] theorem State.canon_wdExpire : CarriesCanon (·.wdExpire) := carriesCanon fun s => by simp [State.wdExpire]
@[simp] theorem State.canon_wdWrite (o v) : CarriesCanon (·.wdWrite o v) := carriesCanon fun s => by simp [State.wdWrite]
@[simp] theorem State.canon_relWrite (c v) : CarriesCanon (·.relWrite c v) := carriesCanon fun s => by simp [State.relWrite]
@[simp] theorem State.canon_rstCore (v) : CarriesCanon (·.rstCore v) := carriesCanon fun s => by simp [State.rstCore]
@[simp] theorem State.canon_rstWrite (o v) : CarriesCanon (·.rstWrite o v) := carriesCanon fun s => by simp [State.rstWrite]
@[simp] theorem State.canon_pwrWrite (o v) : CarriesCanon (·.pwrWrite o v) := carriesCanon fun s => by simp [State.pwrWrite]
@[simp] theorem State.canon_firstFrame : CarriesCanon (·.firstFrame) :=
  carriesCanon fun s => by unfold State.firstFrame; split <;> simp
@[simp] theorem State.canon_rtcStart : CarriesCanon (·.rtcStart) := carriesCanon fun s => by simp [State.rtcStart]

/-! ### Accesses to register pages (Machine/Pages.lean) -/

@[simp] theorem State.canon_commitRegs (p) : CarriesCanon (·.commitRegs p) := carriesCanon fun s => by
  refine State.CanonTo.foldl (fun t e => ?_) _ fun ⟨hr, ha, hm⟩ => ⟨hr, Sparse.filter_wf _ _ _ ha, hm⟩
  simp
@[simp] theorem State.canon_commitHook (p lane prbs) : CarriesCanon (·.commitHook p lane prbs) :=
  carriesCanon fun s => by unfold State.commitHook; split <;> simp
@[simp] theorem State.canon_commitPage (p) : CarriesCanon (·.commitPage p) :=
  carriesCanon fun s => by simp [State.commitPage]
@[simp] theorem State.canon_shWrite (p v) : CarriesCanon (·.shWrite p v) := carriesCanon fun s => by simp [State.shWrite]
@[simp] theorem State.canon_commitArm (p k) : CarriesCanon (·.commitArm p k) :=
  carriesCanon fun s => by simp [State.commitArm]
@[simp] theorem State.canon_frameCommits : CarriesCanon (·.frameCommits) :=
  carriesCanon fun s => by simp [State.frameCommits]
@[simp] theorem State.canon_commitEvent (p) : CarriesCanon (·.commitEvent p) :=
  carriesCanon fun s => by simp [State.commitEvent]
@[simp] theorem State.canon_blockReset (p b) : CarriesCanon (·.blockReset p b) :=
  carriesCanon fun s => by unfold State.blockReset; split <;> simp
@[simp] theorem State.canon_softReset (p) : CarriesCanon (·.softReset p) := carriesCanon fun s => by
  simp only [State.softReset]
  repeat' split
  all_goals simp
@[simp] theorem State.canon_pgCtrl (p v) : CarriesCanon (·.pgCtrl p v) := carriesCanon fun s => by simp [State.pgCtrl]
@[simp] theorem State.canon_headWrite (p o v) : CarriesCanon (·.headWrite p o v) :=
  carriesCanon fun s => by simp [State.headWrite]
@[simp] theorem State.canon_blockWrite (b t n p o v) : CarriesCanon (·.blockWrite b t n p o v) :=
  carriesCanon fun s => by unfold State.blockWrite; split <;> simp
@[simp] theorem State.canon_blockRead (b p o) : CarriesCanon (fun s => (s.blockRead b p o).1) :=
  carriesCanon fun s => by unfold State.blockRead; split <;> simp
@[simp] theorem State.canon_pageWrite (b t n p o v) : CarriesCanon (·.pageWrite b t n p o v) :=
  carriesCanon fun s => by simp [State.pageWrite]
@[simp] theorem State.canon_pageRead (b p o) : CarriesCanon (fun s => (s.pageRead b p o).1) :=
  carriesCanon fun s => by simp [State.pageRead]
@[simp] theorem State.canon_finish (net n st v size) : CarriesCanon (·.finish net n st v size) :=
  carriesCanon fun s => by unfold State.finish; split <;> simp
@[simp] theorem State.canon_hold (a net) : CarriesCanon (·.hold a net) := carriesCanon fun _ => id
@[simp] theorem State.canon_lockAnswer : CarriesCanon (·.lockAnswer) := carriesCanon fun s => by simp [State.lockAnswer]
@[simp] theorem State.canon_pageAccess (a net) : CarriesCanon (·.pageAccess a net) := carriesCanon fun s => by
  simp only [State.pageAccess]
  repeat' split
  all_goals simp
@[simp] theorem State.canon_busAccess (a net) : CarriesCanon (·.busAccess a net) := carriesCanon fun s => by
  simp only [State.busAccess]
  repeat' split
  all_goals simp
@[simp] theorem State.canon_access (a) : CarriesCanon (·.access a) := carriesCanon fun s => by simp [State.access]
@[simp] theorem State.canon_drain : CarriesCanon (·.drain) := carriesCanon fun s => by simp [State.drain]
@[simp] theorem State.canon_softResetDone (p) : CarriesCanon (·.softResetDone p) :=
  carriesCanon fun s => by simp [State.softResetDone]
@[simp] theorem State.canon_lockChecked : CarriesCanon (·.lockChecked) := carriesCanon fun s => by simp [State.lockChecked]
@[simp] theorem State.canon_apertureAccess (w n q cls write o v) : CarriesCanon (·.apertureAccess w n q cls write o v) :=
  carriesCanon fun s => by simp [State.apertureAccess]
@[simp] theorem State.canon_put (w p o v) : CarriesCanon (·.put w p o v) := carriesCanon fun s => by simp [State.put]
@[simp] theorem State.canon_onSys {f : State → State} (h : ∀ s : State, s.CanonTo (f s)) : CarriesCanon (·.onSys f) :=
  carriesCanon fun s => by simp [State.onSys, h]
@[simp] theorem State.canon_take (w p o) : CarriesCanon (·.take w p o) := carriesCanon fun s => by simp [State.take]

/-! ### Line starts and frame boundaries (Machine/Frame.lean) -/

@[simp] theorem State.canon_lineHooks : CarriesCanon (·.lineHooks) := carriesCanon fun s => by simp [State.lineHooks]
@[simp] theorem State.canon_frameWork : CarriesCanon (·.frameWork) := carriesCanon fun s => by simp [State.frameWork]
@[simp] theorem State.canon_frameBoundary : CarriesCanon (·.frameBoundary) :=
  carriesCanon fun s => by simp [State.frameBoundary]
@[simp] theorem State.canon_lineStart (m) : CarriesCanon (·.lineStart m) := carriesCanon fun s => by simp [State.lineStart]
@[simp] theorem State.canon_loadVt : CarriesCanon (·.loadVt) := carriesCanon fun s => by simp [State.loadVt]
@[simp] theorem State.canon_reanchor (cause m) : CarriesCanon (·.reanchor cause m) := carriesCanon fun s => by
  simp only [State.reanchor, State.canonTo_ite, State.canon_w, State.canon_ev, State.canon_lineHooks, State.canon_frameBoundary,
    State.canon_loadVt, State.canon_measure, State.canon_skipFire, State.canon_trkCancel, State.canonTo_refl, true_or, and_self]
@[simp] theorem State.canon_endCoast : CarriesCanon (·.endCoast) := carriesCanon fun s => by simp [State.endCoast]
@[simp] theorem State.canon_masterLineStart (m) : CarriesCanon (·.masterLineStart m) :=
  carriesCanon fun s => by simp [State.masterLineStart]
@[simp] theorem State.canon_masterFrameStart (m mode) : CarriesCanon (·.masterFrameStart m mode) :=
  carriesCanon fun s => by simp [State.masterFrameStart]
@[simp] theorem State.canon_virtualLineStart : CarriesCanon (·.virtualLineStart) :=
  carriesCanon fun s => by simp [State.virtualLineStart]
@[simp] theorem State.canon_coastLineStart : CarriesCanon (·.coastLineStart) :=
  carriesCanon fun s => by simp [State.coastLineStart]
@[simp] theorem State.canon_blankLineStart : CarriesCanon (·.blankLineStart) :=
  carriesCanon fun s => by simp [State.blankLineStart]
@[simp] theorem State.canon_masterLine (m) : CarriesCanon (·.masterLine m) :=
  carriesCanon fun s => by unfold State.masterLine; split <;> simp
@[simp] theorem State.canon_masterFrame (m mode) : CarriesCanon (·.masterFrame m mode) :=
  carriesCanon fun s => by unfold State.masterFrame; split <;> simp
@[simp] theorem State.canon_trackerLine (c) : CarriesCanon (·.trackerLine c) :=
  carriesCanon fun s => by simp [State.trackerLine]
@[simp] theorem State.canon_trackerFrame (c) : CarriesCanon (·.trackerFrame c) :=
  carriesCanon fun s => by simp [State.trackerFrame]
@[simp] theorem State.canon_camLineStart (c) : CarriesCanon (·.camLineStart c) :=
  carriesCanon fun s => by simp [State.camLineStart]
@[simp] theorem State.canon_csiFs (n vc num hdr) : CarriesCanon (·.csiFs n vc num hdr) :=
  carriesCanon fun s => by simp [State.csiFs]
@[simp] theorem State.canon_csiLong (n vc dt hdr wc payload crcOk fifo fill) :
    CarriesCanon (·.csiLong n vc dt hdr wc payload crcOk fifo fill) := carriesCanon fun s => by simp [State.csiLong]
@[simp] theorem State.canon_dpFrameLatch (p) : CarriesCanon (·.dpFrameLatch p) :=
  carriesCanon fun s => by simp [State.dpFrameLatch]
@[simp] theorem State.canon_dpLineStart (p late) : CarriesCanon (·.dpLineStart p late) :=
  carriesCanon fun s => by simp [State.dpLineStart]

/-! ### Packets on the mesh and at their NIs (Machine/Traffic.lean) -/

@[simp] theorem State.canon_awlLeave (i d f) : CarriesCanon (·.awlLeave i d f) :=
  carriesCanon fun s => by simp [State.awlLeave]
@[simp] theorem State.canon_awlPass (d vc) : CarriesCanon (·.awlPass d vc) := carriesCanon fun s => by
  refine State.CanonTo.foldl (fun t i => ?_) _ s.canonTo_refl
  repeat' split
  all_goals simp
@[simp] theorem State.canon_cross (f) : CarriesCanon (fun s => (s.cross f).1) := carriesCanon fun s => by
  simp only [State.cross]
  split
  · rfl
  · split <;> next h =>
      have ht := State.canonTo_of_eq (s := s) h (by simp)
      simp [ht]
@[simp] theorem State.canon_rtDrop (r port parity h) : CarriesCanon (·.rtDrop r port parity h) :=
  carriesCanon fun s => by simp [State.rtDrop]
@[simp] theorem State.canon_dropFlight (i) : CarriesCanon (·.dropFlight i) := carriesCanon fun _ => id
@[simp] theorem State.canon_routerTake (i f r port k p bads) : CarriesCanon (·.routerTake i f r port k p bads) :=
  carriesCanon fun s => by simp [State.routerTake]
@[simp] theorem State.canon_routerPacket (i hb b) : CarriesCanon (·.routerPacket i hb b) := carriesCanon fun s => by
  simp only [State.routerPacket]
  repeat' split
  any_goals simp
  all_goals simp [State.canonTo_of_eq (s := s) ‹State.cross _ _ = _› (by simp)]
@[simp] theorem State.canon_serve (n p) : CarriesCanon (·.serve n p) :=
  carriesCanon fun s => by unfold State.serve; split <;> simp
@[simp] theorem State.canon_admitReq (n p) : CarriesCanon (·.admitReq n p) := carriesCanon fun s => by
  simp only [State.admitReq]
  repeat' split
  all_goals simp
@[simp] theorem State.canon_onceGate {go : State → State} (h : ∀ s : State, s.CanonTo (go s)) (n p) :
    CarriesCanon (·.onceGate n p go) := carriesCanon fun s => by
  simp only [State.onceGate]
  repeat' split
  all_goals simp [carriesCanon h]
@[simp] theorem State.canon_eject (n f hb b) : CarriesCanon (fun s => (s.eject n f hb b).1) := carriesCanon fun s => by
  simp only [State.eject]
  split <;> next h =>
    have ht := State.canonTo_of_eq (s := s) h (by simp)
    simp [ht]
@[simp] theorem State.canon_targetTake (n p) : CarriesCanon (·.targetTake n p) :=
  carriesCanon fun s => by simp [State.targetTake]
@[simp] theorem State.canon_targetRequest (i hb b) : CarriesCanon (·.targetRequest i hb b) := carriesCanon fun s => by
  simp only [State.targetRequest]
  repeat' split
  any_goals simp
  all_goals simp [State.canonTo_of_eq (s := s) ‹State.eject _ _ _ _ _ = _› (by simp)]
@[simp] theorem State.canon_deliver (n p) : CarriesCanon (·.deliver n p) := carriesCanon fun s => by simp [State.deliver]
@[simp] theorem State.canon_responseTake (n p) : CarriesCanon (·.responseTake n p) :=
  carriesCanon fun s => by simp [State.responseTake]
@[simp] theorem State.canon_weltResponse (i hb b) : CarriesCanon (·.weltResponse i hb b) := carriesCanon fun s => by
  simp only [State.weltResponse]
  repeat' split
  any_goals simp
  all_goals simp [State.canonTo_of_eq (s := s) ‹State.eject _ _ _ _ _ = _› (by simp)]
@[simp] theorem State.canon_reqTimeout (n tid) : CarriesCanon (·.reqTimeout n tid) :=
  carriesCanon fun s => by simp [State.reqTimeout]
@[simp] theorem State.canon_domPass (d) : CarriesCanon (·.domPass d) := carriesCanon fun s => by
  have hserve (n p) : CarriesCanon fun s : State => s.onceGate n p fun s => s.serve n p :=
    State.canon_onceGate (fun t => by simp) n p
  simp [State.domPass, hserve]
@[simp] theorem State.canon_domDone (d) : CarriesCanon (·.domDone d) :=
  carriesCanon fun s => by unfold State.domDone; split <;> simp
@[simp] theorem State.canon_dramDone (code crc) : CarriesCanon (·.dramDone code crc) :=
  carriesCanon fun s => by simp [State.dramDone]
@[simp] theorem State.canon_wakeFail (n) : CarriesCanon (·.wakeFail n) := carriesCanon fun s => by
  simp only [State.wakeFail]
  repeat' split
  · rfl
  · rfl
  · rw [State.canon_err]
    refine .inl (State.CanonTo.foldl (fun t e => ?_) _ (State.CanonTo.foldl (fun t p => by simp) _ ?_))
    · split <;> simp
    · simp only [State.canonTo_update, State.canon_updNi, State.canonTo_refl, true_or]
@[simp] theorem State.canon_awlRelease (i) : CarriesCanon (·.awlRelease i) :=
  carriesCanon fun s => by unfold State.awlRelease; split <;> simp
@[simp] theorem State.canon_probeMark (m) : CarriesCanon (·.probeMark m) := carriesCanon fun s => by simp [State.probeMark]
@[simp] theorem State.canon_kDone : CarriesCanon (·.kDone) := carriesCanon fun s => by unfold State.kDone; split <;> simp
@[simp] theorem State.canon_credDone : CarriesCanon (·.credDone) := carriesCanon fun s => by simp [State.credDone]

/-! ### Commands of the AGU slot (Machine/CmdAgu.lean) -/

@[simp] theorem State.canon_aguRow (c pre op post) : CarriesCanon (·.aguRow c pre op post) :=
  carriesCanon fun s => by simp [State.aguRow]

/-! ### Commands of the CTL slot (Machine/CmdCtl.lean) -/

@[simp] theorem State.canon_ctlRow (c pre op post) : CarriesCanon (·.ctlRow c pre op post) :=
  carriesCanon fun s => by simp [State.ctlRow]

/-! ### Commands of the MAC slot (Machine/CmdMac.lean) -/

@[simp] theorem State.canon_macRow (c pre hi op post) : CarriesCanon (·.macRow c pre hi op post) :=
  carriesCanon fun s => by simp [State.macRow]

/-! ### Commands and steps -/

theorem canonTo_of_next {o : Host.Outcome State Fault Refusal} {s t u : State} (ho : o = .next u) (hu : s.CanonTo u)
    (h : o = .next t) : s.CanonTo t := by
  rw [ho] at h; cases h; exact hu

/-- Each command is one function of the state, whose lemma stands above. -/
theorem exec_canonTo {i : Instr} {s t : State} (h : exec i s = .next t) : s.CanonTo t := by
  cases i
  all_goals exact canonTo_of_next rfl (by simp) h

/-- A step runs the front command, or on an empty queue lets a cycle pass, which touches no store. -/
theorem step_canonTo {s t : State} (h : step s = .next t) : s.CanonTo t := by
  unfold step at h
  split at h
  · cases h
    rw [s.tick_eq]
    exact id
  · exact State.CanonTo.trans (by simp) (exec_canonTo h)

/-- Settles O5: every function that a command calls keeps the form. -/
theorem everyStepKeepsCanon : Obligations.EveryStepKeepsCanon := fun _ _ hs h => step_canonTo h hs

end Sys2Proof.Machine
end

section
/-! Commands answer a next state (03 R82, 04 R108, 05 R116). -/

namespace Sys2Proof.Machine

/-- The state is read off from the equation, so the arm of a command is unfolded once and not evaluated. -/
theorem exists_of_next {o : Host.Outcome State Fault Refusal} {u : State} (h : o = .next u) : ∃ t, o = .next t := ⟨u, h⟩

/-- Settles O3: the arm of each command is a next state. -/
theorem everyCommandAnswersANextState : Obligations.EveryCommandAnswersANextState := by
  intro i s
  cases i
  all_goals exact exists_of_next rfl

end Sys2Proof.Machine
end

section
/-! An error recorded in a page (03 R87). -/

namespace Sys2Proof.Machine

/-- ERR_CODE is apart from ERR_INFO and EV_RAW, whatever the page. -/
theorem rkey_errCode_ne_errInfo (p : Nat) : rkey p 0x028 ≠ rkey p 0x02C := by unfold rkey; omega
theorem rkey_errCode_ne_evRaw (p : Nat) : rkey p 0x028 ≠ rkey p 0x014 := by unfold rkey; omega

/-- What an error does to ERR_CODE: OVR over an earlier code, the code, the count. -/
def State.errCode (s : State) (p code : Nat) : State :=
  ((if s.f p 0x028 15 0 = 0 then s else s.sf p 0x028 30 30 1).sf p 0x028 15 0 code).cntUp p 0x028 23 16 1

/-- A field of ERR_CODE does not see ERR_INFO's store and the event. -/
theorem State.f_err_errCode (s : State) (p code info hi lo : Nat) :
    (s.err p code info).f p 0x028 hi lo = (s.errCode p code).f p 0x028 hi lo := by
  simp only [State.err]
  rw [State.f_ev_ne _ _ _ _ (rkey_errCode_ne_evRaw p), State.f, State.r_w_ne _ _ (rkey_errCode_ne_errInfo p)]
  rfl

theorem State.f_err_ovr (s : State) (p code info : Nat) :
    (s.err p code info).f p 0x028 30 30 = if s.f p 0x028 15 0 = 0 then s.f p 0x028 30 30 else 1 := by
  rw [State.f_err_errCode, State.errCode, State.cntUp, State.f_sf_other _ _ (by decide) (by decide),
    State.f_sf_other _ _ (by decide) (by decide)]
  split
  · rfl
  · exact State.f_sf_same _ _ _ _ _ _ (by decide) (by decide)

theorem State.f_err_count (s : State) (p code info : Nat) :
    (s.err p code info).f p 0x028 23 16 = min 255 (s.f p 0x028 23 16 + 1) := by
  rw [State.f_err_errCode, State.errCode, State.f_cntUp_same _ _ _ _ _ _ (by decide) (by decide),
    State.f_sf_other _ _ (by decide) (by decide)]
  split
  · rfl
  · rw [State.f_sf_other _ _ (by decide) (by decide)]
    rfl

/-- Settles O18: field by field, and a clear leaves the count at 0. -/
theorem errorsAreRecorded : Obligations.ErrorsAreRecorded := by
  refine ⟨fun s p code info => ⟨s.f_err_code p code info, s.r_err_info p code info, s.f_err_ovr p code info,
    s.f_err_count p code info, s.f_err_event p code info⟩, fun s p code info => ⟨State.f_err_code _ _ _ _, ?_⟩⟩
  have hcount : ((s.w p 0x028 0).w p 0x02C 0).f p 0x028 23 16 = 0 := by
    rw [State.f, State.r_w_ne _ _ (rkey_errCode_ne_errInfo p), State.r_w_same, fldOf_zero]
  rw [State.f_err_count, hcount]
  rfl

end Sys2Proof.Machine
end

section
/-! The part after a power-on reset (03 R92; 19 R511, R512; 20 R523, R530). -/

namespace Sys2Proof.Machine

theorem State.reset_canon : State.reset.Canon := ⟨rfl, rfl, State.reset_mem_wf⟩

theorem State.reset_shape : State.reset.Shape := by decide +kernel

theorem State.reset_dom_off : ∀ d, 2 ≤ d → d < 12 → State.reset.dom d = .off := by decide +kernel

theorem State.reset_core_held : ∀ c, c < 4 → (State.reset.core c).inReset = true ∧ (State.reset.core c).run = false := by
  decide +kernel

/-- Settles O8: the reset state is a closed term, read off field by field. -/
theorem resetState : Obligations.ResetState :=
  ⟨State.reset_canon, State.reset_shape, rfl, rfl, State.reset_dom_off, State.reset_core_held, rfl, rfl, rfl, rfl, rfl,
    by decide +kernel, rfl, rfl, rfl, by decide +kernel⟩

end Sys2Proof.Machine
end

section
/-! The gate of the register pages (03 R71, R72, R74, R82, R93; 04 R109), the commit modes and the commits (03 R78 to R81). -/

namespace Sys2Proof.Machine

/-! ### An access at its page -/

/-- An access inside the register pages, by a tenant in no quarantine, where the page's domain passes if there is a page. -/
theorem State.access_eq_pageAccess {s : State} (a : Acc) (hrun : s.domRun 1 = true)
    (hfit : a.pg * 4096 + a.off + a.size ≤ 224 * 4096) (hquar : a.tnt = 0 ∨ s.ten.quar.getLsbD a.tnt = false)
    (hpass : (pageBlk s.grade a.pg).isSome = true → s.bridge (pageDom a.pg) a.tnt = .pass) :
    s.access a = s.pageAccess a none := by
  have hdom : s.bridge (if (pageBlk s.grade a.pg).isSome then pageDom a.pg else 1) a.tnt = .pass := by
    split
    · exact hpass ‹_›
    · exact if_pos rfl
  have hq : ¬ (a.tnt ≠ 0 ∧ s.ten.quar.getLsbD a.tnt = true) := by
    rintro ⟨hne, ht⟩
    exact hquar.elim hne (by simp [ht])
  rw [State.access, if_neg (by simp [hrun]), if_neg (by omega), if_neg hq, State.busAccess, if_neg (by simp [hrun])]
  simp only [hdom]

theorem State.pageAccess_of_absent {s : State} {a : Acc} (hb : pageBlk s.grade a.pg = none) :
    s.pageAccess a none = s.answer .ok 0 := by
  simp only [State.pageAccess, hb, State.finish]

theorem State.pageAccess_of_reset {s : State} {a : Acc} {b : Blk} (hb : pageBlk s.grade a.pg = some b) (hs : a.pg ∈ s.srst) :
    s.pageAccess a none = s.hold a none := by
  simp only [State.pageAccess, hb, List.contains_iff_mem, hs, if_true]

/-- A write outside the intake region that the owner's rules do not allow. -/
theorem State.pageAccess_of_stranger {s : State} {a : Acc} {b : Blk} (hb : pageBlk s.grade a.pg = some b)
    (hi : b ≠ .secin ∨ a.off < 0x800) (hs : a.pg ∉ s.srst) (ha : s.pageAllows a = false) :
    s.pageAccess a none =
      (s.violation 7 a.tnt a.ni 0 (0x40000000 + a.pg * 4096 + a.off) true).answer .owner 0 := by
  have hintake : (b == .secin && decide (0x800 ≤ a.off) && a.write) = false := by
    rcases hi with hi | hi <;> simp [hi]
  simp only [State.pageAccess, hb, List.contains_iff_mem, hs, if_false, hintake, ha, and_self, if_true, State.finish]

theorem State.pageAccess_of_badSize {s : State} {a : Acc} {b : Blk} (hb : pageBlk s.grade a.pg = some b)
    (hs : a.pg ∉ s.srst) (ha : s.pageAllows a = true) (hz : a.size ≠ 4 ∨ a.off % 4 ≠ 0) :
    s.pageAccess a none = (s.errSize a.pg a.off).answer .decode 0 := by
  simp [State.pageAccess, hb, hs, ha, hz, State.finish]

/-- A write that reaches its block is the page's write, answered OK: as `State.put_eq`, also below the intake region, and for a
write of TEN_CTRL that asks for no lock. -/
theorem State.put_of_writes {s : State} {w : By} {b : Blk} {p o : Nat} {v : Word} (h : s.Writes w b p o) (ho : o % 4 = 0)
    (hoff : o < 0x800) (hk : s.asksLock b ⟨w.tnt, w.ni, p, o, 4, true, v⟩ = false) :
    s.put w p o v = (s.pageWrite b w.tnt w.ni p o v).answer .ok 0 := by
  obtain ⟨hrun, hfit, hb, hpass, ha, hs, ht, hq⟩ := h
  have hoff' : ¬ 0x800 ≤ o := by omega
  rw [State.put, State.access_eq_pageAccess ⟨w.tnt, w.ni, p, o, 4, true, v⟩ hrun hfit hq fun _ => hpass]
  simp [State.pageAccess, hb, hs, (State.pageAllows_val s _ _ _ _ _ _ v 0).trans ha, ho, ht, hk, hoff', State.finish]

/-- A write that reaches the header of its page. -/
theorem State.put_header {s : State} {w : By} {b : Blk} {p o : Nat} (v : Word) (h : s.Writes w b p o) (ho : o % 4 = 0)
    (hoff : o < 0x040) : s.put w p o v = (s.headWrite p o v).answer .ok 0 := by
  have hne : (o == 0x040) = false := beq_false_of_ne (by omega)
  rw [State.put_of_writes h ho (by omega) (by simp [State.asksLock, hne]), State.pageWrite, if_pos hoff]

/-! ### Register writes at the gate -/

/-- Settles O19: each clause is a branch of the access before its page or at it. -/
theorem registerWritesPassTheGate : Obligations.RegisterWritesPassTheGate := by
  refine ⟨?absent, ?stranger, ?badSize, ?mask, ?quarantine, ?reset, ?outside⟩
  case absent =>
    intro s w p o size v hrun hquar hfit hb
    exact congrArg Host.Outcome.next (
      (State.access_eq_pageAccess ⟨w.tnt, w.ni, p, o, size, true, v⟩ hrun hfit hquar (by simp [hb])).trans
        (State.pageAccess_of_absent hb))
  case stranger =>
    intro s w b p o size v hrun hquar hb hi hpass hfit hs ha
    exact congrArg Host.Outcome.next (
      (State.access_eq_pageAccess ⟨w.tnt, w.ni, p, o, size, true, v⟩ hrun hfit hquar fun _ => hpass).trans
        (State.pageAccess_of_stranger hb hi hs ha))
  case badSize =>
    intro s w b p o size v hrun hquar hb hpass hfit hs ha hz
    exact congrArg Host.Outcome.next (
      (State.access_eq_pageAccess ⟨w.tnt, w.ni, p, o, size, true, v⟩ hrun hfit hquar fun _ => hpass).trans
        (State.pageAccess_of_badSize hb hs ha hz))
  case mask =>
    intro s w b p v h
    exact congrArg Host.Outcome.next (State.put_header v h (by decide) (by decide))
  case quarantine =>
    intro s w p o size v hrun ht hquar hfit
    refine congrArg Host.Outcome.next ?_
    rw [State.access, if_neg (by simp [hrun]), if_neg (by simpa using hfit), if_pos ⟨ht, hquar⟩]
  case reset =>
    intro s w b p o size v hrun hquar hb hpass hfit hs
    exact congrArg Host.Outcome.next (
      (State.access_eq_pageAccess ⟨w.tnt, w.ni, p, o, size, true, v⟩ hrun hfit hquar fun _ => hpass).trans
        (State.pageAccess_of_reset hb hs))
  case outside =>
    intro s w p o size v hrun hout
    refine congrArg Host.Outcome.next ?_
    rw [State.access, if_neg (by simp [hrun]), if_pos hout]

/-! ### The commit modes (R80) -/

/-- The fields of the word that the commands write to SH_COMMIT. -/
theorem fldOf_shCommit : ∀ auto mode : Fin 4, fldOf (BitVec.ofNat 32 (auto * 256 + mode)) 9 8 = auto ∧
    fldOf (BitVec.ofNat 32 (auto * 256 + mode)) 1 0 = mode := by decide

/-- AUTO of a write of SH_COMMIT. -/
def State.setAuto (s : State) (p auto : Nat) : State := if auto = 3 then s.errValue p 0x020 else s.sf p 0x020 9 8 auto

theorem State.shWrite_eq (s : State) (p : Nat) (auto mode : Fin 4) :
    s.shWrite p (BitVec.ofNat 32 (auto * 256 + mode)) =
      if mode = 1 then ((s.setAuto p auto).commitPage p).sf p 0x024 2 1 0 else (s.setAuto p auto).sf p 0x024 2 1 mode := by
  obtain ⟨hauto, hmode⟩ := fldOf_shCommit auto mode
  simp only [State.shWrite, hauto, hmode, State.setAuto, Fin.ext_iff]
  rfl

/-- A write of SH_COMMIT that reaches its page. -/
theorem State.put_shCommit {s : State} {w : By} {b : Blk} {p : Nat} (auto mode : Fin 4) (h : s.Writes w b p 0x020)
    (hm : mode ≠ 1) :
    s.put w p 0x020 (BitVec.ofNat 32 (auto * 256 + mode)) = ((s.setAuto p auto).sf p 0x024 2 1 mode).answer .ok 0 := by
  rw [State.put_header _ h (by decide) (by decide)]
  exact congrArg (State.answer · .ok 0) ((s.shWrite_eq p auto mode).trans (if_neg hm))

/-- Settles O15: the four commands write SH_COMMIT with a mode that arms or disarms. -/
theorem commitModesArmAndDisarm : Obligations.CommitModesArmAndDisarm := by
  intro s w b p auto h st
  have hst : st = s.setAuto p auto := by
    simp only [st, State.setAuto, Fin.ext_iff]
    rfl
  have hput (mode : Fin 4) (hm : mode ≠ 1) :
      s.put w p 0x020 (BitVec.ofNat 32 (auto * 256 + mode)) = (st.sf p 0x024 2 1 mode).answer .ok 0 :=
    hst ▸ State.put_shCommit auto mode h hm
  have hdisarm := hput 0 (by decide)
  rw [Fin.val_zero, Nat.add_zero] at hdisarm
  exact ⟨congrArg Host.Outcome.next hdisarm, congrArg Host.Outcome.next (hput 2 (by decide)),
    congrArg Host.Outcome.next (hput 3 (by decide)), fun mode hm => congrArg Host.Outcome.next (hput mode hm)⟩

/-! ### Commits (R78) -/

/-- The part after reset, with VT_CFG listed twice: as 20 and as 30. -/
def vtCfgListedTwice : State :=
  { State.reset with regs := [(rkey pgLTB 0x050, 20), (rkey pgLTB 0x050, 30)] }

/-- The list is not canonical; the statement asks that of no state. -/
theorem vtCfgListedTwice_not_canon : ¬ vtCfgListedTwice.Canon := by decide +kernel

theorem vtCfgListedTwice_writes : vtCfgListedTwice.Writes keeperWriter .ltb pgLTB 0x020 := by decide +kernel

/-- VT_CFG reads as the first pair listed. -/
theorem vtCfgListedTwice_vtCfg : vtCfgListedTwice.r pgLTB 0x050 = 20 := by decide +kernel

/-- The commit stores the pairs of the page as active copies one after the other, so that the second pair stays. -/
theorem vtCfg_active_of_commit_vtCfgListedTwice :
    (vtCfgListedTwice.put keeperWriter pgLTB 0x020 (BitVec.ofNat 32 (0 * 256 + 1))).a pgLTB 0x050 = 30 := by decide +kernel

/-- Refutes O16: a read takes a register's first pair and a commit leaves its last, so that in a state that lists a register
twice the active copy is not the value pending. -/
theorem not_commitsMakePendingValuesActive : ¬ Obligations.CommitsMakePendingValuesActive := by
  rintro ⟨hnow, -⟩
  obtain ⟨t, ht, -, -, -, -, hactive⟩ := hnow vtCfgListedTwice keeperWriter .ltb 1 0 vtCfgListedTwice_writes
  obtain rfl : vtCfgListedTwice.put keeperWriter pgLTB 0x020 (BitVec.ofNat 32 (0 * 256 + 1)) = t := Host.Outcome.next.inj ht
  have hvt := hactive 0x050 vtCfgRow (by decide) findRow_vtCfg (by decide) (by decide)
  rw [show ((1 : Fin 224) : Nat) = pgLTB from rfl, vtCfg_active_of_commit_vtCfgListedTwice, vtCfgListedTwice_vtCfg] at hvt
  exact absurd hvt (by decide)

end Sys2Proof.Machine
end

section
/-! Routes of the event router and the registers of the tenant table (03 R89; 04 R98, R100, R107). -/

namespace Sys2Proof.Machine

/-- A write that reaches the tenant table's page and asks for no lock. -/
theorem State.put_ten {s : State} {w : By} {o : Nat} {v : Word} (h : s.Writes w .ten pgTEN o) (h4 : o % 4 = 0)
    (ho : 0x040 ≤ o) (hoff : o < 0x800) (hk : o ≠ 0x040 ∨ v.getLsbD 0 = false) :
    s.put w pgTEN o v = (s.tenWrite o v).answer .ok 0 := by
  have hlock : s.asksLock .ten ⟨w.tnt, w.ni, pgTEN, o, 4, true, v⟩ = false := by
    rcases hk with hk | hk
    · simp [State.asksLock, hk]
    · simp only [State.asksLock, hk, Bool.and_false, Bool.false_and]
  rw [State.put_of_writes h h4 hoff hlock, State.pageWrite, if_neg (by omega)]
  rfl

/-! ### Routes (R89) -/

theorem State.evrRouteWrite_eq (s : State) (t i : Nat) (v : Word) :
    s.evrRouteWrite t i v = if (t = 0 ∨ t = s.owner i) ∧ s.routeAllowed i (fldOf v 2 0) = true
      then s.w pgEVR (0x400 + 4 * i) (v &&& 0x1F7) else s.err pgEVR 0x1080 (i + t * 4096) := by
  rw [State.evrRouteWrite, Nat.shiftLeft_eq]

theorem State.put_route {s : State} {w : By} {i : Nat} (v : Word) (hi : i < 224) (h : s.Writes w .evr pgEVR (0x400 + 4 * i)) :
    s.put w pgEVR (0x400 + 4 * i) v = (s.evrRouteWrite w.tnt i v).answer .ok 0 := by
  have hwrite : s.blockWrite .evr w.tnt w.ni pgEVR (0x400 + 4 * i) v = s.evrRouteWrite w.tnt i v := by
    have hdiv : (0x400 + 4 * i - 0x400) / 4 = i := by omega
    simp only [State.blockWrite]
    rw [if_pos (by omega), hdiv]
  rw [State.put_eq v h (by omega) (by decide) (.inl (by decide)) (.inl (by decide)), State.pageWrite, if_neg (by omega), hwrite]

/-! ### Windows (R98, R100) -/

/-- Where the attributes of window `i` of tenant `t` lie, and its tenant in ERR_INFO. -/
theorem tenInfo_window {t i : Nat} (ht : t < 16) (hi : i < 8) :
    tenInfo (0x404 + 0x40 * t + 8 * i) = t + (0x404 + 0x40 * t + 8 * i) / 4 * 16 := by
  have htnt : (0x404 + 0x40 * t + 8 * i - 0x400) / 0x40 = t := by omega
  simp only [tenInfo]
  rw [if_neg (by omega), if_pos (by omega), htnt, Nat.shiftLeft_eq]

/-- A write of an open window's attributes with EN = 1. -/
theorem State.tenWrite_attributes {s : State} {t i : Nat} {v : Word} (ht0 : t ≠ 0) (ht : t < 16) (hi : i < 8)
    (hopen : s.ten.locked = false) (hen : fldOf v 31 31 = 1) :
    s.tenWrite (0x404 + 0x40 * t + 8 * i) v =
      if windowOk s.grade (s.r pgTEN (0x400 + 0x40 * t + 8 * i)).toNat (fldOf v 4 0) = true
      then s.w pgTEN (0x404 + 0x40 * t + 8 * i) (v &&& 0x8000071F)
      else (s.sf pgTEN (0x404 + 0x40 * t + 8 * i) 31 31 0).err pgTEN 0x1003
        (t + (0x404 + 0x40 * t + 8 * i) / 4 * 16) := by
  have hbase : 0x404 + 0x40 * t + 8 * i - 4 = 0x400 + 0x40 * t + 8 * i := by omega
  rw [State.tenWrite, if_neg (by omega), if_pos (by omega), if_pos (by omega), State.tenWA, if_neg (by omega),
    if_neg (by simp [hopen]), if_pos hen, tenInfo_window ht hi, hbase]

/-- A write of an open window's base. -/
theorem State.tenWrite_base {s : State} {t i : Nat} (v : Word) (ht0 : t ≠ 0) (ht : t < 16) (hi : i < 8)
    (hopen : s.ten.locked = false) :
    s.tenWrite (0x400 + 0x40 * t + 8 * i) v =
      (s.w pgTEN (0x400 + 0x40 * t + 8 * i) (v &&& 0xFFFFF000)).sf pgTEN (0x404 + 0x40 * t + 8 * i) 31 31 0 := by
  have hattr : 0x400 + 0x40 * t + 8 * i + 4 = 0x404 + 0x40 * t + 8 * i := by omega
  rw [State.tenWrite, if_neg (by omega), if_pos (by omega), if_neg (by omega), State.tenWB, if_neg (by omega),
    if_neg (by simp [hopen]), hattr]

/-! ### The violation records (R107) -/

theorem State.tenWrite_pop (s : State) : s.tenWrite 0x040 0x100 = s.tenPop := rfl

/-- Settles O21: each of the writes passes the gate and is one branch of its page's write. -/
theorem routesAndTenantTable : Obligations.RoutesAndTenantTable := by
  refine ⟨?route, ?attributes, ?base, ?pop⟩
  case route =>
    intro s w i v h
    refine congrArg Host.Outcome.next ((State.put_route v i.isLt h).trans ?_)
    rw [State.evrRouteWrite_eq]
    simp only [Fin.ext_iff]
    rfl
  case attributes =>
    intro s w t i v h ht0 hopen hen
    refine congrArg Host.Outcome.next ((State.put_ten h (by omega) (by omega) (by omega) (.inl (by omega))).trans ?_)
    rw [State.tenWrite_attributes (by omega) t.isLt i.isLt hopen hen]
  case base =>
    intro s w t i v h ht0 hopen
    refine congrArg Host.Outcome.next ((State.put_ten h (by omega) (by omega) (by omega) (.inl (by omega))).trans ?_)
    rw [State.tenWrite_base v (by omega) t.isLt i.isLt hopen]
  case pop =>
    intro s w h
    exact congrArg Host.Outcome.next ((State.put_ten h (by decide) (by decide) (by decide) (.inr (by decide))).trans
      (congrArg (State.answer · .ok 0) s.tenWrite_pop))

end Sys2Proof.Machine
end

section
/-! The lock of the tenant table (04 R104 to R106): a write of LOCK waits for the outcome of the checks, and the outcome refuses the
lock or locks the table. -/

namespace Sys2Proof.Machine

/-! ### A write of LOCK (R104, R106) -/

theorem State.tenLock_of_open {s : State} (hopen : s.ten.locked = false) :
    s.tenLock = { s with ten := { s.ten with checking := true } } :=
  if_neg (by simp [hopen])

theorem State.tenLock_of_locked {s : State} (hlocked : s.ten.locked = true) : s.tenLock = s.errLocked pgTEN 0x040 :=
  if_pos hlocked

/-- A write that asks for the lock before the checks run acts at once, and waits for its answer. -/
theorem State.pageAccess_of_asksLock {s : State} {a : Acc} (hb : pageBlk s.grade a.pg = some .ten) (hs : a.pg ∉ s.srst)
    (ha : s.pageAllows a = true) (hsize : a.size = 4) (halign : a.off % 4 = 0) (hchecking : s.ten.checking = false)
    (hk : s.asksLock .ten a = true) :
    s.pageAccess a none =
      { s.tenWrite a.off a.val with lockWait := (s.tenWrite a.off a.val).lockWait ++ [(a, none)] } := by
  simp [State.pageAccess, hb, hs, ha, hsize, halign, hchecking, hk]

/-- On an open table the write starts the checks, its answer open. -/
theorem State.put_lock_of_open {s : State} {w : By} (h : s.Writes w .ten pgTEN 0x040) (hopen : s.ten.locked = false) :
    s.put w pgTEN 0x040 1 = { s with ten := { s.ten with checking := true }, lockWait := s.lockWait ++ [(lockAcc w, none)] } := by
  obtain ⟨hrun, hfit, hb, hpass, hallows, hsrst, hchecking, hquar⟩ := h
  have hten : s.tenWrite 0x040 1 = { s with ten := { s.ten with checking := true } } := State.tenLock_of_open hopen
  calc s.put w pgTEN 0x040 1
      = s.pageAccess (lockAcc w) none := State.access_eq_pageAccess (lockAcc w) hrun hfit hquar fun _ => hpass
    _ = { s.tenWrite 0x040 1 with lockWait := (s.tenWrite 0x040 1).lockWait ++ [(lockAcc w, none)] } :=
        State.pageAccess_of_asksLock hb hsrst ((State.pageAllows_val s _ _ _ _ _ _ 1 0).trans hallows) rfl
          (show 0x040 % 4 = 0 from rfl) hchecking (by simp [State.asksLock, lockAcc, hopen])
    _ = _ := by rw [hten]

/-- On a locked table the write asks for nothing: it is an error of the page, answered at once. -/
theorem State.put_lock_of_locked {s : State} {w : By} (h : s.Writes w .ten pgTEN 0x040) (hlocked : s.ten.locked = true) :
    s.put w pgTEN 0x040 1 = (s.errLocked pgTEN 0x040).answer .ok 0 := by
  have hasks : s.asksLock .ten ⟨w.tnt, w.ni, pgTEN, 0x040, 4, true, 1⟩ = false := by simp [State.asksLock, hlocked]
  rw [State.put_of_writes h (by decide) (by decide) hasks, ← State.tenLock_of_locked hlocked]
  rfl

/-! ### The answers to the writes of LOCK that wait (R105, R106) -/

/-- An answer changes the mesh or what the sender was answered. -/
theorem State.finish_eq (s : State) (net : Option Pkt) (n : Nat) (st : Sts) (v : Word) (size : Nat) :
    ∃ welt resp, s.finish net n st v size = { s with welt := welt, resp := resp } := by
  cases net with
  | none => exact ⟨s.welt, _, rfl⟩
  | some p =>
    simp only [State.finish]
    split
    · exact ⟨_, s.resp, rfl⟩
    · exact ⟨_, s.resp, rfl⟩

/-- What every step of a fold leaves but the mesh and the answer, the fold leaves. -/
theorem foldl_answers {α : Type} {f : State → α → State} (h : ∀ t e, ∃ welt resp, f t e = { t with welt := welt, resp := resp })
    (l : List α) (s : State) : ∃ welt resp, l.foldl f s = { s with welt := welt, resp := resp } := by
  induction l generalizing s with
  | nil => exact ⟨s.welt, s.resp, rfl⟩
  | cons e l ih =>
    obtain ⟨welt, resp, hstep⟩ := h s e
    obtain ⟨welt', resp', hrest⟩ := ih { s with welt := welt, resp := resp }
    exact ⟨welt', resp', (congrArg (l.foldl f) hstep).trans hrest⟩

theorem State.lockAnswer_eq (s : State) :
    ∃ welt resp, s.lockAnswer = { s with lockWait := [], welt := welt, resp := resp } :=
  foldl_answers (fun t _ => t.finish_eq _ _ _ _ _) s.lockWait { s with lockWait := [] }

/-- One write that came over no mesh is answered OK. -/
theorem State.lockAnswer_of_single {s : State} {a : Acc} (h : s.lockWait = [(a, none)]) :
    s.lockAnswer = ({ s with lockWait := [] } : State).answer .ok 0 := by
  simp only [State.lockAnswer, h, List.foldl_cons, List.foldl_nil, State.finish]

theorem State.drain_of_no_wait {s : State} (h : s.waiting = []) : s.drain = s := by
  simp only [State.drain, h, List.foldl_nil]
  rw [← h]

/-- The checks end in a part where no other access waits. -/
theorem State.lockChecked_eq {s : State} (hchecking : s.ten.checking = true) (hwait : s.lockOutcome.waiting = []) :
    s.lockChecked = s.lockOutcome.lockAnswer := by
  obtain ⟨welt, resp, hanswer⟩ := s.lockOutcome.lockAnswer_eq
  rw [State.lockChecked, if_pos hchecking, State.drain_of_no_wait (by rw [hanswer]; exact hwait)]

/-! ### The lock refused (R104) -/

theorem State.lockOutcome_of_failure {s : State} {r a b : Nat} (h : s.lockFailure = some (r, a, b)) :
    s.lockOutcome = ({ s with ten := { s.ten with checking := false, lockFail := true } } : State).err
      pgTEN 0x1040 (r <<< 12 + a <<< 4 + b) := by
  simp only [State.lockOutcome, h]

/-! ### The lock cycle (R105, R106) -/

/-- The table locked and the claims re-tagged, before the LOCKED event, the check of the routes and EVAL. -/
def State.lockTable (s : State) : State :=
  ({ s with
    ten := { s.ten with checking := false, locked := true, lockFail := false }
    adm := { s.adm with com := s.adm.com.map s.retagged, eff := s.adm.eff.map s.retagged } } : State).updSec fun x =>
      { x with sigAtLock := s.r pgALD 0x05C |>.getLsbD 0 }

theorem State.lockOutcome_of_success {s : State} (h : s.lockFailure = none) :
    s.lockOutcome = (s.lockTable.ev pgTEN 2).evrLockCheck.evalUpd := by
  simp only [State.lockOutcome, h]
  rfl

/-- The routes `l` disabled. -/
def State.disableRoutes (s : State) (l : List Nat) : State := l.foldl (fun t i => t.sf pgEVR (0x400 + 4 * i) 8 8 0) s

/-- The check of the routes disables routes, and records an error if there was one to disable. -/
theorem State.evrLockCheck_cases (s : State) :
    ∃ l, s.evrLockCheck = s.disableRoutes l ∨ ∃ i, s.evrLockCheck = (s.disableRoutes l).err pgEVR 0x1080 i := by
  simp only [State.evrLockCheck]
  split
  · exact ⟨_, .inl rfl⟩
  · exact ⟨_, .inr ⟨_, rfl⟩⟩

theorem State.regless_disableRoutes (s : State) (l : List Nat) : (s.disableRoutes l).regless = s.regless :=
  foldl_keeps State.regless (fun t _ => t.regless_sf _ _ _ _ _) l s

theorem State.regless_evrLockCheck (s : State) : s.evrLockCheck.regless = s.regless := by
  obtain ⟨l, h | ⟨i, h⟩⟩ := s.evrLockCheck_cases
  · rw [h, State.regless_disableRoutes]
  · rw [h, State.regless_err, State.regless_disableRoutes]

theorem State.regless_evalUpd (s : State) : s.evalUpd.regless = s.regless := by
  simp [State.evalUpd]

/-- The check of the routes writes the event router's page. -/
theorem State.r_evrLockCheck_ten (s : State) {o : Nat} (ho : o < 4096) : s.evrLockCheck.r pgTEN o = s.r pgTEN o := by
  have hne (o' : Nat) : rkey pgTEN o ≠ rkey pgEVR o' := by unfold rkey pgTEN pgEVR; omega
  have hroutes (l : List Nat) : (s.disableRoutes l).r pgTEN o = s.r pgTEN o :=
    foldl_keeps (·.r pgTEN o) (fun t _ => t.r_sf_ne _ _ _ (hne _)) l s
  obtain ⟨l, h | ⟨i, h⟩⟩ := s.evrLockCheck_cases
  · rw [h, hroutes]
  · rw [h, State.r_err_ne _ _ _ (hne _) (hne _) (hne _), hroutes]

/-- EVAL's update writes the island's page. -/
theorem State.r_evalUpd_ten (s : State) {o : Nat} (ho : o < 4096) : s.evalUpd.r pgTEN o = s.r pgTEN o := by
  have hne (o' : Nat) : rkey pgTEN o ≠ rkey pgSEC o' := by unfold rkey pgTEN pgSEC; omega
  have hset (v : Word) (x : Nat) : ((s.w pgSEC 0x044 v).sf pgSEC 0x040 0 0 x).r pgTEN o = s.r pgTEN o :=
    (State.r_sf_ne _ _ _ _ (hne _)).trans (s.r_w_ne v (hne _))
  simp only [State.evalUpd]
  split
  · exact (State.r_ev_ne _ _ (hne _)).trans (hset _ _)
  · exact hset _ _

theorem State.regless_lockOutcome_of_success {s : State} (h : s.lockFailure = none) :
    s.lockOutcome.regless = s.lockTable.regless := by
  rw [State.lockOutcome_of_success h, State.regless_evalUpd, State.regless_evrLockCheck, State.regless_ev]

/-- The LOCKED event stays raised. -/
theorem State.f_lockOutcome_locked {s : State} (h : s.lockFailure = none) : s.lockOutcome.f pgTEN 0x014 2 2 = 1 := by
  rw [State.lockOutcome_of_success h, State.f, State.r_evalUpd_ten _ (by decide), State.r_evrLockCheck_ten _ (by decide)]
  exact State.f_ev_same _ pgTEN (by decide)

/-! ### The statement -/

/-- Settles O22: the write of LOCK is a branch of the access at its page; the outcome of the checks changes no list of accesses that
wait, so that only the writes of LOCK are answered after it. -/
theorem tenantLock : Obligations.TenantLock := by
  refine ⟨?starts, ?again, ?refused, ?locks⟩
  case starts => exact fun s w h hopen => congrArg Host.Outcome.next (State.put_lock_of_open h hopen)
  case again => exact fun s w h hlocked => congrArg Host.Outcome.next (State.put_lock_of_locked h hlocked)
  case refused =>
    intro s r a b hrun hchecking hwait hfail
    have hout := State.lockOutcome_of_failure hfail
    refine congrArg Host.Outcome.next ((State.onSys_run hrun _).trans ?_)
    rw [State.lockChecked_eq hchecking (by rw [hout, State.waiting_err]; exact hwait), hout]
  case locks =>
    intro s hrun hchecking hwait hpass
    have hout := State.regless_lockOutcome_of_success hpass
    have hlist : s.lockOutcome.lockWait = s.lockWait := (congrArg State.lockWait hout :)
    obtain ⟨welt, resp, hanswer⟩ := s.lockOutcome.lockAnswer_eq
    refine ⟨s.lockOutcome.lockAnswer, congrArg Host.Outcome.next ((State.onSys_run hrun _).trans
      (State.lockChecked_eq hchecking ((congrArg State.waiting hout).trans hwait))), ?_, ?_, ?_, ?_, ?_, ?_, ?_, ?_, ?single⟩
    case single =>
      intro a ha
      rw [State.lockAnswer_of_single (hlist.trans ha)]
      rfl
    all_goals rw [hanswer]
    · exact (congrArg (·.ten.locked) hout :)
    · exact (congrArg (·.ten.checking) hout :)
    · exact (congrArg (·.ten.lockFail) hout :)
    · exact State.f_lockOutcome_locked hpass
    · exact (congrArg (·.adm.com) hout :)
    · exact (State.mem_of_regless hout :)
    · exact (congrArg State.cores hout :)

end Sys2Proof.Machine
end


section
/-! One step (05 R116): the command at the front of the queue. -/

namespace Sys2Proof.Machine

/-- A step where a command waits. -/
theorem step_cons {s : State} {c : Instr} {rest : List Instr} (h : s.pending = c :: rest) :
    step s = exec c { s with pending := rest } := by
  simp only [step, h]

/-- Settles O1: the step's branch on a queue that is not empty. -/
theorem stepRunsTheFrontCommand : Obligations.StepRunsTheFrontCommand := fun _ _ _ => step_cons

end Sys2Proof.Machine
end

section
/-! The claim ports and the withdrawal by mask (05 R112, R116, R123, R124). -/

namespace Sys2Proof.Machine

/-! ### Bits of the ports -/

/-- The bit of tenant `t` in a word of 16. -/
theorem getLsbD_tenantBit {k : Nat} (hk : k < 16) (t : Nat) :
    (BitVec.ofNat 16 (2 ^ t)).getLsbD k = decide (t = k) := by
  rw [BitVec.getLsbD_ofNat, Nat.testBit_two_pow, decide_eq_true hk, Bool.true_and]

/-- Setting the bits of the tenants `l`. -/
theorem getLsbD_foldl_setBits {k : Nat} (hk : k < 16) (l : List Nat) (x : BitVec 16) :
    (l.foldl (fun a t => a ||| BitVec.ofNat 16 (2 ^ t)) x).getLsbD k = (x.getLsbD k || decide (k ∈ l)) := by
  induction l generalizing x with
  | nil => simp
  | cons t l ih =>
    rw [List.foldl_cons, ih, BitVec.getLsbD_or, getLsbD_tenantBit hk]
    simp [Bool.or_assoc, eq_comm]

/-- Clearing the bits of the tenants `l`. -/
theorem getLsbD_foldl_clearBits {k : Nat} (hk : k < 16) (l : List Nat) (x : BitVec 16) :
    (l.foldl (fun a t => a &&& ~~~(BitVec.ofNat 16 (2 ^ t))) x).getLsbD k = (x.getLsbD k && !decide (k ∈ l)) := by
  induction l generalizing x with
  | nil => simp
  | cons t l ih =>
    rw [List.foldl_cons, ih, BitVec.getLsbD_and, BitVec.getLsbD_not, getLsbD_tenantBit hk]
    simp [hk, Bool.and_assoc, eq_comm]

/-- A mask names the tenants whose bits it has. -/
theorem named_eq_testBit (m t : Nat) : named m t = m.testBit t := by
  rw [named, Nat.testBit_eq_decide_div_mod_eq, Nat.shiftRight_eq_div_pow, beq_eq_decide]

/-! ### The queue of commits (R116, R123) -/

theorem Adm.enq_of_free {a : Adm} {c : Commit} (h : a.queue.any c.sameSrc = false) :
    a.enq c = { a with queue := a.queue ++ [c] } :=
  if_neg (by simp [h])

/-- A port with no commit pending has none of its source in the queue. -/
theorem State.port_free_of_not_pending {s : State} {t : Nat} (h : s.admPending t = false) (cl : List ClaimW) :
    s.adm.queue.any (Commit.set t 0 cl).sameSrc = false := by
  simp only [State.admPending, Bool.or_eq_false_iff, List.any_eq_false] at h
  rw [List.any_eq_false]
  intro c hc
  have hmine := h.1 c hc
  match c with
  | .mask _ => simp [Commit.sameSrc]
  | .set t' 0 _ => simpa [Commit.sameSrc, eq_comm (a := t)] using hmine
  | .set _ (_ + 1) _ => simp [Commit.sameSrc]

/-- Commits that are added change the queue and the list of those that wait, and bring no other commit into the queue. -/
theorem Adm.foldl_enq (l : List Commit) (a : Adm) :
    ∃ q w, l.foldl Adm.enq a = { a with queue := q, wait := w } ∧ ∀ c ∈ q, c ∈ a.queue ∨ c ∈ l := by
  induction l generalizing a with
  | nil => exact ⟨a.queue, a.wait, rfl, fun c hc => .inl hc⟩
  | cons d l ih =>
    obtain ⟨q, w, heq, hmem⟩ := ih (a.enq d)
    rw [List.foldl_cons, heq]
    by_cases hbusy : a.queue.any d.sameSrc = true
    · have henq : a.enq d = { a with wait := a.wait ++ [d] } := if_pos hbusy
      rw [henq] at hmem ⊢
      exact ⟨q, w, rfl, fun c hc => (hmem c hc).imp_right (List.mem_cons_of_mem d)⟩
    · have henq := Adm.enq_of_free (Bool.not_eq_true _ ▸ hbusy)
      rw [henq] at hmem ⊢
      refine ⟨q, w, rfl, fun c hc => ?_⟩
      have := hmem c hc
      simp only [List.mem_append, List.mem_cons] at this ⊢
      tauto

theorem Adm.refill_eq (a : Adm) :
    ∃ q w, a.refill = { a with queue := q, wait := w } ∧ ∀ c ∈ q, c ∈ a.queue ∨ c ∈ a.wait :=
  Adm.foldl_enq a.wait { a with wait := [] }

theorem Adm.refill_of_no_wait {a : Adm} (h : a.wait = []) : a.refill = a := by
  rw [Adm.refill, h, List.foldl_nil, ← h]

/-! ### CPt_CMD (R116) -/

/-- A write that reaches a register of the Admission Unit. -/
theorem State.put_adm {s : State} {w : By} {o : Nat} (v : Word) (h : s.Writes w .adm pgADM o) (h4 : o % 4 = 0)
    (ho : 0x040 ≤ o) : s.put w pgADM o v = (s.blockWrite .adm w.tnt w.ni pgADM o v).answer .ok 0 := by
  rw [State.put_eq v h h4 (by decide) (.inl (by decide)) (.inl (by decide)), State.pageWrite, if_neg (by omega)]

/-- A write that reaches the command register of a claim port. -/
theorem State.put_cpCmd {s : State} {w : By} {t : Fin 16} (v : Word) (h : s.Writes w .adm pgADM (0x410 + 0x40 * t)) :
    s.put w pgADM (0x410 + 0x40 * t) v = (s.cpCmd t v).answer .ok 0 := by
  have hport : (0x410 + 0x40 * t.val - 0x400) / 0x40 = t := by omega
  rw [State.put_adm v h (by omega) (by omega)]
  simp only [State.blockWrite]
  rw [if_neg (by omega), if_neg (by omega), if_pos (by omega), hport]

theorem State.cpCmd_of_pending {s : State} {t : Nat} {v : Word} (hv : fldOf v 2 0 ≠ 0) (h : s.admPending t = true) :
    s.cpCmd t v = s.errBusy pgADM (0x410 + 0x40 * t) := by
  rw [State.cpCmd, if_neg hv, if_pos h]

/-- A port's claims staged. -/
def Adm.stagedBy (a : Adm) (t : Nat) : List (Nat × ClaimW) := a.staged.filter fun e => e.1 == t

theorem State.cpCmd_push {s : State} {t : Nat} (h : s.admPending t = false) :
    s.cpCmd t 1 = if 64 ≤ (s.adm.stagedBy t).length then s.errCap pgADM (0x410 + 0x40 * t)
      else { s with adm := { s.adm with staged := s.adm.staged ++ [(t, ⟨s.r pgADM (0x400 + 0x40 * t),
        s.r pgADM (0x400 + 0x40 * t + 4), s.r pgADM (0x400 + 0x40 * t + 8), s.r pgADM (0x400 + 0x40 * t + 12)⟩)] } } := by
  rw [State.cpCmd, if_neg (by decide), if_neg (by simp [h])]
  rfl

theorem State.cpCmd_clear {s : State} {t : Nat} (h : s.admPending t = false) :
    s.cpCmd t 2 = { s with adm := { s.adm with staged := s.adm.staged.filter fun e => !(e.1 == t) } } := by
  rw [State.cpCmd, if_neg (by decide), if_neg (by simp [h])]
  rfl

theorem State.cpCmd_commit {s : State} {t : Nat} (h : s.admPending t = false) :
    s.cpCmd t 4 = { s with adm := { s.adm with
      queue := s.adm.queue ++ [Commit.set t 0 ((s.adm.stagedBy t).map (·.2))] } } := by
  rw [State.cpCmd, if_neg (by decide), if_neg (by simp [h])]
  exact congrArg (fun a => { s with adm := a }) (Adm.enq_of_free (State.port_free_of_not_pending h _))

/-! ### WD_MASK (R124) -/

/-- Whether a commit is a set of a tenant that the mask names. -/
def Commit.namedBy (m : Nat) : Commit → Bool
  | .set t _ _ => named m t
  | .mask _ => false

/-- What a withdrawal leaves before it is queued: the commits of the tenants named are discarded, and the port of each tenant
that had one shows a refusal. -/
structure Adm.Discards (m : Nat) (a b : Adm) : Prop where
  com : b.com = a.com
  staged : b.staged = a.staged
  queue : b.queue = a.queue.filter fun c => !c.namedBy m
  wait : b.wait = a.wait.filter fun c => !c.namedBy m
  refused : ∀ t src cl, t < 16 → Commit.set t src cl ∈ a.queue ++ a.wait → named m t = true →
    b.lastRef.getLsbD t = true ∧ b.lastOk.getLsbD t = false

theorem State.wdMask_zero (s : State) : s.wdMask 0 = s := if_pos rfl

/-- A withdrawal that names a tenant discards commits, lets those that waited move up, and is queued. -/
theorem State.wdMask_eq (s : State) {m : Nat} (hm : m ≠ 0) :
    ∃ a, s.adm.Discards m a ∧ s.wdMask m = { s with adm := a.refill.enqMask m } := by
  rw [State.wdMask, if_neg hm]
  refine ⟨_, ?_, rfl⟩
  have hstay (l : List Commit) {f : Commit → Bool} (hf : ∀ c, f c = !c.namedBy m) :
      l.filter f = l.filter fun c => !c.namedBy m := List.filter_congr fun c _ => hf c
  refine ⟨rfl, rfl, hstay _ fun c => by cases c <;> rfl, hstay _ fun c => by cases c <;> rfl, ?_⟩
  intro t src cl ht hmem hnamed
  have hgone {f : Commit → Option Nat} (hf : f (.set t src cl) = some t) : t ∈ (s.adm.queue ++ s.adm.wait).filterMap f :=
    List.mem_filterMap.mpr ⟨_, hmem, hf⟩
  constructor
  · rw [getLsbD_foldl_setBits ht, decide_eq_true (hgone (if_pos hnamed)), Bool.or_true]
  · rw [getLsbD_foldl_clearBits ht, decide_eq_true (hgone (if_pos hnamed)), Bool.not_true, Bool.and_false]

theorem Adm.enqMask_of_no_mask {a : Adm} (m : Nat) (h : ∀ j, Commit.mask j ∉ a.queue) :
    a.enqMask m = { a with queue := a.queue ++ [.mask m] } := by
  refine if_neg ?_
  rw [Bool.not_eq_true, List.any_eq_false]
  rintro (_ | j) hc
  · exact Bool.false_ne_true
  · exact absurd hc (h j)

/-- A withdrawal that is queued adds no set, and stands in a mask that covers it. -/
theorem Adm.enqMask_eq (a : Adm) (m : Nat) :
    ∃ q, a.enqMask m = { a with queue := q } ∧ (∀ t src cl, Commit.set t src cl ∈ q → Commit.set t src cl ∈ a.queue) ∧
      ∃ j, Commit.mask j ∈ q ∧ j &&& m = m := by
  by_cases hmask : ∃ k, Commit.mask k ∈ a.queue
  · obtain ⟨k, hk⟩ := hmask
    refine ⟨_, if_pos (List.any_eq_true.mpr ⟨_, hk, rfl⟩), fun t src cl hset => ?_, k ||| m,
      List.mem_map.mpr ⟨_, hk, rfl⟩, ?_⟩
    · obtain ⟨c, hc, heq⟩ := List.mem_map.mp hset
      cases c with
      | set => exact heq ▸ hc
      | mask => cases heq
    · exact Nat.eq_of_testBit_eq fun i => by
        rw [Nat.testBit_and, Nat.testBit_or]
        cases m.testBit i <;> simp
  · refine ⟨_, Adm.enqMask_of_no_mask m (not_exists.mp hmask), fun t src cl hset => ?_, m, by simp, Nat.and_self m⟩
    simpa using hset

/-- No tenant named has a commit left, also after those that waited moved up. -/
theorem Adm.Discards.not_named_of_mem_refill {m : Nat} {a b : Adm} (h : a.Discards m b) {c : Commit}
    (hc : c ∈ b.refill.queue) : c.namedBy m = false := by
  obtain ⟨q, w, hrefill, hq⟩ := b.refill_eq
  rw [hrefill] at hc
  rcases hq c hc with hc | hc
  · rw [h.queue, List.mem_filter] at hc
    simpa using hc.2
  · rw [h.wait, List.mem_filter] at hc
    simpa using hc.2

/-- With no mask queued and nothing behind the queue, the withdrawal is queued last. -/
theorem Adm.Discards.enqMask_of_alone {m : Nat} {a b : Adm} (h : a.Discards m b) (hwait : a.wait = [])
    (hmask : ∀ j, Commit.mask j ∉ a.queue) :
    (b.refill.enqMask m).queue = (a.queue.filter fun c => !c.namedBy m) ++ [.mask m] := by
  rw [Adm.refill_of_no_wait (by rw [h.wait, hwait]; rfl), Adm.enqMask_of_no_mask, h.queue]
  exact fun j hj => hmask j (List.mem_filter.mp (h.queue ▸ hj)).1

/-- A write that reaches WD_MASK. -/
theorem State.put_wdMask {s : State} {w : By} (m : BitVec 16) (h : s.Writes w .adm pgADM 0x040) :
    s.put w pgADM 0x040 (m.zeroExtend 32) = (s.wdMask m.toNat).answer .ok 0 := by
  have hmask : fldOf (m.zeroExtend 32) 15 0 = m.toNat := by
    have := m.isLt
    simp [fldOf]
    omega
  rw [State.put_adm _ h (by decide) (by decide), ← hmask]
  rfl

/-! ### The statement -/

/-- Settles O23: each command of a port is a branch of its register's write; a withdrawal discards, then is queued. -/
theorem claimPorts : Obligations.ClaimPorts := by
  refine ⟨?free, ?busy, ?withdrawal⟩
  case free =>
    intro s w t h hfree
    refine ⟨congrArg Host.Outcome.next ((State.put_cpCmd 1 h).trans ?_), congrArg Host.Outcome.next
      ((State.put_cpCmd 2 h).trans ?_), congrArg Host.Outcome.next ((State.put_cpCmd 4 h).trans ?_)⟩
    · rw [State.cpCmd_push hfree, Nat.add_right_comm _ _ 4, Nat.add_right_comm _ _ 8, Nat.add_right_comm _ _ 12]
      rfl
    · rw [State.cpCmd_clear hfree]
    · rw [State.cpCmd_commit hfree]
      rfl
  case busy =>
    intro s w t h hbusy
    have hput (v : Word) (hv : fldOf v 2 0 ≠ 0) :
        s.put w pgADM (0x410 + 0x40 * t) v = (s.errBusy pgADM (0x410 + 0x40 * t)).answer .ok 0 := by
      rw [State.put_cpCmd v h, State.cpCmd_of_pending hv hbusy]
    exact ⟨congrArg Host.Outcome.next (hput 1 (by decide)), congrArg Host.Outcome.next (hput 2 (by decide)),
      congrArg Host.Outcome.next (hput 4 (by decide))⟩
  case withdrawal =>
    intro s w m h
    refine ⟨(s.wdMask m.toNat).answer .ok 0, congrArg Host.Outcome.next (State.put_wdMask m h), ?_⟩
    by_cases hm : m = 0
    · subst hm
      rw [show (0 : BitVec 16).toNat = 0 from rfl, State.wdMask_zero]
      refine ⟨rfl, rfl, rfl, rfl, fun _ _ => ?_, by simp, absurd rfl, by simp⟩
      rw [if_pos rfl, List.append_nil]
      refine (List.filter_eq_self.mpr ?_).symm
      rintro (_ | _) _
      · simp
      · rfl
    · obtain ⟨a, hdisc, heq⟩ := s.wdMask_eq (m := m.toNat) (by simpa [BitVec.toNat_eq] using hm)
      obtain ⟨q, henq, hset, hmask⟩ := a.refill.enqMask_eq m.toNat
      obtain ⟨qr, wr, hrefill, -⟩ := a.refill_eq
      rw [heq, henq]
      refine ⟨rfl, rfl, ?_, ?_, fun hwait hnone => ?alone, fun k src cl hk => ?kept, fun _ => hmask,
        fun k hk hany hnamed => ?refused⟩
      · rw [hrefill]; exact hdisc.com
      · rw [hrefill]; exact hdisc.staged
      case alone =>
        have hq := hdisc.enqMask_of_alone hwait fun j hj => List.any_eq_false.mp hnone _ hj rfl
        rw [henq] at hq
        rw [if_neg hm]
        exact hq.trans (congrArg (· ++ _) (List.filter_congr fun c _ => by cases c <;> rfl))
      case kept =>
        rw [← named_eq_testBit]
        exact hdisc.not_named_of_mem_refill (hset k src cl hk)
      case refused =>
        obtain ⟨_ | _, hc, hck⟩ := List.any_eq_true.mp hany
        · obtain rfl := of_decide_eq_true hck
          rw [hrefill]
          exact hdisc.refused _ _ _ hk hc ((named_eq_testBit _ _).trans hnamed)
        · cases hck

end Sys2Proof.Machine
end

section
/-! Evaluations of commits (05 R113, R122 to R125). -/

namespace Sys2Proof.Machine

/-! ### What the end of an evaluation changes -/

theorem State.admStart_of_idle {s : State} {c : Commit} {q : List Commit} (hchecking : s.ten.checking = false)
    (heval : s.adm.eval = none) (hqueue : s.adm.queue = c :: q) :
    s.admStart = { s with adm := ({ s.adm with eval := some c, queue := q } : Adm).refill } := by
  simp only [State.admStart, heval, hqueue, hchecking, Bool.false_eq_true, if_false]

theorem State.withMxCap_eq (s : State) (src : Nat) :
    ∃ cap, s.withMxCap src = { s with adm := { s.adm with mxCap := cap } } := by
  rw [State.withMxCap]
  split
  · exact ⟨s.adm.mxNew, rfl⟩
  · exact ⟨s.adm.mxCap, rfl⟩

/-- An accepted set is committed and waits for the frame boundary; OVER may clear. -/
theorem State.admAccept_eq (s : State) (com : List Claim) (srcs : List Nat) :
    ∃ ovr, s.admAccept com srcs =
      { s with adm := { s.adm with com := com, effPend := true, effSrc := s.adm.effSrc ++ srcs, ovr := ovr } } := by
  simp only [State.admAccept]
  split
  · exact ⟨false, rfl⟩
  · exact ⟨s.adm.ovr, rfl⟩

/-- The end of a commit's evaluation frees the unit and records the result for the commit's source. -/
theorem State.admEnd_eq (s : State) (tnt src : Nat) (cl : List ClaimW) (ok : Bool) :
    ∃ lastOk lastRef seqs mxRes aldRes, s.admEnd tnt src cl ok = { s with adm := { s.adm with
      eval := none, lastOk := lastOk, lastRef := lastRef, seqs := seqs, mxRes := mxRes, aldRes := aldRes } } := by
  simp only [State.admEnd]
  split_ifs
  all_goals exact ⟨_, _, _, _, _, rfl⟩

/-- The last result that a claim port shows is that of its commit just evaluated. -/
theorem State.admEnd_port (s : State) {tnt : Nat} (ht : tnt < 16) (cl : List ClaimW) (ok : Bool) :
    (s.admEnd tnt 0 cl ok).adm.lastOk.getLsbD tnt = ok ∧ (s.admEnd tnt 0 cl ok).adm.lastRef.getLsbD tnt = !ok := by
  have hbit := (getLsbD_tenantBit ht tnt).trans (decide_eq_true rfl)
  cases ok <;>
    simp only [State.admEnd, if_true, Bool.false_eq_true, if_false, BitVec.getLsbD_or, BitVec.getLsbD_and, BitVec.getLsbD_not,
      hbit, Bool.or_true, Bool.not_true, Bool.not_false, Bool.and_false, and_self]

theorem State.regless_admReport (s : State) (r : AdmRep) (tnt src : Nat) (overbook : Bool) :
    (s.admReport r tnt src overbook).regless = s.regless := rfl

/-! ### The three ends of an evaluation (R122, R124, R125) -/

theorem State.admDone_of_passed {s : State} {tnt src : Nat} {cl : List ClaimW} (hchecking : s.ten.checking = false)
    (heval : s.adm.eval = some (.set tnt src cl))
    (hpass : cl = [] ∨
      (s.withMxCap src).admCheck (s.admResult tnt src cl).1 (s.admResult tnt src cl).2 tnt = none) :
    s.admDone = (((s.withMxCap src).admAccept (s.admResult tnt src cl).1 [src]).admEnd tnt src cl true).ev pgADM 0 := by
  have hcheck : (if cl.isEmpty then none
      else (s.withMxCap src).admCheck (s.admResult tnt src cl).1 (s.admResult tnt src cl).2 tnt) = none := by
    rcases hpass with rfl | hpass
    · rfl
    · rw [hpass, ite_self]
  simp only [State.admDone, hchecking, heval, hcheck, Bool.false_eq_true, if_false]

theorem State.admDone_of_failed {s : State} {tnt src : Nat} {cl : List ClaimW} {rep : AdmRep}
    (hchecking : s.ten.checking = false) (heval : s.adm.eval = some (.set tnt src cl)) (hcl : cl ≠ [])
    (hfail : (s.withMxCap src).admCheck (s.admResult tnt src cl).1 (s.admResult tnt src cl).2 tnt = some rep) :
    s.admDone = ((((s.admEnd tnt src cl false).admReport rep tnt src false).err pgADM 0x1030 (tnt + src <<< 4)).ev
      pgADM 0).ev pgADM 1 := by
  simp only [State.admDone, hchecking, heval, hfail, List.isEmpty_iff, hcl, Bool.false_eq_true, if_false]

theorem State.admDone_of_mask {s : State} {m : Nat} (hchecking : s.ten.checking = false)
    (heval : s.adm.eval = some (.mask m)) :
    s.admDone = (({ s with adm := { s.adm with eval := none } } : State).admAccept
      (s.adm.com.filter fun k => !named m k.tnt) []).ev pgADM 0 := by
  simp only [State.admDone, hchecking, heval, Bool.false_eq_true, if_false]

/-! ### The statement -/

/-- Settles O24: each end of an evaluation is one chain of the unit's operations, and what each of them changes is read off. -/
theorem evaluationsOfClaims : Obligations.EvaluationsOfClaims := by
  refine ⟨?start, ?passed, ?failed, ?mask⟩
  case start =>
    intro s c q hrun hchecking heval hqueue
    exact congrArg Host.Outcome.next ((State.onSys_run hrun _).trans (State.admStart_of_idle hchecking heval hqueue))
  case passed =>
    intro s tn src cl hrun hchecking heval hpass
    refine ⟨_, congrArg Host.Outcome.next ((State.onSys_run hrun _).trans (State.admDone_of_passed hchecking heval hpass)), ?_⟩
    have hport : src = 0 → tn < 16 → (((s.withMxCap src).admAccept (s.admResult tn src cl).1 [src]).admEnd tn src cl
        true).adm.lastOk.getLsbD tn = true := by
      rintro rfl ht
      exact (State.admEnd_port _ ht cl true).1
    obtain ⟨cap, hcap⟩ := s.withMxCap_eq src
    obtain ⟨ovr, hacc⟩ := (s.withMxCap src).admAccept_eq (s.admResult tn src cl).1 [src]
    obtain ⟨_, _, _, _, _, hend⟩ := ((s.withMxCap src).admAccept (s.admResult tn src cl).1 [src]).admEnd_eq tn src cl true
    refine ⟨?_, ?_, ?_, ?_, State.f_ev_same _ _ (by decide), hport, ?_⟩
    all_goals
      rw [hend, hacc, hcap]
      rfl
  case failed =>
    intro s tn src cl rep hrun hchecking heval hcl hfail
    refine ⟨_, congrArg Host.Outcome.next ((State.onSys_run hrun _).trans
      (State.admDone_of_failed hchecking heval hcl hfail)), ?_⟩
    set e := s.admEnd tn src cl false with he
    set t := (e.admReport rep tn src false).err pgADM 0x1030 (tn + src <<< 4) with ht
    have hless : ((t.ev pgADM 0).ev pgADM 1).regless = e.regless := by
      rw [State.regless_ev, State.regless_ev, ht, State.regless_err, State.regless_admReport]
    have hadm : ((t.ev pgADM 0).ev pgADM 1).adm = e.adm := (congrArg State.adm hless :)
    have hcode : ((t.ev pgADM 0).ev pgADM 1).f pgADM 0x028 15 0 = 0x1030 := by
      rw [State.f_ev_ne _ _ _ _ (by decide), State.f_ev_ne _ _ _ _ (by decide), ht, State.f_err_code]
    obtain ⟨_, _, _, _, _, hend⟩ := s.admEnd_eq tn src cl false
    rw [hadm, State.mem_of_regless hless]
    refine ⟨?_, ?_, ?_, State.f_ev_of_raised _ (by decide) (State.f_ev_same _ _ (by decide)), State.f_ev_same _ _ (by decide),
      hcode, ?port, ?_⟩
    case port =>
      rintro rfl htn
      exact (State.admEnd_port s htn cl false).symm
    all_goals rw [he, hend]
  case mask =>
    intro s m hrun hchecking heval
    refine ⟨_, congrArg Host.Outcome.next ((State.onSys_run hrun _).trans (State.admDone_of_mask hchecking heval)), ?_⟩
    obtain ⟨ovr, hacc⟩ := State.admAccept_eq { s with adm := { s.adm with eval := none } }
      (s.adm.com.filter fun k => !named m k.tnt) []
    refine ⟨?_, ?_, ?_, State.f_ev_same _ _ (by decide), ?_⟩
    all_goals
      rw [hacc]
      rfl

end Sys2Proof.Machine
end

section
/-! The pages of the network (06 R135, R137, R154, R156 to R158): route entries, the clears of the NIs and routers, the probes and
the trace buffer. -/

namespace Sys2Proof.Machine

/-! ### Writes of the network's pages -/

/-- A write that reaches a register of its block. -/
theorem State.put_block {s : State} {w : By} {b : Blk} {p o : Nat} (v : Word) (h : s.Writes w b p o) (h4 : o % 4 = 0)
    (ho : 0x040 ≤ o) (hb : b ≠ .secin ∧ b ≠ .link ∧ b ≠ .ten) :
    s.put w p o v = (s.blockWrite b w.tnt w.ni p o v).answer .ok 0 := by
  obtain ⟨hsecin, hlink, hten⟩ := hb
  rw [State.put_eq v h h4 hsecin (.inl hlink) (.inl hten), State.pageWrite, if_neg (by omega)]

theorem State.put_ni {s : State} {w : By} {n o : Nat} (v : Word) (h : s.Writes w .ni (pgNI n) o) (h4 : o % 4 = 0)
    (ho : 0x040 ≤ o) : s.put w (pgNI n) o v = (s.niWrite n o v).answer .ok 0 := by
  rw [State.put_block v h h4 ho (by decide), State.blockWrite, Nat.add_sub_cancel_left]

theorem State.put_router {s : State} {w : By} {r o : Nat} (v : Word) (h : s.Writes w .router (pgRouter r) o) (h4 : o % 4 = 0)
    (ho : 0x040 ≤ o) : s.put w (pgRouter r) o v = (s.routerWrite r o v).answer .ok 0 := by
  rw [State.put_block v h h4 ho (by decide), State.blockWrite, Nat.add_sub_cancel_left]

theorem State.put_prb {s : State} {w : By} {o : Nat} (v : Word) (h : s.Writes w .prb pgPRB o) (h4 : o % 4 = 0)
    (ho : 0x040 ≤ o) : s.put w pgPRB o v = (s.prbWrite o v).answer .ok 0 :=
  State.put_block v h h4 ho (by decide)

/-! ### Route entries (R135, R137) -/

theorem State.niWrite_rte (s : State) (n : Nat) {i : Nat} (hi : i < 64) (v : Word) :
    s.niWrite n (0x200 + 4 * i) v = s.rteWrite n i v := by
  have hidx : (0x200 + 4 * i - 0x200) / 4 = i := by omega
  rw [State.niWrite, if_neg (by omega), if_pos (by omega), hidx]

theorem State.rteWrite_of_sound {s : State} {n i : Nat} {v : Word} (hcodes : fldOf v 27 24 < 9)
    (hroute : fldOf v 31 31 = 1 → (routeOf s.grade n (fldOf v 27 24) (fldOf v 23 0)).isSome = true)
    (hlatch : ((s.ni n).latch.any fun e : Option LatchEnt => match e with | some e => e.idx == i | none => false) = false) :
    s.rteWrite n i v = s.w (pgNI n) (0x200 + 4 * i) v := by
  have hsound : ¬ (fldOf v 31 31 = 1 ∧ (routeOf s.grade n (fldOf v 27 24) (fldOf v 23 0)).isNone = true) := by
    rintro ⟨hv, hnone⟩
    rw [← Option.not_isSome, hroute hv] at hnone
    cases hnone
  rw [State.rteWrite, if_neg hsound, if_neg (by omega)]
  exact if_neg (Bool.eq_false_iff.mp hlatch)

theorem State.rteWrite_of_unsound {s : State} {n i : Nat} {v : Word}
    (h : 9 ≤ fldOf v 27 24 ∨ (fldOf v 31 31 = 1 ∧ routeOf s.grade n (fldOf v 27 24) (fldOf v 23 0) = none)) :
    s.rteWrite n i v = (s.err (pgNI n) 0x1110 i).ev (pgNI n) 1 := by
  rw [State.rteWrite]
  split
  · rfl
  · next hsound =>
    have hcodes : 9 ≤ fldOf v 27 24 := h.resolve_right fun ⟨hv, hnone⟩ => hsound ⟨hv, Option.isNone_iff_eq_none.mpr hnone⟩
    exact if_pos hcodes

/-! ### Clears (R137, R156 to R158) -/

theorem State.niWrite_rlinv (s : State) (n : Nat) :
    s.niWrite n 0x040 1 = s.updNi n fun x => { x with latch := [none, none, none, none] } := rfl

theorem State.niWrite_clr (s : State) (n : Nat) :
    s.niWrite n 0x040 2 = ((s.w (pgNI n) 0x064 0).w (pgNI n) 0x068 0).w (pgNI n) 0x06C 0 := rfl

theorem State.routerWrite_clr (s : State) (r : Nat) :
    s.routerWrite r 0x04C 1 = ((s.w (pgRouter r) 0x040 0).w (pgRouter r) 0x044 0).w (pgRouter r) 0x048 0 := rfl

/-- The trace buffer and its queue are empty (R158). -/
def State.noTrace (s : State) : State := { s with welt := { s.welt with trcBuf := [], trcQ := [], trcOvf := 0 } }

theorem State.prbWrite_clr (s : State) {v : Word} (h : fldOf v 8 8 = 1) :
    s.prbWrite 0x040 v = (s.plain pgPRB 0x040 v).noTrace.w pgPRB 0x050 0 := by
  rw [State.prbWrite, if_pos rfl]
  exact if_pos h

theorem State.prbWrite_ctrl (s : State) {m : Nat} (hm : m < 8) (v : Word) :
    s.prbWrite (0x100 + 0x20 * m) v =
      ((s.w pgPRB (0x100 + 0x20 * m) (v &&& 0xC07F01FF)).w pgPRB (0x110 + 0x20 * m) 0).w pgPRB (0x114 + 0x20 * m) 0 := by
  have hpkts : 0x100 + 0x20 * m + 0x10 = 0x110 + 0x20 * m := by omega
  have hunits : 0x100 + 0x20 * m + 0x14 = 0x114 + 0x20 * m := by omega
  rw [State.prbWrite, if_neg (by omega), if_pos (by omega), hpkts, hunits]

/-- Settles O25: each command passes the gate and is one branch of its page's write or read. -/
theorem networkPages : Obligations.NetworkPages := by
  refine ⟨?stored, ?refused, ?clearsNi, ?clearsRouter, ?probe, ?trcClr, ?trcData⟩
  case stored =>
    intro s w n i v h hcodes hroute hlatch
    refine congrArg Host.Outcome.next ((State.put_ni v h (by omega) (by omega)).trans ?_)
    rw [State.niWrite_rte s n i.isLt, State.rteWrite_of_sound hcodes hroute hlatch]
  case refused =>
    intro s w n i v h hunsound
    refine congrArg Host.Outcome.next ((State.put_ni v h (by omega) (by omega)).trans ?_)
    rw [State.niWrite_rte s n i.isLt, State.rteWrite_of_unsound hunsound]
  case clearsNi =>
    intro s w n h
    exact ⟨congrArg Host.Outcome.next ((State.put_ni 1 h rfl le_rfl).trans
        (congrArg (State.answer · .ok 0) (s.niWrite_rlinv n))),
      congrArg Host.Outcome.next ((State.put_ni 2 h rfl le_rfl).trans
        (congrArg (State.answer · .ok 0) (s.niWrite_clr n)))⟩
  case clearsRouter =>
    intro s w r h
    exact congrArg Host.Outcome.next ((State.put_router 1 h rfl (by decide)).trans
      (congrArg (State.answer · .ok 0) (s.routerWrite_clr r)))
  case probe =>
    intro s w m v h
    refine congrArg Host.Outcome.next ((State.put_prb v h (by omega) (by omega)).trans ?_)
    rw [State.prbWrite_ctrl s m.isLt]
  case trcClr =>
    intro s w v h
    have hless := s.regless_plain pgPRB 0x040 (withBit v 8)
    have hclr := s.prbWrite_clr (fldOf_withBit_same v (by decide))
    exact ⟨_, congrArg Host.Outcome.next ((State.put_prb _ h rfl le_rfl).trans (congrArg (State.answer · .ok 0) hclr)), rfl, rfl,
      (State.r_answer _ _ _ _ _).trans (State.r_w_same _ _ _ _),
      (congrArg (fun t : State => t.welt.flight) hless :), (State.mem_of_regless hless :)⟩
  case trcData =>
    intro s w h
    exact congrArg Host.Outcome.next (State.take_eq h rfl (.inl (by decide)))

end Sys2Proof.Machine
end

section
/-! The bookkeeping of an initiator NI (06 R136, R137, R142, R155): what its route latch, its credits, its block requests and its
statistics leave alone. -/

namespace Sys2Proof.Machine

/-! ### One NI changed -/

theorem State.length_updNi (s : State) (n : Nat) (f : NiSt → NiSt) : (s.updNi n f).welt.nis.length = s.welt.nis.length :=
  List.length_modify _ _ _

theorem State.ni_updNi_same {s : State} {n : Nat} (hn : n < s.welt.nis.length) (f : NiSt → NiSt) :
    (s.updNi n f).ni n = f (s.ni n) := by
  simp [State.ni, State.updNi, List.getD_eq_getElem?_getD, hn]

/-- What the change keeps of every NI. -/
theorem State.ni_updNi_keeps {γ : Type} (g : NiSt → γ) (s : State) (n m : Nat) {f : NiSt → NiSt} (h : ∀ x, g (f x) = g x) :
    g ((s.updNi n f).ni m) = g (s.ni m) := by
  by_cases hm : m < s.welt.nis.length
  · have hf : g (if n = m then f s.welt.nis[m] else s.welt.nis[m]) = g s.welt.nis[m] := by
      split
      · exact h _
      · rfl
    simpa [State.ni, State.updNi, List.getD_eq_getElem?_getD, List.getElem_modify, hm] using hf
  · simp [State.ni, State.updNi, List.getD_eq_getElem?_getD, hm]

/-! ### Bookkeeping -/

/-- The state without its NIs, the count of block requests and the last answer. -/
def State.niless (s : State) : State :=
  { s with welt := { s.welt with nis := [], grp := 0 }, resp := ⟨.ok, 0, [], false, false⟩ }

/-- Between `s` and `t` an NI kept its books: nothing differs but the NIs, the count of block requests and the last answer, and
every NI has the same requests outstanding. -/
structure State.Books (s t : State) : Prop where
  rest : t.niless = s.niless
  out : ∀ m, (t.ni m).out = (s.ni m).out
  nis : t.welt.nis.length = s.welt.nis.length

namespace State.Books

variable {s t u : State}

theorem refl (s : State) : Books s s := ⟨rfl, fun _ => rfl, rfl⟩

theorem trans (h : Books s t) (h' : Books t u) : Books s u :=
  ⟨h'.rest.trans h.rest, fun m => (h'.out m).trans (h.out m), h'.nis.trans h.nis⟩

theorem grade (h : Books s t) : t.grade = s.grade := (congrArg State.grade h.rest :)
theorem regs (h : Books s t) : t.regs = s.regs := (congrArg State.regs h.rest :)
theorem mem (h : Books s t) : t.mem = s.mem := (congrArg State.mem h.rest :)
theorem flight (h : Books s t) : t.welt.flight = s.welt.flight := (congrArg (fun x : State => x.welt.flight) h.rest :)

theorem r (h : Books s t) (p o : Nat) : t.r p o = s.r p o := by rw [State.r, h.regs, h.grade, State.r]
theorem f (h : Books s t) (p o hi lo : Nat) : t.f p o hi lo = s.f p o hi lo := by rw [State.f, h.r, State.f]

theorem updNi (h : Books s t) (n : Nat) {f : NiSt → NiSt} (hf : ∀ x, (f x).out = x.out) : Books s (t.updNi n f) :=
  h.trans ⟨rfl, fun m => t.ni_updNi_keeps NiSt.out n m hf, t.length_updNi n f⟩

theorem answered (h : Books s t) (r : Resp) : Books s { t with resp := r } := h.trans ⟨rfl, fun _ => rfl, rfl⟩

theorem counted (h : Books s t) (g : Nat) : Books s { t with welt := { t.welt with grp := g } } :=
  h.trans ⟨rfl, fun _ => rfl, rfl⟩

theorem updStat (h : Books s t) (n : Nat) (f : StatCnt → StatCnt) : Books s (t.updStat n f) := h.updNi n fun _ => rfl

theorem statAnswer (h : Books s t) (n : Nat) (st : Sts) (dem late : Bool) : Books s (t.statAnswer n st dem late) :=
  h.updStat n _

theorem statRequest (h : Books s t) (n lat : Nat) (st : Sts) (size : Nat) : Books s (t.statRequest n lat st size) :=
  h.updStat n _

theorem selectRoute (h : Books s t) (n : Nat) (serving : List Nat) (cls : Nat) :
    Books s (t.selectRoute n serving cls).1 := by
  simp only [State.selectRoute]
  split
  · exact h.updNi n fun _ => rfl
  · split
    · exact h
    · exact h.updNi n fun _ => rfl

theorem classCheck (h : Books s t) (n tnt cls route charge : Nat) (rev : Bool) :
    Books s (t.classCheck n tnt cls route charge rev).1 := by
  simp only [State.classCheck]
  split_ifs
  · exact h.updNi n fun _ => rfl
  · exact h
  · exact h.updNi n fun _ => rfl
  · exact h
  · exact h

theorem partDone (h : Books s t) (n grp a : Nat) (st : Sts) (dem late : Bool) (bytes : List Byte) :
    Books s (t.partDone n grp a st dem late bytes) := by
  have hstat := h.statAnswer n st dem late
  simp only [State.partDone]
  split
  · exact hstat.updNi n fun _ => rfl
  · split
    · exact hstat.updNi n fun _ => rfl
    · refine (((hstat.updNi n ?_).updNi n ?_).statRequest n _ _ _).answered _
      · exact fun _ => rfl
      · exact fun _ => rfl

end State.Books

/-! ### Routes (R136, R137) -/

/-- The route taken rests on the latch and the table. -/
theorem State.selectRoute_congr {s t : State} {n : Nat} (hlatch : (t.ni n).latch = (s.ni n).latch) (hr : t.regs = s.regs)
    (hg : t.grade = s.grade) (serving : List Nat) (cls : Nat) :
    (t.selectRoute n serving cls).2 = (s.selectRoute n serving cls).2 := by
  have hrte (i : Nat) : t.rte n i = s.rte n i := by simp only [State.rte, State.r, hr, hg]
  have hlow : t.lowestRoute n serving cls = s.lowestRoute n serving cls := by simp only [State.lowestRoute, hrte, hg]
  simp only [State.selectRoute, hlatch, hlow, hrte]
  split
  · rfl
  · split <;> rfl

/-! ### The end of a block request (R131, R155) -/

/-- The parts of block request `grp`, the one at `a` ended. -/
def BlkReq.ended (a : Nat) (d : Sts × Bool × Bool × List Byte) (b : BlkReq) : BlkReq :=
  { b with parts := b.parts.map fun p => if p.addr = a ∧ p.done = none then { p with done := some d } else p }

/-- The one part of a block request ends it with its status. -/
theorem State.resp_partDone_single {s : State} {n grp acc cmd a size : Nat} (st : Sts) (dem late : Bool) (bytes : List Byte)
    (hn : n < s.welt.nis.length)
    (hblk : ((s.ni n).blk.find? fun b => b.id == grp) = some ⟨grp, acc, cmd, [⟨a, size, none⟩]⟩) :
    (s.partDone n grp a st dem late bytes).resp.sts = st := by
  set d := (st, dem, late, bytes) with hd
  set e := (s.statAnswer n st dem late).updNi n fun x =>
    { x with blk := x.blk.map fun b => if b.id = grp then b.ended a d else b } with he
  have hnoted : ((e.ni n).blk.find? fun b => b.id == grp) = some ⟨grp, acc, cmd, [⟨a, size, some d⟩]⟩ := by
    have hstat : ((s.statAnswer n st dem late).ni n).blk = (s.ni n).blk := s.ni_updNi_keeps NiSt.blk n n fun _ => rfl
    have hid : ((fun b : BlkReq => b.id == grp) ∘ fun b => if b.id = grp then b.ended a d else b) = fun b => b.id == grp := by
      funext b
      simp only [Function.comp_apply]
      split <;> rfl
    rw [he, State.ni_updNi_same (((State.Books.refl s).statAnswer n st dem late).nis ▸ hn)]
    simp only [hstat, List.find?_map, hid, hblk, Option.map_some, if_true]
    simp [BlkReq.ended]
  rw [State.partDone]
  split
  · next h => exact absurd (h.symm.trans hnoted) nofun
  · next h =>
    obtain rfl := Option.some.inj (h.symm.trans hnoted)
    cases st <;> rfl

end Sys2Proof.Machine
end

section
/-! Requests of a block at its initiator NI (06 R131, R136, R139, R149), and the trace records that are written (R154). -/

namespace Sys2Proof.Machine

/-! ### A request of one part (R131) -/

theorem splitReq_single {a n : Nat} (fuel : Nat) (hn : 0 < n) (hfit : a % 256 + n ≤ 256) :
    splitReq (fuel + 2) a n = [(a, n)] := by
  have hall : min n (256 - a % 256) = n := by omega
  simp only [splitReq, hall, Nat.sub_self, if_true, Nat.ne_of_gt hn, if_false]

/-- The NI has taken a request of one part from its block. -/
def State.accepted (s : State) (n cmd a size : Nat) : State :=
  ({ s with welt := { s.welt with grp := s.welt.grp + 1 } } : State).updNi n fun x =>
    { x with blk := x.blk ++ [⟨s.welt.grp, s.now, cmd, [⟨a, size, none⟩]⟩] }

theorem State.accepted_books (s : State) (n cmd a size : Nat) : s.Books (s.accepted n cmd a size) :=
  ((State.Books.refl s).counted _).updNi n fun _ => rfl

theorem State.blk_accepted {s : State} {n : Nat} (hn : n < s.welt.nis.length) (cmd a size : Nat) :
    ((s.accepted n cmd a size).ni n).blk = (s.ni n).blk ++ [⟨s.welt.grp, s.now, cmd, [⟨a, size, none⟩]⟩] :=
  congrArg NiSt.blk (State.ni_updNi_same (s := { s with welt := { s.welt with grp := s.welt.grp + 1 } }) hn _)

theorem State.weltRequest_single {s : State} {n sub cmd cls a size t : Nat} (data : List Byte) (hstamp : s.stamp n sub = some t)
    (hni : niPresent s.grade n = true) (hcmd : cmd < 16) (hcls : cls < 3) (hsize : 0 < size) (hfit : a % 256 + size ≤ 256) :
    s.weltRequest n sub cmd cls a size data =
      (s.accepted n cmd a size).issuePart n t cmd cls s.welt.grp a size (data.take size) (oneRow s.grade a size) := by
  have hok : ¬ (size = 0 ∨ niPresent s.grade n = false ∨ 2 < cls ∨ 16 ≤ cmd) := by
    rintro (h | h | h | h)
    · omega
    · rw [hni] at h
      cases h
    · omega
    · omega
  simp only [State.weltRequest, hstamp, hok, if_false, splitReq_single _ hsize hfit, List.map_cons, List.map_nil,
    List.foldl_cons, List.foldl_nil, Nat.sub_self, List.drop_zero]
  rfl

/-! ### The NI judges it (R136, R139) -/

theorem State.niJudge_of_unserved {s : State} {a : Nat} (h : servingNis s.grade a = []) (n t cmd cls size : Nat) (ok : Bool) :
    s.niJudge n t cmd cls a size ok = (s, .error .decode) := by
  rw [State.niJudge]
  exact if_pos (.inr (.inl (by rw [h]; rfl)))

/-- A request that passes every check is issued by its route. -/
theorem State.niJudge_of_routed {s : State} {n t cmd cls a size idx : Nat} {w : Word}
    (hserved : (servingNis s.grade a).isEmpty = false) (hcmd : cmd ≠ 8 ∧ cmd ≠ 9)
    (hquar : t = 0 ∨ s.ten.quar.getLsbD t = false) (hrow : memRow s.grade a ≠ some 0 ∧ memRow s.grade a ≠ some 8)
    (hwin : memRow s.grade a ≠ none → s.winCheck t a size (decide (cmd = 2)) = none)
    (hroute : (s.selectRoute n (servingNis s.grade a) cls).2 = some (idx, w))
    (hfree : (s.ni n).out.length < s.f pgTEN (0x100 + 0x20 * t) 21 16) :
    ∃ e kept, s.niJudge n t cmd cls a size true = (e, .ok (idx, w, kept)) ∧ s.Books e := by
  have hbooks := (State.Books.refl s).selectRoute n (servingNis s.grade a) cls
  set u := (s.selectRoute n (servingNis s.grade a) cls).1 with hu
  have hsel : s.selectRoute n (servingNis s.grade a) cls = (u, some (idx, w)) := Prod.ext rfl hroute
  have hquar' : ¬ (t ≠ 0 ∧ s.ten.quar.getLsbD t = true) := by
    rintro ⟨ht, hq⟩
    rw [hquar.resolve_left ht] at hq
    cases hq
  have hwin' : (if memRow s.grade a = none then none else s.winCheck t a size (decide (cmd = 2))) = none := by
    split
    · rfl
    · next h => exact hwin h
  have hfree' : ¬ u.f pgTEN (0x100 + 0x20 * t) 21 16 ≤ (u.ni n).out.length := by
    rw [hbooks.f, hbooks.out]
    omega
  set r := u.classCheck n t cls idx (chargeOf cmd a size).1 (chargeOf cmd a size).2 with hr
  refine ⟨r.1, r.2, ?_, hbooks.classCheck n t cls idx _ _⟩
  simp [State.niJudge, hserved, hcmd, hquar', hrow, hwin', hsel, hfree', ← hr]

/-! ### The NI issues it (R139, R149) -/

theorem State.Books.touchesSE {s t : State} (h : s.Books t) (a n : Nat) : t.touchesSE a n = s.touchesSE a n := by
  have hwin : t.win = s.win := by
    funext k w
    simp only [State.win, h.r]
  rw [State.touchesSE, hwin, State.touchesSE]

/-- Request `o` of NI `n` is outstanding and its packet under way; the sequence counter has gone on. -/
def State.issued (s : State) (n : Nat) (o : Outst) : State :=
  ((s.cntWrap (pgNI n) 0x060 11 0).updNi n fun x => { x with out := x.out ++ [o] }).inject n o.pkt

theorem State.issuePart_of_judged {s e : State} {n t cmd cls a size idx : Nat} {ok kept : Bool} {w : Word}
    (h : s.niJudge n t cmd cls a size ok = (e, .ok (idx, w, kept))) (grp : Nat) (data : List Byte) :
    ∃ o tid, s.issuePart n t cmd cls grp a size data ok = e.issued n o ∧
      o.pkt.h = e.reqHdr n t cmd (if kept then cls else 2) (!kept) a size w tid := by
  rw [State.issuePart, h]
  exact ⟨_, _, rfl, rfl⟩

theorem State.issuePart_of_ended {s : State} {n t cmd cls a size : Nat} {ok : Bool} {st : Sts}
    (h : s.niJudge n t cmd cls a size ok = (s, .error st)) (grp : Nat) (data : List Byte) :
    s.issuePart n t cmd cls grp a size data ok = s.partDone n grp a st false false [] := by
  rw [State.issuePart, h]

theorem State.out_issued {s : State} {n : Nat} (hn : n < s.welt.nis.length) (o : Outst) :
    ((s.issued n o).ni n).out = (s.ni n).out ++ [o] :=
  congrArg NiSt.out (State.ni_updNi_same (s := s.cntWrap (pgNI n) 0x060 11 0) hn _)

theorem State.seq_issued (s : State) (n : Nat) (o : Outst) :
    (s.issued n o).f (pgNI n) 0x060 11 0 = (s.f (pgNI n) 0x060 11 0 + 1) % 4096 :=
  s.f_sf_same (pgNI n) 0x060 11 0 _ (by decide) (by decide)

/-! ### Trace records (R154) -/

theorem State.trcWrite_of_queued {s : State} {r : TrcRec} {q : List TrcRec} (hovf : s.welt.trcOvf = 0)
    (hq : s.welt.trcQ = r :: q) (hroom : s.welt.trcBuf.length < 1024) :
    s.trcWrite = { s with welt := { s.welt with trcQ := q, trcBuf := s.welt.trcBuf ++ [r] } } := by
  rw [State.trcWrite, if_neg (by omega), hq]
  exact if_pos hroom

/-! ### The statement -/

/-- Settles O26: the NI takes the request, judges it and issues it or ends it. -/
theorem requestsEnterTheNetwork : Obligations.RequestsEnterTheNetwork := by
  refine ⟨?issued, ?unserved, ?traced⟩
  case issued =>
    intro s n sub lt cmd cls a size data t idx w hrun hstamp hni hcmd hrdata hwack hcls hsize hfit hserved hone hrom hkeeper hquar
      hwin hroute hfree hn
    have htaken := s.accepted_books n cmd a.toNat size
    have hlatch : ((s.accepted n cmd a.toNat size).ni n).latch = (s.ni n).latch :=
      State.ni_updNi_keeps NiSt.latch _ n n fun _ => rfl
    obtain ⟨e, kept, hjudge, hbooks⟩ := State.niJudge_of_routed (s := s.accepted n cmd a.toNat size) (n := n) hserved
      ⟨hrdata, hwack⟩ hquar ⟨hrom, hkeeper⟩ hwin
      ((State.selectRoute_congr hlatch htaken.regs htaken.grade _ _).trans hroute) (by rwa [htaken.out, htaken.f])
    replace hbooks := htaken.trans hbooks
    obtain ⟨o, tid, hissue, hhdr⟩ := State.issuePart_of_judged hjudge s.welt.grp (data.take size)
    refine ⟨e.issued n o, Flight.start _ o.pkt false, congrArg Host.Outcome.next ((State.onSys_run hrun _).trans ?_), ?_,
      congrArg (· ++ [_]) hbooks.flight, ?_⟩
    · rw [State.weltRequest_single data hstamp hni hcmd hcls hsize hfit, hone, hissue]
    · rw [State.out_issued (hbooks.nis ▸ hn), List.length_append, hbooks.out, List.length_singleton]
    · simp only [Flight.start, hhdr, State.reqHdr, State.onceTag, hbooks.f, hbooks.touchesSE, State.seq_issued, true_and]
      exact hbooks.mem
  case unserved =>
    intro s n sub lt cmd cls a size data t hrun hstamp hni hcmd hcls hsize hfit hserved hn hnew
    have htaken := s.accepted_books n cmd a.toNat size
    have hbooks := htaken.partDone n s.welt.grp a.toNat .decode false false []
    refine ⟨_, congrArg Host.Outcome.next ((State.onSys_run hrun _).trans ?_), ?_, hbooks.flight, hbooks.out n, hbooks.mem⟩
    · rw [State.weltRequest_single data hstamp hni hcmd hcls hsize hfit,
        State.issuePart_of_ended (State.niJudge_of_unserved (s := s.accepted n cmd a.toNat size) hserved _ _ _ _ _ _)]
    · refine State.resp_partDone_single (acc := s.now) (cmd := cmd) (size := size) .decode false false []
        (htaken.nis ▸ hn) ?_
      have hold : ((s.ni n).blk.find? fun b => b.id == s.welt.grp) = none := by
        simpa using hnew
      simp [State.blk_accepted hn, hold]
  case traced =>
    intro s r q hrun hovf hq hroom
    exact congrArg Host.Outcome.next ((State.onSys_run hrun _).trans (State.trcWrite_of_queued hovf hq hroom))

end Sys2Proof.Machine
end

section
/-! The mesh (06 R128, R129, R138, R143, R153; 20 R535): links with no injector and no probe, what a run of the mesh leaves alone,
and the run of a packet of one unit that is alone there. -/

namespace Sys2Proof.Machine

/-! ### Links with no injector and no probe -/

theorem State.awlUnit_of_clean {s : State} (h : s.Clean) (point sel : Nat) (vals : List Nat) :
    s.awlUnit point sel vals = (s, none) := by
  refine foldl_stays fun i hi => if_neg ?_
  rintro ⟨harmed, -⟩
  rw [(h.1 i (List.mem_range.mp hi)).1] at harmed
  cases harmed

theorem State.probes_of_clean {s : State} (h : s.Clean) (d : Nat) (p : Pkt) : s.probes d p = s := by
  refine foldl_stays fun m hm => if_neg ?_
  have hoff : fldOf (s.r pgPRB (0x100 + 0x20 * m)) 31 31 = 0 := h.2 m (List.mem_range.mp hm)
  simp [State.probeHit, hoff]

theorem State.awlPass_of_clean {s : State} (h : s.Clean) (d vc : Nat) : s.awlPass d vc = s := by
  refine foldl_stays fun i hi => ?_
  rw [(h.1 i (List.mem_range.mp hi)).2]

/-- A packet crosses such a link as it is. -/
theorem State.cross_of_clean {s : State} (h : s.Clean) (f : Flight) : s.cross f = (s, some (f.pkt, [])) := by
  simp only [State.cross, State.awlUnit_of_clean h, State.probes_of_clean h, State.awlPass_of_clean h, ite_self]

/-! ### What a run of the mesh leaves alone -/

/-- The state without its packets in flight, the routers' arbiters and the units they have counted. -/
def State.meshless (s : State) : State := { s with welt := { s.welt with flight := [], arbs := [], util := [] } }

theorem State.meshless_meshFeed (s : State) : s.meshFeed.meshless = s.meshless := rfl

theorem State.meshless_meshCycle {s t : State} (h : s.meshCycle = some t) : t.meshless = s.meshless := by
  rw [State.meshCycle] at h
  split at h
  · cases h
  · obtain rfl := Option.some.inj h
    rfl

theorem State.meshless_meshCycles (n : Nat) (s : State) : (s.meshCycles n).meshless = s.meshless := by
  induction n generalizing s with
  | zero => rfl
  | succ n ih =>
    rw [State.meshCycles]
    split
    · rfl
    · next t h => exact (ih t).trans ((State.meshless_meshCycle h).trans s.meshless_meshFeed)

theorem State.meshless_meshRun (s : State) : s.meshRun.meshless = s.meshless := by
  rw [State.meshRun]
  split
  · exact s.meshless_meshCycles _
  · rfl

theorem State.mem_meshRun (s : State) : s.meshRun.mem = s.mem := (congrArg State.mem s.meshless_meshRun :)

theorem State.ni_meshRun (s : State) (n : Nat) : s.meshRun.ni n = s.ni n :=
  (congrArg (fun t : State => t.ni n) s.meshless_meshRun :)

/-! ### Packets whose senders hold no unit -/

theorem feedAll_of_sent {fl : List Flight} (h : ∀ f ∈ fl, f.src = 0) (n : Nat) : feedAll fl n = fl := by
  have hone (i : Nat) : feedOne fl i = fl := by
    rw [feedOne]
    split
    · rfl
    · next f hf =>
      split
      · rfl
      · exact if_pos (.inl (h f (List.mem_of_getElem? hf)))
  induction n with
  | zero => rfl
  | succ n ih => rw [feedAll, foldl_stays fun i _ => hone i, ih]

theorem State.meshFeed_of_sent {s : State} (h : ∀ f ∈ s.welt.flight, f.src = 0) : s.meshFeed = s := by
  rw [State.meshFeed, feedAll_of_sent h]

/-- Where nothing can move the mesh rests. -/
theorem State.meshCycles_of_still {s : State} (hsent : ∀ f ∈ s.welt.flight, f.src = 0) (hstill : allMoves s.welt.flight = [])
    (n : Nat) : s.meshCycles n = s := by
  cases n with
  | zero => rfl
  | succ n =>
    have hcycle : s.meshCycle = none := by
      rw [State.meshCycle, hstill]
      rfl
    rw [State.meshCycles, State.meshFeed_of_sent hsent, hcycle]

/-! ### A packet of one unit, alone in the mesh -/

section
variable {f : Flight} {r port k d : Nat} (hat : f.at_ = .router r port k) (hunits : f.units = [(d, 1)]) (hsrc : f.src = 0)
include hat hunits hsrc

/-- Its header alone may move, over the output its code names. -/
theorem allMoves_of_alone (hready : f.ready = true) :
    allMoves [f] = [⟨0, 8 * r + rtCode f.pkt.h.rt k, d, true, f.pkt⟩] := by
  have hcredit (e : Nat) : 0 < credit [f] e f.pkt.vc := by
    have hat : f.at e ≤ 1 := by
      by_cases he : d = e <;> simp [Flight.at, hunits, he]
    simp only [credit, List.map_cons, List.map_nil, List.foldl_cons, List.foldl_nil, if_true]
    omega
  have htaken (e : Nat) : taken [f] e f.pkt.vc = false := by
    by_cases he : d = e <;> simp [taken, Flight.behind, hunits, hsrc, he]
  have hfront : frontAt [f] 0 d f.pkt.vc = true := by simp [frontAt]
  simp [allMoves, movesOf, hat, hunits, hready, hcredit, htaken, hfront]

omit hsrc in
/-- Its header crosses the link. -/
theorem step_of_alone (g : Grade) :
    f.step g ⟨0, 8 * r + rtCode f.pkt.h.rt k, d, true, f.pkt⟩ =
      { f with at_ := (nextPlace g r k (rtCode f.pkt.h.rt k)).getD f.at_, crossed := false, ready := false,
               units := [(8 * r + rtCode f.pkt.h.rt k, 1), (d, 0)] } := by
  have hcode : (8 * r + rtCode f.pkt.h.rt k) % 8 = rtCode f.pkt.h.rt k := by
    rw [Nat.mul_add_mod, rtCode, Nat.mod_mod]
  simp [Flight.step, hat, hunits, hcode]
end

/-- A channel of another rank than Spare grants the one header that asks. -/
theorem chanPick_of_single (spw : Nat → Nat) (arbs : List Arb) (d : Nat) {vc : Nat} {m : Mv} (hvc : vc % 3 ≠ 2)
    (hhead : m.head = true) : ∃ a, chanPick spw arbs d vc [m] = some (m, a) := by
  by_cases hline : vc % 3 = 0
  · exact ⟨arbOf arbs d (decide (3 ≤ vc)), by simp [chanPick, hhead, hline, firstBy]⟩
  · have hrated : vc % 3 = 1 := by omega
    exact ⟨{ arbOf arbs d (decide (3 ≤ vc)) with last := inPort m.inp }, by simp [chanPick, hhead, hrated, firstBy]⟩

theorem chanPick_of_none (spw : Nat → Nat) (arbs : List Arb) (d : Nat) {vc : Nat} (hvc : vc % 3 ≠ 2) :
    chanPick spw arbs d vc [] = none := by
  by_cases hline : vc % 3 = 0
  · simp [chanPick, hline, firstBy]
  · have hrated : vc % 3 = 1 := by omega
    simp [chanPick, hrated, firstBy]

theorem outPick_of_single (spw : Nat → Nat) (arbs : List Arb) {m : Mv} (hvc : m.pkt.vc < 6) (hrank : m.pkt.vc % 3 ≠ 2)
    (hhead : m.head = true) : ∃ rank a, outPick spw arbs [m] m.d = some (rank, m, a) := by
  obtain ⟨a, ha⟩ := chanPick_of_single spw arbs m.d hrank hhead
  have hnone (vc : Nat) (h : vc % 3 ≠ 2) := chanPick_of_none spw arbs m.d h
  obtain h | h | h | h : m.pkt.vc = 3 ∨ m.pkt.vc = 0 ∨ m.pkt.vc = 4 ∨ m.pkt.vc = 1 := by omega
  all_goals
    rw [h] at ha
    exact ⟨_, a, by simp [outPick, chanOrder, h, ha, hnone]; rfl⟩

theorem grants_of_single (spw : Nat → Nat) (arbs : List Arb) {m : Mv} (hvc : m.pkt.vc < 6) (hrank : m.pkt.vc % 3 ≠ 2)
    (hhead : m.head = true) : ∃ a, grants spw arbs 6 [m] = [(m, a)] := by
  obtain ⟨rank, a, hpick⟩ := outPick_of_single spw arbs hvc hrank hhead
  have hround : grantRound spw arbs [m] = [(m, a)] := by
    have hdup : [m.d].eraseDups = [m.d] := rfl
    simp [grantRound, hdup, hpick]
  refine ⟨a, ?_⟩
  rw [grants, hround]
  simp [grants, grantRound]

/-- A packet with its whole in one unit that its router has taken, alone in the mesh, comes to the place its code names, and the
mesh rests. -/
theorem State.meshRun_of_alone {s : State} {f : Flight} {r port k d : Nat} {np : Place} (hrun : s.domRun 1 = true)
    (hflight : s.welt.flight = [f]) (hat : f.at_ = .router r port k) (hunits : f.units = [(d, 1)]) (hsrc : f.src = 0)
    (hready : f.ready = true) (hcls : f.pkt.h.cls < 2) (hplace : nextPlace s.grade r k (rtCode f.pkt.h.rt k) = some np) :
    ∃ arbs, s.meshRun = { s with welt := { s.welt with
      flight := [⟨np, f.pkt, false, false, [(8 * r + rtCode f.pkt.h.rt k, 1), (d, 0)], 0⟩], arbs := arbs,
      util := utilUp s.welt.util (8 * r + rtCode f.pkt.h.rt k) } } := by
  have hchan : f.pkt.vc < 6 ∧ f.pkt.vc % 3 ≠ 2 := by
    rw [Pkt.vc]
    split <;> omega
  obtain ⟨a, hgrant⟩ := grants_of_single s.spw s.welt.arbs (m := ⟨0, 8 * r + rtCode f.pkt.h.rt k, d, true, f.pkt⟩) hchan.1
    hchan.2 rfl
  obtain ⟨arbs, hcycle⟩ : ∃ arbs, s.meshCycle = some { s with welt := { s.welt with
      flight := [f.step s.grade ⟨0, 8 * r + rtCode f.pkt.h.rt k, d, true, f.pkt⟩], arbs := arbs,
      util := utilUp s.welt.util (8 * r + rtCode f.pkt.h.rt k) } } := by
    rw [State.meshCycle, hflight, allMoves_of_alone hat hunits hsrc hready, hgrant]
    exact ⟨_, rfl⟩
  rw [step_of_alone hat hunits, hplace, Option.getD_some, hsrc] at hcycle
  have hfeed : s.meshFeed = s := State.meshFeed_of_sent (by simp [hflight, hsrc])
  have hcycles : (s.welt.flight.map fun f => 9 * (1 + f.pkt.h.len)).sum = (9 * f.pkt.h.len + 8) + 1 := by
    rw [hflight, List.map_singleton, List.sum_singleton]
    omega
  refine ⟨arbs, ?_⟩
  rw [State.meshRun, if_pos hrun, hcycles, State.meshCycles, hfeed, hcycle]
  refine State.meshCycles_of_still (by simp) ?_ _
  cases np <;> simp [allMoves, movesOf]

end Sys2Proof.Machine
end

section
/-! Packets at routers, at their targets and back at their initiators, on links with no injector and no probe (06 R134, R138, R147,
R151, R152). -/

namespace Sys2Proof.Machine

/-! ### What stays where the registers change -/

section
variable {s t : State} (h : t.regless = s.regless)
include h

theorem State.welt_of_regless : t.welt = s.welt := (congrArg State.welt h :)
theorem State.waiting_of_regless : t.waiting = s.waiting := (congrArg State.waiting h :)
theorem State.ni_of_regless (n : Nat) : t.ni n = s.ni n := by rw [State.ni, State.welt_of_regless h, State.ni]
end

/-! ### Packets with no failing unit -/

theorem Pkt.spoil_nil (p : Pkt) : p.spoil [] = p := by simp [Pkt.spoil]

theorem State.clean_congr {s t : State} (h : s.Clean) (hr : t.regs = s.regs) (hg : t.grade = s.grade) (ha : t.awl = s.awl) :
    t.Clean := by
  simp only [State.Clean, State.armed, State.inj, State.f, State.r, hr, hg, ha]
  exact h

/-- The state with other packets in flight. -/
def State.withFlight (s : State) (fl : List Flight) : State := { s with welt := { s.welt with flight := fl } }

@[simp] theorem State.grade_withFlight (s : State) (fl : List Flight) : (s.withFlight fl).grade = s.grade := rfl
@[simp] theorem State.bridge_withFlight (s : State) (fl : List Flight) (d t : Nat) :
    (s.withFlight fl).bridge d t = s.bridge d t := rfl
@[simp] theorem State.reqDom_withFlight (s : State) (fl : List Flight) (n a : Nat) :
    (s.withFlight fl).reqDom n a = s.reqDom n a := rfl

/-- The senders' units change the packets in flight alone, and so does a packet that leaves. -/
theorem State.meshFeed_eq (s : State) : ∃ fl, s.meshFeed = s.withFlight fl := ⟨_, rfl⟩

theorem State.dropFlight_eq (s : State) (i : Nat) : ∃ fl, s.meshFeed.dropFlight i = s.withFlight fl := ⟨_, rfl⟩

theorem State.grade_dropFlight (s : State) (i : Nat) : (s.meshFeed.dropFlight i).grade = s.grade := by
  obtain ⟨fl, h⟩ := s.dropFlight_eq i
  rw [h, State.grade_withFlight]

theorem State.clean_dropFlight {s : State} (h : s.Clean) (i : Nat) : (s.meshFeed.dropFlight i).Clean := by
  obtain ⟨fl, hdrop⟩ := s.dropFlight_eq i
  rw [hdrop]
  exact State.clean_congr h rfl rfl rfl

/-- A packet taken out of the mesh crosses its link as it is. -/
theorem State.cross_dropFlight {s : State} (h : s.Clean) (i : Nat) (f : Flight) :
    (s.meshFeed.dropFlight i).cross f = (s.meshFeed.dropFlight i, some (f.pkt, [])) :=
  State.cross_of_clean (State.clean_dropFlight h i) f

/-! ### Routers (R134, R138, R152) -/

/-- The packet waits for its output. -/
theorem State.routerTake_of_route {s : State} {r k : Nat} {f : Flight} {np : Place} (hk : k < f.pkt.h.nc)
    (hplace : nextPlace s.grade r k (rtCode f.pkt.h.rt k) = some np) (i port : Nat) :
    s.routerTake i f r port k f.pkt [] = { s with welt := { s.welt with
      flight := s.welt.flight.insertIdx i { f with crossed := true, ready := true } } } := by
  have hroute : ¬ (f.pkt.h.nc ≤ k ∨ (nextPlace s.grade r k (rtCode f.pkt.h.rt k)).isNone = true) := by
    rw [hplace]
    simp [hk]
  rw [State.routerTake, Pkt.spoil_nil]
  exact if_neg hroute

theorem State.routerTake_of_no_route {s : State} {r k : Nat} {f : Flight}
    (hroute : f.pkt.h.nc ≤ k ∨ nextPlace s.grade r k (rtCode f.pkt.h.rt k) = none) (i port : Nat) :
    s.routerTake i f r port k f.pkt [] = s.rtDrop r port false f.pkt.h := by
  rw [State.routerTake, Pkt.spoil_nil]
  exact if_pos (hroute.imp_right Option.isNone_iff_eq_none.mpr)

section
variable {s : State} {i r port k : Nat} {f : Flight} (hrun : s.domRun 1 = true) (hclean : s.Clean) (hbefore : s.Before i r port k f)
include hrun hclean hbefore

theorem State.routerPacket_of_badHeader (bad : List Nat) :
    s.routerPacket i true bad = ((s.meshFeed.dropFlight i).rtDrop r port true f.pkt.h).meshRun := by
  obtain ⟨hi, hat, hentered, hready⟩ := hbefore
  simp [State.routerPacket, hi, hat, hrun, hentered, hready, State.cross_dropFlight hclean i]

theorem State.routerPacket_of_good :
    s.routerPacket i false [] = ((s.meshFeed.dropFlight i).routerTake i f r port k f.pkt []).meshRun := by
  obtain ⟨hi, hat, hentered, hready⟩ := hbefore
  simp [State.routerPacket, hi, hat, hrun, hentered, hready, State.cross_dropFlight hclean i, badUnits]

/-- The packet is handed on: it waits for its output, and the mesh moves. -/
theorem State.routerPacket_of_route {np : Place} (hk : k < f.pkt.h.nc)
    (hplace : nextPlace s.grade r k (rtCode f.pkt.h.rt k) = some np) :
    s.routerPacket i false [] = ({ s with welt := { s.meshFeed.welt with
      flight := s.meshFeed.welt.flight.set i { f with crossed := true, ready := true } } } : State).meshRun := by
  have hi : i < s.meshFeed.welt.flight.length := (List.getElem?_eq_some_iff.mp hbefore.1).1
  have hset := List.insertIdx_eraseIdx_self (Nat.ne_of_lt hi) { f with crossed := true, ready := true }
  rw [State.routerPacket_of_good hrun hclean hbefore,
    State.routerTake_of_route hk (by rwa [State.grade_dropFlight]), ← hset]
  obtain ⟨fl, hfeed⟩ := s.meshFeed_eq
  rw [hfeed]
  rfl

/-- The packet has no output and is dropped. -/
theorem State.routerPacket_of_no_route
    (hroute : f.pkt.h.nc ≤ k ∨ nextPlace s.grade r k (rtCode f.pkt.h.rt k) = none) :
    s.routerPacket i false [] = ((s.meshFeed.dropFlight i).rtDrop r port false f.pkt.h).meshRun := by
  rw [State.routerPacket_of_good hrun hclean hbefore,
    State.routerTake_of_no_route (by rwa [State.grade_dropFlight])]
end

/-! ### Target NIs (R147) -/

theorem State.eject_dropFlight {s : State} (h : s.Clean) (i n : Nat) (f : Flight) :
    (s.meshFeed.dropFlight i).eject n f false [] = (s.meshFeed.dropFlight i, some f.pkt) := by
  simp [State.eject, State.cross_dropFlight h, badUnits, Pkt.spoil_nil]

section
variable {s : State} {i n : Nat} {f : Flight} (hrun : s.domRun 1 = true) (hclean : s.Clean) (hat : s.At i n f)
include hrun hclean hat

theorem State.targetRequest_eq (hresp : f.pkt.h.resp = false) :
    s.targetRequest i false [] = ((s.meshFeed.dropFlight i).targetTake n f.pkt).meshRun := by
  obtain ⟨hi, hni, harrived⟩ := hat
  simp [State.targetRequest, hi, hni, hrun, hresp, harrived, State.eject_dropFlight hclean]

theorem State.weltResponse_eq (hresp : f.pkt.h.resp = true) :
    s.weltResponse i false [] = ((s.meshFeed.dropFlight i).responseTake n f.pkt).meshRun := by
  obtain ⟨hi, hni, harrived⟩ := hat
  simp [State.weltResponse, hi, hni, hrun, hresp, harrived, State.eject_dropFlight hclean]
end

/-- A sound request with no once tag goes on to the queue. -/
theorem State.targetTake_of_plain {s : State} {n : Nat} {p : Pkt} (hpois : p.pois = [])
    (hserved : (servingNis s.grade p.h.addr).contains n = true) (hcmd : p.h.cmd < 3) (honce : p.h.once = false) :
    s.targetTake n p = s.admitReq n p := by
  have hsound : ¬ ((servingNis s.grade p.h.addr).contains n = false ∨ 3 ≤ p.h.cmd) := by
    rw [hserved]
    simp [hcmd]
  simp only [State.targetTake, Pkt.poison, hpois, List.isEmpty_nil, Bool.not_true, Bool.false_eq_true, if_false, if_neg hsound,
    State.onceGate, honce, if_true]

/-- A request that the queue has room for meets the bridge: it passes, or its domain is off. -/
theorem State.admitReq_of_pass {s : State} {n : Nat} {p : Pkt} (hroom : s.heldAt n < 12)
    (hbridge : s.bridge (s.reqDom n p.h.addr) p.h.tnt = .pass) : s.admitReq n p = s.serve n p := by
  have hroom' : ¬ (16 ≤ s.heldAt n ∨ p.h.cls ≠ 0 ∧ 12 ≤ s.heldAt n) := by omega
  simp only [State.admitReq, if_neg hroom', hbridge]

theorem State.admitReq_of_off {s : State} {n : Nat} {p : Pkt} (hroom : s.heldAt n < 12)
    (hbridge : s.bridge (s.reqDom n p.h.addr) p.h.tnt = .off) :
    s.admitReq n p = s.respond n p .domainOff false false [] := by
  have hroom' : ¬ (16 ≤ s.heldAt n ∨ p.h.cls ≠ 0 ∧ 12 ≤ s.heldAt n) := by omega
  simp only [State.admitReq, if_neg hroom', hbridge]

/-- Shared SRAM is neither a core's memory nor DRAM. -/
theorem memRow_sram {g : Grade} {a : Nat} (h : memRow g a = some 1) : 0x10000000 ≤ a ∧ a < 0x10300000 := by
  have hregion : memRegion a = some 1 := by
    rw [memRow] at h
    split at h
    · cases h
    · exact h
  rw [memRegion] at hregion
  split_ifs at hregion
  all_goals
    simp only [Option.some.injEq] at hregion
    omega

/-- A plain write of shared SRAM. -/
theorem State.serve_sramWrite {s : State} {n : Nat} {p : Pkt} (hcmd : p.h.cmd = 2) (honce : p.h.once = false)
    (hrow : memRow s.grade p.h.addr = some 1) (hreg : regPage p.h.addr = none)
    (hone : oneRow s.grade p.h.addr (p.h.size + 1) = true) :
    s.serve n p = (s.wrBytes p.h.addr p.data).respond n p .ok false false [] := by
  have hlow : p.h.addr < 0x30000000 := by
    have := memRow_sram hrow
    omega
  have hhole : coreHole p.h.addr (p.h.size + 1) = false := by
    rw [coreHole, decide_eq_false_iff_not]
    omega
  have hserve : s.memServe p = (s.wrBytes p.h.addr p.data, .ok, p.h, []) := by
    simp [State.memServe, hone, hhole, hrow, hcmd, State.coreExt, hlow, State.dramAccept]
  simp only [State.serve, hreg, hserve, honce, Bool.false_eq_true, if_false]

/-! ### Responses (R151) -/

theorem State.responseTake_of_awake {s : State} {n : Nat} {p : Pkt} (hdom : s.dom (niDom n) = .run)
    (heff : s.domEff (niDom n) = .run) : s.responseTake n p = s.deliver n p := by
  simp [State.responseTake, State.domRun, hdom, heff]

/-- Only NI0 and NI5 carry requests of the far parts on the lanes. -/
theorem State.linkSettle_of_no_lane {n : Nat} (h0 : n ≠ 0) (h5 : n ≠ 5) (s : State) : s.linkSettle n = s := by
  refine foldl_stays fun l _ => if_pos ?_
  rw [laneNi]
  split
  · exact h0.symm
  · exact h5.symm

theorem State.length_of_out {s : State} {n : Nat} {p : Outst → Bool} {o : Outst} (h : (s.ni n).out.find? p = some o) :
    n < s.welt.nis.length := by
  by_contra hn
  simp [State.ni, List.getD_eq_getElem?_getD, hn, NiSt.zero] at h

/-- A response that is matched ends its request. -/
theorem State.acceptResponse_of_matched {s : State} {n : Nat} {p : Pkt} {o : Outst}
    (h : ((s.ni n).out.find? fun o : Outst => o.pkt.h.tid == p.h.tid && o.pkt.h.seq == p.h.seq) = some o) :
    ((s.acceptResponse n p).ni n).out = ((s.ni n).out.filter fun q : Outst => !(q.pkt.h.tid == p.h.tid)) ∧
      (s.acceptResponse n p).mem = s.mem := by
  have hless : (if p.poison = true then s.ev (pgNI n) 5 else s).regless = s.regless := by simp
  set t := (if p.poison = true then s.ev (pgNI n) 5 else s) with ht
  have hlen : n < t.welt.nis.length := by
    rw [State.welt_of_regless hless]
    exact State.length_of_out h
  have hbooks := (State.Books.refl (t.updNi n fun x =>
    { x with out := x.out.filter fun q => !(q.pkt.h.tid == p.h.tid) })).partDone n o.grp o.pkt.h.addr
    (if p.poison then .dataErr else stsOf p.h.sts) p.h.dem (p.h.late || (p.h.cls == 0 && o.lapsed)) p.data
  rw [State.acceptResponse, h]
  refine ⟨(hbooks.out n).trans ?_, hbooks.mem.trans (State.mem_of_regless hless :)⟩
  rw [State.ni_updNi_same hlen, State.ni_of_regless hless]

end Sys2Proof.Machine
end

section
/-! Requests whose time is over (06 R147, R151): sent again, ended, or answered because their domain did not wake. -/

namespace Sys2Proof.Machine

/-! ### Responses that have not come (R151) -/

/-- The outstanding request with this TID has been sent again. -/
def Outst.resent (now tid : Nat) (q : Outst) : Outst :=
  if q.pkt.h.tid = tid then { q with sent := now, attempts := q.attempts + 1 } else q

section
variable {s : State} {n tid : Nat} {o : Outst} (ho : ((s.ni n).out.find? fun o : Outst => o.pkt.h.tid == tid) = some o)
  (hdue : s.f (pgNI n) 0x048 23 0 ≤ s.now - o.sent)
include ho hdue

theorem State.responseTimeout_of_again (hagain : o.again = true ∧ o.attempts < s.f (pgNI n) 0x04C 7 0) :
    s.responseTimeout n tid = ((s.updNi n fun x => { x with out := x.out.map (Outst.resent s.now tid) }).updStat n fun c =>
      { c with retry := sat32 c.retry 1 }).inject n o.pkt := by
  rw [State.responseTimeout, ho]
  exact (if_neg (by omega)).trans (if_pos hagain)

theorem State.responseTimeout_of_spent (hspent : ¬ (o.again = true ∧ o.attempts < s.f (pgNI n) 0x04C 7 0)) :
    s.responseTimeout n tid = ((s.updNi n fun x => { x with out := x.out.filter fun q => !(q.pkt.h.tid == tid) }).ev (pgNI n)
      2).partDone n o.grp o.pkt.h.addr .timeout false false [] := by
  rw [State.responseTimeout, ho]
  exact (if_neg (by omega)).trans (if_neg hspent)
end

/-! ### Domains that have not woken (R147) -/

/-- Packets have joined the mesh, and a sender may have got its answer. -/
def State.replied (s : State) (fl : List Flight) (resp : Resp) : State :=
  { s with welt := { s.welt with flight := s.welt.flight ++ fl }, resp := resp }

theorem State.replied_nil (s : State) : s.replied [] s.resp = s := by simp [State.replied]

theorem State.replied_replied (s : State) (fl fl' : List Flight) (resp resp' : Resp) :
    (s.replied fl resp).replied fl' resp' = s.replied (fl ++ fl') resp' := by simp [State.replied]

theorem State.respond_eq (s : State) (n : Nat) (p : Pkt) (st : Sts) (dem late : Bool) (data : List Byte) :
    ∃ f, s.respond n p st dem late data = s.replied [f] s.resp := ⟨_, rfl⟩

/-- Each of the packets held is answered by one response. -/
theorem foldl_respond (n : Nat) (st : Sts) (ps : List Pkt) (s : State) :
    ∃ fl, ps.foldl (fun s p => s.respond n p st false false []) s = s.replied fl s.resp ∧ fl.length = ps.length := by
  induction ps generalizing s with
  | nil => exact ⟨[], s.replied_nil.symm, rfl⟩
  | cons p ps ih =>
    obtain ⟨f, hf⟩ := s.respond_eq n p st false false []
    obtain ⟨fl, hfold, hlen⟩ := ih (s.replied [f] s.resp)
    refine ⟨f :: fl, ?_, congrArg (· + 1) hlen⟩
    rw [List.foldl_cons, hf, hfold, State.replied_replied]
    rfl

/-- DOMAIN_OFF for an access that waits: to the packet it came in, or to its sender. -/
def State.offAnswer (n : Nat) (s : State) (e : Acc × Option Pkt) : State :=
  match e.2 with
  | none => s.answer .domainOff 0
  | some p => s.respond n p .domainOff false false []

theorem foldl_offAnswer (n : Nat) (es : List (Acc × Option Pkt)) (s : State) :
    ∃ fl resp, es.foldl (State.offAnswer n) s = s.replied fl resp := by
  induction es generalizing s with
  | nil => exact ⟨[], s.resp, s.replied_nil.symm⟩
  | cons e es ih =>
    obtain ⟨fl, resp, he⟩ : ∃ fl resp, s.offAnswer n e = s.replied fl resp := by
      rw [State.offAnswer]
      split
      · exact ⟨[], _, (State.replied_nil (s.answer .domainOff 0)).symm⟩
      · obtain ⟨f, hf⟩ := s.respond_eq n ‹_› .domainOff false false []
        exact ⟨[f], s.resp, hf⟩
    obtain ⟨fl', resp', hfold⟩ := ih (s.replied fl resp)
    exact ⟨fl ++ fl', resp', by rw [List.foldl_cons, he, hfold, State.replied_replied]⟩

/-- Whether an access waits for the domain behind NI `n`. -/
def State.waitsFor (s : State) (n : Nat) (e : Acc × Option Pkt) : Bool :=
  niOfPage s.grade e.1.pg == some n && pageDom e.1.pg == niDom n && !s.domRun (niDom n) && (pageBlk s.grade e.1.pg).isSome

/-- The bridge of NI `n` holds nothing more, and asks for no wake. -/
def State.unheld (s : State) (n : Nat) : State :=
  { (s.updNi n fun x => { x with held := [], wakeAt := none }) with waiting := s.waiting.filter fun e => !s.waitsFor n e }

theorem State.ni_unheld {s : State} {n : Nat} (hn : n < s.welt.nis.length) :
    (s.unheld n).ni n = { s.ni n with held := [], wakeAt := none } := State.ni_updNi_same hn _

theorem State.wakeFail_eq {s : State} {n t0 : Nat} (hrun : s.domRun 1 = true) (hwake : (s.ni n).wakeAt = some t0)
    (hlate : t0 + 102400 ≤ s.now) :
    ∃ fl resp, s.wakeFail n = ((s.unheld n).replied fl resp).err (pgNI n) 0x6111 (niDom n) ∧
      (s.waiting = [] → fl.length = (s.ni n).held.length) := by
  have hdue : ¬ (s.domRun 1 = false ∨ s.now < t0 + 102400) := by
    rw [hrun]
    simp [hlate]
  have hfold : s.wakeFail n = ((s.waiting.filter (s.waitsFor n)).foldl (State.offAnswer n)
      ((s.ni n).held.foldl (fun s p => s.respond n p .domainOff false false []) (s.unheld n))).err (pgNI n) 0x6111 (niDom n) := by
    rw [State.wakeFail, hwake]
    exact if_neg hdue
  obtain ⟨fl, hheld, hlen⟩ := foldl_respond n .domainOff (s.ni n).held (s.unheld n)
  rw [hfold, hheld]
  by_cases hwait : s.waiting = []
  · exact ⟨fl, _, by rw [hwait]; rfl, fun _ => hlen⟩
  · obtain ⟨fl', resp, hrest⟩ := foldl_offAnswer n (s.waiting.filter (s.waitsFor n))
      ((s.unheld n).replied fl (s.unheld n).resp)
    exact ⟨fl ++ fl', resp, by rw [hrest, State.replied_replied], fun h => absurd h hwait⟩

/-! ### The statement -/

/-- Settles O27: each command is one branch of its chain of checks, and the mesh then runs. -/
theorem packetsAreRoutedAndServed : Obligations.PacketsAreRoutedAndServed := by
  refine ⟨?route, ?alone, ?badHeader, ?noRoute, ?sramWrite, ?domainOff, ?response, ?timeout, ?wakeFail⟩
  case route =>
    intro s i r port k f np hrun hclean hbefore hk hplace
    exact congrArg Host.Outcome.next (State.routerPacket_of_route hrun hclean hbefore hk hplace)
  case alone =>
    intro s r port k d f np hrun hclean hflight hat hready hunits hsrc hcls hk hplace
    have hfeed : s.meshFeed = s := State.meshFeed_of_sent (by simp [hflight, hsrc])
    have hbefore : s.Before 0 r port k f := by
      refine ⟨?_, hat, ?_, hready⟩
      · rw [hfeed, hflight]
        rfl
      · simp [Flight.entered, hunits]
    have hnext := State.routerPacket_of_route hrun hclean hbefore hk hplace
    rw [hfeed, hflight, List.set_cons_zero] at hnext
    obtain ⟨arbs, hmesh⟩ := State.meshRun_of_alone (s := { s with welt := { s.welt with
      flight := [{ f with crossed := true, ready := true }] } }) (f := { f with crossed := true, ready := true }) hrun rfl hat
      hunits hsrc rfl hcls hplace
    exact ⟨_, congrArg Host.Outcome.next (hnext.trans hmesh), rfl, rfl, rfl, rfl, rfl⟩
  case badHeader =>
    intro s i r port k f bad hrun hclean hbefore
    exact congrArg Host.Outcome.next (State.routerPacket_of_badHeader hrun hclean hbefore bad)
  case noRoute =>
    intro s i r port k f hrun hclean hbefore hroute
    exact congrArg Host.Outcome.next (State.routerPacket_of_no_route hrun hclean hbefore hroute)
  case sramWrite =>
    intro s i n f hrun hclean hat hcmd honce hpois hserved hrow hreg hone hroom hpass
    have hresp : f.pkt.h.resp = false := by simp [Hdr.resp, hcmd]
    have hdom : s.reqDom n f.pkt.h.addr = niDom n := by rw [State.reqDom, hreg]
    refine congrArg Host.Outcome.next ((State.targetRequest_eq hrun hclean hat hresp).trans (congrArg State.meshRun ?_))
    obtain ⟨fl, hdrop⟩ := s.dropFlight_eq i
    rw [hdrop, State.targetTake_of_plain (s := s.withFlight fl) hpois hserved (by omega) honce,
      State.admitReq_of_pass (s := s.withFlight fl) hroom (by simpa [hdom] using hpass),
      State.serve_sramWrite (s := s.withFlight fl) hcmd honce hrow hreg hone]
  case domainOff =>
    intro s i n f hrun hclean hat hcmd honce hpois hserved hroom hoff
    have hresp : f.pkt.h.resp = false := by
      rw [Hdr.resp, Bool.or_eq_false_iff, beq_eq_false_iff_ne, beq_eq_false_iff_ne]
      omega
    refine congrArg Host.Outcome.next ((State.targetRequest_eq hrun hclean hat hresp).trans (congrArg State.meshRun ?_))
    obtain ⟨fl, hdrop⟩ := s.dropFlight_eq i
    rw [hdrop, State.targetTake_of_plain (s := s.withFlight fl) hpois hserved hcmd honce,
      State.admitReq_of_off (s := s.withFlight fl) hroom hoff]
  case response =>
    intro s i n f hrun hclean hat hresp hdom heff
    obtain ⟨fl, hdrop⟩ := s.dropFlight_eq i
    have hdeliver := State.weltResponse_eq hrun hclean hat hresp
    rw [hdrop, State.responseTake_of_awake (s := s.withFlight fl) hdom heff] at hdeliver
    refine ⟨congrArg Host.Outcome.next (by rw [hdrop]; exact hdeliver), fun h0 h5 o ho =>
      ⟨_, congrArg Host.Outcome.next hdeliver, ?_⟩⟩
    have hmatched := State.acceptResponse_of_matched (s := s.withFlight fl) ho
    rwa [State.ni_meshRun, State.mem_meshRun, State.deliver, State.linkSettle_of_no_lane h0 h5]
  case timeout =>
    intro s n tid o hrun hn ho hdue
    refine ⟨congrArg Host.Outcome.next (if_pos hrun), fun hagain hleft => ?again, fun hspent => ?spent⟩
    case again =>
      rw [State.responseTimeout_of_again ho hdue ⟨hagain, hleft⟩]
      set u := s.updNi n fun x => { x with out := x.out.map (Outst.resent s.now tid) } with hu
      have hbooks := (State.Books.refl u).updStat n fun c => { c with retry := sat32 c.retry 1 }
      exact ⟨rfl, rfl, rfl, (hbooks.out n).trans (congrArg NiSt.out (State.ni_updNi_same hn _))⟩
    case spent =>
      have hlast : ¬ (o.again = true ∧ o.attempts < s.f (pgNI n) 0x04C 7 0) := by
        rintro ⟨hagain, hleft⟩
        rcases hspent with hno | hmax
        · rw [hno] at hagain
          cases hagain
        · omega
      rw [State.responseTimeout_of_spent ho hdue hlast]
      set e := (s.updNi n fun x => { x with out := x.out.filter fun q => !(q.pkt.h.tid == tid.val) }).ev (pgNI n) 2 with he
      have hbooks := (State.Books.refl e).partDone n o.grp o.pkt.h.addr .timeout false false []
      exact ⟨(hbooks.f _ _ _ _).trans (State.f_ev_same _ _ (by decide)), hbooks.mem,
        (hbooks.out n).trans (congrArg NiSt.out (State.ni_updNi_same hn _))⟩
  case wakeFail =>
    intro s n t0 hrun hwake hlate hn
    obtain ⟨fl, resp, hfail, hlen⟩ := State.wakeFail_eq hrun hwake hlate
    have hless := State.regless_err ((s.unheld n).replied fl resp) (pgNI n) 0x6111 (niDom n)
    have hni := State.ni_of_regless hless n
    have hheld : ((s.unheld n).replied fl resp).ni n = { s.ni n with held := [], wakeAt := none } := State.ni_unheld hn
    rw [hheld] at hni
    refine ⟨_, congrArg Host.Outcome.next hfail, by rw [hni], by rw [hni], State.f_err_code _ _ _ _, State.r_err_info _ _ _ _,
      (State.mem_of_regless hless :), fun hwait => ⟨?_, ?_⟩⟩
    · rw [State.welt_of_regless hless, ← hlen hwait]
      exact List.length_append
    · rw [State.waiting_of_regless hless]
      simp [State.replied, State.unheld, hwait]

end Sys2Proof.Machine
end

section
/-! The words of the Rhoif-16's syllables (07 R165, R166; 08 R197, R204; 09 R219, R221, R228): what the fields of an encoded word
hold, and that the decoder reads them back. -/

namespace Sys2Proof.Machine

/-! ### The fields of a word written as a number -/

theorem fldOf_ofNat {n : Nat} (hn : n < 2 ^ 32) (hi lo : Nat) : fldOf (BitVec.ofNat 32 n) hi lo = n / 2 ^ lo % 2 ^ (hi + 1 - lo) := by
  rw [fldOf, BitVec.toNat_ofNat, Nat.mod_eq_of_lt hn, Nat.shiftRight_eq_div_pow]

/-- A field of bits below bit 23 sees nothing of what stands above. -/
theorem low_field {hi lo : Nat} (hlo : lo ≤ hi) (hhi : hi < 23) (top bits : Nat) :
    (top * 2 ^ 23 + bits) / 2 ^ lo % 2 ^ (hi + 1 - lo) = bits / 2 ^ lo % 2 ^ (hi + 1 - lo) := by
  have h23 : 2 ^ 23 = 2 ^ lo * (2 ^ (hi + 1 - lo) * 2 ^ (22 - hi)) := by
    rw [← Nat.pow_add, ← Nat.pow_add]
    congr 1
    omega
  have hsplit : top * 2 ^ 23 + bits = bits + 2 ^ lo * (2 ^ (hi + 1 - lo) * (top * 2 ^ (22 - hi))) := by
    rw [h23]; ring
  rw [hsplit, Nat.add_mul_div_left _ _ (Nat.two_pow_pos lo), Nat.add_mul_mod_self_left]

/-! ### Sizes of the fields -/

theorem b2n_lt (b : Bool) : b2n b < 2 := by cases b <;> decide

theorem mulCode_lt (k : MKind) : mulCode k < 64 := by cases k <;> decide
theorem accCode_lt (k : AKind) : accCode k < 64 := by cases k <;> decide
theorem regCode_lt (k : RKind) : regCode k < 64 := by cases k <;> decide
theorem immCode_lt (k : IKind) : immCode k < 64 := by cases k <;> decide

theorem opCode_lt (y : Syl) : opCode y < 64 := by
  obtain ⟨slot, op⟩ := y
  cases op
  case m k _ _ _ => exact mulCode_lt k
  case a k _ _ _ _ _ _ => exact accCode_lt k
  case i k _ _ _ => exact immCode_lt k
  case r k _ _ _ _ => simp only [opCode]; split; exacts [by decide, regCode_lt k]
  case movi => simp only [opCode]; split <;> decide
  case reserved => simp only [opCode]; split <;> decide
  all_goals simp [opCode]

theorem slotNum_lt (s : Slot) : s.num < 4 := by cases s <;> decide

theorem mopBits_lt {m : MOp} (h : MOp.fits m = true) : mopBits m < 256 := by
  cases m <;> simp [MOp.fits] at h <;> simp only [mopBits] <;> omega

theorem opBits_lt {o : Op} (h : opFits o = true) : opBits o < 2 ^ 23 := by
  have hbit := b2n_lt
  have hhalf (w : Half) : w.toNat < 65536 := w.isLt
  cases o
  case m k acd a b =>
    simp only [opFits, Bool.and_eq_true, decide_eq_true_eq] at h
    have ha := mopBits_lt h.1.2
    have hb := mopBits_lt h.2
    simp only [opBits]; omega
  case doLoop rt creg cimm ofs =>
    have hrt := b2n_lt rt
    cases creg <;> simp [opFits, cntFits] at h <;> simp only [opBits, cregBits] <;> omega
  case rep creg cimm | repi creg cimm =>
    cases creg <;> simp [opFits, cntFits] at h <;> simp only [opBits, cregBits] <;> omega
  case limx d d2 ext => cases d2 <;> simp [opFits] at h <;> simp only [opBits] <;> omega
  all_goals
    simp [opFits] at h
    simp only [opBits]
    grind

/-! ### The fields of an encoded word -/

/-- The fields of `f` are those of the syllable `y`: its slot, its opcode and its operands. -/
structure FieldsOf (y : Syl) (f : Nat → Nat → Nat) : Prop where
  slot : f 30 29 = y.slot.num
  code : f 28 23 = opCode y
  operand : ∀ hi lo, lo ≤ hi → hi < 23 → f hi lo = opBits y.op / 2 ^ lo % 2 ^ (hi + 1 - lo)

/-- The word of a syllable as one number, below 2 to the 32. -/
theorem encodeSyl_number_lt {y : Syl} (hfit : opFits y.op = true) (stop : Bool) :
    b2n stop * 2 ^ 31 + y.slot.num * 2 ^ 29 + opCode y * 2 ^ 23 + opBits y.op < 2 ^ 32 := by
  have hstop := b2n_lt stop
  have hslot := slotNum_lt y.slot
  have hcode := opCode_lt y
  have hbits := opBits_lt hfit
  omega

theorem fieldsOf_encodeSyl {y : Syl} (hfit : opFits y.op = true) (stop : Bool) : FieldsOf y (fldOf (encodeSyl y stop)) := by
  have hlt := encodeSyl_number_lt hfit stop
  have hslot := slotNum_lt y.slot
  have hcode := opCode_lt y
  have hbits := opBits_lt hfit
  refine ⟨?_, ?_, fun hi lo hlo hhi => ?_⟩ <;> rw [encodeSyl, fldOf_ofNat hlt]
  · omega
  · omega
  · have htop : b2n stop * 2 ^ 31 + y.slot.num * 2 ^ 29 + opCode y * 2 ^ 23 = (b2n stop * 2 ^ 8 + y.slot.num * 2 ^ 6 + opCode y) * 2 ^ 23 := by
      ring
    rw [htop, low_field hlo hhi]

theorem msb_encodeSyl {y : Syl} (hfit : opFits y.op = true) (stop : Bool) : (encodeSyl y stop).msb = stop := by
  have hslot := slotNum_lt y.slot
  have hcode := opCode_lt y
  have hbits := opBits_lt hfit
  rw [encodeSyl, BitVec.msb_eq_decide, BitVec.toNat_ofNat, Nat.mod_eq_of_lt (encodeSyl_number_lt hfit stop)]
  cases stop <;> simp [b2n] <;> omega

/-! ### Fields read back -/

/-- A field of one bit read as a Boolean. -/
theorem mod_two_beq_one (n : Nat) (b : Bool) : (n % 2 == 1) = b ↔ n % 2 = b2n b := by
  have := b2n_lt b
  cases b <;> simp [b2n]

/-- A field of sixteen bits read as a word. -/
theorem ofNat_eq_half (n : Nat) (w : Half) : BitVec.ofNat 16 n = w ↔ n % 65536 = w.toNat := by
  rw [← BitVec.toNat_inj, BitVec.toNat_ofNat]

/-- An operand of format M from its four fields (R197). -/
theorem mop_of_fields {m : MOp} (h : MOp.fits m = true) {mem ptr md reg : Nat} (hmem : mem = mopBits m / 128)
    (hptr : ptr = mopBits m / 32 % 4) (hmd : md = mopBits m / 8 % 4) (hreg : reg = mopBits m % 128) :
    (if mem = 1 then MOp.mem ptr md else .reg reg) = m := by
  subst hmem hptr hmd hreg
  cases m with
  | reg k =>
    simp only [MOp.fits, decide_eq_true_eq] at h
    rw [mopBits, if_neg (by omega), Nat.mod_eq_of_lt h]
  | mem ptr md =>
    simp only [MOp.fits, Bool.and_eq_true, decide_eq_true_eq] at h
    rw [mopBits, if_pos (by omega)]
    congr 1 <;> omega

section
variable {slot : Slot} {o : Op} {f : Nat → Nat → Nat} {ext : Word}

/-- A multiply from its fields (R197). -/
theorem decM_of_fieldsOf {k : MKind} {acd : Nat} {a b : MOp} (h : FieldsOf ⟨slot, .m k acd a b⟩ f)
    (hfit : opFits (.m k acd a b) = true) : decM f k = .m k acd a b := by
  simp only [opFits, Bool.and_eq_true, decide_eq_true_eq] at hfit
  obtain ⟨⟨hacd, ha⟩, hb⟩ := hfit
  have hla := mopBits_lt ha
  have hlb := mopBits_lt hb
  have hf := h.operand
  simp only [opBits] at hf
  have hfa := mop_of_fields ha (mem := f 20 20) (ptr := f 19 18) (md := f 17 16) (reg := f 19 13)
    (by rw [hf _ _ (by decide) (by decide)]; omega) (by rw [hf _ _ (by decide) (by decide)]; omega)
    (by rw [hf _ _ (by decide) (by decide)]; omega) (by rw [hf _ _ (by decide) (by decide)]; omega)
  have hfb := mop_of_fields hb (mem := f 12 12) (ptr := f 11 10) (md := f 9 8) (reg := f 11 5)
    (by rw [hf _ _ (by decide) (by decide)]; omega) (by rw [hf _ _ (by decide) (by decide)]; omega)
    (by rw [hf _ _ (by decide) (by decide)]; omega) (by rw [hf _ _ (by decide) (by decide)]; omega)
  have hfacd : f 22 21 = acd := by rw [hf _ _ (by decide) (by decide)]; omega
  simp only [decM, hfa, hfb, hfacd]

/-- An accumulator operation from its fields (R197). -/
theorem opA_of_fieldsOf {k : AKind} {acd acs r sh : Nat} {sbx det : Bool} (h : FieldsOf ⟨slot, .a k acd acs r sbx sh det⟩ f)
    (hfit : opFits (.a k acd acs r sbx sh det) = true) :
    Op.a k (f 22 21) (f 20 19) (f 18 12) (f 11 11 == 1) (f 10 5) (f 4 4 == 1) = .a k acd acs r sbx sh det := by
  simp only [opFits, Bool.and_eq_true, decide_eq_true_eq] at hfit
  have hsbx := b2n_lt sbx
  have hdet := b2n_lt det
  simp (disch := decide) only [h.operand, opBits, Nat.reducePow, Nat.reduceAdd, Nat.reduceSub, pow_one, Op.a.injEq, mod_two_beq_one, true_and]
  omega

/-- A register operation from its fields (R197). -/
theorem opR_of_fieldsOf {k : RKind} {d a b : Nat} {det : Bool} (h : FieldsOf ⟨slot, .r k d a b det⟩ f)
    (hfit : opFits (.r k d a b det) = true) : Op.r k (f 22 16) (f 15 9) (f 8 2) (f 1 1 == 1) = .r k d a b det := by
  simp only [opFits, Bool.and_eq_true, decide_eq_true_eq] at hfit
  have hdet := b2n_lt det
  simp (disch := decide) only [h.operand, opBits, Nat.reducePow, Nat.reduceAdd, Nat.reduceSub, pow_one, Op.r.injEq, mod_two_beq_one, true_and]
  omega

/-- An operation with an immediate from its fields (R197). -/
theorem opI_of_fieldsOf {k : IKind} {d a imm : Nat} (h : FieldsOf ⟨slot, .i k d a imm⟩ f)
    (hfit : opFits (.i k d a imm) = true) : Op.i k (f 22 16) (f 15 9) (f 8 0) = .i k d a imm := by
  simp only [opFits, Bool.and_eq_true, decide_eq_true_eq] at hfit
  simp (disch := decide) only [h.operand, opBits, Nat.reducePow, Nat.reduceAdd, Nat.reduceSub, Op.i.injEq, true_and]
  omega

/-- The load of an immediate from its fields (R197, R221). -/
theorem opMovi_of_fieldsOf {d : Nat} {imm : Half} (h : FieldsOf ⟨slot, .movi d imm⟩ f) (hfit : opFits (.movi d imm) = true) :
    Op.movi (f 22 16) (BitVec.ofNat 16 (f 15 0)) = .movi d imm := by
  have himm := imm.isLt
  simp only [opFits, decide_eq_true_eq] at hfit
  simp (disch := decide) only [h.operand, opBits, Nat.reducePow, Nat.reduceAdd, Nat.reduceSub, Op.movi.injEq, ofNat_eq_half]
  omega

/-- The MAC slots' decoder reads back what their syllables hold (R197, R204). -/
theorem decMac_of_fieldsOf (h : FieldsOf ⟨slot, o⟩ f) (hslot : slot = .mac0 ∨ slot = .mac1) (hfit : opFits o = true)
    (hok : slotOk ⟨slot, o⟩ = true) : decMac f = o := by
  have hcode := h.code
  have hagu : slot ≠ .agu := by rcases hslot with rfl | rfl <;> decide
  have hctl : slot ≠ .ctl := by rcases hslot with rfl | rfl <;> decide
  unfold decMac
  cases o
  case m k acd a b => rw [hcode]; cases k <;> exact decM_of_fieldsOf h hfit
  case a k acd acs r sbx sh det => rw [hcode]; cases k <;> exact opA_of_fieldsOf h hfit
  case r k d a b det => rw [hcode.trans (if_neg hagu)]; cases k <;> exact opR_of_fieldsOf h hfit
  case i k d a imm => rw [hcode]; cases k <;> exact opI_of_fieldsOf h hfit
  case movi d imm => rw [hcode.trans (if_neg hagu)]; exact opMovi_of_fieldsOf h hfit
  case nop | bxclr => rw [hcode]; rfl
  case reserved => rw [hcode.trans (if_pos hslot)]; rfl
  all_goals simp [slotOk, hagu, hctl] at hok

/-- The AGU's decoder reads back what its syllables hold (R221). -/
theorem decAgu_of_fieldsOf (h : FieldsOf ⟨.agu, o⟩ f) (hfit : opFits o = true) (hmov : aguMovOk ⟨.agu, o⟩ = true)
    (hok : slotOk ⟨.agu, o⟩ = true) : decAgu f (extOf ⟨.agu, o⟩) = o := by
  have hcode := h.code
  unfold decAgu
  cases o
  case nop | reserved => rw [hcode]; rfl
  case r k d a b det =>
    obtain rfl : k = .mov := by simpa [slotOk] using hok
    obtain ⟨rfl, rfl⟩ : b = 0 ∧ det = false := by simpa [aguMovOk] using hmov
    have hr := opR_of_fieldsOf h hfit
    rw [Op.r.injEq] at hr
    rw [show f 28 23 = 0x06 from hcode, hr.2.1, hr.2.2.1]; rfl
  case movi d imm => rw [show f 28 23 = 0x07 from hcode]; exact opMovi_of_fieldsOf h hfit
  case ld reg y ptr amod =>
    rw [hcode]
    simp only [opFits, Bool.and_eq_true, decide_eq_true_eq] at hfit
    have hy := b2n_lt y
    simp (disch := decide) only [opCode, h.operand, opBits, Nat.reducePow, Nat.reduceAdd, Nat.reduceSub, pow_one, Op.ld.injEq, mod_two_beq_one]
    omega
  case st reg y ptr amod det =>
    rw [hcode]
    simp only [opFits, Bool.and_eq_true, decide_eq_true_eq] at hfit
    have hy := b2n_lt y
    have hdet := b2n_lt det
    simp (disch := decide) only [opCode, h.operand, opBits, Nat.reducePow, Nat.reduceAdd, Nat.reduceSub, pow_one, Op.st.injEq, mod_two_beq_one]
    omega
  case ldxy dx dy px mx py my =>
    rw [hcode]
    simp only [opFits, Bool.and_eq_true, decide_eq_true_eq] at hfit
    simp (disch := decide) only [opCode, h.operand, opBits, Nat.reducePow, Nat.reduceAdd, Nat.reduceSub, Op.ldxy.injEq]
    omega
  case pmod y ptr amod =>
    rw [hcode]
    simp only [opFits, Bool.and_eq_true, decide_eq_true_eq] at hfit
    have hy := b2n_lt y
    simp (disch := decide) only [opCode, h.operand, opBits, Nat.reducePow, Nat.reduceAdd, Nat.reduceSub, pow_one, Op.pmod.injEq, mod_two_beq_one]
    omega
  case paddi pr simm =>
    rw [hcode]
    simp only [opFits, decide_eq_true_eq] at hfit
    have hsimm := simm.isLt
    simp (disch := decide) only [opCode, h.operand, opBits, Nat.reducePow, Nat.reduceAdd, Nat.reduceSub, Op.paddi.injEq, ofNat_eq_half]
    omega
  case qset q dir w32 cls sreg creg ext =>
    rw [hcode]
    simp only [opFits, Bool.and_eq_true, decide_eq_true_eq] at hfit
    have hdir := b2n_lt dir
    have hw32 := b2n_lt w32
    simp (disch := decide) only [opCode, extOf, h.operand, opBits, Nat.reducePow, Nat.reduceAdd, Nat.reduceSub, pow_one, Op.qset.injEq, mod_two_beq_one, and_true]
    omega
  case qstop q =>
    rw [hcode]
    simp only [opFits, decide_eq_true_eq] at hfit
    simp (disch := decide) only [opCode, h.operand, opBits, Nat.reducePow, Nat.reduceAdd, Nat.reduceSub, Op.qstop.injEq]
    omega
  case qpop reg q w det =>
    rw [hcode]
    simp only [opFits, Bool.and_eq_true, decide_eq_true_eq] at hfit
    have hw := b2n_lt w
    have hdet := b2n_lt det
    simp (disch := decide) only [opCode, h.operand, opBits, Nat.reducePow, Nat.reduceAdd, Nat.reduceSub, pow_one, Op.qpop.injEq, mod_two_beq_one]
    omega
  case qpush reg q w =>
    rw [hcode]
    simp only [opFits, Bool.and_eq_true, decide_eq_true_eq] at hfit
    have hw := b2n_lt w
    simp (disch := decide) only [opCode, h.operand, opBits, Nat.reducePow, Nat.reduceAdd, Nat.reduceSub, pow_one, Op.qpush.injEq, mod_two_beq_one]
    omega
  case qpopm q w y ptr amod =>
    rw [hcode]
    simp only [opFits, Bool.and_eq_true, decide_eq_true_eq] at hfit
    have hw := b2n_lt w
    have hy := b2n_lt y
    simp (disch := decide) only [opCode, h.operand, opBits, Nat.reducePow, Nat.reduceAdd, Nat.reduceSub, pow_one, Op.qpopm.injEq, mod_two_beq_one]
    omega
  case qpushm q w y ptr amod =>
    rw [hcode]
    simp only [opFits, Bool.and_eq_true, decide_eq_true_eq] at hfit
    have hw := b2n_lt w
    have hy := b2n_lt y
    simp (disch := decide) only [opCode, h.operand, opBits, Nat.reducePow, Nat.reduceAdd, Nat.reduceSub, pow_one, Op.qpushm.injEq, mod_two_beq_one]
    omega
  case qwait q k =>
    rw [hcode]
    simp only [opFits, Bool.and_eq_true, decide_eq_true_eq] at hfit
    simp (disch := decide) only [opCode, h.operand, opBits, Nat.reducePow, Nat.reduceAdd, Nat.reduceSub, Op.qwait.injEq]
    omega
  case qsync q =>
    rw [hcode]
    simp only [opFits, decide_eq_true_eq] at hfit
    simp (disch := decide) only [opCode, h.operand, opBits, Nat.reducePow, Nat.reduceAdd, Nat.reduceSub, Op.qsync.injEq]
    omega
  all_goals simp [slotOk] at hok

/-- The CTL decoder reads back what its syllables hold (R228). -/
theorem decCtl_of_fieldsOf (h : FieldsOf ⟨.ctl, o⟩ f) (hfit : opFits o = true) (hok : slotOk ⟨.ctl, o⟩ = true) :
    decCtl f (extOf ⟨.ctl, o⟩) = o := by
  have hcode := h.code
  unfold decCtl
  cases o
  case nop | ret | rti | ei | di | ihold | waite | halt | reserved => rw [hcode]; rfl
  case skf cond q =>
    rw [hcode]
    simp only [opFits, Bool.and_eq_true, decide_eq_true_eq] at hfit
    simp (disch := decide) only [opCode, h.operand, opBits, Nat.reducePow, Nat.reduceAdd, Nat.reduceSub, Op.skf.injEq]
    omega
  case skr rc r bit =>
    rw [hcode]
    simp only [opFits, Bool.and_eq_true, decide_eq_true_eq] at hfit
    simp (disch := decide) only [opCode, h.operand, opBits, Nat.reducePow, Nat.reduceAdd, Nat.reduceSub, Op.skr.injEq]
    omega
  case br tgt =>
    rw [hcode]
    simp only [opFits, decide_eq_true_eq] at hfit
    simp (disch := decide) only [opCode, h.operand, opBits, Nat.reducePow, Nat.reduceAdd, Nat.reduceSub, Op.br.injEq]
    omega
  case brr r b =>
    rw [hcode]
    simp only [opFits, decide_eq_true_eq] at hfit
    have hb := b2n_lt b
    simp (disch := decide) only [opCode, h.operand, opBits, Nat.reducePow, Nat.reduceAdd, Nat.reduceSub, pow_one, Op.brr.injEq, mod_two_beq_one]
    omega
  case call tgt =>
    rw [hcode]
    simp only [opFits, decide_eq_true_eq] at hfit
    simp (disch := decide) only [opCode, h.operand, opBits, Nat.reducePow, Nat.reduceAdd, Nat.reduceSub, Op.call.injEq]
    omega
  case callr r b =>
    rw [hcode]
    simp only [opFits, decide_eq_true_eq] at hfit
    have hb := b2n_lt b
    simp (disch := decide) only [opCode, h.operand, opBits, Nat.reducePow, Nat.reduceAdd, Nat.reduceSub, pow_one, Op.callr.injEq, mod_two_beq_one]
    omega
  case lbrk lv =>
    rw [hcode]
    simp only [opFits, decide_eq_true_eq] at hfit
    simp (disch := decide) only [opCode, h.operand, opBits, Nat.reducePow, Nat.reduceAdd, Nat.reduceSub, Op.lbrk.injEq]
    omega
  case rrc set k =>
    rw [hcode]
    simp only [opFits, decide_eq_true_eq] at hfit
    have hset := b2n_lt set
    simp (disch := decide) only [opCode, h.operand, opBits, Nat.reducePow, Nat.reduceAdd, Nat.reduceSub, pow_one, Op.rrc.injEq, mod_two_beq_one]
    omega
  case doLoop rt creg cimm ofs =>
    rw [hcode]
    have hrt := b2n_lt rt
    cases creg <;> simp only [opFits, cntFits, Bool.and_eq_true, decide_eq_true_eq] at hfit <;>
      simp (disch := decide) only [opCode, h.operand, opBits, cregBits, Nat.reducePow, Nat.reduceAdd, Nat.reduceSub, pow_one,
        Op.doLoop.injEq, mod_two_beq_one]
    · rw [if_neg (by omega), if_neg (by omega)]
      simp only [true_and]
      omega
    · rw [if_pos (by omega), if_pos (by omega), Option.some.injEq]
      omega
  case rep creg cimm | repi creg cimm =>
    rw [hcode]
    cases creg <;> simp only [opFits, cntFits, Bool.and_eq_true, decide_eq_true_eq] at hfit <;>
      simp (disch := decide) only [opCode, h.operand, opBits, cregBits, Nat.reducePow, Nat.reduceAdd, Nat.reduceSub, pow_one,
        Op.rep.injEq, Op.repi.injEq]
    · rw [if_neg (by omega), if_neg (by omega)]
      simp only [true_and]
      omega
    · rw [if_pos (by omega), if_pos (by omega), Option.some.injEq]
      omega
  case limx d d2 ext =>
    rw [hcode]
    cases d2 <;> simp only [opFits, Bool.and_eq_true, decide_eq_true_eq] at hfit <;>
      simp (disch := decide) only [opCode, extOf, h.operand, opBits, Nat.reducePow, Nat.reduceAdd, Nat.reduceSub, pow_one,
        Op.limx.injEq, and_true]
    · rw [if_neg (by omega)]
      simp only [and_true]
      omega
    · rw [if_pos (by omega), Option.some.injEq]
      omega
  all_goals simp [slotOk] at hok

end

/-! ### The statement -/

/-- Settles O7: the decoder of each slot reads back the fields of the encoded word. -/
theorem syllablesDecodeAsEncoded : Obligations.SyllablesDecodeAsEncoded := by
  rintro ⟨slot, op⟩ stop hwf hok
  obtain ⟨hfit, hmov⟩ : opFits op = true ∧ aguMovOk ⟨slot, op⟩ = true := by simpa [Syl.wf] using hwf
  have h := fieldsOf_encodeSyl (y := ⟨slot, op⟩) hfit stop
  refine ⟨?_, msb_encodeSyl hfit stop⟩
  simp only [decodeSyl, h.slot]
  cases slot
  case mac0 => exact congrArg _ (decMac_of_fieldsOf h (.inl rfl) hfit hok)
  case mac1 => exact congrArg _ (decMac_of_fieldsOf h (.inr rfl) hfit hok)
  case agu => exact congrArg _ (decAgu_of_fieldsOf h hfit hmov hok)
  case ctl => exact congrArg _ (decCtl_of_fieldsOf h hfit hok)

end Sys2Proof.Machine
end

section
/-! A bundle that issues whole (09 R226), cut into its stages: the writes of its syllables, its control part, the time it
takes, and how the core goes on. `issueNow_eq` ties the stages to the model. -/

namespace Sys2Proof.Machine

/-- The registers a bundle names, FLG among them or not. -/
def namesFlg (b : List Syl) : Bool := (b.flatMap namedDests).contains 0x55

/-- The state after the registers, the store and the queue operations of a bundle. -/
def State.bundleWrites (s0 : State) (c : Nat) (b : List Syl) : State :=
  let es := b.map fun y => s0.sylEff c y
  let s := s0.updCore c fun k => applyEffs { k with pair := false, squash := false, wait := none, fresh := false } es
  b.foldl (fun s y => s.queueOp s0 c (namesFlg b) y) (s.applyMem c es)

/-- The core after the control syllable of a bundle, and whether a branch was taken. -/
def State.bundleCtl (s0 s : State) (c : Nat) (b : List Syl) : CoreSt × Bool :=
  let nxt := (s0.core c).pc + bundleLen b
  let r := match b.find? fun y => y.slot == .ctl with
    | some y => s0.ctlOp s c nxt y
    | none => ({ s.core c with pc := nxt }, false)
  if namesFlg b then ({ r.1 with flg := (s.core c).flg }, r.2) else r

/-- The cycles of a bundle. -/
def bundleCycles (k0 : CoreSt) (b : List Syl) (taken : Bool) : Nat := bundleStall k0 b + 1 + (if taken then 2 else 0)

/-- The core with the time of the bundle passed. -/
def CoreSt.timed (k0 k : CoreSt) (b : List Syl) (taken : Bool) : CoreSt :=
  let n := bundleCycles k0 b taken
  { latOf k0 k (k0.tick + bundleStall k0 b) b with
    tick := k0.tick + n, redir := taken, ext := (k0.ext.zip (bundleUse k0 b n)).map fun e => extPass e.1 e.2 n }

/-- The loop-back test at the end of a bundle. -/
def CoreSt.looped (k0 k : CoreSt) (b : List Syl) : CoreSt :=
  let l := loopBack k0 k k0.pc (b.flatMap namedDests)
  { l.1 with redir := l.2 || k.redir }

/-- The core as it goes on after a bundle: to its repetition, its branch target, or past the loop-back test. -/
def CoreSt.goesOn (k0 k : CoreSt) (b : List Syl) (taken : Bool) : CoreSt :=
  match k0.rep with
  | some rp =>
    if 1 < rp.left then { k with pc := k0.pc, rep := some { rp with left := rp.left - 1 } }
    else k0.looped { k with rep := none } b
  | none => if taken then k else k0.looped k b

/-- The state after a bundle, before HALT and the boundary act. -/
def State.bundleDone (s0 : State) (c : Nat) (b : List Syl) : State :=
  let s := s0.bundleWrites c b
  let r := s0.bundleCtl s c b
  let n := bundleCycles (s0.core c) b r.2
  ((s.cycles c n (bundleStall (s0.core c) b)).updCore c fun _ => (s0.core c).goesOn ((s0.core c).timed r.1 b r.2) b r.2).refill c n

/-- The whole of a bundle that issues without a fault. -/
theorem State.issueNow_eq {s0 : State} {c : Nat} {b : List Syl}
    (hfault : (b.filterMap fun y => s0.issueFault c ((s0.core c).pc + bundleLen b) y).head? = none) :
    s0.issueNow c b =
      (if b.any (fun y => y.op == .halt) then ((s0.bundleDone c b).sf (pgCORE c) 0x040 0 0 0).coreStop c 1
        else s0.bundleDone c b).boundary c := by
  unfold State.issueNow
  extract_lets
  split
  next h => rw [hfault] at h; cases h
  · rfl

end Sys2Proof.Machine
end

section
/-! The lengths of the lists of cores and units, and LLV (07 R161, R164, R171): every command keeps them. One lemma per function
of the model that answers a state, in the order of the model's files; each rests on those of the functions it calls. A block's
own update says what it leaves of its lists; only bundles, the switch of the array and the resets need more than that. -/

namespace Sys2Proof.Machine

/-! ### How the shape passes through updates, choices, pairs and folds -/

/-- If `s` is in shape, so is `t`. -/
def State.ShapeTo (s t : State) : Prop := s.Shape → t.Shape

/-- `t.Shape`, where simp does not look into it. -/
def State.ShapeAnyway (t : State) : Prop := t.Shape

/-- Where `P` is enough for `t` to have the shape of `s`, simp may replace the one by the other: the second disjunct
makes this an equivalence. -/
theorem shapeTo_iff {s t : State} {P : Prop} (h : P → s.ShapeTo t) (hn : ¬ s.Shape → P) :
    s.ShapeTo t ↔ P ∨ t.ShapeAnyway :=
  ⟨fun ht => (Classical.em s.Shape).elim (fun hs => .inr (ht hs)) fun hs => .inl (hn hs),
    fun ht => ht.elim h fun ht _ => ht⟩

/-- `f` keeps the shape, said so that simp replaces `s.ShapeTo (f t)` by `s.ShapeTo t`. -/
abbrev CarriesShape (f : State → State) : Prop :=
  ∀ s t : State, s.ShapeTo (f t) ↔ s.ShapeTo t ∨ (f t).ShapeAnyway

theorem carriesShape {f : State → State} (h : ∀ t : State, t.ShapeTo (f t)) : CarriesShape f :=
  fun _ t => shapeTo_iff (fun ht hs => h t (ht hs)) fun hs h => absurd h hs

@[simp, refl] theorem State.shapeTo_refl (s : State) : s.ShapeTo s := id

@[simp] theorem State.shapeTo_ite (s : State) (c : Prop) [Decidable c] (a b : State) :
    s.ShapeTo (if c then a else b) ↔ (s.ShapeTo a ∧ s.ShapeTo b) ∨ (if c then a else b).ShapeAnyway := by
  refine shapeTo_iff (fun ⟨ha, hb⟩ => ?_) fun hs => ⟨fun h => absurd h hs, fun h => absurd h hs⟩
  split
  · exact ha
  · exact hb

@[simp] theorem State.shapeTo_fst_ite {β : Type} (s : State) (c : Prop) [Decidable c] (a b : State × β) :
    s.ShapeTo (if c then a else b).1 ↔ (s.ShapeTo a.1 ∧ s.ShapeTo b.1) ∨ (if c then a else b).1.ShapeAnyway := by
  rw [apply_ite Prod.fst]
  exact s.shapeTo_ite c a.1 b.1

/-- The state of a pair that a function answers, where the function keeps the shape. -/
theorem State.shapeTo_of_eq {s t : State} {β : Type} {b : β} {p : State × β} (h : p = (t, b)) (hp : s.ShapeTo p.1) :
    s.ShapeTo t := by rwa [h] at hp

theorem State.ShapeTo.trans {s t u : State} (h : s.ShapeTo t) (h' : t.ShapeTo u) : s.ShapeTo u := fun hs => h' (h hs)

theorem State.ShapeTo.foldl {α : Type} {f : State → α → State} (hf : ∀ (t : State) a, t.ShapeTo (f t a))
    (l : List α) {s t : State} (h : s.ShapeTo t) : s.ShapeTo (l.foldl f t) := by
  induction l generalizing t with
  | nil => exact h
  | cons a l ih => exact ih (h.trans (hf t a))

@[simp] theorem shapeTo_foldl {α : Type} {f : State → α → State} (hf : ∀ (t : State) a, t.ShapeTo (f t a))
    (l : List α) : CarriesShape (l.foldl f ·) := carriesShape fun s => s.shapeTo_refl.foldl hf l

theorem State.ShapeTo.foldl_fst {α β : Type} {f : State × β → α → State × β}
    (hf : ∀ (r : State × β) a, r.1.ShapeTo (f r a).1) (l : List α) {s : State} {r : State × β} (h : s.ShapeTo r.1) :
    s.ShapeTo (l.foldl f r).1 := by
  induction l generalizing r with
  | nil => exact h
  | cons a l ih => exact ih (h.trans (hf r a))

@[simp] theorem shapeTo_foldl_fst {α β : Type} {f : State × β → α → State × β}
    (hf : ∀ (r : State × β) a, r.1.ShapeTo (f r a).1) (l : List α) (s : State) (r : State × β) :
    s.ShapeTo (l.foldl f r).1 ↔ s.ShapeTo r.1 ∨ (l.foldl f r).1.ShapeAnyway :=
  shapeTo_iff (fun h => h.foldl_fst hf l) fun hs h => absurd h hs

/-! ### The sizes -/

theorem forall_mem_modify {α : Type} {P : α → Prop} {f : α → α} {l : List α} {i : Nat} (hf : ∀ a, P a → P (f a))
    (h : ∀ a ∈ l, P a) : ∀ a ∈ l.modify i f, P a := by
  intro a ha
  obtain ⟨j, hj, rfl⟩ := List.mem_iff_getElem.mp ha
  rw [List.getElem_modify]
  split
  · exact hf _ (h _ (List.getElem_mem _))
  · exact h _ (List.getElem_mem _)

/-- The lists of a core have their lengths, and at most three loop levels are open (07 R161, R164, R171, R179). -/
def CoreSt.Sized (k : CoreSt) : Prop :=
  k.rf.length = 0x6C ∧ k.acc.length = 4 ∧ k.qs.length = 4 ∧ k.rot.length = 3 ∧ k.llv ≤ 3

/-- An update of what the sizes of a core do not depend on. -/
@[simp] theorem CoreSt.sized_update (k : CoreSt) (flg ipcHi pc rstk pair squash rep wait rel irq inReset run haltReq stepping
    fresh tick ready redir fbuf ext) :
    CoreSt.Sized ⟨k.rf, k.acc, flg, ipcHi, pc, rstk, k.rot, pair, squash, rep, wait, rel, irq, inReset, run, haltReq, stepping,
      fresh, tick, ready, redir, fbuf, ext, k.qs⟩ ↔ k.Sized := Iff.rfl

/-- An update of any field but the lists of cores and units, in blocks that keep their own lists' lengths. -/
@[simp] theorem State.shapeTo_update (s t : State) (fused regs act srst waiting lockWait fresh resp seam clk ltb ten adm
    welt grv ald sec isp sill scn icv light lace lin xspi adc pins wake pwr mem epoch now osc time freeCtr pending)
    (hnis : t.welt.nis.length = 26 → welt.nis.length = 26) (hports : t.grv.ports.length = 8 → grv.ports.length = 8)
    (hstore : t.grv.store.length = 8 → grv.store.length = 8) (hks : t.sec.ks.length = 32 → sec.ks.length = 32)
    (hlow : t.sec.low.length = 8 → sec.low.length = 8) (hpwm : t.light.pwm.length = 17 → light.pwm.length = 17) :
    let t' : State := ⟨t.grade, fused, regs, act, srst, waiting, lockWait, fresh, resp, seam, clk, ltb, ten, t.doms, adm,
      welt, t.cores, grv, ald, sec, t.caps, t.trig, isp, sill, scn, t.dps, icv, light, lace, t.awl, t.lanes, t.links, t.cans,
      lin, t.i2cs, t.spis, xspi, adc, pins, wake, pwr, mem, epoch, now, osc, time, freeCtr, pending⟩
    s.ShapeTo t' ↔ s.ShapeTo t ∨ t'.ShapeAnyway := by
  refine shapeTo_iff (fun ht hs => ?_) fun hs h => absurd h hs
  obtain ⟨hcores, htnis, ⟨htports, htstore⟩, hcaps, ⟨htks, htlow⟩, hdps, htpwm, hunits⟩ := ht hs
  exact ⟨hcores, hnis htnis, ⟨hports htports, hstore htstore⟩, hcaps, ⟨hks htks, hlow htlow⟩, hdps, hpwm htpwm, hunits⟩


/-! ### The sizes of a core, through the functions that give one -/

namespace CoreSt

theorem sized_ite {p : Prop} [Decidable p] {a b : CoreSt} (ha : a.Sized) (hb : b.Sized) : (if p then a else b).Sized := by
  split
  · exact ha
  · exact hb

theorem sized_foldl {α : Type} {f : CoreSt → α → CoreSt} (hf : ∀ (k : CoreSt) a, k.Sized → (f k a).Sized) (l : List α)
    {k : CoreSt} (h : k.Sized) : (l.foldl f k).Sized := by
  induction l generalizing k with
  | nil => exact h
  | cons a l ih => exact ih (hf k a h)

/-- A register other than LLV changes. -/
theorem sized_setRf {k : CoreSt} (code : Nat) (v : Half) (hne : code ≠ 0x6B) (h : k.Sized) :
    Sized { k with rf := k.rf.set code v } := by
  obtain ⟨hrf, hacc, hqs, hrot, hllv⟩ := h
  exact ⟨by simpa using hrf, hacc, hqs, hrot, by simpa [llv, List.getElem?_set_ne hne] using hllv⟩

theorem sized_put {k : CoreSt} {code : Nat} (v : Nat) (hne : code ≠ 0x6B) (h : k.Sized) : (k.put code v).Sized :=
  sized_setRf code _ hne h

/-- LLV itself changes, to at most three. -/
theorem sized_putLlv {k : CoreSt} {n : Nat} (hn : n ≤ 3) (h : k.Sized) : (k.put 0x6B n).Sized := by
  obtain ⟨hrf, hacc, hqs, hrot, -⟩ := h
  refine ⟨by simpa [put] using hrf, hacc, hqs, hrot, ?_⟩
  simp only [llv, put, List.getD_eq_getElem?_getD, List.getElem?_set_self (show 0x6B < k.rf.length by omega),
    Option.getD_some, BitVec.toNat_ofNat]
  omega

@[simp] theorem sized_updQ (k : CoreSt) (q : Nat) (f : Queue → Queue) : (k.updQ q f).Sized ↔ k.Sized := by simp [Sized, updQ]
@[simp] theorem sized_setQe (k : CoreSt) (q : Nat) : (k.setQe q).Sized ↔ k.Sized := Iff.rfl
@[simp] theorem sized_clrQe (k : CoreSt) (q : Nat) : (k.clrQe q).Sized ↔ k.Sized := Iff.rfl
@[simp] theorem sized_popQ (k : CoreSt) (q : Nat) : (k.popQ q).Sized ↔ k.Sized := by
  simp only [popQ]
  repeat' split
  all_goals simp
@[simp] theorem sized_pushQ (k : CoreSt) (q : Nat) (v : Half) (now : Nat) : (k.pushQ q v now).Sized ↔ k.Sized := by
  simp only [pushQ]
  repeat' split
  all_goals simp

@[simp] theorem sized_qeUnless (wrote : Bool) (k k' : CoreSt) : (k.qeUnless wrote k').Sized ↔ k'.Sized := by
  unfold qeUnless
  split
  · rfl
  · rfl

theorem physCode_ne_llv {code : Nat} (k : CoreSt) (hne : code ≠ 0x6B) : physCode k code ≠ 0x6B := by
  unfold physCode
  split <;> omega

/-- An explicit write keeps the sizes: LLV is read only (08 R198). -/
theorem sized_wr {k : CoreSt} (base : CoreSt) (code : Nat) (v : Half) (h : k.Sized) : (k.wr base code v).Sized := by
  obtain ⟨hrf, hacc, hqs, hrot, hllv⟩ := h
  unfold wr
  split
  · exact ⟨hrf, hacc, hqs, hrot, hllv⟩
  next hro =>
  have hne : code ≠ 0x6B := by rintro rfl; exact hro rfl
  split
  · exact ⟨hrf, hacc, hqs, hrot, hllv⟩
  split
  · exact ⟨hrf, by simpa using hacc, hqs, hrot, hllv⟩
  split
  · exact ⟨hrf, by simpa using hacc, hqs, hrot, hllv⟩
  split
  · exact ⟨hrf, by simpa using hacc, hqs, hrot, hllv⟩
  · exact sized_setRf _ _ (physCode_ne_llv base hne) ⟨hrf, hacc, hqs, hrot, hllv⟩

theorem sized_foldl_set {l : List (Nat × BitVec 40)} {k : CoreSt} (h : k.Sized) :
    Sized { k with acc := l.foldl (fun a (e : Nat × BitVec 40) => a.set e.1 e.2) k.acc } := by
  induction l generalizing k with
  | nil => exact h
  | cons e l ih =>
    obtain ⟨hrf, hacc, hrest⟩ := h
    exact ih (k := { k with acc := k.acc.set e.1 e.2 }) ⟨hrf, by simpa using hacc, hrest⟩

theorem sized_applyEffs {k : CoreSt} (es : List Eff) (h : k.Sized) : (applyEffs k es).Sized := by
  refine sized_setRf _ _ (by decide) (sized_foldl (fun x e hx => sized_wr k e.1 e.2 hx) _ ?_)
  split
  · exact sized_foldl_set h
  · exact sized_foldl_set (k := { k with flg := _ }) h

theorem sized_latOf {k : CoreSt} (k0 : CoreSt) (t : Nat) (b : List Syl) (h : k.Sized) : (latOf k0 k t b).Sized := by
  refine sized_foldl (fun k y h => ?_) b h
  dsimp only
  repeat' split
  all_goals exact h

/-- The loop-back test closes levels and opens none (07 R171). -/
theorem sized_loopBack {k : CoreSt} (k0 : CoreSt) (pc : Nat) (wrote : List Nat) (h : k.Sized) :
    (loopBack k0 k pc wrote).1.Sized := by
  obtain ⟨-, -, -, -, hllv⟩ := id h
  unfold loopBack
  split
  · exact h
  extract_lets l
  split
  · exact h
  next lc kc kr _ =>
  have hkc : kc.Sized := sized_ite h (sized_put _ (by omega) h)
  have hkr : kr.Sized := sized_ite (sized_put _ (by decide) hkc) hkc
  split
  · exact sized_putLlv (by omega) hkr
  · exact hkr

theorem sized_zero : CoreSt.zero.Sized := by
  unfold Sized
  decide

end CoreSt

/-- The cores of a state in shape. -/
theorem State.core_sized {s : State} (hs : s.Shape) (c : Nat) : (s.core c).Sized := by
  obtain ⟨⟨-, hcores⟩, -⟩ := hs
  rw [State.core, List.getD_eq_getElem?_getD]
  cases h : s.cores[c]? with
  | none => exact CoreSt.sized_zero
  | some k => exact hcores k (List.mem_of_getElem? h)

/-- The control part of a bundle opens a level only where fewer than three are open (07 R171; 09 R232, R233). -/
theorem State.sized_ctlOp {s0 s : State} {c nxt : Nat} {y : Syl} (hllv : (s0.core c).llv ≤ 3) (hs : (s.core c).Sized)
    (hy : s0.issueFault c nxt y = none) : (s0.ctlOp s c nxt y).1.Sized := by
  unfold State.ctlOp
  dsimp only
  split
  case h_8 => exact CoreSt.sized_setRf (k := s.core c) _ _ (by decide) hs
  case h_9 rt creg cimm ofs hop =>
    split
    · exact hs
    have hl : (s0.core c).llv < 3 := by
      simp only [State.issueFault, hop, ite_eq_right_iff] at hy
      by_contra hge
      exact absurd (hy (.inl (by omega))) nofun
    have hput : ((((({ s.core c with pc := nxt } : CoreSt).put (0x48 + (s0.core c).llv) nxt).put (0x4C + (s0.core c).llv)
        (nxt + ofs)).put (0x50 + (s0.core c).llv) (s0.countOf c creg cimm)).put 0x6B ((s0.core c).llv + 1)).Sized :=
      CoreSt.sized_putLlv (by omega) (CoreSt.sized_put _ (by omega) (CoreSt.sized_put _ (by omega)
        (CoreSt.sized_put _ (by omega) hs)))
    obtain ⟨hrf, hacc, hqs, hrot, hrest⟩ := hput
    exact ⟨hrf, hacc, hqs, by simpa [CoreSt.put] using hrot, hrest⟩
  case h_10 lv hop =>
    exact CoreSt.sized_foldl (fun k i hk => CoreSt.sized_put _ (by omega) hk) _ (CoreSt.sized_putLlv (by omega) hs)
  all_goals exact hs

/-! ### Registers, events, errors and answers (Machine/Ops.lean) -/

@[simp] theorem State.shape_w (p o v) : CarriesShape (·.w p o v) := carriesShape fun _ => id
@[simp] theorem State.shape_sf (p o hi lo x) : CarriesShape (·.sf p o hi lo x) := carriesShape fun s => by simp [State.sf]
@[simp] theorem State.shape_wa (p o v) : CarriesShape (·.wa p o v) := carriesShape fun _ => id
@[simp] theorem State.shape_cntUp (p o hi lo n) : CarriesShape (·.cntUp p o hi lo n) :=
  carriesShape fun s => by simp [State.cntUp]
@[simp] theorem State.shape_cntWrap (p o hi lo) : CarriesShape (·.cntWrap p o hi lo) :=
  carriesShape fun s => by simp [State.cntWrap]
@[simp] theorem State.shape_touch (p o b) : CarriesShape (·.touch p o b) := carriesShape fun _ => id
@[simp] theorem State.shape_setW1 (p o b) : CarriesShape (·.setW1 p o b) := carriesShape fun s => by simp [State.setW1]
@[simp] theorem State.shape_ev (p b) : CarriesShape (·.ev p b) := carriesShape fun s => by simp [State.ev]
@[simp] theorem State.shape_err (p code info) : CarriesShape (·.err p code info) :=
  carriesShape fun s => by simp [State.err]
@[simp] theorem State.shape_errSize (p o) : CarriesShape (·.errSize p o) := carriesShape fun s => by simp [State.errSize]
@[simp] theorem State.shape_errLocked (p o) : CarriesShape (·.errLocked p o) :=
  carriesShape fun s => by simp [State.errLocked]
@[simp] theorem State.shape_errValue (p o) : CarriesShape (·.errValue p o) := carriesShape fun s => by simp [State.errValue]
@[simp] theorem State.shape_errBusy (p o) : CarriesShape (·.errBusy p o) := carriesShape fun s => by simp [State.errBusy]
@[simp] theorem State.shape_errCap (p o) : CarriesShape (·.errCap p o) := carriesShape fun s => by simp [State.errCap]
@[simp] theorem State.shape_updDom (d f) : CarriesShape (·.updDom d f) := carriesShape fun s h => by
  simpa [State.Shape, State.updDom] using h
@[simp] theorem State.shape_violation (kind tnt ni det addr record) :
    CarriesShape (·.violation kind tnt ni det addr record) := carriesShape fun s => by
  simp only [State.violation, State.shapeTo_ite, State.shapeTo_update, imp_self, State.shape_ev, State.shape_cntUp,
    State.shapeTo_refl, true_or, and_self]
@[simp] theorem State.shape_answer (st d) : CarriesShape (·.answer st d) := carriesShape fun _ => id
@[simp] theorem State.shape_tookFree : CarriesShape (·.tookFree) := carriesShape fun _ => id
@[simp] theorem State.shape_plainWrite (p o v refused frozen info) :
    CarriesShape (·.plainWrite p o v refused frozen info) := carriesShape fun s => by
  simp only [State.plainWrite]
  repeat' split
  all_goals simp
@[simp] theorem State.shape_plain (p o v) : CarriesShape (·.plain p o v) := carriesShape fun s => by simp [State.plain]

/-! ### Memory (Machine/Memory.lean) -/

@[simp] theorem State.shape_wrByte (a v) : CarriesShape (·.wrByte a v) := carriesShape fun s => by
  unfold State.wrByte
  split
  · exact id
  · exact id
@[simp] theorem State.shape_wrBytes (a l) : CarriesShape (·.wrBytes a l) := carriesShape fun s => by
  induction l generalizing s a with
  | nil => exact id
  | cons b l ih => exact State.ShapeTo.trans (by simp) (ih (a + 1) (s.wrByte a b))
@[simp] theorem State.shape_wr16 (a v) : CarriesShape (·.wr16 a v) := carriesShape fun s => by simp [State.wr16]
@[simp] theorem State.shape_loseRegion (r) : CarriesShape (·.loseRegion r) := carriesShape fun _ => id

/-! ### The Admission Unit (Machine/Admission.lean) -/

@[simp] theorem State.shape_admReport (r tnt src overbook) : CarriesShape (·.admReport r tnt src overbook) :=
  carriesShape fun s => by simp [State.admReport]
@[simp] theorem State.shape_admQueue (c) : CarriesShape (·.admQueue c) := carriesShape fun _ => id
@[simp] theorem State.shape_cpCmd (t v) : CarriesShape (·.cpCmd t v) := carriesShape fun s => by simp [State.cpCmd]
@[simp] theorem State.shape_cpStage (t o v) : CarriesShape (·.cpStage t o v) :=
  carriesShape fun s => by simp [State.cpStage]
@[simp] theorem State.shape_wdMask (m) : CarriesShape (·.wdMask m) := carriesShape fun s => by simp [State.wdMask]
@[simp] theorem State.shape_admStart : CarriesShape (·.admStart) :=
  carriesShape fun s => by unfold State.admStart; split <;> simp
@[simp] theorem State.shape_admEnd (tnt src cl ok) : CarriesShape (·.admEnd tnt src cl ok) :=
  carriesShape fun s => by simp [State.admEnd]
@[simp] theorem State.shape_withMxCap (src) : CarriesShape (·.withMxCap src) :=
  carriesShape fun s => by simp [State.withMxCap]
@[simp] theorem State.shape_admAccept (com srcs) : CarriesShape (·.admAccept com srcs) :=
  carriesShape fun s => by simp [State.admAccept]
@[simp] theorem State.shape_admDone : CarriesShape (·.admDone) := carriesShape fun s => by
  simp only [State.admDone]
  split
  · rfl
  · split
    · rfl
    · simp
    · split <;> simp
@[simp] theorem State.shape_admEffect : CarriesShape (·.admEffect) := carriesShape fun s => by simp [State.admEffect]
@[simp] theorem State.shape_admRecompute : CarriesShape (·.admRecompute) := carriesShape fun s => by
  unfold State.admRecompute
  split
  · rfl
  · dsimp only
    split <;> simp only [State.shapeTo_update, imp_self, State.shape_w, State.shape_ev, State.shape_err, State.shape_admReport,
      State.shapeTo_refl, true_or]
@[simp] theorem State.shape_capSelWrite (v) : CarriesShape (·.capSelWrite v) :=
  carriesShape fun s => by simp [State.capSelWrite]

/-! ### Key slots, OTP and the island fault (Machine/Island.lean) -/

@[simp] theorem State.shape_updSec (f : Sec → Sec) (hks : ∀ x, x.ks.length = 32 → (f x).ks.length = 32)
    (hlow : ∀ x, x.low.length = 8 → (f x).low.length = 8) : CarriesShape (·.updSec f) := carriesShape fun s => by
  simp +contextual [State.updSec, hks, hlow]
@[simp] theorem State.shape_setSlot (n k) : CarriesShape (·.setSlot n k) := carriesShape fun s => by simp [State.setSlot]
@[simp] theorem State.shape_zeroise : CarriesShape (·.zeroise) := carriesShape fun s => by simp [State.zeroise]
@[simp] theorem State.shape_setOtp (w v) : CarriesShape (·.setOtp w v) := carriesShape fun s => by simp [State.setOtp]
@[simp] theorem State.shape_burnOtp (w v) : CarriesShape (·.burnOtp w v) := carriesShape fun s => by simp [State.burnOtp]
@[simp] theorem State.shape_thermoSet (w k) : CarriesShape (·.thermoSet w k) :=
  carriesShape fun s => by simp [State.thermoSet]
@[simp] theorem State.shape_engAsk (u) : CarriesShape (·.engAsk u) := carriesShape fun s => by simp [State.engAsk]
@[simp] theorem State.shape_engLeave (u) : CarriesShape (·.engLeave u) := carriesShape fun s => by simp [State.engLeave]
@[simp] theorem State.shape_evalUpd : CarriesShape (·.evalUpd) := carriesShape fun s => by simp [State.evalUpd]
@[simp] theorem State.shape_islandFault : CarriesShape (·.islandFault) := carriesShape fun s => by simp [State.islandFault]

/-! ### The tenant table and the event router (Machine/Tenants.lean) -/

@[simp] theorem State.shape_tenWA (o v) : CarriesShape (·.tenWA o v) := carriesShape fun s => by simp [State.tenWA]
@[simp] theorem State.shape_tenWB (o v) : CarriesShape (·.tenWB o v) := carriesShape fun s => by simp [State.tenWB]
@[simp] theorem State.shape_tenLock : CarriesShape (·.tenLock) := carriesShape fun s => by simp [State.tenLock]
@[simp] theorem State.shape_tenPop : CarriesShape (·.tenPop) := carriesShape fun _ => id
@[simp] theorem State.shape_tenWrite (o v) : CarriesShape (·.tenWrite o v) := carriesShape fun s => by simp [State.tenWrite]
@[simp] theorem State.shape_evrRouteWrite (t i v) : CarriesShape (·.evrRouteWrite t i v) :=
  carriesShape fun s => by simp [State.evrRouteWrite]
@[simp] theorem State.shape_evrLockCheck : CarriesShape (·.evrLockCheck) := carriesShape fun s => by
  simp only [State.evrLockCheck]
  repeat' split
  all_goals simp
@[simp] theorem State.shape_lockOutcome : CarriesShape (·.lockOutcome) :=
  carriesShape fun s => by unfold State.lockOutcome; split <;> simp

/-! ### Operands of a Rhoif-16 core (Machine/Operands.lean) -/

@[simp] theorem State.shape_updCore (c : Nat) (f : CoreSt → CoreSt) (hf : ∀ k : CoreSt, k.Sized → (f k).Sized) :
    CarriesShape (·.updCore c f) := carriesShape fun _ ⟨⟨hlen, hcores⟩, hrest⟩ =>
  ⟨⟨(List.length_modify ..).trans hlen, forall_mem_modify hf hcores⟩, hrest⟩

/-! ### Units on links (Machine/Links.lean) -/

@[simp] theorem State.shape_meshFeed : CarriesShape (·.meshFeed) := carriesShape fun _ => id
theorem State.shapeTo_meshCycle {s t : State} (h : s.meshCycle = some t) : s.ShapeTo t := by
  unfold State.meshCycle at h
  split at h
  · cases h
  · cases h; simp
@[simp] theorem State.shape_meshCycles (n) : CarriesShape (State.meshCycles n ·) := carriesShape fun s => by
  induction n generalizing s with
  | zero => exact id
  | succ n ih =>
    rw [State.meshCycles]
    split
    · simp
    · next t ht => exact (State.shapeTo_meshCycle ht).trans (ih t)
@[simp] theorem State.shape_meshRun : CarriesShape (·.meshRun) := carriesShape fun s => by simp [State.meshRun]
@[simp] theorem State.shape_addFlight (f) : CarriesShape (·.addFlight f) := carriesShape fun _ => id
@[simp] theorem State.shape_inject (n p) : CarriesShape (·.inject n p) := carriesShape fun s => by simp [State.inject]

/-! ### Network interfaces, probes and the trace buffer (Machine/Welt.lean) -/

@[simp] theorem State.shape_updNi (n f) : CarriesShape (·.updNi n f) := carriesShape fun s h => by
  simpa [State.Shape, State.updNi] using h
@[simp] theorem State.shape_selectRoute (n serving cls) :
    CarriesShape (fun s => (s.selectRoute n serving cls).1) := carriesShape fun s => by
  simp only [State.selectRoute]
  repeat' split
  all_goals simp
@[simp] theorem State.shape_classCheck (n t cls route charge rev) :
    CarriesShape (fun s => (s.classCheck n t cls route charge rev).1) := carriesShape fun s => by simp [State.classCheck]
@[simp] theorem State.shape_updStat (n f) : CarriesShape (·.updStat n f) := carriesShape fun s => by simp [State.updStat]
@[simp] theorem State.shape_statAnswer (n st dem late) : CarriesShape (·.statAnswer n st dem late) :=
  carriesShape fun s => by simp [State.statAnswer]
@[simp] theorem State.shape_statRequest (n lat st size) : CarriesShape (·.statRequest n lat st size) :=
  carriesShape fun s => by simp [State.statRequest]
@[simp] theorem State.shape_partDone (n grp a st dem late bytes) : CarriesShape (·.partDone n grp a st dem late bytes) :=
  carriesShape fun s => by simp only [State.partDone]; split <;> simp
@[simp] theorem State.shape_niJudge (n t cmd cls a size rowsOk) :
    CarriesShape (fun s => (s.niJudge n t cmd cls a size rowsOk).1) := carriesShape fun s => by
  simp only [State.niJudge]
  repeat' split
  any_goals simp
  all_goals
    have ht := State.shapeTo_of_eq (s := s) ‹s.selectRoute _ _ _ = _› (by simp)
    simp [ht]
@[simp] theorem State.shape_issuePart (n t cmd cls grp a size data rowsOk) :
    CarriesShape (·.issuePart n t cmd cls grp a size data rowsOk) := carriesShape fun s => by
  unfold State.issuePart
  split <;> next h =>
    have ht := State.shapeTo_of_eq (s := s) h (by simp)
    simp [ht]
@[simp] theorem State.shape_weltRequest (n sub cmd cls a size data) :
    CarriesShape (·.weltRequest n sub cmd cls a size data) := carriesShape fun s => by
  simp only [State.weltRequest]
  repeat' split
  all_goals simp
@[simp] theorem State.shape_acceptResponse (n p) : CarriesShape (·.acceptResponse n p) :=
  carriesShape fun s => by unfold State.acceptResponse; split <;> simp
@[simp] theorem State.shape_responseTimeout (n tid) : CarriesShape (·.responseTimeout n tid) :=
  carriesShape fun s => by unfold State.responseTimeout; split <;> simp
@[simp] theorem State.shape_rteWrite (n i v) : CarriesShape (·.rteWrite n i v) :=
  carriesShape fun s => by simp [State.rteWrite]
@[simp] theorem State.shape_niCtrl (n v) : CarriesShape (·.niCtrl n v) := carriesShape fun s => by simp [State.niCtrl]
@[simp] theorem State.shape_niWrite (n o v) : CarriesShape (·.niWrite n o v) :=
  carriesShape fun s => by simp [State.niWrite]
@[simp] theorem State.shape_lineCredits : CarriesShape (·.lineCredits) := carriesShape fun s => by simp [State.lineCredits]
@[simp] theorem State.shape_statCopy (n) : CarriesShape (·.statCopy n) := carriesShape fun s => by simp [State.statCopy]
@[simp] theorem State.shape_statFrame : CarriesShape (·.statFrame) := carriesShape fun s => by
  simp only [State.statFrame, State.shapeTo_ite, State.shapeTo_update, imp_self, State.shape_w, shapeTo_foldl, State.shape_statCopy,
    State.shapeTo_refl, true_or, and_self, implies_true]
@[simp] theorem State.shape_utilFrame : CarriesShape (·.utilFrame) := carriesShape fun s => by simp [State.utilFrame]
@[simp] theorem State.shape_trcPush (r) : CarriesShape (·.trcPush r) := carriesShape fun s => by
  simp only [State.trcPush, State.shapeTo_ite, State.shapeTo_update, imp_self, State.shape_cntUp, State.shapeTo_refl, true_or, and_self]
@[simp] theorem State.shape_probes (d p) : CarriesShape (·.probes d p) := carriesShape fun s => by simp [State.probes]
@[simp] theorem State.shape_trcStore (r) : CarriesShape (·.trcStore r) := carriesShape fun s => by simp [State.trcStore]
@[simp] theorem State.shape_trcWrite : CarriesShape (·.trcWrite) := carriesShape fun s => by
  unfold State.trcWrite
  split
  · simp
  · split <;> simp
@[simp] theorem State.shape_prbWrite (o v) : CarriesShape (·.prbWrite o v) := carriesShape fun s => by simp [State.prbWrite]
@[simp] theorem State.shape_routerWrite (r o v) : CarriesShape (·.routerWrite r o v) :=
  carriesShape fun s => by simp [State.routerWrite]
@[simp] theorem State.shape_respond (n p st dem late data) : CarriesShape (·.respond n p st dem late data) :=
  carriesShape fun s => by simp [State.respond]
@[simp] theorem State.shape_domWake (d) : CarriesShape (·.domWake d) := carriesShape fun s => by simp [State.domWake]
@[simp] theorem State.shape_askWake (n d) : CarriesShape (·.askWake n d) := carriesShape fun s => by simp [State.askWake]
@[simp] theorem State.shape_denyWake (n d t src) : CarriesShape (·.denyWake n d t src) :=
  carriesShape fun s => by simp [State.denyWake]

/-! ### Memory traffic of the engines (Machine/Engine.lean) -/

@[simp] theorem State.shape_icvRefuse : CarriesShape (·.icvRefuse) := carriesShape fun s => by simp [State.icvRefuse]
@[simp] theorem State.shape_dramAccept (h) : CarriesShape (fun s => (s.dramAccept h).1) :=
  carriesShape fun s => by simp [State.dramAccept]
@[simp] theorem State.shape_coreExt (a) : CarriesShape (·.coreExt a) := carriesShape fun s => by simp [State.coreExt]
@[simp] theorem State.shape_memServe (p) : CarriesShape (fun s => (s.memServe p).1) :=
  carriesShape fun s => by simp [State.memServe]
@[simp] theorem State.shape_engServe (m p) : CarriesShape (fun s => (s.engServe m p).1) :=
  carriesShape fun s => by simp [State.engServe]
@[simp] theorem State.shape_engAdmit (m p) : CarriesShape (fun s => (s.engAdmit m p).1) := carriesShape fun s => by
  simp only [State.engAdmit]
  split
  · simp
  · split <;> simp
@[simp] theorem State.shape_engTarget (m p) : CarriesShape (fun s => (s.engTarget m p).1) := carriesShape fun s => by
  simp only [State.engTarget]
  repeat' split
  all_goals simp
@[simp] theorem State.shape_engSend (n idx p se) : CarriesShape (·.engSend n idx p se) :=
  carriesShape fun s => by simp [State.engSend]
@[simp] theorem State.shape_engPart (n t cmd cls a size data rowsOk) :
    CarriesShape (fun s => (s.engPart n t cmd cls a size data rowsOk).1) := carriesShape fun s => by
  unfold State.engPart
  split <;> next h =>
    have ht := State.shapeTo_of_eq (s := s) h (by simp)
    simp [ht]
@[simp] theorem State.shape_engReqT (t n cmd cls a size data) :
    CarriesShape (fun s => (s.engReqT t n cmd cls a size data).1) :=
  carriesShape fun s => by simp [State.engReqT, shapeTo_foldl_fst]
@[simp] theorem State.shape_engReq (n cmd cls a size data) : CarriesShape (fun s => (s.engReq n cmd cls a size data).1) :=
  carriesShape fun s => by unfold State.engReq; split <;> simp
@[simp] theorem State.shape_engWrite (n cls a data) : CarriesShape (fun s => (s.engWrite n cls a data).1) :=
  carriesShape fun s => by simp [State.engWrite]
@[simp] theorem State.shape_engRead (n cls a size) : CarriesShape (fun s => (s.engRead n cls a size).1) :=
  carriesShape fun s => by simp [State.engRead]
@[simp] theorem State.shape_engReads (n cls l) : CarriesShape (fun s => (s.engReads n cls l).1) := carriesShape fun s => by
  induction l generalizing s with
  | nil => rfl
  | cons e t ih => simp [State.engReads, carriesShape ih]
@[simp] theorem State.shape_engWrites (n cls l) :
    CarriesShape (fun s => (s.engWrites n cls l).1) := carriesShape fun s => by
  induction l generalizing s with
  | nil => rfl
  | cons e t ih => simp [State.engWrites, carriesShape ih]
@[simp] theorem State.shape_engReadAt (t n cls a size) : CarriesShape (fun s => (s.engReadAt t n cls a size).1) :=
  carriesShape fun s => by simp [State.engReadAt, shapeTo_foldl_fst]

/-! ### The Line Event Table and the trackers (Machine/Ltb.lean) -/

@[simp] theorem State.shape_updLtb (f) : CarriesShape (·.updLtb f) := carriesShape fun _ => id
@[simp] theorem State.shape_letAWrite (n v) : CarriesShape (·.letAWrite n v) :=
  carriesShape fun s => by simp [State.letAWrite]
@[simp] theorem State.shape_letBWrite (t n v) : CarriesShape (·.letBWrite t n v) :=
  carriesShape fun s => by simp only [State.letBWrite]; split <;> simp
@[simp] theorem State.shape_letApply : CarriesShape (·.letApply) := carriesShape fun s => by simp [State.letApply]
@[simp] theorem State.shape_ltbWrite (t o v) : CarriesShape (·.ltbWrite t o v) :=
  carriesShape fun s => by simp [State.ltbWrite]
@[simp] theorem State.shape_letSend (n) : CarriesShape (·.letSend n) := carriesShape fun s => by simp [State.letSend]
@[simp] theorem State.shape_evArrive (typ tgt arg) : CarriesShape (·.evArrive typ tgt arg) :=
  carriesShape fun s => by unfold State.evArrive; split <;> simp
@[simp] theorem State.shape_letFire (n) : CarriesShape (·.letFire n) := carriesShape fun s => by simp [State.letFire]
@[simp] theorem State.shape_letEntryFire (n) : CarriesShape (·.letEntryFire n) :=
  carriesShape fun s => by simp [State.letEntryFire]
@[simp] theorem State.shape_catchUp : CarriesShape (·.catchUp) := carriesShape fun s => by simp [State.catchUp]
@[simp] theorem State.shape_unreach : CarriesShape (·.unreach) :=
  carriesShape fun s => by unfold State.unreach; split <;> simp
@[simp] theorem State.shape_skipFire : CarriesShape (·.skipFire) := carriesShape fun s => by simp [State.skipFire]
@[simp] theorem State.shape_measure : CarriesShape (·.measure) := carriesShape fun s => by simp [State.measure]
@[simp] theorem State.shape_masterChange : CarriesShape (·.masterChange) :=
  carriesShape fun s => by simp [State.masterChange]
@[simp] theorem State.shape_masterLost : CarriesShape (·.masterLost) := carriesShape fun s => by simp [State.masterLost]
@[simp] theorem State.shape_ltbCrystalLoss : CarriesShape (·.ltbCrystalLoss) :=
  carriesShape fun s => by simp [State.ltbCrystalLoss]
@[simp] theorem State.shape_ltbClockChange : CarriesShape (·.ltbClockChange) :=
  carriesShape fun s => by simp [State.ltbClockChange]
@[simp] theorem State.shape_posRead : CarriesShape (·.posRead) := carriesShape fun s => by simp [State.posRead]
@[simp] theorem State.shape_updTrk (n f) : CarriesShape (·.updTrk n f) := carriesShape fun s => by simp [State.updTrk]
@[simp] theorem State.shape_trkFire (n e) : CarriesShape (·.trkFire n e) :=
  carriesShape fun s => by unfold State.trkFire; split <;> simp
@[simp] theorem State.shape_trkFireDue (n) : CarriesShape (·.trkFireDue n) :=
  carriesShape fun s => by simp [State.trkFireDue]
@[simp] theorem State.shape_trkLock (n v) : CarriesShape (·.trkLock n v) := carriesShape fun s => by simp [State.trkLock]
@[simp] theorem State.shape_trkFrameStart (n) : CarriesShape (·.trkFrameStart n) :=
  carriesShape fun s => by simp [State.trkFrameStart]
@[simp] theorem State.shape_trkLineStart (n) : CarriesShape (·.trkLineStart n) :=
  carriesShape fun s => by simp [State.trkLineStart]
@[simp] theorem State.shape_trkCancel : CarriesShape (·.trkCancel) := carriesShape fun s => by simp [State.trkCancel]
@[simp] theorem State.shape_trkStop (n) : CarriesShape (·.trkStop n) := carriesShape fun s => by simp [State.trkStop]

/-! ### The receivers and the ISP (Machine/Capture.lean) -/

@[simp] theorem State.shape_updStr (n k f) : CarriesShape (·.updStr n k f) :=
  carriesShape fun _ ⟨hcores, hnis, hgrv, ⟨hcaps, hstrs, htrig⟩, hrest⟩ =>
    ⟨hcores, hnis, hgrv, ⟨(List.length_modify ..).trans hcaps,
      forall_mem_modify (fun _ h => (List.length_modify ..).trans h) hstrs, htrig⟩, hrest⟩
@[simp] theorem State.shape_capWrite (n c a b) : CarriesShape (·.capWrite n c a b) :=
  carriesShape fun s => by simp [State.capWrite]
@[simp] theorem State.shape_slotWrite (n k y pix st) : CarriesShape (·.slotWrite n k y pix st) :=
  carriesShape fun s => by simp [State.slotWrite]
@[simp] theorem State.shape_hdrLost (n) : CarriesShape (·.hdrLost n) := carriesShape fun s => by simp [State.hdrLost]
@[simp] theorem State.shape_strSeen (n k) : CarriesShape (·.strSeen n k) := carriesShape fun s => by simp [State.strSeen]
@[simp] theorem State.shape_strClose (n k fe why) : CarriesShape (·.strClose n k fe why) :=
  carriesShape fun s => by simp [State.strClose]
@[simp] theorem State.shape_strStart (n k num) : CarriesShape (·.strStart n k num) :=
  carriesShape fun s => by simp [State.strStart]
@[simp] theorem State.shape_csiFrameStart (n vc num hdr) : CarriesShape (·.csiFrameStart n vc num hdr) :=
  carriesShape fun s => by simp [State.csiFrameStart]
@[simp] theorem State.shape_csiFrameEnd (n vc hdr) : CarriesShape (·.csiFrameEnd n vc hdr) :=
  carriesShape fun s => by simp [State.csiFrameEnd]
@[simp] theorem State.shape_lineIn (n k hdr payload crcBad fifo) : CarriesShape (·.lineIn n k hdr payload crcBad fifo) :=
  carriesShape fun s => by simp [State.lineIn]
@[simp] theorem State.shape_csiLongPacket (n vc dt hdr wc payload crcOk fifo fill) :
    CarriesShape (·.csiLongPacket n vc dt hdr wc payload crcOk fifo fill) := carriesShape fun s => by
  simp only [State.csiLongPacket]
  repeat' split
  all_goals simp
@[simp] theorem State.shape_frameEndTimeout (n k) : CarriesShape (·.frameEndTimeout n k) :=
  carriesShape fun s => by simp [State.frameEndTimeout]
@[simp] theorem State.shape_strRel (n k m) : CarriesShape (·.strRel n k m) := carriesShape fun s => by simp [State.strRel]
@[simp] theorem State.shape_capClr (n) : CarriesShape (·.capClr n) := carriesShape fun s => by simp [State.capClr]
@[simp] theorem State.shape_capRegWrite (n o v) : CarriesShape (·.capRegWrite n o v) :=
  carriesShape fun s => by simp [State.capRegWrite]
/-- The trigger of one receiver changes. -/
theorem State.ShapeTo.setTrig {s t : State} (h : s.ShapeTo t) (n : Nat) (x : Option Nat) :
    s.ShapeTo { t with trig := s.trig.set n x } := fun hs => by
  obtain ⟨hcores, hnis, hgrv, ⟨hcaps, hstrs, -⟩, hrest⟩ := h hs
  obtain ⟨-, -, -, ⟨-, -, htrig⟩, -⟩ := hs
  exact ⟨hcores, hnis, hgrv, ⟨hcaps, hstrs, (List.length_set ..).trans htrig⟩, hrest⟩
/-- The streams of one receiver start anew. -/
theorem State.ShapeTo.zeroCaps {s t : State} (h : s.ShapeTo t) (n : Nat) :
    s.ShapeTo { t with caps := s.caps.set n (List.replicate 4 CapStr.zero) } := fun hs => by
  obtain ⟨hcores, hnis, hgrv, ⟨-, -, htrig⟩, hrest⟩ := h hs
  obtain ⟨-, -, -, ⟨hcaps, hstrs, -⟩, -⟩ := hs
  refine ⟨hcores, hnis, hgrv, ⟨(List.length_set ..).trans hcaps, fun l hl => ?_, htrig⟩, hrest⟩
  obtain hl | rfl := List.mem_or_eq_of_mem_set hl
  · exact hstrs l hl
  · rfl
@[simp] theorem State.shape_camTrigger (n arg) : CarriesShape (·.camTrigger n arg) := carriesShape fun s => by
  unfold State.camTrigger
  split
  · rfl
  · exact State.ShapeTo.setTrig (by simp) n _
@[simp] theorem State.shape_camTriggerEnd (n) : CarriesShape (·.camTriggerEnd n) := carriesShape fun s => by
  unfold State.camTriggerEnd
  split
  · rfl
  · rw [State.shapeTo_ite]
    exact .inl ⟨s.shapeTo_refl.setTrig n none, s.shapeTo_refl⟩
@[simp] theorem State.shape_updIsp (f) : CarriesShape (·.updIsp f) := carriesShape fun _ => id
@[simp] theorem State.shape_ispQueue (j) : CarriesShape (·.ispQueue j) := carriesShape fun s => by simp [State.ispQueue]
@[simp] theorem State.shape_ispSubmit : CarriesShape (·.ispSubmit) := carriesShape fun s => by simp [State.ispSubmit]
@[simp] theorem State.shape_capFdone (n k) : CarriesShape (·.capFdone n k) :=
  carriesShape fun s => by unfold State.capFdone; split <;> simp
@[simp] theorem State.shape_tqPush : CarriesShape (·.tqPush) := carriesShape fun s => by simp [State.tqPush]
@[simp] theorem State.shape_tqFlush : CarriesShape (·.tqFlush) := carriesShape fun s => by simp [State.tqFlush]
@[simp] theorem State.shape_ispWrite (a b) : CarriesShape (·.ispWrite a b) := carriesShape fun s => by simp [State.ispWrite]
@[simp] theorem State.shape_jobEnd (j d id err reason) :
    CarriesShape (·.jobEnd j d id err reason) := carriesShape fun s => by
  simp only [State.jobEnd]
  repeat' split
  all_goals simp
@[simp] theorem State.shape_ispJobStart (st) : CarriesShape (·.ispJobStart st) := carriesShape fun s => by
  simp only [State.ispJobStart]
  repeat' split
  all_goals simp
@[simp] theorem State.shape_ispStop (reason) : CarriesShape (·.ispStop reason) :=
  carriesShape fun s => by unfold State.ispStop; split <;> simp
@[simp] theorem State.shape_ispJobDone : CarriesShape (·.ispJobDone) := carriesShape fun s => by
  simp only [State.ispJobDone]
  split
  · rfl
  split
  · rfl
  split
  next hreads =>
    have hr := State.shapeTo_of_eq (s := s) hreads (by simp)
    split <;> next hwrites =>
      have hw := State.shapeTo_of_eq (s := s) hwrites (by simp [hr])
      simp [hw]
  next hreads => simp [State.shapeTo_of_eq (s := s) hreads (by simp)]
@[simp] theorem State.shape_ispXferError (sts) : CarriesShape (·.ispXferError sts) :=
  carriesShape fun s => by simp [State.ispXferError]
@[simp] theorem State.shape_ispRegWrite (o v) : CarriesShape (·.ispRegWrite o v) :=
  carriesShape fun s => by simp [State.ispRegWrite]
@[simp] theorem State.shape_camLeave : CarriesShape (·.camLeave) := carriesShape fun s => by simp [State.camLeave]
@[simp] theorem State.shape_capReset (n) : CarriesShape (·.capReset n) := carriesShape fun s =>
  (State.ShapeTo.zeroCaps (by simp) n).setTrig n none
@[simp] theorem State.shape_ispReset : CarriesShape (·.ispReset) := carriesShape fun s => by simp [State.ispReset]

/-! ### The AGU and the decoupling queues (Machine/RhoifAgu.lean) -/

@[simp] theorem State.shape_qStop (c q sts) : CarriesShape (·.qStop c q sts) := carriesShape fun s => by simp [State.qStop]
@[simp] theorem State.shape_qMisal (c q) : CarriesShape (·.qMisal c q) := carriesShape fun s => by simp [State.qMisal]
@[simp] theorem State.shape_queueReadIssue (c q) : CarriesShape (·.queueReadIssue c q) :=
  carriesShape fun s => by simp [State.queueReadIssue]
@[simp] theorem State.shape_qDrain (n c q flush) : CarriesShape (State.qDrain n · c q flush) := carriesShape fun s => by
  induction n generalizing s with
  | zero => exact id
  | succ n ih => simp [State.qDrain, carriesShape ih]
@[simp] theorem State.shape_queueMergeTimeout (c q) : CarriesShape (·.queueMergeTimeout c q) :=
  carriesShape fun s => by simp [State.queueMergeTimeout]
@[simp] theorem State.shape_queueResponse (c q i sts dem late data) :
    CarriesShape (·.queueResponse c q i sts dem late data) := carriesShape fun s => by
  simp only [State.queueResponse]
  repeat' split
  all_goals simp

/-! ### Bundles, interrupts and the control page of a core (Machine/Rhoif.lean) -/

@[simp] theorem State.shape_applyMem (c es) : CarriesShape (·.applyMem c es) :=
  carriesShape fun s => by simp [State.applyMem]
@[simp] theorem State.shape_queueOp (s0 c wrote y) : CarriesShape (·.queueOp s0 c wrote y) :=
  carriesShape fun s => by unfold State.queueOp; split <;> simp
@[simp] theorem State.shape_refill (c n) : CarriesShape (·.refill c n) := carriesShape fun s => by simp [State.refill]
@[simp] theorem State.shape_cycles (c run stall) : CarriesShape (·.cycles c run stall) :=
  carriesShape fun s => by simp [State.cycles]
@[simp] theorem State.shape_waitEnd (c) : CarriesShape (·.waitEnd c) :=
  carriesShape fun s => by unfold State.waitEnd; split <;> simp
@[simp] theorem State.shape_waitPause (c) : CarriesShape (·.waitPause c) := carriesShape fun s => by simp [State.waitPause]
@[simp] theorem State.shape_waitResume (c) : CarriesShape (·.waitResume c) :=
  carriesShape fun s => by simp [State.waitResume]
@[simp] theorem State.shape_coreStop (c ev) : CarriesShape (·.coreStop c ev) :=
  carriesShape fun s => by simp [State.coreStop]
@[simp] theorem State.shape_coreFault (c cause pc) : CarriesShape (·.coreFault c cause pc) :=
  carriesShape fun s => by simp [State.coreFault]
@[simp] theorem State.shape_boundary (c) : CarriesShape (·.boundary c) := carriesShape fun s => by simp [State.boundary]
@[simp] theorem State.shape_bundleWrites (c b) : CarriesShape (·.bundleWrites c b) := carriesShape fun s => by
  have happly : ∀ k : CoreSt, k.Sized → (applyEffs { k with pair := false, squash := false, wait := none, fresh := false }
      (b.map fun y => s.sylEff c y)).Sized := fun _ hk => CoreSt.sized_applyEffs _ hk
  simp +contextual [State.bundleWrites, happly]

theorem State.sized_bundleCtl {s0 s : State} {c : Nat} {b : List Syl} (hs0 : s0.Shape) (hs : s.Shape)
    (hfault : (b.filterMap fun y => s0.issueFault c ((s0.core c).pc + bundleLen b) y).head? = none) :
    (s0.bundleCtl s c b).1.Sized := by
  have hctl : ∀ y ∈ b, (s0.ctlOp s c ((s0.core c).pc + bundleLen b) y).1.Sized := fun y hy => by
    rw [List.head?_eq_none_iff, List.filterMap_eq_nil_iff] at hfault
    obtain ⟨-, -, -, -, hllv⟩ := s0.core_sized hs0 c
    exact State.sized_ctlOp hllv (s.core_sized hs c) (hfault y hy)
  simp only [State.bundleCtl]
  cases hfind : b.find? fun y => y.slot == .ctl with
  | none => split <;> exact s.core_sized hs c
  | some y => split <;> exact hctl y (List.mem_of_find?_eq_some hfind)

theorem CoreSt.sized_goesOn {k0 k : CoreSt} (b : List Syl) (taken : Bool) (h : k.Sized) : (k0.goesOn k b taken).Sized := by
  unfold CoreSt.goesOn
  split
  · exact sized_ite h (sized_loopBack (k := { k with rep := none }) k0 k0.pc _ h)
  · exact sized_ite h (sized_loopBack k0 k0.pc _ h)

theorem State.shapeTo_bundleDone {s : State} {c : Nat} {b : List Syl}
    (hfault : (b.filterMap fun y => s.issueFault c ((s.core c).pc + bundleLen b) y).head? = none) :
    s.ShapeTo (s.bundleDone c b) := fun hs => by
  have hwrites : s.ShapeTo (s.bundleWrites c b) := by simp
  have hnext : ((s.core c).goesOn ((s.core c).timed (s.bundleCtl (s.bundleWrites c b) c b).1 b
      (s.bundleCtl (s.bundleWrites c b) c b).2) b (s.bundleCtl (s.bundleWrites c b) c b).2).Sized :=
    CoreSt.sized_goesOn _ _ (CoreSt.sized_latOf _ _ _ (State.sized_bundleCtl hs (hwrites hs) hfault))
  exact (show s.ShapeTo _ by simp [State.bundleDone, hnext]) hs

@[simp] theorem State.shape_issueNow (c b) : CarriesShape (·.issueNow c b) := carriesShape fun s => by
  cases hfault : (b.filterMap fun y => s.issueFault c ((s.core c).pc + bundleLen b) y).head? with
  | none =>
    rw [State.issueNow_eq hfault]
    have hdone := State.shapeTo_bundleDone hfault
    simp [hdone]
  | some cause => simp [State.issueNow, hfault]
@[simp] theorem State.shape_issueSquashed (c b) : CarriesShape (·.issueSquashed c b) := carriesShape fun s hs => by
  have hsized : ∀ pc tick ext redir, CoreSt.Sized { (loopBack (s.core c) { s.core c with
      pair := false, squash := false, rep := none, fresh := false, pc := pc, tick := tick, redir := false, ext := ext }
      (s.core c).pc []).1 with redir := redir } := fun _ _ _ _ => CoreSt.sized_loopBack _ _ _ (s.core_sized hs c)
  exact (show s.ShapeTo _ by simp [State.issueSquashed, hsized]) hs
@[simp] theorem State.shape_repCount (c) : CarriesShape (·.repCount c) :=
  carriesShape fun s => by unfold State.repCount; split <;> simp +contextual [CoreSt.sized_put]
@[simp] theorem State.shape_issue (c b) : CarriesShape (·.issue c b) := carriesShape fun s => by
  simp only [State.issue]
  repeat' split
  all_goals simp
@[simp] theorem State.shape_issueRow (c pre y post) : CarriesShape (·.issueRow c pre y post) :=
  carriesShape fun s => by simp [State.issueRow]
@[simp] theorem State.shape_waitBundleIssue (c) : CarriesShape (·.waitBundleIssue c) :=
  carriesShape fun s => by unfold State.waitBundleIssue; split <;> simp
@[simp] theorem State.shape_queueWaitTimeout (c) : CarriesShape (·.queueWaitTimeout c) :=
  carriesShape fun s => by unfold State.queueWaitTimeout; split <;> simp
@[simp] theorem State.shape_irqEvent (c n) : CarriesShape (·.irqEvent c n) := carriesShape fun s => by simp [State.irqEvent]
@[simp] theorem State.shape_interruptEntry (c) : CarriesShape (·.interruptEntry c) :=
  carriesShape fun s => by
  have hput : ∀ (k : CoreSt) a b c d, k.Sized → ((((k.put 0x68 a).put 0x69 b).put 0x6A c).put 0x66 d).Sized := fun k a b c d h =>
    CoreSt.sized_put _ (by decide) (CoreSt.sized_put _ (by decide) (CoreSt.sized_put _ (by decide) (CoreSt.sized_put _ (by decide) h)))
  unfold State.interruptEntry
  split
  · rfl
  · simp +contextual [hput]
@[simp] theorem State.shape_releaseEvent (c arg) : CarriesShape (·.releaseEvent c arg) :=
  carriesShape fun s => by simp [State.releaseEvent]
@[simp] theorem State.shape_stepLoop (n c) : CarriesShape (State.stepLoop n · c) := carriesShape fun s => by
  induction n generalizing s with
  | zero => exact id
  | succ n ih => simp [State.stepLoop, carriesShape ih]
@[simp] theorem State.shape_coreStart (c) : CarriesShape (·.coreStart c) := carriesShape fun s => by simp [State.coreStart]
@[simp] theorem State.shape_coreHaltReq (c) : CarriesShape (·.coreHaltReq c) :=
  carriesShape fun s => by simp [State.coreHaltReq]
@[simp] theorem State.shape_coreStep (c) : CarriesShape (·.coreStep c) := carriesShape fun s => by simp [State.coreStep]
@[simp] theorem State.shape_coreWrite (c o v) : CarriesShape (·.coreWrite c o v) :=
  carriesShape fun s => by simp [State.coreWrite]
@[simp] theorem State.shape_coreReset (c) : CarriesShape (·.coreReset c) := carriesShape fun s => by
  simp [State.coreReset, CoreSt.sized_zero]
@[simp] theorem State.shape_coreRelease (c) : CarriesShape (·.coreRelease c) :=
  carriesShape fun s => by simp [State.coreRelease]

/-! ### The array (Machine/Gralvo.lean) -/

@[simp] theorem State.shape_updGrv (f : Grv → Grv) (hports : ∀ g, g.ports.length = 8 → (f g).ports.length = 8)
    (hstore : ∀ g, g.store.length = 8 → (f g).store.length = 8) : CarriesShape (·.updGrv f) := carriesShape fun s => by
  simp +contextual [State.updGrv, hports, hstore]
@[simp] theorem State.shape_updPort (p f) : CarriesShape (·.updPort p f) := carriesShape fun s => by simp [State.updPort]
@[simp] theorem State.shape_putTok (h v) : CarriesShape (·.putTok h v) :=
  carriesShape fun s => by unfold State.putTok; split <;> simp
@[simp] theorem State.shape_sendTo (cell l v) : CarriesShape (·.sendTo cell l v) :=
  carriesShape fun s => by simp [State.sendTo]
@[simp] theorem State.shape_emit (cell v) : CarriesShape (·.emit cell v) := carriesShape fun s => by simp [State.emit]
@[simp] theorem State.shape_moveOut (cell) : CarriesShape (·.moveOut cell) := carriesShape fun s => by
  simp only [State.moveOut]
  repeat' split
  all_goals simp
@[simp] theorem State.shape_moveTrack (key) : CarriesShape (·.moveTrack key) :=
  carriesShape fun s => by unfold State.moveTrack; split <;> simp
@[simp] theorem State.shape_moveIn (p) : CarriesShape (·.moveIn p) :=
  carriesShape fun s => by simp only [State.moveIn]; split <;> simp
@[simp] theorem State.shape_sweep : CarriesShape (·.sweep) := carriesShape fun s => by simp [State.sweep]
@[simp] theorem State.shape_portStop (p ctx sts) : CarriesShape (·.portStop p ctx sts) :=
  carriesShape fun s => by simp [State.portStop]
@[simp] theorem State.shape_portMisal (p) : CarriesShape (·.portMisal p) := carriesShape fun s => by simp [State.portMisal]
@[simp] theorem State.shape_portReadIssue (p) : CarriesShape (·.portReadIssue p) :=
  carriesShape fun s => by simp [State.portReadIssue]
@[simp] theorem State.shape_portDrain (n p flush) : CarriesShape (State.portDrain n · p flush) := carriesShape fun s => by
  induction n generalizing s with
  | zero => exact id
  | succ n ih => simp [State.portDrain, carriesShape ih]
@[simp] theorem State.shape_trackAdvance : CarriesShape (·.trackAdvance) :=
  carriesShape fun s => by simp [State.trackAdvance]
@[simp] theorem State.shape_portMergeTimeout (p) : CarriesShape (·.portMergeTimeout p) :=
  carriesShape fun s => by simp [State.portMergeTimeout]
@[simp] theorem State.shape_portResponse (p i sts dem late data) : CarriesShape (·.portResponse p i sts dem late data) :=
  carriesShape fun s => by simp only [State.portResponse]; split <;> simp
@[simp] theorem State.shape_portRetry (p i) : CarriesShape (·.portRetry p i) := carriesShape fun s => by
  simp only [State.portRetry]
  split
  · rfl
  · split <;> simp
@[simp] theorem State.shape_cellFire (c r) : CarriesShape (·.cellFire c r) := carriesShape fun s => by
  simp only [State.cellFire]
  repeat' split
  all_goals simp
@[simp] theorem State.shape_endActivation : CarriesShape (·.endActivation) :=
  carriesShape fun s => by simp [State.endActivation]
@[simp] theorem State.shape_doSwitch (n cause) : CarriesShape (·.doSwitch n cause) :=
  carriesShape fun s => by simp [State.doSwitch]
@[simp] theorem State.shape_trigger (t n cause lost) : CarriesShape (·.trigger t n cause lost) :=
  carriesShape fun s => by simp only [State.trigger]; split <;> simp
@[simp] theorem State.shape_ctxSwitchEvent (e n lost) : CarriesShape (·.ctxSwitchEvent e n lost) :=
  carriesShape fun s => by simp [State.ctxSwitchEvent]
@[simp] theorem State.shape_queueTrigger : CarriesShape (·.queueTrigger) :=
  carriesShape fun s => by simp [State.queueTrigger]
@[simp] theorem State.shape_grvIdle : CarriesShape (·.grvIdle) := carriesShape fun s => by simp [State.grvIdle]
@[simp] theorem State.shape_grvCtrl (t v) : CarriesShape (·.grvCtrl t v) := carriesShape fun s => by simp [State.grvCtrl]
@[simp] theorem State.shape_activationDone : CarriesShape (·.activationDone) :=
  carriesShape fun s => by simp [State.activationDone]
@[simp] theorem State.shape_activationWatchdog : CarriesShape (·.activationWatchdog) :=
  carriesShape fun s => by simp [State.activationWatchdog]
@[simp] theorem State.shape_grvFrame : CarriesShape (·.grvFrame) := carriesShape fun s => by simp [State.grvFrame]
@[simp] theorem State.shape_grvPause : CarriesShape (·.grvPause) := carriesShape fun s => by simp [State.grvPause]
@[simp] theorem State.shape_grvResume : CarriesShape (·.grvResume) := carriesShape fun s => by simp [State.grvResume]
@[simp] theorem State.shape_grvFromOff : CarriesShape (·.grvFromOff) := carriesShape fun s => by simp [State.grvFromOff]
@[simp] theorem State.shape_grvWrite (t o v) : CarriesShape (·.grvWrite t o v) :=
  carriesShape fun s => by simp [State.grvWrite]
@[simp] theorem State.shape_gctxWrite (n o v) : CarriesShape (·.gctxWrite n o v) :=
  carriesShape fun s => by simp [State.gctxWrite]

/-! ### The Array Loader (Machine/Loader.lean) -/

@[simp] theorem State.shape_updAld (f) : CarriesShape (·.updAld f) := carriesShape fun _ => id
@[simp] theorem State.shape_setPhase (p) : CarriesShape (·.setPhase p) := carriesShape fun s => by simp [State.setPhase]
@[simp] theorem State.shape_loadRefuse (r) : CarriesShape (·.loadRefuse r) :=
  carriesShape fun s => by simp [State.loadRefuse]
@[simp] theorem State.shape_ldStart (t) : CarriesShape (·.ldStart t) := carriesShape fun s => by
  simp only [State.ldStart]
  repeat' split
  all_goals simp
@[simp] theorem State.shape_ldAbort : CarriesShape (·.ldAbort) := carriesShape fun s => by simp [State.ldAbort]
@[simp] theorem State.shape_loadPlace : CarriesShape (·.loadPlace) := carriesShape fun s => by
  unfold State.loadPlace
  extract_lets m t mask fs placedAll s' tileBad miss
  have hs : s.ShapeTo s' := by simp [s']
  clear_value s' miss
  dsimp only
  repeat' split
  all_goals simp only [State.shape_loadRefuse, State.shape_admQueue, State.shapeTo_update, imp_self, State.shape_w,
    State.shape_setPhase, State.shape_updAld, hs, true_or]
@[simp] theorem State.shape_loadReadDone (sts ofs) : CarriesShape (·.loadReadDone sts ofs) := carriesShape fun s => by
  simp only [State.loadReadDone]
  repeat' split
  any_goals simp
  all_goals
    have ht := State.shapeTo_of_eq (s := s) ‹s.engReadAt _ _ _ _ _ = _› (by simp)
    simp [ht]
@[simp] theorem State.shape_loadVerifyDone : CarriesShape (·.loadVerifyDone) :=
  carriesShape fun s => by simp [State.loadVerifyDone]
@[simp] theorem State.shape_loadPartEvalDone : CarriesShape (·.loadPartEvalDone) := carriesShape fun s => by
  simp only [State.loadPartEvalDone]
  repeat' split
  all_goals simp
@[simp] theorem State.shape_loadEffect : CarriesShape (·.loadEffect) := carriesShape fun s => by simp [State.loadEffect]
@[simp] theorem State.shape_loadPart (p next) : CarriesShape (·.loadPart p next) := carriesShape fun s => by
  simp only [State.loadPart, State.shape_sf, State.shape_w, State.shape_wa, State.shape_ev, State.shape_cntWrap,
    State.shapeTo_ite, State.shape_updGrv, List.length_set, imp_self, shapeTo_foldl, State.shapeTo_refl, true_or, and_self, implies_true]
@[simp] theorem State.shape_loadWriteDone : CarriesShape (·.loadWriteDone) := carriesShape fun s => by
  unfold State.loadWriteDone
  split
  · rfl
  · simp only [State.shape_updAld, State.shape_ev, State.shape_sf, State.shape_setPhase]
    refine .inl (.inl (.inl (.inl (s.shapeTo_refl.foldl (fun t j => ?_) _))))
    split <;> simp
@[simp] theorem State.shape_ldOff : CarriesShape (·.ldOff) := carriesShape fun s => by simp [State.ldOff]
@[simp] theorem State.shape_aldWrite (t o v) : CarriesShape (·.aldWrite t o v) :=
  carriesShape fun s => by simp [State.aldWrite]

/-! ### The illumination sequencer and the scan engine (Machine/Scan.lean) -/

@[simp] theorem State.shape_updSill (f) : CarriesShape (·.updSill f) := carriesShape fun _ => id
@[simp] theorem State.shape_updScn (f) : CarriesShape (·.updScn f) := carriesShape fun _ => id
@[simp] theorem State.shape_ebLock (t) : CarriesShape (·.ebLock t) := carriesShape fun s => by simp [State.ebLock]
@[simp] theorem State.shape_budgetTick : CarriesShape (·.budgetTick) := carriesShape fun s => by simp [State.budgetTick]
@[simp] theorem State.shape_fire : CarriesShape (·.fire) := carriesShape fun s => by unfold State.fire; split <;> simp
@[simp] theorem State.shape_strobeArm (n arg) : CarriesShape (·.strobeArm n arg) := carriesShape fun s => by
  simp only [State.strobeArm, State.shapeTo_ite, State.shape_w, State.shape_ev, State.shape_err, State.shape_evArrive,
    State.shape_updSill, State.shape_fire, State.shape_cntUp, State.shape_violation, State.shapeTo_refl, true_or, and_self]
@[simp] theorem State.shape_pulseStart : CarriesShape (·.pulseStart) :=
  carriesShape fun s => by unfold State.pulseStart; split <;> simp
@[simp] theorem State.shape_pulseEnd : CarriesShape (·.pulseEnd) :=
  carriesShape fun s => by unfold State.pulseEnd; split <;> simp
@[simp] theorem State.shape_skpStop : CarriesShape (·.skpStop) :=
  carriesShape fun s => by unfold State.skpStop; split <;> simp
@[simp] theorem State.shape_skpFault : CarriesShape (·.skpFault) := carriesShape fun s => by simp [State.skpFault]
@[simp] theorem State.shape_sillFrame : CarriesShape (·.sillFrame) := carriesShape fun s => by simp [State.sillFrame]
@[simp] theorem State.shape_sillWrite (t o v) : CarriesShape (·.sillWrite t o v) :=
  carriesShape fun s => by simp [State.sillWrite]
@[simp] theorem State.shape_scnWrite16 (a b) : CarriesShape (·.scnWrite16 a b) :=
  carriesShape fun s => by simp [State.scnWrite16]
@[simp] theorem State.shape_put2c (slot v) : CarriesShape (·.put2c slot v) :=
  carriesShape fun s => by unfold State.put2c; split <;> simp
@[simp] theorem State.shape_heldEnd (h rewrite) : CarriesShape (·.heldEnd h rewrite) :=
  carriesShape fun s => by simp only [State.heldEnd]; split <;> simp
@[simp] theorem State.shape_fwdSend : CarriesShape (·.fwdSend) :=
  carriesShape fun s => by unfold State.fwdSend; split <;> simp
@[simp] theorem State.shape_fwdAdd (rseq slot hdr payload) : CarriesShape (·.fwdAdd rseq slot hdr payload) :=
  carriesShape fun s => by simp [State.fwdAdd]
@[simp] theorem State.shape_newRecord (f idx c payload st) :
    CarriesShape (fun s => (s.newRecord f idx c payload st).1) := carriesShape fun s => by
  simp only [State.newRecord]
  repeat' split
  all_goals simp
@[simp] theorem State.shape_sighting (f idx c seen) : CarriesShape (·.sighting f idx c seen) := carriesShape fun s => by
  simp only [State.sighting]
  repeat' split
  all_goals simp
@[simp] theorem State.shape_results (f l seen) : CarriesShape (·.results f l seen) := carriesShape fun s => by
  induction l generalizing s seen with
  | nil => rfl
  | cons e l ih => simp [State.results, carriesShape (ih _)]
@[simp] theorem State.shape_takeCands (found) : CarriesShape (fun s => (s.takeCands found).1) :=
  carriesShape fun s => by simp [State.takeCands]
@[simp] theorem State.shape_scnFs (rx st) : CarriesShape (·.scnFs rx st) := carriesShape fun s => by simp [State.scnFs]
@[simp] theorem State.shape_scnSubmit : CarriesShape (·.scnSubmit) := carriesShape fun s => by simp [State.scnSubmit]
@[simp] theorem State.shape_scnRun : CarriesShape (·.scnRun) := carriesShape fun s => by simp [State.scnRun]
@[simp] theorem State.shape_scnStop : CarriesShape (·.scnStop) := carriesShape fun s => by simp [State.scnStop]
@[simp] theorem State.shape_scnCancel : CarriesShape (·.scnCancel) := carriesShape fun s => by simp [State.scnCancel]
@[simp] theorem State.shape_scanXferErr (sts) : CarriesShape (·.scanXferErr sts) :=
  carriesShape fun s => by simp [State.scanXferErr]
@[simp] theorem State.shape_scanLineRead : CarriesShape (·.scanLineRead) := carriesShape fun s => by
  simp only [State.scanLineRead]
  repeat' split
  any_goals simp
  all_goals
    have ht := State.shapeTo_of_eq (s := s) ‹s.engRead _ _ _ _ = _› (by simp)
    simp [ht]
@[simp] theorem State.shape_scnFlush : CarriesShape (·.scnFlush) := carriesShape fun s => by
  simp only [State.scnFlush]
  repeat' split
  all_goals simp
@[simp] theorem State.shape_scanReadoutEnd : CarriesShape (·.scanReadoutEnd) := carriesShape fun s => by
  unfold State.scanReadoutEnd; split <;> simp
@[simp] theorem State.shape_scanRecordDone : CarriesShape (·.scanRecordDone) := carriesShape fun s => by
  unfold State.scanRecordDone; split <;> simp
@[simp] theorem State.shape_holdRepeats (f) : CarriesShape (·.holdRepeats f) := carriesShape fun s => by
  simp only [State.holdRepeats]
  refine s.shapeTo_refl.foldl (fun t i => ?_) _
  repeat' split
  all_goals simp
@[simp] theorem State.shape_scanFrameDone : CarriesShape (·.scanFrameDone) := carriesShape fun s => by
  simp only [State.scanFrameDone]
  repeat' split
  all_goals simp
@[simp] theorem State.shape_holdExpire (i) : CarriesShape (·.holdExpire i) :=
  carriesShape fun s => by unfold State.holdExpire; split <;> simp
@[simp] theorem State.shape_fwdEnd (f ok) : CarriesShape (·.fwdEnd f ok) := carriesShape fun s => by
  simp only [State.fwdEnd]
  repeat' split
  all_goals simp
@[simp] theorem State.shape_forwardResponse (sts) : CarriesShape (·.forwardResponse sts) :=
  carriesShape fun s => by unfold State.forwardResponse; split <;> simp
@[simp] theorem State.shape_forwardRetry : CarriesShape (·.forwardRetry) := carriesShape fun s => by
  unfold State.forwardRetry
  split
  · rfl
  · split <;> simp
@[simp] theorem State.shape_scnRegWrite (o v) : CarriesShape (·.scnRegWrite o v) :=
  carriesShape fun s => by simp [State.scnRegWrite]
@[simp] theorem State.shape_frameStartAll (n vc num hdr) : CarriesShape (·.frameStartAll n vc num hdr) :=
  carriesShape fun s => by simp [State.frameStartAll]
@[simp] theorem State.shape_scnReset : CarriesShape (·.scnReset) := carriesShape fun s => by simp [State.scnReset]
@[simp] theorem State.shape_sillReset : CarriesShape (·.sillReset) := carriesShape fun s => by simp [State.sillReset]

/-! ### The fault injector (Machine/Awl.lean) -/

@[simp] theorem State.shape_updInj (i f) : CarriesShape (·.updInj i f) := carriesShape fun s h => by
  simpa [State.Shape, State.updInj] using h
@[simp] theorem State.shape_awlTrig (i) : CarriesShape (fun s => (s.awlTrig i).1) :=
  carriesShape fun s => by simp [State.awlTrig]
@[simp] theorem State.shape_awlAct (i) : CarriesShape (·.awlAct i) := carriesShape fun s => by simp [State.awlAct]
@[simp] theorem State.shape_awlUnit (p sel vals) :
    CarriesShape (fun s => (s.awlUnit p sel vals).1) := carriesShape fun s => by
  refine State.ShapeTo.foldl_fst (fun r i => ?_) _ s.shapeTo_refl
  simp
@[simp] theorem State.shape_awlHold (i h) : CarriesShape (·.awlHold i h) := carriesShape fun s => by simp [State.awlHold]
@[simp] theorem State.shape_awlAfter (h) : CarriesShape (fun s => (s.awlAfter h).1) := carriesShape fun s => by
  refine State.ShapeTo.foldl_fst (fun r i => ?_) _ s.shapeTo_refl
  split <;> simp
@[simp] theorem State.shape_awlLane (rx n proto u) :
    CarriesShape (fun s => (s.awlLane rx n proto u).1) := carriesShape fun s => by
  simp only [State.awlLane]
  split <;> next h =>
    have ht := State.shapeTo_of_eq (s := s) h (by simp)
    simp [ht]
@[simp] theorem State.shape_awlLace (sel addr rd reg b) :
    CarriesShape (fun s => (s.awlLace sel addr rd reg b).1) := carriesShape fun s => by
  simp only [State.awlLace]
  split <;> next h =>
    have ht := State.shapeTo_of_eq (s := s) h (by simp)
    simp [ht]
@[simp] theorem State.shape_awlCtrl (i v) : CarriesShape (·.awlCtrl i v) := carriesShape fun s => by
  simp only [State.awlCtrl]
  repeat' split
  all_goals simp
@[simp] theorem State.shape_awlDisarm : CarriesShape (·.awlDisarm) := carriesShape fun s => by simp [State.awlDisarm]
@[simp] theorem State.shape_awlClr : CarriesShape (·.awlClr) := carriesShape fun s => by simp [State.awlClr]
@[simp] theorem State.shape_awlWrite (o v) : CarriesShape (·.awlWrite o v) := carriesShape fun s => by simp [State.awlWrite]
@[simp] theorem State.shape_awlMark (m) : CarriesShape (·.awlMark m) := carriesShape fun s => by simp [State.awlMark]

/-! ### The island: commands, boot, unlock, credentials (Machine/Sec.lean) -/

@[simp] theorem State.shape_argRead (a n) : CarriesShape (fun s => (s.argRead a n).1) :=
  carriesShape fun s => by simp [State.argRead]
@[simp] theorem State.shape_withArgs {k : State → State × Nat} (hk : ∀ t : State, t.ShapeTo (k t).1) (l) :
    CarriesShape (fun s => (s.withArgs l k).1) := carriesShape fun s => by
  induction l generalizing s with
  | nil => exact hk s
  | cons e q ih => simp [State.withArgs, carriesShape ih]
@[simp] theorem State.shape_loadSlot (n a v) : CarriesShape (fun s => (s.loadSlot n a v).1) :=
  carriesShape fun s => by simp [State.loadSlot]
@[simp] theorem State.shape_putArg (a b) : CarriesShape (fun s => (s.putArg a b).1) :=
  carriesShape fun s => by simp [State.putArg]
@[simp] theorem State.shape_thermoTo (w n) : CarriesShape (·.thermoTo w n) := carriesShape fun s => by simp [State.thermoTo]
@[simp] theorem State.shape_otpProg (w v supplyOk) :
    CarriesShape (fun s => (s.otpProg w v supplyOk).1) := carriesShape fun s => by
  simp only [State.otpProg]
  repeat' split
  all_goals simp
@[simp] theorem State.shape_nextEpoch : CarriesShape (fun s => (s.nextEpoch).1) :=
  carriesShape fun s => by simp [State.nextEpoch]
@[simp] theorem State.shape_mcInc (n) : CarriesShape (fun s => (s.mcInc n).1) := carriesShape fun s => by simp [State.mcInc]
@[simp] theorem State.shape_setWin (i h m) : CarriesShape (·.setWin i h m) := carriesShape fun s => by simp [State.setWin]
@[simp] theorem State.shape_imgCheck (b) : CarriesShape (fun s => (s.imgCheck b).1) := carriesShape fun s => by
  simp only [State.imgCheck]
  repeat' split
  all_goals simp
@[simp] theorem State.shape_kRun (k) : CarriesShape (fun s => (s.kRun k).1) := carriesShape fun s => by
  cases k
  case aes | ksUnwrap =>
    simp only [State.kRun]
    repeat' split
    any_goals rfl
    all_goals
      refine ((State.shape_withArgs (fun t => ?_) _) s s).mpr (.inl s.shapeTo_refl)
      split <;> simp
  case arbAdvance => simp only [State.kRun]; split <;> simp
  case winRaise =>
    simp only [State.kRun]
    split
    · rfl
    · split <;> simp
  all_goals simp [State.kRun]
@[simp] theorem State.shape_kCmd (k) : CarriesShape (·.kCmd k) := carriesShape fun s => by simp [State.kCmd]
@[simp] theorem State.shape_kImgCheck (src) : CarriesShape (·.kImgCheck src) :=
  carriesShape fun s => by simp [State.kImgCheck]
@[simp] theorem State.shape_cryptoOpDone : CarriesShape (·.cryptoOpDone) :=
  carriesShape fun s => by unfold State.cryptoOpDone; split <;> simp
@[simp] theorem State.shape_seckWrite (o v) : CarriesShape (·.seckWrite o v) :=
  carriesShape fun s => by simp [State.seckWrite]
@[simp] theorem State.shape_trngStartupDone : CarriesShape (·.trngStartupDone) :=
  carriesShape fun s => by simp [State.trngStartupDone]
@[simp] theorem State.shape_trngHealthFail : CarriesShape (·.trngHealthFail) :=
  carriesShape fun s => by simp [State.trngHealthFail]
@[simp] theorem State.shape_bootGo (base slot) : CarriesShape (·.bootGo base slot) :=
  carriesShape fun s => by simp [State.bootGo]
@[simp] theorem State.shape_bootBody (base) : CarriesShape (·.bootBody base) :=
  carriesShape fun s => by simp [State.bootBody]
@[simp] theorem State.shape_retStart : CarriesShape (·.retStart) := carriesShape fun s => by simp [State.retStart]
@[simp] theorem State.shape_bootRomStart : CarriesShape (·.bootRomStart) := carriesShape fun s => by
  simp only [State.bootRomStart]
  repeat' split
  all_goals simp
@[simp] theorem State.shape_dbgRequest (perm) : CarriesShape (·.dbgRequest perm) :=
  carriesShape fun s => by simp [State.dbgRequest]
@[simp] theorem State.shape_dbgFail : CarriesShape (·.dbgFail) := carriesShape fun s => by simp [State.dbgFail]
@[simp] theorem State.shape_dbgToken (k sg) : CarriesShape (·.dbgToken k sg) := carriesShape fun s => by
  simp only [State.dbgToken]
  repeat' split
  all_goals simp
@[simp] theorem State.shape_dbgVerifyDone : CarriesShape (·.dbgVerifyDone) :=
  carriesShape fun s => by unfold State.dbgVerifyDone; split <;> simp
@[simp] theorem State.shape_credCheckStart : CarriesShape (·.credCheckStart) := carriesShape fun s => by
  simp only [State.credCheckStart]
  repeat' split
  all_goals simp
@[simp] theorem State.shape_intakeEnd (k hdr r c) : CarriesShape (·.intakeEnd k hdr r c) := carriesShape fun s => by
  simp only [State.intakeEnd]
  repeat' split
  all_goals simp only [State.shape_w, State.shape_ev, State.shape_err, State.shape_sf, State.shape_updSec, imp_self, implies_true,
    State.shape_cntUp, State.shape_setWin, State.shape_mcInc, State.shapeTo_refl, true_or]
@[simp] theorem State.shape_credCheckDone : CarriesShape (·.credCheckDone) := carriesShape fun s => by
  simp only [State.credCheckDone]
  repeat' split
  all_goals simp
@[simp] theorem State.shape_grantTimeout : CarriesShape (·.grantTimeout) :=
  carriesShape fun s => by unfold State.grantTimeout; split <;> simp
@[simp] theorem State.shape_grantSent : CarriesShape (·.grantSent) :=
  carriesShape fun s => by unfold State.grantSent; split <;> simp
@[simp] theorem State.shape_intakeSlotClose (k) : CarriesShape (·.intakeSlotClose k) :=
  carriesShape fun s => by simp [State.intakeSlotClose]
@[simp] theorem State.shape_intakeWrite (n o v) : CarriesShape (fun s => (s.intakeWrite n o v).1) :=
  carriesShape fun s => by simp [State.intakeWrite]
@[simp] theorem State.shape_svVerify : CarriesShape (·.svVerify) := carriesShape fun s => by simp [State.svVerify]
@[simp] theorem State.shape_svcWrite (o v) : CarriesShape (·.svcWrite o v) := carriesShape fun s => by simp [State.svcWrite]
@[simp] theorem State.shape_svRnd : CarriesShape (fun s => (s.svRnd).1) := carriesShape fun s => by simp [State.svRnd]
@[simp] theorem State.shape_secWrite (t o v) : CarriesShape (·.secWrite t o v) :=
  carriesShape fun s => by simp [State.secWrite]

/-! ### The display pipes, the icon vault and the Guard (Machine/Display.lean) -/

@[simp] theorem State.shape_updDp (p f) : CarriesShape (·.updDp p f) := carriesShape fun s h => by
  simpa [State.Shape, State.updDp] using h
@[simp] theorem State.shape_icvSeal : CarriesShape (·.icvSeal) := carriesShape fun s => by simp [State.icvSeal]
@[simp] theorem State.shape_icvOpen : CarriesShape (·.icvOpen) := carriesShape fun s => by
  simp only [State.icvOpen, State.shapeTo_ite, State.shapeTo_update, imp_self, State.shape_err, State.shape_sf, State.shapeTo_refl,
    true_or, and_self]
@[simp] theorem State.shape_icvWrite (o v) : CarriesShape (·.icvWrite o v) := carriesShape fun s => by simp [State.icvWrite]
@[simp] theorem State.shape_imgCheckAccept (src) : CarriesShape (·.imgCheckAccept src) :=
  carriesShape fun s => by simp [State.imgCheckAccept]
@[simp] theorem State.shape_islandDone : CarriesShape (·.islandDone) := carriesShape fun s => by
  simp only [State.islandDone]
  split
  · simp only [State.shapeTo_ite, State.shapeTo_update, imp_self, State.shape_w, State.shape_sf, State.shape_cryptoOpDone,
      State.shapeTo_refl, true_or, and_self]
  · simp
@[simp] theorem State.shape_icvFormatDone : CarriesShape (·.icvFormatDone) :=
  carriesShape fun s => by simp [State.icvFormatDone]
@[simp] theorem State.shape_setRst (p k st cnt good) : CarriesShape (·.setRst p k st cnt good) :=
  carriesShape fun s => by simp [State.setRst]
@[simp] theorem State.shape_regionsAtLatch (p v) : CarriesShape (·.regionsAtLatch p v) :=
  carriesShape fun s => by simp [State.regionsAtLatch]
@[simp] theorem State.shape_setPpll (p v) : CarriesShape (·.setPpll p v) := carriesShape fun _ => id
@[simp] theorem State.shape_dpTake (p) : CarriesShape (·.dpTake p) := carriesShape fun s => by
  simp only [State.dpTake]
  repeat' split
  all_goals simp
@[simp] theorem State.shape_planeFetch (p v y) : CarriesShape (·.planeFetch p v y) := carriesShape fun s => by
  simp only [State.planeFetch, State.shape_updDp]
  refine .inl (s.shapeTo_refl.foldl (fun t e => ?_) _)
  split <;> simp
@[simp] theorem State.shape_heldRows (p) : CarriesShape (·.heldRows p) := carriesShape fun s => by simp [State.heldRows]
@[simp] theorem State.shape_dpLatch (p) : CarriesShape (·.dpLatch p) := carriesShape fun s => by simp [State.dpLatch]
@[simp] theorem State.shape_ppllLock (p) : CarriesShape (·.ppllLock p) := carriesShape fun s => by simp [State.ppllLock]
@[simp] theorem State.shape_dpFrameStart (p) : CarriesShape (·.dpFrameStart p) :=
  carriesShape fun s => by simp [State.dpFrameStart]
@[simp] theorem State.shape_crcLine (p y row) : CarriesShape (·.crcLine p y row) :=
  carriesShape fun s => by simp [State.crcLine]
@[simp] theorem State.shape_dpLine (p late) : CarriesShape (·.dpLine p late) := carriesShape fun s => by simp [State.dpLine]
@[simp] theorem State.shape_dpStop (p) : CarriesShape (·.dpStop p) := carriesShape fun s => by simp [State.dpStop]
@[simp] theorem State.shape_ppllStop (p) : CarriesShape (·.ppllStop p) := carriesShape fun s => by simp [State.ppllStop]
@[simp] theorem State.shape_guardStep (p k reason fseq) : CarriesShape (·.guardStep p k reason fseq) :=
  carriesShape fun s => by simp [State.guardStep]
@[simp] theorem State.shape_guardDecision (p) : CarriesShape (·.guardDecision p) := carriesShape fun s => by
  simp only [State.guardDecision]
  repeat' split
  all_goals simp
@[simp] theorem State.shape_guardMissed (p) : CarriesShape (·.guardMissed p) :=
  carriesShape fun s => by simp [State.guardMissed]
@[simp] theorem State.shape_guardReport (p fseq r) : CarriesShape (·.guardReport p fseq r) :=
  carriesShape fun s => by unfold State.guardReport; split <;> simp
@[simp] theorem State.shape_ttgRelease (p) : CarriesShape (·.ttgRelease p) :=
  carriesShape fun s => by simp [State.ttgRelease]
@[simp] theorem State.shape_forceOff (t) : CarriesShape (·.forceOff t) := carriesShape fun s => by simp [State.forceOff]
@[simp] theorem State.shape_ttgWrite (t o v) : CarriesShape (·.ttgWrite t o v) :=
  carriesShape fun s => by simp [State.ttgWrite]
@[simp] theorem State.shape_dpWrite (p o v) : CarriesShape (·.dpWrite p o v) :=
  carriesShape fun s => by simp [State.dpWrite]
@[simp] theorem State.shape_dispLeave : CarriesShape (·.dispLeave) := carriesShape fun s => by simp [State.dispLeave]

/-! ### The light drive (Machine/Light.lean) -/

@[simp] theorem State.shape_updLight (f : Light → Light) (hpwm : ∀ l, l.pwm.length = 17 → (f l).pwm.length = 17) :
    CarriesShape (·.updLight f) := carriesShape fun s => by simp +contextual [State.updLight, hpwm]
@[simp] theorem State.shape_updPwm (t f) : CarriesShape (·.updPwm t f) := carriesShape fun s => by simp [State.updPwm]
@[simp] theorem State.shape_periodAt (t at_) : CarriesShape (·.periodAt t at_) := carriesShape fun s => by
  simp only [State.periodAt]
  repeat' split
  all_goals simp
@[simp] theorem State.shape_pwmPeriod (t) : CarriesShape (·.pwmPeriod t) := carriesShape fun s => by simp [State.pwmPeriod]
@[simp] theorem State.shape_pwmSub (t) : CarriesShape (·.pwmSub t) := carriesShape fun s => by simp [State.pwmSub]
@[simp] theorem State.shape_lampSync (g) : CarriesShape (·.lampSync g) := carriesShape fun s => by simp [State.lampSync]
@[simp] theorem State.shape_mxCommit : CarriesShape (·.mxCommit) := carriesShape fun s => by
  simp only [State.mxCommit]
  repeat' split
  all_goals simp only [State.shape_updLight, imp_self, implies_true, State.shape_admQueue, State.shapeTo_update, imp_self, State.shape_w, State.shape_sf,
    State.shape_ev, State.shape_err, State.shape_errBusy, State.shapeTo_refl, true_or]
@[simp] theorem State.shape_mxResult : CarriesShape (·.mxResult) :=
  carriesShape fun s => by unfold State.mxResult; split <;> simp
@[simp] theorem State.shape_mxFrame : CarriesShape (·.mxFrame) := carriesShape fun s => by simp [State.mxFrame]
@[simp] theorem State.shape_lightFreeze : CarriesShape (·.lightFreeze) := carriesShape fun s => by simp [State.lightFreeze]
@[simp] theorem State.shape_blScan (arg) : CarriesShape (·.blScan arg) := carriesShape fun s => by simp [State.blScan]
@[simp] theorem State.shape_scanMiss : CarriesShape (·.scanMiss) :=
  carriesShape fun s => by unfold State.scanMiss; split <;> simp
@[simp] theorem State.shape_pdPend (x) : CarriesShape (·.pdPend x) := carriesShape fun s => by simp [State.pdPend]
@[simp] theorem State.shape_ovpFlag (v) : CarriesShape (·.ovpFlag v) := carriesShape fun s => by simp [State.ovpFlag]
@[simp] theorem State.shape_boostOvp (v) : CarriesShape (·.boostOvp v) := carriesShape fun s => by simp [State.boostOvp]
@[simp] theorem State.shape_bldWrite (o v) : CarriesShape (·.bldWrite o v) := carriesShape fun s => by simp [State.bldWrite]
@[simp] theorem State.shape_calWrite (o v) : CarriesShape (·.calWrite o v) := carriesShape fun s => by simp [State.calWrite]
@[simp] theorem State.shape_calApply (p) : CarriesShape (·.calApply p) := carriesShape fun s => by simp [State.calApply]
@[simp] theorem State.shape_calLatch : CarriesShape (·.calLatch) := carriesShape fun s => by simp [State.calLatch]
@[simp] theorem State.shape_calRegWrite (o v) : CarriesShape (·.calRegWrite o v) :=
  carriesShape fun s => by simp [State.calRegWrite]
@[simp] theorem State.shape_grpAct (g) : CarriesShape (·.grpAct g) := carriesShape fun s => by
  simp only [State.grpAct, State.shapeTo_ite, State.shapeTo_update, imp_self, State.shape_sf, State.shape_ev, State.shapeTo_refl,
    true_or, and_self]
@[simp] theorem State.shape_shedStart : CarriesShape (·.shedStart) := carriesShape fun s => by simp [State.shedStart]
@[simp] theorem State.shape_shedEnd : CarriesShape (·.shedEnd) := carriesShape fun s => by simp [State.shedEnd]
@[simp] theorem State.shape_lampFlag (c short) : CarriesShape (·.lampFlag c short) :=
  carriesShape fun s => by simp [State.lampFlag]
@[simp] theorem State.shape_lampFault (c short) : CarriesShape (·.lampFault c short) :=
  carriesShape fun s => by simp [State.lampFault]
@[simp] theorem State.shape_rowFlag (r) : CarriesShape (·.rowFlag r) := carriesShape fun s => by simp [State.rowFlag]
@[simp] theorem State.shape_rowOver (r) : CarriesShape (·.rowOver r) := carriesShape fun s => by simp [State.rowOver]
@[simp] theorem State.shape_grpRelease : CarriesShape (·.grpRelease) := carriesShape fun s => by simp [State.grpRelease]
@[simp] theorem State.shape_ldFclr : CarriesShape (·.ldFclr) := carriesShape fun s => by simp [State.ldFclr]
@[simp] theorem State.shape_headroomLow (n) : CarriesShape (·.headroomLow n) :=
  carriesShape fun s => by simp [State.headroomLow]
@[simp] theorem State.shape_pdFlush : CarriesShape (·.pdFlush) := carriesShape fun s => by
  refine State.ShapeTo.foldl (fun t x => ?_) _ (by simp)
  cases x <;> simp
@[simp] theorem State.shape_lightThaw : CarriesShape (·.lightThaw) := carriesShape fun s => by simp [State.lightThaw]
@[simp] theorem State.shape_setF (f) : CarriesShape (·.setF f) := carriesShape fun s => by unfold State.setF; split <;> simp
@[simp] theorem State.shape_ldNtc (x flag) : CarriesShape (·.ldNtc x flag) := carriesShape fun s => by simp [State.ldNtc]
@[simp] theorem State.shape_fgClr (t n m) : CarriesShape (·.fgClr t n m) := carriesShape fun s => by simp [State.fgClr]
@[simp] theorem State.shape_fgWrite (t n o v) : CarriesShape (·.fgWrite t n o v) :=
  carriesShape fun s => by simp [State.fgWrite]
@[simp] theorem State.shape_ldWrite (o v) : CarriesShape (·.ldWrite o v) := carriesShape fun s => by simp [State.ldWrite]
@[simp] theorem State.shape_holdTick : CarriesShape (·.holdTick) := carriesShape fun s => by simp [State.holdTick]

/-! ### The Lace lamp bus (Machine/Lace.lean) -/

@[simp] theorem State.shape_updLace (f) : CarriesShape (·.updLace f) := carriesShape fun _ => id
@[simp] theorem State.shape_flipSeq (a) : CarriesShape (·.flipSeq a) := carriesShape fun s => by simp [State.flipSeq]
@[simp] theorem State.shape_setOnline (a v) : CarriesShape (·.setOnline a v) :=
  carriesShape fun s => by simp [State.setOnline]
@[simp] theorem State.shape_laceDone (t res status data) : CarriesShape (·.laceDone t res status data) :=
  carriesShape fun s => by simp [State.laceDone]
@[simp] theorem State.shape_lacePush (t n) : CarriesShape (·.lacePush t n) := carriesShape fun s => by simp [State.lacePush]
@[simp] theorem State.shape_laceFlush : CarriesShape (·.laceFlush) := carriesShape fun s => by simp [State.laceFlush]
@[simp] theorem State.shape_laceSend (t fr) : CarriesShape (fun s => (s.laceSend t fr).1) := carriesShape fun s => by
  simp only [State.laceSend]
  split <;> next h => exact State.shapeTo_of_eq h (by simp)
@[simp] theorem State.shape_laceGo (t) : CarriesShape (·.laceGo t) := carriesShape fun s => by simp [State.laceGo]
@[simp] theorem State.shape_laceCast : CarriesShape (·.laceCast) :=
  carriesShape fun s => by unfold State.laceCast; split <;> simp
@[simp] theorem State.shape_laceStart : CarriesShape (·.laceStart) := carriesShape fun s => by
  simp only [State.laceStart]
  repeat' split
  all_goals simp
@[simp] theorem State.shape_laceFail (b) : CarriesShape (·.laceFail b) := carriesShape fun s => by simp [State.laceFail]
@[simp] theorem State.shape_laceTimeout (readback) : CarriesShape (·.laceTimeout readback) :=
  carriesShape fun s => by unfold State.laceTimeout; split <;> simp
@[simp] theorem State.shape_eyeStatus (a status) : CarriesShape (·.eyeStatus a status) :=
  carriesShape fun s => by simp [State.eyeStatus]
@[simp] theorem State.shape_laceTake (bytes) : CarriesShape (·.laceTake bytes) :=
  carriesShape fun s => by unfold State.laceTake; split <;> simp
@[simp] theorem State.shape_laceAnswer (b) : CarriesShape (·.laceAnswer b) := carriesShape fun s => by
  simp only [State.laceAnswer]
  split
  · rfl
  · split <;> next h =>
      have ht := State.shapeTo_of_eq (s := s) h (by simp)
      simp [ht]
@[simp] theorem State.shape_laceLatch : CarriesShape (·.laceLatch) := carriesShape fun s => by simp [State.laceLatch]
@[simp] theorem State.shape_lacePoll : CarriesShape (·.lacePoll) := carriesShape fun s => by simp [State.lacePoll]
@[simp] theorem State.shape_laceOnline (o v) : CarriesShape (·.laceOnline o v) :=
  carriesShape fun s => by simp [State.laceOnline]
@[simp] theorem State.shape_laceWrite (t n o v) : CarriesShape (·.laceWrite t n o v) :=
  carriesShape fun s => by simp [State.laceWrite]
@[simp] theorem State.shape_lacePop : CarriesShape (fun s => (s.lacePop).1) :=
  carriesShape fun s => by unfold State.lacePop; split <;> simp
@[simp] theorem State.shape_laceReset : CarriesShape (·.laceReset) := carriesShape fun s => by simp [State.laceReset]

/-! ### The serial lanes and links (Machine/Lanes.lean) -/

@[simp] theorem State.shape_updLn (n f) : CarriesShape (·.updLn n f) := carriesShape fun s h => by
  simpa [State.Shape, State.updLn] using h
@[simp] theorem State.shape_updLk (n f) : CarriesShape (·.updLk n f) := carriesShape fun s h => by
  simpa [State.Shape, State.updLk] using h
@[simp] theorem State.shape_laneSend (n us) : CarriesShape (·.laneSend n us) :=
  carriesShape fun s => by simp [State.laneSend, shapeTo_foldl_fst]
@[simp] theorem State.shape_laneTrain (n) : CarriesShape (·.laneTrain n) := carriesShape fun s => by simp [State.laneTrain]
@[simp] theorem State.shape_laneExit (n early) : CarriesShape (·.laneExit n early) :=
  carriesShape fun s => by simp [State.laneExit]
@[simp] theorem State.shape_laneSleep (n dormant win) : CarriesShape (·.laneSleep n dormant win) :=
  carriesShape fun s => by simp [State.laneSleep]
@[simp] theorem State.shape_linkDown (n cause) : CarriesShape (·.linkDown n cause) :=
  carriesShape fun s => by simp [State.linkDown]
@[simp] theorem State.shape_laneDown (n cause) : CarriesShape (·.laneDown n cause) :=
  carriesShape fun s => by simp [State.laneDown]
@[simp] theorem State.shape_linkPump (n) : CarriesShape (·.linkPump n) := carriesShape fun s => by simp [State.linkPump]
@[simp] theorem State.shape_linkReplay (n ls) : CarriesShape (·.linkReplay n ls) :=
  carriesShape fun s => by simp [State.linkReplay]
@[simp] theorem State.shape_addCtl (n typ lseq) : CarriesShape (·.addCtl n typ lseq) :=
  carriesShape fun s => by simp [State.addCtl]
@[simp] theorem State.shape_linkTryUp (n) : CarriesShape (·.linkTryUp n) := carriesShape fun s => by simp [State.linkTryUp]
@[simp] theorem State.shape_apertureDone (n net st dem late d) : CarriesShape (·.apertureDone n net st dem late d) :=
  carriesShape fun s => by unfold State.apertureDone; split <;> simp
@[simp] theorem State.shape_aperture (n src q cls write o v net) : CarriesShape (·.aperture n src q cls write o v net) :=
  carriesShape fun s => by simp [State.aperture]
@[simp] theorem State.shape_linkReply (n h st dem late d) : CarriesShape (·.linkReply n h st dem late d) :=
  carriesShape fun s => by simp [State.linkReply]
@[simp] theorem State.shape_linkSettle (ni) : CarriesShape (·.linkSettle ni) :=
  carriesShape fun s => by simp [State.linkSettle]
@[simp] theorem State.shape_linkIssue (n h d) : CarriesShape (·.linkIssue n h d) :=
  carriesShape fun s => by simp [State.linkIssue]
@[simp] theorem State.shape_linkRequest (n h d) : CarriesShape (·.linkRequest n h d) := carriesShape fun s => by
  simp only [State.linkRequest]
  repeat' split
  all_goals simp
@[simp] theorem State.shape_linkResponse (n h b) : CarriesShape (·.linkResponse n h b) :=
  carriesShape fun s => by unfold State.linkResponse; split <;> simp
@[simp] theorem State.shape_linkNak (n) : CarriesShape (·.linkNak n) := carriesShape fun s => by simp [State.linkNak]
@[simp] theorem State.shape_linkData (n b bad) : CarriesShape (·.linkData n b bad) :=
  carriesShape fun s => by simp [State.linkData]
theorem State.shapeTo_linkAck {s t : State} {n q : Nat} (h : s.linkAck n q = some t) : s.ShapeTo t := by
  simp only [State.linkAck] at h
  repeat' split at h
  all_goals cases h
  all_goals simp
@[simp] theorem State.shape_linkCtl (n b) : CarriesShape (·.linkCtl n b) := carriesShape fun s => by
  simp only [State.linkCtl]
  repeat' split
  any_goals simp
  all_goals simp [State.shapeTo_linkAck ‹s.linkAck _ _ = _›]
@[simp] theorem State.shape_linkInit (n) : CarriesShape (·.linkInit n) := carriesShape fun s => by simp [State.linkInit]
@[simp] theorem State.shape_linkTimeout (n) : CarriesShape (·.linkTimeout n) :=
  carriesShape fun s => by unfold State.linkTimeout; split <;> simp
@[simp] theorem State.shape_paneOut (n us) : CarriesShape (·.paneOut n us) := carriesShape fun s => by simp [State.paneOut]
@[simp] theorem State.shape_paneLatch (p) : CarriesShape (·.paneLatch p) := carriesShape fun s => by simp [State.paneLatch]
@[simp] theorem State.shape_paneSegment (n x) : CarriesShape (·.paneSegment n x) :=
  carriesShape fun s => by unfold State.paneSegment; split <;> simp
@[simp] theorem State.shape_panePrep (n b bad) : CarriesShape (·.panePrep n b bad) := carriesShape fun s => by
  simp only [State.panePrep]
  repeat' split
  all_goals simp
@[simp] theorem State.shape_hostClose (n) : CarriesShape (·.hostClose n) :=
  carriesShape fun s => by unfold State.hostClose; split <;> simp
@[simp] theorem State.shape_hostStart (n b) : CarriesShape (·.hostStart n b) :=
  carriesShape fun s => by simp [State.hostStart]
@[simp] theorem State.shape_hostStore (n base ps) : CarriesShape (·.hostStore n base ps) :=
  carriesShape fun s => by simp [State.hostStore]
@[simp] theorem State.shape_hostLine (n b) : CarriesShape (·.hostLine n b) :=
  carriesShape fun s => by unfold State.hostLine; split <;> simp
@[simp] theorem State.shape_hostPkt (n b bad) : CarriesShape (·.hostPkt n b bad) :=
  carriesShape fun s => by simp [State.hostPkt]
@[simp] theorem State.shape_laneTake (n u) : CarriesShape (·.laneTake n u) :=
  carriesShape fun s => by unfold State.laneTake; split <;> simp
@[simp] theorem State.shape_laneRx (n proto u) : CarriesShape (·.laneRx n proto u) :=
  carriesShape fun s => by simp [State.laneRx]
@[simp] theorem State.shape_hostRx (n typ b bad) : CarriesShape (·.hostRx n typ b bad) :=
  carriesShape fun s => by simp [State.hostRx]
@[simp] theorem State.shape_ctlRx (n typ b) : CarriesShape (·.ctlRx n typ b) := carriesShape fun s => by simp [State.ctlRx]
@[simp] theorem State.shape_laneFlush (n) : CarriesShape (·.laneFlush n) := carriesShape fun s => by simp [State.laneFlush]
@[simp] theorem State.shape_laneAligned (n) : CarriesShape (·.laneAligned n) :=
  carriesShape fun s => by simp [State.laneAligned]
@[simp] theorem State.shape_laneLost (n errs) : CarriesShape (·.laneLost n errs) :=
  carriesShape fun s => by simp [State.laneLost]
@[simp] theorem State.shape_allLanes {f : State → Nat → State} (h : ∀ (s : State) n, s.ShapeTo (f s n)) :
    CarriesShape (·.allLanes f) := carriesShape fun s => by simp [State.allLanes, h]
@[simp] theorem State.shape_setLanePll (v) : CarriesShape (·.setLanePll v) := carriesShape fun _ => id
@[simp] theorem State.shape_refOff : CarriesShape (·.refOff) := carriesShape fun s => by simp [State.refOff]
@[simp] theorem State.shape_refLoss : CarriesShape (·.refLoss) := carriesShape fun s => by simp [State.refLoss]
@[simp] theorem State.shape_lanePllLock : CarriesShape (·.lanePllLock) := carriesShape fun s => by simp [State.lanePllLock]
@[simp] theorem State.shape_laneLp (arg) : CarriesShape (·.laneLp arg) := carriesShape fun s => by simp [State.laneLp]
@[simp] theorem State.shape_laneFarLp (n) : CarriesShape (·.laneFarLp n) := carriesShape fun s => by simp [State.laneFarLp]
@[simp] theorem State.shape_laneLine : CarriesShape (·.laneLine) := carriesShape fun s => by simp [State.laneLine]
@[simp] theorem State.shape_laneWindowEnd (n) : CarriesShape (·.laneWindowEnd n) :=
  carriesShape fun s => by simp [State.laneWindowEnd]
@[simp] theorem State.shape_laneExitDone (n) : CarriesShape (·.laneExitDone n) :=
  carriesShape fun s => by simp [State.laneExitDone]
@[simp] theorem State.shape_laneCommit (n old oldPr) : CarriesShape (·.laneCommit n old oldPr) :=
  carriesShape fun s => by simp [State.laneCommit]
@[simp] theorem State.shape_prbsLock (n) : CarriesShape (·.prbsLock n) := carriesShape fun s => by simp [State.prbsLock]
@[simp] theorem State.shape_prbsLost (n errs bits) : CarriesShape (·.prbsLost n errs bits) :=
  carriesShape fun s => by simp [State.prbsLost]
@[simp] theorem State.shape_esDone (n errs) : CarriesShape (·.esDone n errs) := carriesShape fun s => by simp [State.esDone]
@[simp] theorem State.shape_esCtrl (n v) : CarriesShape (·.esCtrl n v) := carriesShape fun s => by simp [State.esCtrl]
@[simp] theorem State.shape_laneWrite (t n o v) : CarriesShape (·.laneWrite t n o v) :=
  carriesShape fun s => by simp [State.laneWrite]
@[simp] theorem State.shape_laneRead (n o) : CarriesShape (fun s => (s.laneRead n o).1) :=
  carriesShape fun s => by simp [State.laneRead]
@[simp] theorem State.shape_linkWrite (n o v) : CarriesShape (·.linkWrite n o v) :=
  carriesShape fun s => by simp [State.linkWrite]
@[simp] theorem State.shape_paneWrite (n o v) : CarriesShape (·.paneWrite n o v) :=
  carriesShape fun s => by simp [State.paneWrite]
@[simp] theorem State.shape_laneReset (n) : CarriesShape (·.laneReset n) := carriesShape fun s => by simp [State.laneReset]
@[simp] theorem State.shape_linkReset (n) : CarriesShape (·.linkReset n) := carriesShape fun s => by simp [State.linkReset]
@[simp] theorem State.shape_paneReset (n) : CarriesShape (·.paneReset n) := carriesShape fun s => by simp [State.paneReset]
@[simp] theorem State.shape_lanesOff : CarriesShape (·.lanesOff) := 
  carriesShape fun _ ⟨hcores, hnis, hgrv, hcaps, hsec, hdps, hpwm, _, hrest⟩ =>
    ⟨hcores, hnis, hgrv, hcaps, hsec, hdps, hpwm, ⟨List.length_replicate, List.length_replicate⟩, hrest⟩

/-! ### The vehicle interfaces and the converter (Machine/Vehicle.lean) -/

@[simp] theorem State.shape_updCan (n f) : CarriesShape (·.updCan n f) := carriesShape fun s h => by
  simpa [State.Shape, State.updCan] using h
@[simp] theorem State.shape_canPick (n) : CarriesShape (·.canPick n) := carriesShape fun s => by simp [State.canPick]
@[simp] theorem State.shape_canRequest (n m) : CarriesShape (·.canRequest n m) :=
  carriesShape fun s => by simp [State.canRequest]
@[simp] theorem State.shape_canDrop (n p) : CarriesShape (·.canDrop n p) := carriesShape fun s => by simp [State.canDrop]
@[simp] theorem State.shape_canAbort (n m) : CarriesShape (·.canAbort n m) := carriesShape fun s => by simp [State.canAbort]
@[simp] theorem State.shape_canMode (n) : CarriesShape (·.canMode n) := carriesShape fun s => by simp [State.canMode]
@[simp] theorem State.shape_grantLoad (again) : CarriesShape (·.grantLoad again) := carriesShape fun s => by
  simp only [State.grantLoad]
  repeat' split
  all_goals simp
@[simp] theorem State.shape_grantExpire : CarriesShape (·.grantExpire) := carriesShape fun s => by simp [State.grantExpire]
@[simp] theorem State.shape_canError (n lost dTec dRec) : CarriesShape (·.canError n lost dTec dRec) :=
  carriesShape fun s => by simp [State.canError]
@[simp] theorem State.shape_canSent (n) : CarriesShape (·.canSent n) :=
  carriesShape fun s => by unfold State.canSent; split <;> simp
@[simp] theorem State.shape_canReceive (n f) : CarriesShape (·.canReceive n f) :=
  carriesShape fun s => by simp [State.canReceive]
@[simp] theorem State.shape_canBusOff (n) : CarriesShape (·.canBusOff n) := carriesShape fun s => by simp [State.canBusOff]
@[simp] theorem State.shape_canRecovered (n) : CarriesShape (·.canRecovered n) :=
  carriesShape fun s => by simp [State.canRecovered]
@[simp] theorem State.shape_canCommit (n) : CarriesShape (·.canCommit n) := carriesShape fun s => by simp [State.canCommit]
@[simp] theorem State.shape_canWrite (n o v) : CarriesShape (·.canWrite n o v) := carriesShape fun s => by
  simp only [State.canWrite]
  repeat' split
  all_goals simp
@[simp] theorem State.shape_updLin (f) : CarriesShape (·.updLin f) := carriesShape fun _ => id
@[simp] theorem State.shape_linSchedule : CarriesShape (·.linSchedule) := carriesShape fun s => by
  simp only [State.linSchedule]
  repeat' split
  all_goals simp
@[simp] theorem State.shape_linHeader (pid) : CarriesShape (·.linHeader pid) := carriesShape fun s => by
  simp only [State.linHeader]
  repeat' split
  all_goals simp
@[simp] theorem State.shape_linDone (errs data) : CarriesShape (·.linDone errs data) :=
  carriesShape fun s => by unfold State.linDone; split <;> simp
@[simp] theorem State.shape_linWrite (o v) : CarriesShape (·.linWrite o v) := carriesShape fun s => by simp [State.linWrite]
@[simp] theorem State.shape_linRead (o) : CarriesShape (fun s => (s.linRead o).1) :=
  carriesShape fun s => by simp [State.linRead]
@[simp] theorem State.shape_linCommit : CarriesShape (·.linCommit) := carriesShape fun s => by simp [State.linCommit]
@[simp] theorem State.shape_updI2c (n f) : CarriesShape (·.updI2c n f) := carriesShape fun s h => by
  simpa [State.Shape, State.updI2c] using h
@[simp] theorem State.shape_i2cShift (n) : CarriesShape (·.i2cShift n) :=
  carriesShape fun s => by unfold State.i2cShift; split <;> simp
@[simp] theorem State.shape_i2cCmd (n v) : CarriesShape (·.i2cCmd n v) := carriesShape fun s => by simp [State.i2cCmd]
@[simp] theorem State.shape_i2cDone (n outcome data) : CarriesShape (·.i2cDone n outcome data) :=
  carriesShape fun s => by unfold State.i2cDone; split <;> simp
@[simp] theorem State.shape_i2cStuck (n) : CarriesShape (·.i2cStuck n) := carriesShape fun s => by simp [State.i2cStuck]
@[simp] theorem State.shape_i2cTarget (n write data k) : CarriesShape (·.i2cTarget n write data k) :=
  carriesShape fun s => by simp [State.i2cTarget]
@[simp] theorem State.shape_i2cWrite (n o v) : CarriesShape (·.i2cWrite n o v) :=
  carriesShape fun s => by simp [State.i2cWrite]
@[simp] theorem State.shape_i2cRead (n o) : CarriesShape (fun s => (s.i2cRead n o).1) := carriesShape fun s => by
  simp only [State.i2cRead]
  repeat' split
  all_goals simp
@[simp] theorem State.shape_updSpi (n f) : CarriesShape (·.updSpi n f) := carriesShape fun s h => by
  simpa [State.Shape, State.updSpi] using h
@[simp] theorem State.shape_spiDone (n v) : CarriesShape (·.spiDone n v) := carriesShape fun s => by simp [State.spiDone]
@[simp] theorem State.shape_spiWrite (n o v) : CarriesShape (·.spiWrite n o v) :=
  carriesShape fun s => by simp [State.spiWrite]
@[simp] theorem State.shape_spiRead (n o) : CarriesShape (fun s => (s.spiRead n o).1) := carriesShape fun s => by
  simp only [State.spiRead]
  repeat' split
  all_goals simp
@[simp] theorem State.shape_updXs (f) : CarriesShape (·.updXs f) := carriesShape fun _ => id
@[simp] theorem State.shape_xsDone (data flash) : CarriesShape (·.xsDone data flash) := carriesShape fun s => by
  simp only [State.xsDone]
  repeat' split
  all_goals simp
@[simp] theorem State.shape_xsReady : CarriesShape (·.xsReady) := carriesShape fun s => by simp [State.xsReady]
@[simp] theorem State.shape_xsWrite (o v) : CarriesShape (·.xsWrite o v) := carriesShape fun s => by simp [State.xsWrite]
@[simp] theorem State.shape_gpEvent (pin arg) : CarriesShape (·.gpEvent pin arg) :=
  carriesShape fun s => by simp [State.gpEvent]
@[simp] theorem State.shape_gpEdge (pin level) : CarriesShape (·.gpEdge pin level) :=
  carriesShape fun s => by simp [State.gpEdge]
@[simp] theorem State.shape_gpWrite (t o v) : CarriesShape (·.gpWrite t o v) :=
  carriesShape fun s => by simp [State.gpWrite]
@[simp] theorem State.shape_updAdc (f) : CarriesShape (·.updAdc f) := carriesShape fun _ => id
@[simp] theorem State.shape_adcBegin : CarriesShape (·.adcBegin) := carriesShape fun s => by simp [State.adcBegin]
@[simp] theorem State.shape_adcScan : CarriesShape (·.adcScan) := carriesShape fun s => by simp [State.adcScan]
@[simp] theorem State.shape_adcResult (ch code ovr unr off settling) :
    CarriesShape (·.adcResult ch code ovr unr off settling) := carriesShape fun s => by simp [State.adcResult]
@[simp] theorem State.shape_adcDone (x off) : CarriesShape (·.adcDone x off) :=
  carriesShape fun s => by simp [State.adcDone]
@[simp] theorem State.shape_adcWrite (o v) : CarriesShape (·.adcWrite o v) := carriesShape fun s => by simp [State.adcWrite]
@[simp] theorem State.shape_adcRead (o) : CarriesShape (fun s => (s.adcRead o).1) :=
  carriesShape fun s => by simp [State.adcRead]
@[simp] theorem State.shape_vehReset (b p) : CarriesShape (·.vehReset b p) :=
  carriesShape fun s => by unfold State.vehReset; split <;> simp

/-! ### The Seam, clocks, resets, domains and the watchdog (Machine/Power.lean) -/

@[simp] theorem State.shape_updPwr (f) : CarriesShape (·.updPwr f) := carriesShape fun _ => id
@[simp] theorem State.shape_supplyTold : CarriesShape (·.supplyTold) := carriesShape fun s => by simp [State.supplyTold]
@[simp] theorem State.shape_seamFault : CarriesShape (·.seamFault) := carriesShape fun s => by simp [State.seamFault]
@[simp] theorem State.shape_seamTransfer (up ok) : CarriesShape (·.seamTransfer up ok) :=
  carriesShape fun s => by simp [State.seamTransfer]
@[simp] theorem State.shape_seamRecovered : CarriesShape (·.seamRecovered) :=
  carriesShape fun s => by simp [State.seamRecovered]
@[simp] theorem State.shape_seamRefreshed : CarriesShape (·.seamRefreshed) :=
  carriesShape fun s => by simp [State.seamRefreshed]
@[simp] theorem State.shape_sysPllLock : CarriesShape (·.sysPllLock) := carriesShape fun s => by simp [State.sysPllLock]
@[simp] theorem State.shape_crystalLoss : CarriesShape (·.crystalLoss) := carriesShape fun s => by simp [State.crystalLoss]
@[simp] theorem State.shape_pllRestart : CarriesShape (·.pllRestart) := carriesShape fun s => by simp [State.pllRestart]
@[simp] theorem State.shape_clearPage (p lk keep) : CarriesShape (·.clearPage p lk keep) := carriesShape fun s => by
  refine State.ShapeTo.foldl (fun t e => ?_) _ (t := { s with regs := _, act := _ }) id
  dsimp only
  repeat' split
  all_goals simp
@[simp] theorem State.shape_coldBase (por) (doms : List Dom) (hd : doms.length = 12) : CarriesShape (·.coldBase por doms) :=
  carriesShape fun s ⟨_, _, _, _, ⟨_, hlow⟩, _⟩ => by
    obtain ⟨hcores, hnis, hgrv, hcaps, ⟨hks, -⟩, hdps, hpwm, hlanes, hbus, -, hawl⟩ := State.reset_shape
    exact ⟨hcores, hnis, hgrv, hcaps, ⟨hks, hlow⟩, hdps, hpwm, hlanes, hbus, hd, hawl⟩
@[simp] theorem State.shape_keepRegs (x0) : CarriesShape (·.keepRegs x0) := carriesShape fun s => by simp [State.keepRegs]
@[simp] theorem State.shape_cold (por) (doms : List Dom) (hd : doms.length = 12) : CarriesShape (·.cold por doms) :=
  carriesShape fun s => by simp [State.cold, hd]
@[simp] theorem length_runDoms : runDoms.length = 12 := by decide
@[simp] theorem length_offDoms : offDoms.length = 12 := by decide
@[simp] theorem State.shape_sysReset (bit) : CarriesShape (·.sysReset bit) := carriesShape fun s => by simp [State.sysReset]
@[simp] theorem State.shape_wakeUp (bits lead) : CarriesShape (·.wakeUp bits lead) :=
  carriesShape fun s => by simp [State.wakeUp]
@[simp] theorem State.shape_wakeNote (src) : CarriesShape (·.wakeNote src) := carriesShape fun s => by simp [State.wakeNote]
@[simp] theorem State.shape_wakeSource (bit cause lead) : CarriesShape (·.wakeSource bit cause lead) :=
  carriesShape fun s => by simp [State.wakeSource]
@[simp] theorem State.shape_porReset : CarriesShape (·.porReset) := carriesShape fun s => by simp [State.porReset]
@[simp] theorem State.shape_borReset : CarriesShape (·.borReset) := carriesShape fun s => by simp [State.borReset]
@[simp] theorem State.shape_deepRest : CarriesShape (·.deepRest) := carriesShape fun s => by simp [State.deepRest]
@[simp] theorem State.shape_borRestart : CarriesShape (·.borRestart) := carriesShape fun s => by simp [State.borRestart]
@[simp] theorem State.shape_setLow (v) : CarriesShape (·.setLow v) := carriesShape fun s => by simp [State.setLow]
@[simp] theorem State.shape_setShed (shed ov) : CarriesShape (·.setShed shed ov) :=
  carriesShape fun s => by simp [State.setShed]
@[simp] theorem State.shape_shedSet : CarriesShape (·.shedSet) := carriesShape fun s => by simp [State.shedSet]
@[simp] theorem State.shape_shedClear : CarriesShape (·.shedClear) := carriesShape fun s => by simp [State.shedClear]
@[simp] theorem State.shape_ovSet : CarriesShape (·.ovSet) := carriesShape fun s => by simp [State.ovSet]
@[simp] theorem State.shape_ovClear : CarriesShape (·.ovClear) := carriesShape fun s => by simp [State.ovClear]
@[simp] theorem State.shape_pwrSleep (n) : CarriesShape (·.pwrSleep n) := carriesShape fun s => by simp [State.pwrSleep]
@[simp] theorem State.shape_dropHeld : CarriesShape (·.dropHeld) := carriesShape fun s => by simp [State.dropHeld]
@[simp] theorem State.shape_sleepEntered : CarriesShape (·.sleepEntered) := carriesShape fun s => by
  simp only [State.sleepEntered]
  repeat' split
  all_goals simp
@[simp] theorem State.shape_wakeEdge (i level) : CarriesShape (·.wakeEdge i level) :=
  carriesShape fun s => by simp [State.wakeEdge]
@[simp] theorem State.shape_canWake (cause f) : CarriesShape (·.canWake cause f) :=
  carriesShape fun s => by simp [State.canWake]
@[simp] theorem State.shape_linWake : CarriesShape (·.linWake) := carriesShape fun s => by simp [State.linWake]
@[simp] theorem State.shape_rtcTick : CarriesShape (·.rtcTick) := carriesShape fun s => by simp [State.rtcTick]
@[simp] theorem State.shape_rtcAlarm : CarriesShape (·.rtcAlarm) := carriesShape fun s => by simp [State.rtcAlarm]
@[simp] theorem State.shape_bootGiveUp : CarriesShape (·.bootGiveUp) :=
  carriesShape fun s => by unfold State.bootGiveUp; split <;> simp
@[simp] theorem State.shape_alwaysCan : CarriesShape (·.alwaysCan) := carriesShape fun s => by simp [State.alwaysCan]
@[simp] theorem State.shape_alwaysWake : CarriesShape (·.alwaysWake) := carriesShape fun s => by simp [State.alwaysWake]
@[simp] theorem State.shape_domLeave (d) : CarriesShape (·.domLeave d) := carriesShape fun s => by simp [State.domLeave]
@[simp] theorem State.shape_domOff (d) : CarriesShape (·.domOff d) := carriesShape fun s => by
  have hdps : ∀ icv clk, s.ShapeTo { s with dps := [Dp.zero, Dp.zero], icv := icv, clk := clk } :=
    fun _ _ ⟨hcores, hnis, hgrv, hcaps, hsec, _, hrest⟩ => ⟨hcores, hnis, hgrv, hcaps, hsec, rfl, hrest⟩
  simp [State.domOff, hdps]
@[simp] theorem State.shape_domWakeUp (d) : CarriesShape (·.domWakeUp d) := carriesShape fun s => by simp [State.domWakeUp]
@[simp] theorem State.shape_domArrive (d dst) : CarriesShape (·.domArrive d dst) :=
  carriesShape fun s => by simp [State.domArrive]
@[simp] theorem State.shape_domNext (d) : CarriesShape (·.domNext d) := carriesShape fun s => by simp [State.domNext]
@[simp] theorem State.shape_pwrDomWrite (d v) : CarriesShape (·.pwrDomWrite d v) :=
  carriesShape fun s => by simp only [State.pwrDomWrite]; split <;> simp
@[simp] theorem State.shape_domIdle (d) : CarriesShape (·.domIdle d) := carriesShape fun s => by simp [State.domIdle]
@[simp] theorem State.shape_dramTrained (code crc) : CarriesShape (·.dramTrained code crc) :=
  carriesShape fun s => by simp [State.dramTrained]
@[simp] theorem State.shape_dramRef (arg n) : CarriesShape (·.dramRef arg n) :=
  carriesShape fun s => by simp [State.dramRef]
@[simp] theorem State.shape_dramForced (n) : CarriesShape (·.dramForced n) :=
  carriesShape fun s => by simp [State.dramForced]
@[simp] theorem State.shape_dramLine : CarriesShape (·.dramLine) := carriesShape fun s => by simp [State.dramLine]
@[simp] theorem State.shape_wdRestart (at_) : CarriesShape (·.wdRestart at_) :=
  carriesShape fun s => by simp [State.wdRestart]
@[simp] theorem State.shape_wdCtrl (v) : CarriesShape (·.wdCtrl v) := carriesShape fun s => by simp [State.wdCtrl]
@[simp] theorem State.shape_wdKick (v) : CarriesShape (·.wdKick v) := carriesShape fun s => by simp [State.wdKick]
@[simp] theorem State.shape_wdExpire : CarriesShape (·.wdExpire) := carriesShape fun s => by simp [State.wdExpire]
@[simp] theorem State.shape_wdWrite (o v) : CarriesShape (·.wdWrite o v) := carriesShape fun s => by simp [State.wdWrite]
@[simp] theorem State.shape_relWrite (c v) : CarriesShape (·.relWrite c v) := carriesShape fun s => by simp [State.relWrite]
@[simp] theorem State.shape_rstCore (v) : CarriesShape (·.rstCore v) := carriesShape fun s => by simp [State.rstCore]
@[simp] theorem State.shape_rstWrite (o v) : CarriesShape (·.rstWrite o v) := carriesShape fun s => by simp [State.rstWrite]
@[simp] theorem State.shape_pwrWrite (o v) : CarriesShape (·.pwrWrite o v) := carriesShape fun s => by simp [State.pwrWrite]
@[simp] theorem State.shape_firstFrame : CarriesShape (·.firstFrame) :=
  carriesShape fun s => by unfold State.firstFrame; split <;> simp
@[simp] theorem State.shape_rtcStart : CarriesShape (·.rtcStart) := carriesShape fun s => by simp [State.rtcStart]

/-! ### Accesses to register pages (Machine/Pages.lean) -/

@[simp] theorem State.shape_commitRegs (p) : CarriesShape (·.commitRegs p) := carriesShape fun s =>
  State.ShapeTo.foldl (fun t e => by simp) _ (t := { s with act := _ }) id
@[simp] theorem State.shape_commitHook (p lane prbs) : CarriesShape (·.commitHook p lane prbs) :=
  carriesShape fun s => by unfold State.commitHook; split <;> simp
@[simp] theorem State.shape_commitPage (p) : CarriesShape (·.commitPage p) :=
  carriesShape fun s => by simp [State.commitPage]
@[simp] theorem State.shape_shWrite (p v) : CarriesShape (·.shWrite p v) := carriesShape fun s => by simp [State.shWrite]
@[simp] theorem State.shape_commitArm (p k) : CarriesShape (·.commitArm p k) :=
  carriesShape fun s => by simp [State.commitArm]
@[simp] theorem State.shape_frameCommits : CarriesShape (·.frameCommits) :=
  carriesShape fun s => by simp [State.frameCommits]
@[simp] theorem State.shape_commitEvent (p) : CarriesShape (·.commitEvent p) :=
  carriesShape fun s => by simp [State.commitEvent]
@[simp] theorem State.shape_blockReset (p b) : CarriesShape (·.blockReset p b) :=
  carriesShape fun s => by
    have hawl : s.ShapeTo { s with awl := List.replicate 4 AwlInj.zero } :=
      fun ⟨hcores, hnis, hgrv, hcaps, hsec, hdps, hpwm, hlanes, hbus, hdoms, _⟩ =>
        ⟨hcores, hnis, hgrv, hcaps, hsec, hdps, hpwm, hlanes, hbus, hdoms, rfl⟩
    unfold State.blockReset
    split
    case h_7 => exact hawl
    all_goals simp
@[simp] theorem State.shape_softReset (p) : CarriesShape (·.softReset p) := carriesShape fun s => by
  simp only [State.softReset]
  repeat' split
  all_goals simp
@[simp] theorem State.shape_pgCtrl (p v) : CarriesShape (·.pgCtrl p v) := carriesShape fun s => by simp [State.pgCtrl]
@[simp] theorem State.shape_headWrite (p o v) : CarriesShape (·.headWrite p o v) :=
  carriesShape fun s => by simp [State.headWrite]
@[simp] theorem State.shape_blockWrite (b t n p o v) : CarriesShape (·.blockWrite b t n p o v) :=
  carriesShape fun s => by unfold State.blockWrite; split <;> simp
@[simp] theorem State.shape_blockRead (b p o) : CarriesShape (fun s => (s.blockRead b p o).1) :=
  carriesShape fun s => by unfold State.blockRead; split <;> simp
@[simp] theorem State.shape_pageWrite (b t n p o v) : CarriesShape (·.pageWrite b t n p o v) :=
  carriesShape fun s => by simp [State.pageWrite]
@[simp] theorem State.shape_pageRead (b p o) : CarriesShape (fun s => (s.pageRead b p o).1) :=
  carriesShape fun s => by simp [State.pageRead]
@[simp] theorem State.shape_finish (net n st v size) : CarriesShape (·.finish net n st v size) :=
  carriesShape fun s => by unfold State.finish; split <;> simp
@[simp] theorem State.shape_hold (a net) : CarriesShape (·.hold a net) := carriesShape fun _ => id
@[simp] theorem State.shape_lockAnswer : CarriesShape (·.lockAnswer) := carriesShape fun s => by simp [State.lockAnswer]
@[simp] theorem State.shape_pageAccess (a net) : CarriesShape (·.pageAccess a net) := carriesShape fun s => by
  simp only [State.pageAccess]
  repeat' split
  all_goals simp
@[simp] theorem State.shape_busAccess (a net) : CarriesShape (·.busAccess a net) := carriesShape fun s => by
  simp only [State.busAccess]
  repeat' split
  all_goals simp
@[simp] theorem State.shape_access (a) : CarriesShape (·.access a) := carriesShape fun s => by simp [State.access]
@[simp] theorem State.shape_drain : CarriesShape (·.drain) := carriesShape fun s => by simp [State.drain]
@[simp] theorem State.shape_softResetDone (p) : CarriesShape (·.softResetDone p) :=
  carriesShape fun s => by simp [State.softResetDone]
@[simp] theorem State.shape_lockChecked : CarriesShape (·.lockChecked) := carriesShape fun s => by simp [State.lockChecked]
@[simp] theorem State.shape_apertureAccess (w n q cls write o v) : CarriesShape (·.apertureAccess w n q cls write o v) :=
  carriesShape fun s => by simp [State.apertureAccess]
@[simp] theorem State.shape_put (w p o v) : CarriesShape (·.put w p o v) := carriesShape fun s => by simp [State.put]
@[simp] theorem State.shape_onSys {f : State → State} (h : ∀ s : State, s.ShapeTo (f s)) : CarriesShape (·.onSys f) :=
  carriesShape fun s => by simp [State.onSys, h]
@[simp] theorem State.shape_take (w p o) : CarriesShape (·.take w p o) := carriesShape fun s => by simp [State.take]

/-! ### Line starts and frame boundaries (Machine/Frame.lean) -/

@[simp] theorem State.shape_lineHooks : CarriesShape (·.lineHooks) := carriesShape fun s => by simp [State.lineHooks]
@[simp] theorem State.shape_frameWork : CarriesShape (·.frameWork) := carriesShape fun s => by simp [State.frameWork]
@[simp] theorem State.shape_frameBoundary : CarriesShape (·.frameBoundary) :=
  carriesShape fun s => by simp [State.frameBoundary]
@[simp] theorem State.shape_lineStart (m) : CarriesShape (·.lineStart m) := carriesShape fun s => by simp [State.lineStart]
@[simp] theorem State.shape_loadVt : CarriesShape (·.loadVt) := carriesShape fun s => by simp [State.loadVt]
@[simp] theorem State.shape_reanchor (cause m) : CarriesShape (·.reanchor cause m) := carriesShape fun s => by
  simp only [State.reanchor, State.shapeTo_ite, State.shape_w, State.shape_ev, State.shape_lineHooks, State.shape_frameBoundary,
    State.shape_loadVt, State.shape_measure, State.shape_skipFire, State.shape_trkCancel, State.shapeTo_refl, true_or, and_self]
@[simp] theorem State.shape_endCoast : CarriesShape (·.endCoast) := carriesShape fun s => by simp [State.endCoast]
@[simp] theorem State.shape_masterLineStart (m) : CarriesShape (·.masterLineStart m) :=
  carriesShape fun s => by simp [State.masterLineStart]
@[simp] theorem State.shape_masterFrameStart (m mode) : CarriesShape (·.masterFrameStart m mode) :=
  carriesShape fun s => by simp [State.masterFrameStart]
@[simp] theorem State.shape_virtualLineStart : CarriesShape (·.virtualLineStart) :=
  carriesShape fun s => by simp [State.virtualLineStart]
@[simp] theorem State.shape_coastLineStart : CarriesShape (·.coastLineStart) :=
  carriesShape fun s => by simp [State.coastLineStart]
@[simp] theorem State.shape_blankLineStart : CarriesShape (·.blankLineStart) :=
  carriesShape fun s => by simp [State.blankLineStart]
@[simp] theorem State.shape_masterLine (m) : CarriesShape (·.masterLine m) :=
  carriesShape fun s => by unfold State.masterLine; split <;> simp
@[simp] theorem State.shape_masterFrame (m mode) : CarriesShape (·.masterFrame m mode) :=
  carriesShape fun s => by unfold State.masterFrame; split <;> simp
@[simp] theorem State.shape_trackerLine (c) : CarriesShape (·.trackerLine c) :=
  carriesShape fun s => by simp [State.trackerLine]
@[simp] theorem State.shape_trackerFrame (c) : CarriesShape (·.trackerFrame c) :=
  carriesShape fun s => by simp [State.trackerFrame]
@[simp] theorem State.shape_camLineStart (c) : CarriesShape (·.camLineStart c) :=
  carriesShape fun s => by simp [State.camLineStart]
@[simp] theorem State.shape_csiFs (n vc num hdr) : CarriesShape (·.csiFs n vc num hdr) :=
  carriesShape fun s => by simp [State.csiFs]
@[simp] theorem State.shape_csiLong (n vc dt hdr wc payload crcOk fifo fill) :
    CarriesShape (·.csiLong n vc dt hdr wc payload crcOk fifo fill) := carriesShape fun s => by simp [State.csiLong]
@[simp] theorem State.shape_dpFrameLatch (p) : CarriesShape (·.dpFrameLatch p) :=
  carriesShape fun s => by simp [State.dpFrameLatch]
@[simp] theorem State.shape_dpLineStart (p late) : CarriesShape (·.dpLineStart p late) :=
  carriesShape fun s => by simp [State.dpLineStart]

/-! ### Packets on the mesh and at their NIs (Machine/Traffic.lean) -/

@[simp] theorem State.shape_awlLeave (i d f) : CarriesShape (·.awlLeave i d f) :=
  carriesShape fun s => by simp [State.awlLeave]
@[simp] theorem State.shape_awlPass (d vc) : CarriesShape (·.awlPass d vc) := carriesShape fun s => by
  refine State.ShapeTo.foldl (fun t i => ?_) _ s.shapeTo_refl
  repeat' split
  all_goals simp
@[simp] theorem State.shape_cross (f) : CarriesShape (fun s => (s.cross f).1) := carriesShape fun s => by
  simp only [State.cross]
  split
  · rfl
  · split <;> next h =>
      have ht := State.shapeTo_of_eq (s := s) h (by simp)
      simp [ht]
@[simp] theorem State.shape_rtDrop (r port parity h) : CarriesShape (·.rtDrop r port parity h) :=
  carriesShape fun s => by simp [State.rtDrop]
@[simp] theorem State.shape_dropFlight (i) : CarriesShape (·.dropFlight i) := carriesShape fun _ => id
@[simp] theorem State.shape_routerTake (i f r port k p bads) : CarriesShape (·.routerTake i f r port k p bads) :=
  carriesShape fun s => by simp [State.routerTake]
@[simp] theorem State.shape_routerPacket (i hb b) : CarriesShape (·.routerPacket i hb b) := carriesShape fun s => by
  simp only [State.routerPacket]
  repeat' split
  any_goals simp
  all_goals simp [State.shapeTo_of_eq (s := s) ‹State.cross _ _ = _› (by simp)]
@[simp] theorem State.shape_serve (n p) : CarriesShape (·.serve n p) :=
  carriesShape fun s => by unfold State.serve; split <;> simp
@[simp] theorem State.shape_admitReq (n p) : CarriesShape (·.admitReq n p) := carriesShape fun s => by
  simp only [State.admitReq]
  repeat' split
  all_goals simp
@[simp] theorem State.shape_onceGate {go : State → State} (h : ∀ s : State, s.ShapeTo (go s)) (n p) :
    CarriesShape (·.onceGate n p go) := carriesShape fun s => by
  simp only [State.onceGate]
  repeat' split
  all_goals simp [carriesShape h]
@[simp] theorem State.shape_eject (n f hb b) : CarriesShape (fun s => (s.eject n f hb b).1) := carriesShape fun s => by
  simp only [State.eject]
  split <;> next h =>
    have ht := State.shapeTo_of_eq (s := s) h (by simp)
    simp [ht]
@[simp] theorem State.shape_targetTake (n p) : CarriesShape (·.targetTake n p) :=
  carriesShape fun s => by simp [State.targetTake]
@[simp] theorem State.shape_targetRequest (i hb b) : CarriesShape (·.targetRequest i hb b) := carriesShape fun s => by
  simp only [State.targetRequest]
  repeat' split
  any_goals simp
  all_goals simp [State.shapeTo_of_eq (s := s) ‹State.eject _ _ _ _ _ = _› (by simp)]
@[simp] theorem State.shape_deliver (n p) : CarriesShape (·.deliver n p) := carriesShape fun s => by simp [State.deliver]
@[simp] theorem State.shape_responseTake (n p) : CarriesShape (·.responseTake n p) :=
  carriesShape fun s => by simp [State.responseTake]
@[simp] theorem State.shape_weltResponse (i hb b) : CarriesShape (·.weltResponse i hb b) := carriesShape fun s => by
  simp only [State.weltResponse]
  repeat' split
  any_goals simp
  all_goals simp [State.shapeTo_of_eq (s := s) ‹State.eject _ _ _ _ _ = _› (by simp)]
@[simp] theorem State.shape_reqTimeout (n tid) : CarriesShape (·.reqTimeout n tid) :=
  carriesShape fun s => by simp [State.reqTimeout]
@[simp] theorem State.shape_domPass (d) : CarriesShape (·.domPass d) := carriesShape fun s => by
  have hserve (n p) : CarriesShape fun s : State => s.onceGate n p fun s => s.serve n p :=
    State.shape_onceGate (fun t => by simp) n p
  simp [State.domPass, hserve]
@[simp] theorem State.shape_domDone (d) : CarriesShape (·.domDone d) :=
  carriesShape fun s => by unfold State.domDone; split <;> simp
@[simp] theorem State.shape_dramDone (code crc) : CarriesShape (·.dramDone code crc) :=
  carriesShape fun s => by simp [State.dramDone]
@[simp] theorem State.shape_wakeFail (n) : CarriesShape (·.wakeFail n) := carriesShape fun s => by
  simp only [State.wakeFail]
  repeat' split
  · rfl
  · rfl
  · rw [State.shape_err]
    refine .inl (State.ShapeTo.foldl (fun t e => ?_) _ (State.ShapeTo.foldl (fun t p => by simp) _ ?_))
    · split <;> simp
    · simp only [State.shapeTo_update, imp_self, State.shape_updNi, State.shapeTo_refl, true_or]
@[simp] theorem State.shape_awlRelease (i) : CarriesShape (·.awlRelease i) :=
  carriesShape fun s => by unfold State.awlRelease; split <;> simp
@[simp] theorem State.shape_probeMark (m) : CarriesShape (·.probeMark m) := carriesShape fun s => by simp [State.probeMark]
@[simp] theorem State.shape_kDone : CarriesShape (·.kDone) := carriesShape fun s => by unfold State.kDone; split <;> simp
@[simp] theorem State.shape_credDone : CarriesShape (·.credDone) := carriesShape fun s => by simp [State.credDone]

/-! ### Commands of the AGU slot (Machine/CmdAgu.lean) -/

@[simp] theorem State.shape_aguRow (c pre op post) : CarriesShape (·.aguRow c pre op post) :=
  carriesShape fun s => by simp [State.aguRow]

/-! ### Commands of the CTL slot (Machine/CmdCtl.lean) -/

@[simp] theorem State.shape_ctlRow (c pre op post) : CarriesShape (·.ctlRow c pre op post) :=
  carriesShape fun s => by simp [State.ctlRow]

/-! ### Commands of the MAC slot (Machine/CmdMac.lean) -/

@[simp] theorem State.shape_macRow (c pre hi op post) : CarriesShape (·.macRow c pre hi op post) :=
  carriesShape fun s => by simp [State.macRow]

/-! ### Commands and steps -/

theorem shapeTo_of_next {o : Host.Outcome State Fault Refusal} {s t u : State} (ho : o = .next u) (hu : s.ShapeTo u)
    (h : o = .next t) : s.ShapeTo t := by
  rw [ho] at h; cases h; exact hu

/-- Each command is one function of the state, whose lemma stands above. -/
theorem exec_shapeTo {i : Instr} {s t : State} (h : exec i s = .next t) : s.ShapeTo t := by
  cases i
  all_goals exact shapeTo_of_next rfl (by simp) h

theorem State.shapeTo_tick (s : State) : s.ShapeTo s.tick := by
  have hwake : s.ShapeTo s.irqWake := by simp [State.irqWake]
  simp [State.tick, hwake]

/-- A step runs the front command, or on an empty queue lets a cycle pass. -/
theorem step_shapeTo {s t : State} (h : step s = .next t) : s.ShapeTo t := by
  unfold step at h
  split at h
  · cases h
    exact s.shapeTo_tick
  · exact State.ShapeTo.trans (by simp) (exec_shapeTo h)

/-- Settles O6: every function that a command calls keeps the shape. -/
theorem everyStepKeepsShape : Obligations.EveryStepKeepsShape := fun _ _ hs h => step_shapeTo h hs

end Sys2Proof.Machine
end

section
/-! Bundles of a Rhoif-16 core that issue whole (07 R162; 09 R226): what the issue of a bundle adds to its writes and its control
part is time, fetches and the halt at the boundary. -/

namespace Sys2Proof.Machine

/-! ### One core among the five -/

section
variable {s : State} {c d : Nat}

theorem State.core_updCore_same (hc : c < s.cores.length) (f : CoreSt → CoreSt) : (s.updCore c f).core c = f (s.core c) := by
  simp [State.core, State.updCore, List.getD_eq_getElem?_getD, hc]

theorem State.core_updCore_ne (hd : d ≠ c) (f : CoreSt → CoreSt) : (s.updCore c f).core d = s.core d := by
  simp [State.core, State.updCore, List.getD_eq_getElem?_getD, List.getElem?_modify_ne _ _ hd.symm]

theorem State.updCore_beyond (hc : s.cores.length ≤ c) (f : CoreSt → CoreSt) : (s.updCore c f).cores = s.cores :=
  List.modify_eq_self hc

theorem State.Shape.core_lt (hs : s.Shape) (hc : c < 5) : c < s.cores.length := by
  obtain ⟨⟨hlen, -⟩, -⟩ := hs
  omega

end

/-! ### The time that passes -/

/-- A core without its run state, its time and its fetches. -/
def CoreSt.arch (k : CoreSt) : CoreSt :=
  { k with run := false, haltReq := false, stepping := false, wait := none, tick := 0, ready := [], redir := false, fbuf := [],
           ext := [] }

/-- From `s` to `t` core `c` spends time, fetches or halts, and writes its own page; nothing else changes. -/
structure State.Passed (c : Nat) (s t : State) : Prop where
  core : (t.core c).arch = (s.core c).arch
  others : ∀ d, d ≠ c → t.core d = s.core d
  length : t.cores.length = s.cores.length
  mem : t.mem = s.mem
  epoch : t.epoch = s.epoch
  reg : ∀ p o, o < 4096 → p ≠ pgCORE c → t.r p o = s.r p o
  act : t.act = s.act
  ltb : t.ltb = s.ltb
  welt : t.welt = s.welt

namespace State.Passed

variable {c : Nat} {s t u : State}

theorem refl (c : Nat) (s : State) : Passed c s s := ⟨rfl, fun _ _ => rfl, rfl, rfl, rfl, fun _ _ _ _ => rfl, rfl, rfl, rfl⟩

theorem trans (h : Passed c s t) (h' : Passed c t u) : Passed c s u where
  core := h'.core.trans h.core
  others d hd := (h'.others d hd).trans (h.others d hd)
  length := h'.length.trans h.length
  mem := h'.mem.trans h.mem
  epoch := h'.epoch.trans h.epoch
  reg p o ho hp := (h'.reg p o ho hp).trans (h.reg p o ho hp)
  act := h'.act.trans h.act
  ltb := h'.ltb.trans h.ltb
  welt := h'.welt.trans h.welt

theorem w (c : Nat) (s : State) {o : Nat} (v : Word) (ho : o < 4096) : Passed c s (s.w (pgCORE c) o v) where
  core := rfl
  others _ _ := rfl
  length := rfl
  mem := rfl
  epoch := rfl
  reg _ _ ho' hp := s.r_w_ne v (rkey_ne_of_page_ne hp ho ho')
  act := rfl
  ltb := rfl
  welt := rfl

theorem sf (c : Nat) (s : State) {o : Nat} (hi lo x : Nat) (ho : o < 4096) : Passed c s (s.sf (pgCORE c) o hi lo x) := w c s _ ho

theorem ev (c : Nat) (s : State) (b : Nat) : Passed c s (s.ev (pgCORE c) b) :=
  let h := sf c s b b 1 (o := 0x014) (by decide)
  ⟨h.core, h.others, h.length, h.mem, h.epoch, h.reg, h.act, h.ltb, h.welt⟩

theorem updCore (c : Nat) (s : State) {f : CoreSt → CoreSt} (hf : ∀ k, (f k).arch = k.arch) : Passed c s (s.updCore c f) where
  core := by
    by_cases hc : c < s.cores.length
    · rw [State.core_updCore_same hc, hf]
    · rw [State.core, State.updCore_beyond (not_lt.mp hc), State.core]
  others _ hd := State.core_updCore_ne hd f
  length := List.length_modify ..
  mem := rfl
  epoch := rfl
  reg _ _ _ _ := rfl
  act := rfl
  ltb := rfl
  welt := rfl

theorem ite {p : Prop} [Decidable p] (ht : Passed c s t) (hu : Passed c s u) : Passed c s (if p then t else u) := by
  split
  · exact ht
  · exact hu

theorem cycles (c : Nat) (s : State) (run stall : Nat) : Passed c s (s.cycles c run stall) :=
  (w c s _ (by decide)).trans (w c _ _ (by decide))

theorem refill (c : Nat) (s : State) (n : Nat) : Passed c s (s.refill c n) := updCore c s fun _ => rfl

theorem waitEnd (c : Nat) (s : State) : Passed c s (s.waitEnd c) := by
  unfold State.waitEnd
  split
  · exact refl c s
  · refine (updCore c s fun _ => ?_).trans (cycles c _ _ _)
    rfl

theorem coreStop (c : Nat) (s : State) (b : Nat) : Passed c s (s.coreStop c b) :=
  let halt (k : CoreSt) : CoreSt := { k with run := false, stepping := false, haltReq := false }
  ((waitEnd c s).trans (updCore c _ (f := halt) fun _ => rfl)).trans (ev c _ b)

theorem boundary (c : Nat) (s : State) : Passed c s (s.boundary c) :=
  ite (coreStop c s 1) (ite (coreStop c s 1) (refl c s))

end State.Passed

/-! ### From the control part of a bundle to the next bundle -/

section
variable {k0 k : CoreSt} {b : List Syl}

theorem foldl_arch {α : Type} {f : CoreSt → α → CoreSt} (hf : ∀ k a, (f k a).arch = k.arch) (l : List α) (k : CoreSt) :
    (l.foldl f k).arch = k.arch := by
  induction l generalizing k with
  | nil => rfl
  | cons a l ih => exact (ih (f k a)).trans (hf k a)

theorem latOf_arch (k0 k : CoreSt) (t : Nat) (b : List Syl) : (latOf k0 k t b).arch = k.arch := by
  refine foldl_arch (fun k y => ?_) b k
  dsimp only
  repeat' split
  all_goals rfl

theorem timed_arch (k0 k : CoreSt) (b : List Syl) (taken : Bool) : (k0.timed k b taken).arch = k.arch :=
  latOf_arch k0 k _ b

/-- At a PC that ends no open loop the loop-back test does nothing (07 R171). -/
theorem loopBack_of_straight (hopen : openLe k0 k0.pc = false) (k : CoreSt) (wrote : List Nat) :
    loopBack k0 k k0.pc wrote = (k, false) := by
  unfold loopBack
  split
  · rfl
  next hlv =>
    obtain ⟨hpos, hle⟩ : k.llv ≠ 0 ∧ k.llv ≤ k0.llv := by omega
    have hlast := List.any_eq_false.mp hopen (k.llv - 1) (List.mem_range.mpr (by omega))
    exact if_pos (by simpa using hlast)

theorem goesOn_arch (hrep : k0.rep = none) (hopen : openLe k0 k0.pc = false) (k : CoreSt) (b : List Syl) (taken : Bool) :
    (k0.goesOn k b taken).arch = k.arch := by
  unfold CoreSt.goesOn
  rw [hrep]
  dsimp only
  split
  · rfl
  · rw [CoreSt.looped, loopBack_of_straight hopen]
    rfl

end

/-- Core `c` as a bundle leaves it is `k`, but for time, fetches and the halt. -/
def State.withCore (s : State) (c : Nat) (k : CoreSt) : State := s.updCore c fun _ => k

theorem State.core_withCore {s : State} {c : Nat} (hc : c < s.cores.length) (k : CoreSt) : (s.withCore c k).core c = k :=
  State.core_updCore_same hc _

theorem State.passed_bundleDone {s : State} {c : Nat} {b : List Syl} (hs : s.Shape) (hc : c < 5) (hrep : (s.core c).rep = none)
    (hopen : openLe (s.core c) (s.core c).pc = false) :
    State.Passed c ((s.bundleWrites c b).withCore c (s.bundleCtl (s.bundleWrites c b) c b).1) (s.bundleDone c b) := by
  have hlen : c < (s.bundleWrites c b).cores.length :=
    State.Shape.core_lt ((show s.ShapeTo (s.bundleWrites c b) by simp) hs) hc
  refine State.Passed.trans ?_ (State.Passed.refill c _ _)
  have hcyc := State.Passed.cycles c (s.bundleWrites c b)
    (bundleCycles (s.core c) b (s.bundleCtl (s.bundleWrites c b) c b).2) (bundleStall (s.core c) b)
  refine ⟨?_, fun d hd => ?_, ?_, hcyc.mem, hcyc.epoch, hcyc.reg, hcyc.act, hcyc.ltb, hcyc.welt⟩
  · rw [State.core_withCore hlen, State.core_updCore_same (hcyc.length ▸ hlen), goesOn_arch hrep hopen, timed_arch]
  · rw [State.core_updCore_ne hd, State.withCore, State.core_updCore_ne hd, hcyc.others d hd]
  · rw [State.withCore, State.updCore, State.updCore, List.length_modify, List.length_modify, hcyc.length]

/-- No syllable of a bundle about to issue faults. -/
theorem State.Straight.faults_none {s : State} {c : Nat} {b : List Syl} (h : s.Straight c b) :
    (b.filterMap fun y => s.issueFault c ((s.core c).pc + bundleLen b) y).head? = none := by
  obtain ⟨-, -, ⟨-, -, -, -, -, -, -, -, hfault⟩, -⟩ := h
  rw [List.head?_eq_none_iff, List.filterMap_eq_nil_iff]
  exact fun y hy => Option.isNone_iff_eq_none.mp (List.all_eq_true.mp hfault y hy)

/-- A bundle that stands alone before no loop end, waits for nothing and faults nowhere issues whole. -/
theorem State.issue_of_straight {s : State} {c : Nat} {b : List Syl} (h : s.Straight c b) (hb : b ≠ []) :
    s.issue c b =
      (if b.any (fun y => y.op == .halt) then ((s.bundleDone c b).sf (pgCORE c) 0x040 0 0 0).coreStop c 1
        else s.bundleDone c b).boundary c := by
  have hnone := h.faults_none
  obtain ⟨-, -, ⟨hc, hrun, hwait, hdom, hsquash, hrep, hdec, hover, -⟩, -⟩ := h
  have hcount : s.repCount c = s := by simp [State.repCount, hrep]
  simp only [State.issue, hdec]
  rw [if_neg (by simp [hc, hrun, hwait, hdom, hb]), if_neg (by simp [hsquash, hrep]), hcount, if_pos hover, State.issueNow_eq hnone]

theorem State.passed_issue {s : State} {c : Nat} {b : List Syl} (h : s.Straight c b) (hb : b ≠ []) :
    State.Passed c ((s.bundleWrites c b).withCore c (s.bundleCtl (s.bundleWrites c b) c b).1) (s.issue c b) := by
  rw [State.issue_of_straight h hb]
  obtain ⟨hs, -, ⟨hc, -, -, -, -, hrep, -⟩, hopen⟩ := h
  have hdone := State.passed_bundleDone (b := b) hs hc hrep hopen
  exact (State.Passed.ite ((hdone.trans (.sf c _ _ _ _ (by decide))).trans (.coreStop c _ _)) hdone).trans (.boundary c _)

end Sys2Proof.Machine
end


section
/-! What requests and queue operations leave of a core and of memory (06 R139; 07 R180 to R186). -/

namespace Sys2Proof.Machine

/-! ### A request at an NI -/

/-- From `s` to `t` NIn took requests: NIs, links, page NIn, and the tenant table's events, records and counters may have
changed. -/
structure State.Asked (n : Nat) (s t : State) : Prop where
  cores : t.cores = s.cores
  mem : t.mem = s.mem
  epoch : t.epoch = s.epoch
  doms : t.doms = s.doms
  reg : ∀ p o, o < 4096 → p ≠ pgNI n → (p = pgTEN → o = 0x048 ∨ 0x100 ≤ o) → t.r p o = s.r p o

namespace State.Asked

variable {n : Nat} {s t u : State}

theorem refl (n : Nat) (s : State) : Asked n s s := ⟨rfl, rfl, rfl, rfl, fun _ _ _ _ _ => rfl⟩

theorem trans (h : Asked n s t) (h' : Asked n t u) : Asked n s u where
  cores := h'.cores.trans h.cores
  mem := h'.mem.trans h.mem
  epoch := h'.epoch.trans h.epoch
  doms := h'.doms.trans h.doms
  reg p o ho hn hp := (h'.reg p o ho hn hp).trans (h.reg p o ho hn hp)

/-- Fields a request may touch, and only those. -/
theorem update (hc : t.cores = s.cores) (hm : t.mem = s.mem) (he : t.epoch = s.epoch) (hd : t.doms = s.doms)
    (hr : t.regs = s.regs) (hg : t.grade = s.grade) : Asked n s t :=
  ⟨hc, hm, he, hd, fun p o _ _ _ => by rw [State.r, hr, hg, State.r]⟩

theorem updNi (n : Nat) (s : State) (m : Nat) (f : NiSt → NiSt) : Asked n s (s.updNi m f) := update rfl rfl rfl rfl rfl rfl

theorem wNi (n : Nat) (s : State) {o : Nat} (v : Word) (ho : o < 4096) : Asked n s (s.w (pgNI n) o v) :=
  ⟨rfl, rfl, rfl, rfl, fun _ _ ho' hn _ => s.r_w_ne v (rkey_ne_of_page_ne hn ho ho')⟩

theorem wTen (n : Nat) (s : State) {o : Nat} (v : Word) (h48 : o ≠ 0x048) (ho : o < 0x100) : Asked n s (s.w pgTEN o v) := by
  refine ⟨rfl, rfl, rfl, rfl, fun p o' ho' _ hp => s.r_w_ne v fun hk => ?_⟩
  obtain ⟨rfl, rfl⟩ := (rkey_inj ho' (by omega)).mp hk
  have := hp rfl
  omega

theorem evTen (n : Nat) (s : State) (b : Nat) : Asked n s (s.ev pgTEN b) :=
  let h := wTen n s (o := 0x014) (setFldOf (s.r pgTEN 0x014) b b 1) (by decide) (by decide)
  ⟨h.cores, h.mem, h.epoch, h.doms, h.reg⟩

theorem ite {p : Prop} [Decidable p] (ht : Asked n s t) (hu : Asked n s u) : Asked n s (if p then t else u) := by
  split
  · exact ht
  · exact hu

theorem foldl {α : Type} {f : State → α → State} (hf : ∀ s a, Asked n s (f s a)) (l : List α) (s : State) :
    Asked n s (l.foldl f s) := by
  induction l generalizing s with
  | nil => exact refl n s
  | cons a l ih => exact (hf s a).trans (ih (f s a))

theorem violation (n : Nat) (s : State) {tnt : Nat} (kind ni det addr : Nat) (record : Bool) (ht : tnt < 16) :
    Asked n s (s.violation kind tnt ni det addr record) := by
  have hcnt : Asked n s (s.cntUp pgTEN (0x060 + 4 * tnt) 15 0 1) := wTen n s _ (by omega) (by omega)
  unfold State.violation
  extract_lets s1 word ten1 s2 s3 lim ten2 s4
  have h2 : Asked n s s2 := hcnt.trans (ite (ite (update rfl rfl rfl rfl rfl rfl) (update rfl rfl rfl rfl rfl rfl)) (refl n _))
  have h3 : Asked n s s3 := h2.trans (evTen n _ 0)
  have h4 : Asked n s3 s4 := update rfl rfl rfl rfl rfl rfl
  exact h3.trans (ite (h4.trans (evTen n s4 1)) (refl n s3))

theorem selectRoute (n : Nat) (s : State) (m : Nat) (serving : List Nat) (cls : Nat) :
    Asked n s (s.selectRoute m serving cls).1 := by
  simp only [State.selectRoute]
  repeat' split
  · exact updNi n s _ _
  · exact refl n s
  · exact updNi n s _ _

theorem classCheck (n : Nat) (s : State) (m t cls route charge : Nat) (rev : Bool) :
    Asked n s (s.classCheck m t cls route charge rev).1 := by
  simp only [State.classCheck]
  repeat' split
  · exact updNi n s _ _
  · exact refl n s
  · exact updNi n s _ _
  · exact refl n s
  · exact refl n s

theorem statAnswer (n : Nat) (s : State) (m : Nat) (st : Sts) (dem late : Bool) : Asked n s (s.statAnswer m st dem late) :=
  updNi n s _ _

theorem partDone (n : Nat) (s : State) (m grp a : Nat) (st : Sts) (dem late : Bool) (bytes : List Byte) :
    Asked n s (s.partDone m grp a st dem late bytes) := by
  unfold State.partDone
  extract_lets s1 s2
  have h2 : Asked n s s2 := (statAnswer n s m st dem late).trans (updNi n _ _ _)
  split
  · exact h2
  split
  · exact h2
  · exact h2.trans (update rfl rfl rfl rfl rfl rfl)

theorem niJudge (n : Nat) (s : State) (m : Nat) {t : Nat} (cmd cls a size : Nat) (rowsOk : Bool) (ht : t < 16) :
    Asked n s (s.niJudge m t cmd cls a size rowsOk).1 := by
  simp only [State.niJudge]
  split
  · exact refl n s
  split
  · exact violation n s _ _ _ _ _ ht
  split
  · exact violation n s _ _ _ _ _ ht
  split
  · exact refl n s
  split
  · exact violation n s _ _ _ _ _ ht
  have hroute := selectRoute n s m (servingNis s.grade a) cls
  split
  next s' h => rwa [h] at hroute
  next s' idx w h =>
    rw [h] at hroute
    split
    · exact hroute
    · exact hroute.trans (classCheck n s' _ _ _ _ _ _)

theorem issuePart (n : Nat) (s : State) {t : Nat} (cmd cls grp a size : Nat) (data : List Byte) (rowsOk : Bool) (ht : t < 16) :
    Asked n s (s.issuePart n t cmd cls grp a size data rowsOk) := by
  have hj := niJudge n s n cmd cls a size rowsOk ht
  unfold State.issuePart
  split
  next s' st h =>
    rw [h] at hj
    exact hj.trans (partDone n s' _ _ _ _ _ _ _)
  next s' idx w kept h =>
    rw [h] at hj
    have hcnt : Asked n s' (s'.cntWrap (pgNI n) 0x060 11 0) := wNi n s' _ (by decide)
    exact hj.trans (hcnt.trans (update rfl rfl rfl rfl rfl rfl))

end State.Asked

theorem State.coreTnt_lt {s : State} {c t : Nat} (h : s.coreTnt c = some t) : t < 16 := by
  rw [State.coreTnt] at h
  split at h
  · obtain rfl := Option.some.inj h
    exact (fldOf_lt _ _ _).trans_eq (by rw [show 8 * c + 3 + 1 - 8 * c = 4 by omega]; rfl)
  · cases h

theorem State.stamp_coreNi_lt {s : State} {c t : Nat} (h : s.stamp (coreNi c) 0 = some t) : t < 16 := by
  have hsplit : coreNi c = 14 ∨ coreNi c = 13 ∨ coreNi c = 19 ∨ coreNi c = 21 ∨ coreNi c = 22 := by
    unfold coreNi
    repeat' split
    all_goals simp
  obtain hn | hn | hn | hn | hn := hsplit
  all_goals
    rw [hn] at h
  · obtain rfl := Option.some.inj h
    decide
  all_goals exact State.coreTnt_lt h

/-- A core's NI takes a request of a queue. -/
theorem State.asked_weltRequest (s : State) (c cmd cls a size : Nat) (data : List Byte) :
    State.Asked (coreNi c) s (s.weltRequest (coreNi c) 0 cmd cls a size data) := by
  unfold State.weltRequest
  split
  · exact .refl _ s
  next t ht =>
    refine .ite (.refl _ s) ?_
    extract_lets parts grp welt s1 b s2 ok
    have h1 : State.Asked (coreNi c) s s2 := .update rfl rfl rfl rfl rfl rfl
    exact h1.trans (.foldl (fun s p => .issuePart _ s _ _ _ _ _ _ _ (State.stamp_coreNi_lt ht)) _ _)

/-! ### A queue operation -/

/-- A core without its queues and flags. -/
def CoreSt.sansQ (k : CoreSt) : CoreSt := { k with qs := [], flg := ⟨false, false, false, false, false, 0⟩ }

/-- From `s` to `t` queues of core `c` act: its queues and flags, pages and the mesh may have changed. -/
structure State.Queued (c : Nat) (s t : State) : Prop where
  core : (t.core c).sansQ = (s.core c).sansQ
  others : ∀ d, d ≠ c → t.core d = s.core d
  mem : t.mem = s.mem
  epoch : t.epoch = s.epoch

namespace State.Queued

variable {c : Nat} {s t u : State}

theorem refl (c : Nat) (s : State) : Queued c s s := ⟨rfl, fun _ _ => rfl, rfl, rfl⟩

theorem trans (h : Queued c s t) (h' : Queued c t u) : Queued c s u where
  core := h'.core.trans h.core
  others d hd := (h'.others d hd).trans (h.others d hd)
  mem := h'.mem.trans h.mem
  epoch := h'.epoch.trans h.epoch

theorem of_cores (hc : t.cores = s.cores) (hm : t.mem = s.mem) (he : t.epoch = s.epoch) : Queued c s t := by
  have hcore : ∀ d, t.core d = s.core d := fun d => by rw [State.core, hc, State.core]
  exact ⟨by rw [hcore], fun d _ => hcore d, hm, he⟩

theorem updCore (c : Nat) (s : State) {f : CoreSt → CoreSt} (hf : ∀ k, (f k).sansQ = k.sansQ) : Queued c s (s.updCore c f) := by
  refine ⟨?_, fun d hd => State.core_updCore_ne hd f, rfl, rfl⟩
  by_cases hc : c < s.cores.length
  · rw [State.core_updCore_same hc, hf]
  · rw [State.core, State.updCore_beyond (not_lt.mp hc), State.core]

theorem updQ (c : Nat) (s : State) (q : Nat) (f : Queue → Queue) : Queued c s (s.updCore c fun k => k.updQ q f) :=
  updCore c s fun _ => rfl

theorem weltRequest (c : Nat) (s : State) (cmd cls a size : Nat) (data : List Byte) :
    Queued c s (s.weltRequest (coreNi c) 0 cmd cls a size data) :=
  let h := s.asked_weltRequest c cmd cls a size data
  of_cores h.cores h.mem h.epoch

theorem ev (c : Nat) (s : State) (p b : Nat) : Queued c s (s.ev p b) := of_cores rfl rfl rfl

theorem err (c : Nat) (s : State) (p code info : Nat) : Queued c s (s.err p code info) := by
  unfold State.err
  split
  · exact of_cores rfl rfl rfl
  · exact of_cores rfl rfl rfl

theorem qStop (c : Nat) (s : State) (q sts : Nat) : Queued c s (s.qStop c q sts) := by
  refine (updCore c s (f := fun k => (k.setQe q).updQ q fun x => { x with arm := false, sts := sts }) fun _ => rfl).trans ?_
  exact (ev c _ _ _).trans (err c _ _ _ _)

theorem qMisal (c : Nat) (s : State) (q : Nat) : Queued c s (s.qMisal c q) :=
  (updQ c s q _).trans (qStop c _ _ _)

theorem qDrain (c n : Nat) (s : State) (q : Nat) (flush : Bool) : Queued c s (State.qDrain n s c q flush) := by
  induction n generalizing s with
  | zero => exact refl c s
  | succ n ih =>
    simp only [State.qDrain]
    split
    · exact refl c s
    split
    · exact qMisal c s q
    · exact ((updQ c s q _).trans (weltRequest c _ _ _ _ _ _)).trans (ih _)

theorem act (c : Nat) (s : State) (wrote : Bool) {g : CoreSt → CoreSt} (hg : ∀ k, (g k).sansQ = k.sansQ) :
    Queued c s (s.updCore c fun k => k.qeUnless wrote (g k)) :=
  updCore c s fun k => by
    unfold CoreSt.qeUnless
    split
    · exact hg k
    · exact hg k

theorem sansQ_popQ (k : CoreSt) (q : Nat) : (k.popQ q).sansQ = k.sansQ := by
  simp only [CoreSt.popQ]
  repeat' split
  all_goals rfl

theorem sansQ_pushQ (k : CoreSt) (q : Nat) (v : Half) (now : Nat) : (k.pushQ q v now).sansQ = k.sansQ := by
  simp only [CoreSt.pushQ]
  repeat' split
  all_goals rfl

theorem queueOp (c : Nat) (s s0 : State) (wrote : Bool) (y : Syl) : Queued c s (s.queueOp s0 c wrote y) := by
  unfold State.queueOp
  split
  · exact act c s wrote fun _ => rfl
  · exact updQ c s _ _
  · exact act c s wrote fun k => sansQ_popQ k _
  · exact act c s wrote fun k => sansQ_popQ k _
  · exact (act c s wrote fun k => sansQ_pushQ k _ _ _).trans (qDrain c 32 _ _ _)
  · exact (act c s wrote fun k => sansQ_pushQ k _ _ _).trans (qDrain c 32 _ _ _)
  · exact refl c s

theorem foldl_queueOp (c : Nat) (s s0 : State) (wrote : Bool) (b : List Syl) :
    Queued c s (b.foldl (fun s y => s.queueOp s0 c wrote y) s) := by
  induction b generalizing s with
  | nil => exact refl c s
  | cons y b ih => exact (queueOp c s s0 wrote y).trans (ih _)

end State.Queued

end Sys2Proof.Machine
end


section
/-! Explicit register writes of a bundle (07 R164, R175; 08 R198, R201, R202), one rule per part of the core. -/

namespace Sys2Proof.Machine

/-! ### Places of codes -/

/-- Two codes have one place only where they are one code (07 R175). -/
theorem physCode_inj {k : CoreSt} {a b : Nat} : physCode k a = physCode k b ↔ a = b := by
  refine ⟨fun h => ?_, fun h => h ▸ rfl⟩
  unfold physCode at h
  generalize (k.rf.getD 0x57 0).toNat = rot at h
  split at h <;> split at h <;> omega

theorem physCode_of_plain (k : CoreSt) {a : Nat} (h : a < 0x10 ∨ 0x30 ≤ a) : physCode k a = a := if_neg (by omega)

theorem physCode_lt {k : CoreSt} {a n : Nat} (h : a < n) (hn : 0x30 ≤ n) : physCode k a < n := by
  unfold physCode
  split <;> omega

/-- Rotation leaves apart the codes above the V registers. -/
theorem physCode_ne {k : CoreSt} {a n : Nat} (hn : 0x30 ≤ n) (h : a ≠ n) : physCode k a ≠ n := by
  unfold physCode
  split <;> omega

/-! ### The kinds of codes -/

/-- A code whose write reaches the register file: neither read only nor FLG nor a part of an accumulator. -/
def plainCode (d : Nat) : Bool := !codeRO d && d != 0x55 && !(decide (0x58 ≤ d) && decide (d < 0x64))

theorem plainCode_iff {d : Nat} : plainCode d = true ↔ codeRO d = false ∧ d ≠ 0x55 ∧ ¬(0x58 ≤ d ∧ d < 0x64) := by
  simp only [plainCode, Bool.and_eq_true, Bool.not_eq_true', bne_iff_ne, Bool.and_eq_false_iff, decide_eq_false_iff_not, and_assoc,
    not_and_or]

/-- What a plain code keeps of a word (07 R164): BX, RRB and ICTL take 4, 5 and 2 bits. -/
def keptBits (d : Nat) (v : Half) : Half :=
  if d = 0x56 then v &&& 0xF else if d = 0x57 then v &&& 0x1F else if d = 0x66 then v &&& 3 else v

theorem keptBits_of_lt {d : Nat} (h : d < 0x55) (v : Half) : keptBits d v = v := by
  unfold keptBits
  rw [if_neg (by omega), if_neg (by omega), if_neg (by omega)]

theorem plainCode_of_lt {d : Nat} (h : d < 0x55) : plainCode d = true := by
  refine plainCode_iff.mpr ⟨?_, by omega, by omega⟩
  simp only [codeRO, Bool.or_eq_false_iff, beq_eq_false_iff_ne]
  omega

namespace CoreSt

/-- A plain code. -/
theorem wr_of_plain {d : Nat} (h : plainCode d = true) (k base : CoreSt) (v : Half) :
    k.wr base d v = { k with rf := k.rf.set (physCode base d) (keptBits d v) } := by
  obtain ⟨hro, h55, hacc⟩ := plainCode_iff.mp h
  unfold wr
  rw [if_neg (by simp [hro]), if_neg h55, if_neg (by omega), if_neg (by omega), if_neg (by omega)]
  rfl

/-- What a write that is not plain leaves. -/
theorem wr_rf_of_not_plain {d : Nat} (h : plainCode d = false) (k base : CoreSt) (v : Half) : (k.wr base d v).rf = k.rf := by
  unfold wr
  split
  · rfl
  split
  · rfl
  split
  · rfl
  split
  · rfl
  split
  · rfl
  next hro h55 h58 h5C h60 =>
    exact absurd (plainCode_iff.mpr ⟨by simpa using hro, h55, by omega⟩) (by simp [h])

/-- A core but for its registers, accumulators and flags. -/
def sansRegs (k : CoreSt) : CoreSt := { k with rf := [], acc := [], flg := ⟨false, false, false, false, false, 0⟩ }

theorem wr_sansRegs (k base : CoreSt) (d : Nat) (v : Half) : (k.wr base d v).sansRegs = k.sansRegs := by
  unfold wr
  repeat' split
  all_goals rfl

theorem wr_flg {d : Nat} (h : d ≠ 0x55) (k base : CoreSt) (v : Half) : (k.wr base d v).flg = k.flg := by
  unfold wr
  repeat' split
  all_goals rfl

theorem accOf_modify (k : CoreSt) {i n : Nat} (h : i ≠ n) (f : BitVec 40 → BitVec 40) :
    accOf { k with acc := k.acc.modify i f } n = accOf k n := by
  simp [accOf, List.getD_eq_getElem?_getD, List.getElem?_modify_ne _ _ h]

/-- A write reaches accumulator `n` through its three parts alone. -/
theorem wr_acc {d n : Nat} (h : d ∉ accDest n) (k base : CoreSt) (v : Half) : accOf (k.wr base d v) n = accOf k n := by
  simp only [accDest, List.mem_cons, List.not_mem_nil, or_false, not_or] at h
  unfold wr
  split
  · rfl
  split
  · rfl
  split
  · exact k.accOf_modify (by omega) _
  split
  · exact k.accOf_modify (by omega) _
  split
  · exact k.accOf_modify (by omega) _
  · rfl

/-! ### Every write of a bundle -/

/-- The explicit writes of a bundle in their order, `base` giving the rotation. -/
def wrAll (base : CoreSt) (l : List (Nat × Half)) (k : CoreSt) : CoreSt := l.foldl (fun x e => x.wr base e.1 e.2) k

theorem wrAll_cons (base : CoreSt) (e : Nat × Half) (l : List (Nat × Half)) (k : CoreSt) :
    wrAll base (e :: l) k = wrAll base l (k.wr base e.1 e.2) := rfl

theorem wrAll_sansRegs (base : CoreSt) (l : List (Nat × Half)) (k : CoreSt) : (wrAll base l k).sansRegs = k.sansRegs := by
  induction l generalizing k with
  | nil => rfl
  | cons e l ih => exact (ih _).trans (k.wr_sansRegs base e.1 e.2)

theorem wrAll_flg {l : List (Nat × Half)} (h : ∀ e ∈ l, e.1 ≠ 0x55) (base k : CoreSt) : (wrAll base l k).flg = k.flg := by
  induction l generalizing k with
  | nil => rfl
  | cons e l ih =>
    rw [List.forall_mem_cons] at h
    exact (ih h.2 _).trans (k.wr_flg h.1 base e.2)

theorem wrAll_acc {l : List (Nat × Half)} {n : Nat} (h : ∀ e ∈ l, e.1 ∉ accDest n) (base k : CoreSt) :
    accOf (wrAll base l k) n = accOf k n := by
  induction l generalizing k with
  | nil => rfl
  | cons e l ih =>
    rw [List.forall_mem_cons] at h
    exact (ih h.2 _).trans (k.wr_acc h.1 base e.2)

theorem length_wr_rf (k base : CoreSt) (d : Nat) (v : Half) : (k.wr base d v).rf.length = k.rf.length := by
  cases h : plainCode d with
  | true => rw [wr_of_plain h, List.length_set]
  | false => rw [wr_rf_of_not_plain h]

theorem length_wrAll_rf (base : CoreSt) (l : List (Nat × Half)) (k : CoreSt) : (wrAll base l k).rf.length = k.rf.length := by
  induction l generalizing k with
  | nil => rfl
  | cons e l ih => exact (ih _).trans (k.length_wr_rf base e.1 e.2)

/-- A place no plain code of the bundle names. -/
theorem wrAll_rf_other {l : List (Nat × Half)} {base : CoreSt} {i : Nat}
    (h : ∀ e ∈ l, plainCode e.1 = true → physCode base e.1 ≠ i) (k : CoreSt) : (wrAll base l k).rf.getD i 0 = k.rf.getD i 0 := by
  induction l generalizing k with
  | nil => rfl
  | cons e l ih =>
    rw [List.forall_mem_cons] at h
    obtain ⟨he, hl⟩ := h
    rw [wrAll_cons, ih hl]
    cases hp : plainCode e.1 with
    | true => rw [wr_of_plain hp, List.getD_eq_getElem?_getD, List.getElem?_set_ne (he hp), List.getD_eq_getElem?_getD]
    | false => rw [wr_rf_of_not_plain hp]

/-- A plain code the bundle writes once (08 R198: no two syllables name one destination). -/
theorem wrAll_rf_same {l : List (Nat × Half)} {base : CoreSt} {d : Nat} {v : Half} (hmem : (d, v) ∈ l)
    (hnodup : ((l.map Prod.fst).filter fun x => !codeRO x).Nodup) (hd : plainCode d = true) {k : CoreSt} (hlt : d < k.rf.length)
    (h30 : 0x30 ≤ k.rf.length) : (wrAll base l k).rf.getD (physCode base d) 0 = keptBits d v := by
  obtain ⟨hro, -, -⟩ := plainCode_iff.mp hd
  induction l generalizing k with
  | nil => cases hmem
  | cons e l ih =>
    rw [wrAll_cons]
    obtain he | hl := List.mem_cons.mp hmem
    · subst he
      simp only [List.map_cons, List.filter_cons, hro, Bool.not_false, if_true, List.nodup_cons, List.mem_filter, List.mem_map,
        not_and] at hnodup
      obtain ⟨hfirst, -⟩ := hnodup
      rw [wrAll_rf_other]
      · rw [wr_of_plain hd, List.getD_eq_getElem?_getD, List.getElem?_set_self (physCode_lt hlt h30)]
        rfl
      · intro e he _ hphys
        obtain rfl := physCode_inj.mp hphys
        exact hfirst ⟨e, he, rfl⟩ trivial
    · refine ih hl ?_ (by rwa [length_wr_rf]) (by rwa [length_wr_rf])
      rw [List.map_cons, List.filter_cons] at hnodup
      split at hnodup
      · exact hnodup.of_cons
      · exact hnodup

/-! ### The register part of a bundle -/

theorem accOf_setAccs_other {l : List (Nat × BitVec 40)} {n : Nat} (h : ∀ e ∈ l, e.1 ≠ n) (a : List (BitVec 40)) :
    (l.foldl (fun a (e : Nat × BitVec 40) => a.set e.1 e.2) a).getD n 0 = a.getD n 0 := by
  induction l generalizing a with
  | nil => rfl
  | cons e l ih =>
    rw [List.forall_mem_cons] at h
    exact (ih h.2 _).trans (by simp [List.getD_eq_getElem?_getD, List.getElem?_set_ne h.1])

theorem accOf_setAccs_same {l : List (Nat × BitVec 40)} {n : Nat} {v : BitVec 40} (hmem : (n, v) ∈ l)
    (hnodup : (l.map Prod.fst).Nodup) {a : List (BitVec 40)} (hn : n < a.length) :
    (l.foldl (fun a (e : Nat × BitVec 40) => a.set e.1 e.2) a).getD n 0 = v := by
  induction l generalizing a with
  | nil => cases hmem
  | cons e l ih =>
    rw [List.map_cons, List.nodup_cons] at hnodup
    obtain ⟨hfirst, hrest⟩ := hnodup
    obtain rfl | hl := List.mem_cons.mp hmem
    · rw [List.foldl_cons, accOf_setAccs_other]
      · simp [List.getD_eq_getElem?_getD, hn]
      · rintro e he rfl
        exact hfirst (List.mem_map.mpr ⟨e, he, rfl⟩)
    · exact ih hl hrest (by simpa using hn)

/-- The core with the accumulators of a bundle written, and its flags where the bundle names FLG nowhere. -/
def accsSet (k : CoreSt) (es : List Eff) : CoreSt :=
  let k' := { k with acc := (es.flatMap Eff.accs).foldl (fun l (e : Nat × BitVec 40) => l.set e.1 e.2) k.acc }
  if (es.flatMap Eff.regs).any fun e => e.1 == 0x55 then k' else { k' with flg := (es.map Eff.fl).foldl Flg.after k'.flg }

/-- BX as the detections of a bundle leave it (08 R202). -/
def detected (k : CoreSt) (es : List Eff) : CoreSt :=
  { k with rf := k.rf.set 0x56 (BitVec.ofNat 16 ((es.flatMap Eff.det).foldl min (k.rf.getD 0x56 0).toNat)) }

theorem applyEffs_eq (k : CoreSt) (es : List Eff) :
    applyEffs k es = (wrAll k (es.flatMap Eff.regs) (k.accsSet es)).detected es := rfl

theorem accsSet_rf (k : CoreSt) (es : List Eff) : (k.accsSet es).rf = k.rf := by
  unfold accsSet
  dsimp only
  split
  · rfl
  · rfl

theorem accsSet_sansRegs (k : CoreSt) (es : List Eff) : (k.accsSet es).sansRegs = k.sansRegs := by
  unfold accsSet
  dsimp only
  split
  · rfl
  · rfl

theorem accOf_accsSet (k : CoreSt) (es : List Eff) (n : Nat) :
    accOf (k.accsSet es) n = ((es.flatMap Eff.accs).foldl (fun l (e : Nat × BitVec 40) => l.set e.1 e.2) k.acc).getD n 0 := by
  unfold accsSet
  dsimp only
  split
  · rfl
  · rfl

theorem applyEffs_sansRegs (k : CoreSt) (es : List Eff) : (applyEffs k es).sansRegs = k.sansRegs := by
  rw [applyEffs_eq]
  exact (wrAll_sansRegs k _ _).trans (k.accsSet_sansRegs es)

theorem applyEffs_acc (k : CoreSt) {es : List Eff} {n : Nat} (h : ∀ e ∈ es.flatMap Eff.regs, e.1 ∉ accDest n) :
    accOf (applyEffs k es) n = accOf (k.accsSet es) n := by
  rw [applyEffs_eq]
  exact wrAll_acc h k _

theorem applyEffs_flg (k : CoreSt) {es : List Eff} (h : ∀ e ∈ es.flatMap Eff.regs, e.1 ≠ 0x55) :
    (applyEffs k es).flg = (es.map Eff.fl).foldl Flg.after k.flg := by
  have hany : (es.flatMap Eff.regs).any (fun e => e.1 == 0x55) = false :=
    List.any_eq_false.mpr fun e he => by simpa using h e he
  rw [applyEffs_eq]
  refine (wrAll_flg h k _).trans ?_
  simp only [accsSet, hany]
  rfl

/-- A place other than BX, through the explicit writes alone. -/
theorem applyEffs_rf_of_ne (k : CoreSt) (es : List Eff) {i : Nat} (hi : i ≠ 0x56) :
    (applyEffs k es).rf.getD i 0 = (wrAll k (es.flatMap Eff.regs) (k.accsSet es)).rf.getD i 0 := by
  rw [applyEffs_eq, detected, List.getD_eq_getElem?_getD, List.getElem?_set_ne hi.symm, List.getD_eq_getElem?_getD]

/-- A place the bundle does not write. -/
theorem applyEffs_rf_other (k : CoreSt) {es : List Eff} {i : Nat} (hi : i ≠ 0x56)
    (h : ∀ e ∈ es.flatMap Eff.regs, plainCode e.1 = true → physCode k e.1 ≠ i) :
    (applyEffs k es).rf.getD i 0 = k.rf.getD i 0 := by
  rw [applyEffs_rf_of_ne k es hi, wrAll_rf_other h, accsSet_rf]

/-- A place the bundle writes once. -/
theorem applyEffs_rf_same {k : CoreSt} {es : List Eff} {d : Nat} {v : Half} (hmem : (d, v) ∈ es.flatMap Eff.regs)
    (hnodup : (((es.flatMap Eff.regs).map Prod.fst).filter fun x => !codeRO x).Nodup) (hd : plainCode d = true) (hbx : d ≠ 0x56)
    (hlt : d < 0x6C) (hlen : k.rf.length = 0x6C) : (applyEffs k es).rf.getD (physCode k d) 0 = keptBits d v := by
  rw [applyEffs_rf_of_ne k es (physCode_ne (by decide) hbx)]
  exact wrAll_rf_same hmem hnodup hd (by rw [accsSet_rf]; omega) (by rw [accsSet_rf]; omega)

/-- BX after a bundle. -/
theorem applyEffs_bx (k : CoreSt) {es : List Eff} (hlen : k.rf.length = 0x6C) :
    (applyEffs k es).rf.getD 0x56 0 = BitVec.ofNat 16 ((es.flatMap Eff.det).foldl min
      ((wrAll k (es.flatMap Eff.regs) (k.accsSet es)).rf.getD 0x56 0).toNat) := by
  have hlt : 0x56 < (wrAll k (es.flatMap Eff.regs) (k.accsSet es)).rf.length := by
    rw [length_wrAll_rf, accsSet_rf]
    omega
  rw [applyEffs_eq, detected, List.getD_eq_getElem?_getD, List.getElem?_set_self hlt]
  rfl

/-- Without a detection BX is as the explicit writes leave it. -/
theorem applyEffs_bx_of_no_det (k : CoreSt) {es : List Eff} (hlen : k.rf.length = 0x6C) (hdet : es.flatMap Eff.det = []) :
    (applyEffs k es).rf.getD 0x56 0 = (wrAll k (es.flatMap Eff.regs) (k.accsSet es)).rf.getD 0x56 0 := by
  rw [applyEffs_bx k hlen, hdet, List.foldl_nil, BitVec.ofNat_toNat, BitVec.setWidth_eq]

end CoreSt

end Sys2Proof.Machine
end


section
/-! Destinations of a bundle (07 R167; 08 R198): no two syllables of a legal bundle write one place, so that each place ends with
what its one syllable computed. -/

namespace Sys2Proof.Machine

/-! ### What a syllable writes, by codes -/

/-- The codes of the places an effect writes, those of an accumulator's three parts among them. -/
def Eff.dests (e : Eff) : List Nat := e.accs.flatMap (fun a => accDest a.1) ++ (e.regs.map Prod.fst).filter fun d => !codeRO d

theorem State.ea_codes (s : State) (c : Nat) (y : Bool) (ptr amod : Nat) :
    (s.ea c y ptr amod).2.map Prod.fst = amodDest y ptr amod := by
  obtain rfl | rfl | rfl | rfl | h : amod = 1 ∨ amod = 2 ∨ amod = 3 ∨ amod = 4 ∨ ¬(1 ≤ amod ∧ amod ≤ 4) := by omega
  · rfl
  · rfl
  · rfl
  · rfl
  · simp only [State.ea, amodDest, if_neg h]
    rw [if_neg (by omega), if_neg (by omega), if_neg (by omega), if_neg (by omega)]
    split
    · rfl
    · rfl

theorem State.mop_codes (s : State) (c : Nat) (y : Bool) (m : MOp) : (s.mop c y m).2.map Prod.fst = mopDest y m := by
  cases m with
  | reg k => rfl
  | mem ptr md =>
    simp only [State.mop, State.modPtr, mopDest]
    split
    · rfl
    · rfl

/-- A syllable writes none but its destinations, each once. -/
theorem State.sylEff_dests (s : State) (c llv : Nat) {y : Syl} (hwf : y.wf = true) :
    ((s.sylEff c y).dests).Sublist (destsOf llv y) := by
  have hmop : ∀ y m, ((s.mop c y m).2.map Prod.fst).filter (fun d => !codeRO d) |>.Sublist (mopDest y m) := fun y m =>
    s.mop_codes c y m ▸ List.filter_sublist
  have hea : ∀ y ptr amod, ((s.ea c y ptr amod).2.map Prod.fst).filter (fun d => !codeRO d) |>.Sublist (amodDest y ptr amod) :=
    fun y ptr amod => s.ea_codes c y ptr amod ▸ List.filter_sublist
  have hnamed : ∀ {l p q : List Nat}, (p.filter fun d => !codeRO d).Sublist q →
      ((l ++ p).filter fun d => !codeRO d).Sublist ((l.filter fun d => !codeRO d) ++ q) := fun h => by
    rw [List.filter_append]
    exact (List.Sublist.refl _).append h
  obtain ⟨slot, op⟩ := y
  cases op with
  | m k acd a b => simpa [State.sylEff, State.effM, Eff.dests, destsOf, namedDests] using (hmop false a).append (hmop true b)
  | a k acd acs r sbx sh det => cases k <;> simp [State.sylEff, State.effA, Eff.dests, destsOf, namedDests, Eff.zero]
  | r k d a b det => cases k <;> simp [State.sylEff, State.effR, Eff.dests, destsOf, namedDests, Eff.zero, noDestK]
  | ld reg y ptr amod => exact hnamed (l := [reg]) (hea y ptr amod)
  | st reg y ptr amod det => simpa [State.sylEff, State.effSt, Eff.dests, destsOf, namedDests, Eff.zero] using hea y ptr amod
  | ldxy dx dy px mx py my =>
    have hptrs : ((((s.mop c false (.mem px mx)).2 ++ (s.mop c true (.mem py my)).2).map Prod.fst).filter
        fun d => !codeRO d).Sublist (mopDest false (.mem px mx) ++ mopDest true (.mem py my)) := by
      simpa using (hmop false (.mem px mx)).append (hmop true (.mem py my))
    have h := hnamed (l := [dx, dy]) hptrs
    exact h
  | pmod y ptr amod => simpa [State.sylEff, State.effPmod, Eff.dests, destsOf, namedDests, Eff.zero] using hea y ptr amod
  | paddi pr simm =>
    have hpr : pr % 8 = pr := Nat.mod_eq_of_lt (by simpa [Syl.wf, opFits, aguMovOk] using hwf)
    simp [State.sylEff, State.effPaddi, Eff.dests, destsOf, namedDests, Eff.zero, hpr, List.filter_cons]
  | qpopm q w y ptr amod => simpa [State.sylEff, Eff.dests, destsOf, namedDests, Eff.zero] using hea y ptr amod
  | qpushm q w y ptr amod =>
    simpa [State.sylEff, State.effPmod, Eff.dests, destsOf, namedDests, Eff.zero] using hea y ptr amod
  | limx d d2 ext => cases d2 <;> simp [State.sylEff, Eff.dests, destsOf, namedDests, Eff.zero]
  | _ => simp [State.sylEff, State.effI, Eff.dests, destsOf, namedDests, Eff.zero]

/-! ### A legal bundle -/

theorem noDup_iff {l : List Nat} : noDup l = true ↔ l.Nodup := by
  induction l with
  | nil => simp [noDup]
  | cons a l ih => simp [noDup, ih]

/-- A bundle that decodes without a fault is legal (07 R167). -/
theorem legal_of_decodeFault {k : CoreSt} {c : Nat} {b : List Syl} (h : decodeFault k c b = none) :
    slotsRise b = true ∧ b.all sylOk = true ∧ b.all slotOk = true ∧ (b.flatMap (destsOf k.llv)).Nodup := by
  unfold decodeFault at h
  split at h
  · cases h
  split at h
  · cases h
  next hlegal =>
    simp only [illegal, Bool.not_eq_true', Bool.and_eq_true, Bool.not_eq_false] at hlegal
    obtain ⟨⟨⟨⟨⟨⟨hrise, hsyl⟩, hslot⟩, -⟩, -⟩, hdup⟩, -⟩ := hlegal
    exact ⟨hrise, hsyl, hslot, noDup_iff.mp hdup⟩

theorem flatMap_sublist {α β : Type} {f g : α → List β} {l : List α} (h : ∀ a ∈ l, (f a).Sublist (g a)) :
    (l.flatMap f).Sublist (l.flatMap g) := by
  induction l with
  | nil => exact List.Sublist.refl _
  | cons a l ih =>
    rw [List.forall_mem_cons] at h
    exact h.1.append (ih h.2)

/-- What each syllable of a bundle computes from the state before it (07 R162). -/
def State.bundleEffs (s : State) (c : Nat) (b : List Syl) : List Eff := b.map fun y => s.sylEff c y

section
variable {s : State} {c : Nat} {b : List Syl}

theorem State.Straight.legal (h : s.Straight c b) :
    slotsRise b = true ∧ b.all sylOk = true ∧ b.all slotOk = true ∧ (b.flatMap (destsOf (s.core c).llv)).Nodup := by
  obtain ⟨-, -, ⟨-, -, -, -, -, -, hdec, -⟩, -⟩ := h
  exact legal_of_decodeFault hdec

theorem State.Straight.wf (h : s.Straight c b) {y : Syl} (hy : y ∈ b) : y.wf = true := by
  obtain ⟨-, hwf, -⟩ := h
  exact List.all_eq_true.mp hwf y hy

theorem State.Straight.dests_nodup (h : s.Straight c b) : ((s.bundleEffs c b).flatMap Eff.dests).Nodup := by
  obtain ⟨-, -, -, hdup⟩ := h.legal
  rw [State.bundleEffs, List.flatMap_map]
  exact hdup.sublist (flatMap_sublist fun y hy => s.sylEff_dests c _ (h.wf hy))

/-- The accumulators a bundle writes and the registers it writes, apart. -/
theorem State.Straight.dests_split (h : s.Straight c b) :
    (((s.bundleEffs c b).flatMap Eff.accs).flatMap fun a => accDest a.1).Nodup ∧
    ((((s.bundleEffs c b).flatMap Eff.regs).map Prod.fst).filter fun d => !codeRO d).Nodup ∧
    ∀ n v d w, (n, v) ∈ (s.bundleEffs c b).flatMap Eff.accs → (d, w) ∈ (s.bundleEffs c b).flatMap Eff.regs →
      codeRO d = false → d ∉ accDest n := by
  have hsplit := (List.flatMap_append_perm (s.bundleEffs c b) (fun e => e.accs.flatMap fun a : Nat × BitVec 40 => accDest a.1)
    (fun e => (e.regs.map Prod.fst).filter fun d => !codeRO d)).nodup_iff.mpr h.dests_nodup
  rw [← List.flatMap_assoc, ← List.filter_flatMap, ← List.map_flatMap, List.nodup_append'] at hsplit
  obtain ⟨haccs, hregs, hdisj⟩ := hsplit
  refine ⟨haccs, hregs, fun n v d w hn hd hro hmem => hdisj (a := d) (List.mem_flatMap.mpr ⟨_, hn, hmem⟩) ?_⟩
  rw [List.mem_filter]
  exact ⟨List.mem_map.mpr ⟨_, hd, rfl⟩, by simpa using hro⟩

theorem State.Straight.accs_nodup (h : s.Straight c b) : (((s.bundleEffs c b).flatMap Eff.accs).map Prod.fst).Nodup := by
  obtain ⟨haccs, -⟩ := h.dests_split
  have hfirst : ∀ l : List (Nat × BitVec 40), ((l.map Prod.fst).map (0x58 + ·)).Sublist
      (l.flatMap fun a => accDest a.1) := fun l => by
    rw [List.map_map, ← List.flatMap_singleton' (l.map _), List.flatMap_map]
    exact flatMap_sublist fun a _ => by simp [accDest]
  exact (haccs.sublist (hfirst _)).of_map _

end

/-! ### The writes of a bundle, seen at its core -/

/-- The core as a bundle finds it once it issues. -/
def CoreSt.issuing (k : CoreSt) : CoreSt := { k with pair := false, squash := false, wait := none, fresh := false }

section
variable {s : State} {c : Nat} {b : List Syl}

theorem State.wrByte_eq (s : State) (a : Nat) (v : Byte) : s.wrByte a v = { s with mem := (s.wrByte a v).mem } := by
  unfold State.wrByte
  split
  · rfl
  · rfl

theorem State.wrBytes_eq (s : State) (a : Nat) (l : List Byte) : s.wrBytes a l = { s with mem := (s.wrBytes a l).mem } := by
  induction l generalizing s a with
  | nil => rfl
  | cons v l ih =>
    rw [State.wrBytes, ih, s.wrByte_eq a v]

/-- The store of a bundle changes memory alone. -/
theorem State.applyMem_eq (s : State) (c : Nat) (es : List Eff) : s.applyMem c es = { s with mem := (s.applyMem c es).mem } := by
  unfold State.applyMem
  induction es.filterMap Eff.mem generalizing s with
  | nil => rfl
  | cons m l ih =>
    rw [List.foldl_cons, ih, State.wr16, s.wrBytes_eq]

/-- The state after the registers and the store of a bundle, before its queues act. -/
def State.applied (s : State) (c : Nat) (b : List Syl) : State :=
  (s.updCore c fun k => applyEffs k.issuing (s.bundleEffs c b)).applyMem c (s.bundleEffs c b)

theorem State.applied_eq (s : State) (c : Nat) (b : List Syl) :
    s.applied c b = { s.updCore c fun k => applyEffs k.issuing (s.bundleEffs c b) with mem := (s.applied c b).mem } :=
  State.applyMem_eq _ _ _

/-- The core after the registers of a bundle, before its queues act. -/
theorem State.core_applied (hc : c < s.cores.length) (b : List Syl) :
    (s.applied c b).core c = applyEffs (s.core c).issuing (s.bundleEffs c b) := by
  rw [State.applied_eq]
  exact State.core_updCore_same hc _

theorem State.queued_bundleWrites (s : State) (c : Nat) (b : List Syl) :
    State.Queued c (s.applied c b) (s.bundleWrites c b) := State.Queued.foldl_queueOp c _ s (namesFlg b) b

theorem State.sansQ_bundleWrites (hc : c < s.cores.length) (b : List Syl) :
    ((s.bundleWrites c b).core c).sansQ = (applyEffs (s.core c).issuing (s.bundleEffs c b)).sansQ := by
  rw [(s.queued_bundleWrites c b).core, State.core_applied hc]

theorem State.rf_bundleWrites (hc : c < s.cores.length) (b : List Syl) :
    ((s.bundleWrites c b).core c).rf = (applyEffs (s.core c).issuing (s.bundleEffs c b)).rf :=
  (congrArg CoreSt.rf (State.sansQ_bundleWrites hc b) :)

theorem State.acc_bundleWrites (hc : c < s.cores.length) (b : List Syl) :
    ((s.bundleWrites c b).core c).acc = (applyEffs (s.core c).issuing (s.bundleEffs c b)).acc :=
  (congrArg CoreSt.acc (State.sansQ_bundleWrites hc b) :)

/-! ### The control part leaves the accumulators and the codes below the loop registers -/

theorem State.ctlOp_acc (s0 s : State) (c nxt : Nat) (y : Syl) : (s0.ctlOp s c nxt y).1.acc = (s.core c).acc := by
  have hput : ∀ (l : List Nat) (f : Nat → Nat) (k : CoreSt), (l.foldl (fun k i => k.put (f i) 0) k).acc = k.acc := by
    intro l f k
    induction l generalizing k with
    | nil => rfl
    | cons i l ih => exact ih _
  unfold State.ctlOp
  dsimp only
  split
  case h_9 =>
    split
    · rfl
    · rfl
  case h_10 => exact hput _ _ _
  all_goals rfl

theorem CoreSt.put_rf_ne (k : CoreSt) {code i : Nat} (v : Nat) (h : code ≠ i) : (k.put code v).rf.getD i 0 = k.rf.getD i 0 := by
  rw [CoreSt.put, List.getD_eq_getElem?_getD, List.getElem?_set_ne h, List.getD_eq_getElem?_getD]

theorem State.ctlOp_rf_low (s0 s : State) (c nxt : Nat) (y : Syl) {i : Nat} (hi : i < 0x48) :
    (s0.ctlOp s c nxt y).1.rf.getD i 0 = (s.core c).rf.getD i 0 := by
  have hput : ∀ (l : List Nat) (f : Nat → Nat) (k : CoreSt), (∀ n, 0x48 ≤ f n) →
      (l.foldl (fun k i => k.put (f i) 0) k).rf.getD i 0 = k.rf.getD i 0 := by
    intro l f k hf
    induction l generalizing k with
    | nil => rfl
    | cons n l ih => exact (ih _).trans (k.put_rf_ne 0 (by have := hf n; omega))
  unfold State.ctlOp
  dsimp only
  split
  case h_8 => simp [CoreSt.rti, List.getElem?_set_ne (show 0x66 ≠ i by omega)]
  case h_9 =>
    split
    · rfl
    · dsimp only
      rw [CoreSt.put_rf_ne _ _ (by omega), CoreSt.put_rf_ne _ _ (by omega), CoreSt.put_rf_ne _ _ (by omega),
        CoreSt.put_rf_ne _ _ (by omega)]
  case h_10 => exact (hput _ _ _ (by omega)).trans (CoreSt.put_rf_ne _ _ (by omega))
  all_goals rfl

theorem State.bundleCtl_acc (s0 s : State) (c : Nat) (b : List Syl) : (s0.bundleCtl s c b).1.acc = (s.core c).acc := by
  simp only [State.bundleCtl]
  cases b.find? fun y => y.slot == .ctl with
  | none => split <;> rfl
  | some y => split <;> exact s0.ctlOp_acc s c _ y

theorem State.bundleCtl_rf_low (s0 s : State) (c : Nat) (b : List Syl) {i : Nat} (hi : i < 0x48) :
    (s0.bundleCtl s c b).1.rf.getD i 0 = (s.core c).rf.getD i 0 := by
  simp only [State.bundleCtl]
  cases b.find? fun y => y.slot == .ctl with
  | none => split <;> rfl
  | some y => split <;> exact s0.ctlOp_rf_low s c _ y hi

/-! ### What a legal bundle leaves in the accumulators and registers its syllables name -/

theorem State.Straight.core_lt (h : s.Straight c b) : c < s.cores.length := by
  obtain ⟨hs, -, ⟨hc, -⟩, -⟩ := h
  exact hs.core_lt hc

theorem State.Straight.sized (h : s.Straight c b) : (s.core c).Sized := s.core_sized h.1 c

/-- The core of an issued bundle, by its control part. -/
theorem State.Straight.issued (h : s.Straight c b) (hb : b ≠ []) :
    ((s.issue c b).core c).arch = (s.bundleCtl (s.bundleWrites c b) c b).1.arch := by
  rw [(State.passed_issue h hb).core, State.core_withCore]
  exact State.Shape.core_lt ((show s.ShapeTo (s.bundleWrites c b) by simp) h.1) h.2.2.1.1

/-- An accumulator one syllable writes. -/
theorem State.Straight.accOf_issue (h : s.Straight c b) (hb : b ≠ []) {n : Nat} {v : BitVec 40} (hn : n < 4)
    (hmem : (n, v) ∈ (s.bundleEffs c b).flatMap Eff.accs) : accOf ((s.issue c b).core c) n = v := by
  have hacc : ((s.issue c b).core c).acc = (applyEffs (s.core c).issuing (s.bundleEffs c b)).acc :=
    (congrArg CoreSt.acc (h.issued hb)).trans ((s.bundleCtl_acc _ c b).trans (State.acc_bundleWrites h.core_lt b))
  obtain ⟨-, hlen, -⟩ := h.sized
  obtain ⟨-, -, hapart⟩ := h.dests_split
  rw [accOf, hacc, ← accOf, CoreSt.applyEffs_acc, CoreSt.accOf_accsSet]
  · exact CoreSt.accOf_setAccs_same hmem h.accs_nodup (hn.trans_eq hlen.symm)
  · intro e he hdest
    refine hapart n v e.1 e.2 hmem he ?_ hdest
    simp only [accDest, List.mem_cons, List.not_mem_nil, or_false] at hdest
    simp only [codeRO, Bool.or_eq_false_iff, beq_eq_false_iff_ne]
    omega

/-- A register below the loop registers that one syllable writes. -/
theorem State.Straight.regAfter_issue (h : s.Straight c b) (hb : b ≠ []) {d : Nat} {v : Half} (hd : d < 0x48)
    (hmem : (d, v) ∈ (s.bundleEffs c b).flatMap Eff.regs) : s.regAfter (s.issue c b) c d = v := by
  have hrf : ((s.issue c b).core c).rf = (s.bundleCtl (s.bundleWrites c b) c b).1.rf :=
    (congrArg CoreSt.rf (h.issued hb) :)
  obtain ⟨hlen, -⟩ := h.sized
  obtain ⟨-, hnodup, -⟩ := h.dests_split
  rw [State.regAfter, hrf, State.bundleCtl_rf_low _ _ _ _ (physCode_lt hd (by decide)), State.rf_bundleWrites h.core_lt]
  exact (CoreSt.applyEffs_rf_same (k := (s.core c).issuing) hmem hnodup (plainCode_of_lt (by omega)) (by omega) (by omega)
    hlen).trans (keptBits_of_lt (by omega) v)

end

end Sys2Proof.Machine
end


section
/-! The store of a bundle (07 R161, R162; 09 R220), and bundles of one syllable. -/

namespace Sys2Proof.Machine

/-! ### Words of X and Y -/

theorem memRegion_local {c a : Nat} (hc : c < 5) (ha : a < 0x100000) : memRegion (coreBase c + a) ≠ none := by
  unfold memRegion coreBase
  rw [if_neg (by omega), if_neg (by omega), if_neg (by omega), if_neg (by omega), if_neg (by omega), if_neg (by omega)]
  split
  · exact Option.some_ne_none _
  · rw [if_pos (by omega)]
    exact Option.some_ne_none _

theorem memRegion_wordAddr {c : Nat} (hc : c < 5) (y : Bool) (a i : Nat) (hi : i < 2) : memRegion (wordAddr c y a + i) ≠ none := by
  rw [wordAddr, Nat.add_assoc, Nat.add_assoc]
  refine memRegion_local hc ?_
  split <;> omega

theorem State.rd16_wr16 (s : State) {a v : Nat} (h0 : memRegion a ≠ none) (h1 : memRegion (a + 1) ≠ none) (hv : v < 65536) :
    (s.wr16 a v).rd16 a = v := by
  simp only [State.rd16, State.wr16, leBytes, State.wrBytes, State.rdBytes, leNat, State.rdByte_wrByte_same _ _ _ h1,
    State.rdByte_wrByte_ne _ _ (show a ≠ a + 1 by omega), State.rdByte_wrByte_same _ _ _ h0, BitVec.toNat_ofNat]
  omega

theorem State.rdByte_wr16_ne (s : State) {a b : Nat} (v : Nat) (h0 : b ≠ a) (h1 : b ≠ a + 1) :
    (s.wr16 a v).rdByte b = s.rdByte b :=
  s.rdByte_wrBytes_ne _ (by rw [length_leBytes]; omega)

/-! ### The one store of a bundle -/

section
variable {s : State} {c : Nat}

theorem slotsRise_pairwise {b : List Syl} (h : slotsRise b = true) : b.Pairwise fun x y => x.slot.num < y.slot.num := by
  induction b with
  | nil => exact List.Pairwise.nil
  | cons x b ih =>
    cases b with
    | nil => exact List.pairwise_singleton _ x
    | cons y b =>
      simp only [slotsRise, Bool.and_eq_true, decide_eq_true_eq] at h
      obtain ⟨hxy, hrest⟩ := h
      refine List.pairwise_cons.mpr ⟨fun z hz => ?_, ih hrest⟩
      obtain rfl | hz := List.mem_cons.mp hz
      · exact hxy
      · exact hxy.trans (List.rel_of_pairwise_cons (ih hrest) hz)

/-- Only syllables of the AGU store. -/
theorem State.sylEff_mem_of_not_agu (s : State) (c : Nat) {y : Syl} (hok : slotOk y = true) (hslot : y.slot ≠ .agu) :
    (s.sylEff c y).mem = none := by
  obtain ⟨slot, op⟩ := y
  cases op with
  | a k => cases k <;> rfl
  | r k => cases k <;> rfl
  | st => exact absurd (by simpa [slotOk] using hok) hslot
  | qpopm => exact absurd (by simpa [slotOk] using hok) hslot
  | _ => rfl

/-- The syllables beside one of the AGU store nothing. -/
theorem State.Straight.stores_eq {pre post : List Syl} {y : Syl} (h : s.Straight c (pre ++ y :: post)) (hy : y.slot = .agu) :
    (s.bundleEffs c (pre ++ y :: post)).filterMap Eff.mem = (s.sylEff c y).mem.toList := by
  obtain ⟨hrise, -, hok, -⟩ := h.legal
  have hrise := List.pairwise_append.mp (slotsRise_pairwise hrise)
  have hnone : ∀ x, x ∈ pre ++ y :: post → x.slot.num ≠ y.slot.num → (s.sylEff c x).mem = none := fun x hx hne =>
    s.sylEff_mem_of_not_agu c (List.all_eq_true.mp hok x hx) fun hx => hne (by rw [hx, hy])
  obtain ⟨-, hpost, hpre⟩ := hrise
  have hl : (pre.map fun y => s.sylEff c y).filterMap Eff.mem = [] := by
    rw [List.filterMap_map, List.filterMap_eq_nil_iff]
    exact fun x hx => hnone x (by simp [hx]) (hpre x hx y (by simp)).ne
  have hr : (post.map fun y => s.sylEff c y).filterMap Eff.mem = [] := by
    rw [List.filterMap_map, List.filterMap_eq_nil_iff]
    exact fun x hx => hnone x (by simp [hx]) (List.rel_of_pairwise_cons hpost hx).ne'
  rw [State.bundleEffs, List.map_append, List.map_cons, List.filterMap_append, hl, List.filterMap_cons]
  cases (s.sylEff c y).mem with
  | none => exact hr
  | some m => rw [hr]; rfl

theorem State.Straight.rdByte_issue {b : List Syl} (h : s.Straight c b) (hb : b ≠ []) (a : Nat) :
    (s.issue c b).rdByte a = (s.applied c b).rdByte a := by
  have hpass := State.passed_issue h hb
  have hqueue := s.queued_bundleWrites c b
  rw [State.rdByte, hpass.mem, hpass.epoch]
  exact (congrArg₂ (fun e m => Sparse.get (memDefault e) m a) hqueue.epoch hqueue.mem)

theorem State.rdByte_applied_of_no_store {b : List Syl} (h : (s.bundleEffs c b).filterMap Eff.mem = []) (a : Nat) :
    (s.applied c b).rdByte a = s.rdByte a := by
  rw [State.applied, State.applyMem, h]
  rfl

/-- A bundle whose AGU syllable stores nothing leaves every byte. -/
theorem State.Straight.rdByte_issue_of_no_store {pre post : List Syl} {y : Syl} (h : s.Straight c (pre ++ y :: post))
    (hy : y.slot = .agu) (hmem : (s.sylEff c y).mem = none) (a : Nat) : (s.issue c (pre ++ y :: post)).rdByte a = s.rdByte a := by
  rw [h.rdByte_issue (by simp), State.rdByte_applied_of_no_store]
  rw [h.stores_eq hy, hmem]
  rfl

/-- The store of a bundle's AGU syllable. -/
theorem State.Straight.store_issue {pre post : List Syl} {y : Syl} (h : s.Straight c (pre ++ y :: post)) (hy : y.slot = .agu)
    {m : Bool × Nat × Half} (hmem : (s.sylEff c y).mem = some m) :
    (s.issue c (pre ++ y :: post)).rd16 (wordAddr c m.1 m.2.1) = m.2.2.toNat ∧
    ∀ a, a ≠ wordAddr c m.1 m.2.1 → a ≠ wordAddr c m.1 m.2.1 + 1 → (s.issue c (pre ++ y :: post)).rdByte a = s.rdByte a := by
  have hc : c < 5 := h.2.2.1.1
  have happlied : s.applied c (pre ++ y :: post) =
      (s.updCore c fun k => applyEffs k.issuing (s.bundleEffs c (pre ++ y :: post))).wr16 (wordAddr c m.1 m.2.1) m.2.2.toNat := by
    rw [State.applied, State.applyMem, h.stores_eq hy, hmem]
    rfl
  refine ⟨?_, fun a h0 h1 => ?_⟩
  · simp only [State.rd16, State.rdBytes, h.rdByte_issue (by simp), happlied]
    exact State.rd16_wr16 _ (memRegion_wordAddr hc _ _ 0 (by decide)) (memRegion_wordAddr hc _ _ 1 (by decide)) m.2.2.isLt
  · rw [h.rdByte_issue (by simp), happlied, State.rdByte_wr16_ne _ _ h0 h1]
    rfl

end

/-! ### One syllable alone -/

section
variable {s : State} {c : Nat} {y : Syl}

/-- A syllable without a queue operation. -/
def noQueueOp (y : Syl) : Bool :=
  match y.op with
  | .qset .. | .qstop _ | .qpop .. | .qpopm .. | .qpush .. | .qpushm .. => false
  | _ => true

theorem State.queueOp_of_none (s s0 : State) (c : Nat) (wrote : Bool) (h : noQueueOp y = true) :
    s.queueOp s0 c wrote y = s := by
  obtain ⟨slot, op⟩ := y
  cases op with
  | qset => cases h
  | qstop => cases h
  | qpop => cases h
  | qpopm => cases h
  | qpush => cases h
  | qpushm => cases h
  | _ => rfl

theorem State.bundleWrites_alone (s : State) (c : Nat) (h : noQueueOp y = true) : s.bundleWrites c [y] = s.applied c [y] :=
  (s.applied c [y]).queueOp_of_none s c (namesFlg [y]) h

/-- Registers, time and events of `u` are those of `s`; its core `c` and some bytes may be new. -/
structure State.Rest (s u : State) (c : Nat) (stored : List Nat) : Prop where
  others : ∀ d, d ≠ c → u.core d = s.core d
  bytes : ∀ a, a ∉ stored → u.rdByte a = s.rdByte a
  reg : ∀ p o, u.r p o = s.r p o
  act : u.act = s.act
  ltb : u.ltb = s.ltb
  welt : u.welt = s.welt

theorem State.rest_applied (s : State) (c : Nat) (b : List Syl) {stored : List Nat}
    (hstore : ∀ a, a ∉ stored → (s.applied c b).rdByte a = s.rdByte a) : s.Rest (s.applied c b) c stored := by
  refine ⟨fun d hd => ?_, hstore, fun p o => ?_, ?_, ?_, ?_⟩
  · rw [State.applied_eq]
    exact State.core_updCore_ne hd _
  · rw [State.applied_eq]
    rfl
  · rw [State.applied_eq]
    rfl
  · rw [State.applied_eq]
    rfl
  · rw [State.applied_eq]
    rfl

/-- What a core keeps from `k0` to `k` but for the registers `regs` and the accumulators `accs`. -/
structure CoreSt.Holds (k0 k : CoreSt) (regs accs : List Nat) : Prop where
  irq : k.irq = k0.irq
  rf : ∀ i, i ∉ regs.map (physCode k0) → k.rf.getD i 0 = k0.rf.getD i 0
  acc : ∀ n, n ∉ accs → accOf k n = accOf k0 n

/-- An issued bundle that leaves all but its core's listed parts. -/
theorem State.Rest.same {u t : State} {k : CoreSt} {regs accs stored : List Nat} (hu : s.Rest u c stored)
    (hc : c < u.cores.length) (hpass : State.Passed c (u.withCore c k) t) (hk : (s.core c).Holds k regs accs) :
    s.Same t c regs accs stored := by
  have hcore : (t.core c).arch = k.arch := by rw [hpass.core, State.core_withCore hc]
  refine ⟨(congrArg CoreSt.irq hcore :).trans hk.irq, fun i hi => ?_, fun n hn => ?_, fun d hd => ?_, fun a ha => ?_,
    fun p o ho hp => (hpass.reg p o ho hp).trans (hu.reg p o), hpass.act.trans hu.act, hpass.ltb.trans hu.ltb,
    hpass.welt.trans hu.welt⟩
  · exact (congrArg (fun k : CoreSt => k.rf.getD i 0) hcore :).trans (hk.rf i hi)
  · exact (congrArg (fun k : CoreSt => accOf k n) hcore :).trans (hk.acc n hn)
  · rw [hpass.others d hd, State.withCore, State.core_updCore_ne hd, hu.others d hd]
  · rw [State.rdByte, hpass.mem, hpass.epoch]
    exact hu.bytes a ha

/-- What the effect of one syllable alone leaves of its core. -/
theorem State.Straight.holds_applied (h : s.Straight c [y]) {regs accs : List Nat}
    (hregs : ∀ e ∈ (s.sylEff c y).regs, plainCode e.1 = true → e.1 ∈ regs) (hdet : 0x56 ∈ regs ∨ (s.sylEff c y).det = [])
    (haccs : ∀ e ∈ (s.sylEff c y).accs, e.1 ∈ accs)
    (hparts : ∀ e ∈ (s.sylEff c y).regs, ∀ n, e.1 ∈ accDest n → n ∈ accs) :
    (s.core c).Holds (applyEffs (s.core c).issuing [s.sylEff c y]) regs accs := by
  obtain ⟨hlen, -⟩ := h.sized
  have hother : ∀ i, i ∉ regs.map (physCode (s.core c)) → ∀ e ∈ [s.sylEff c y].flatMap Eff.regs, plainCode e.1 = true →
      physCode (s.core c).issuing e.1 ≠ i := by
    rintro i hi e he hplain rfl
    rw [List.flatMap_singleton] at he
    exact hi (List.mem_map.mpr ⟨e.1, hregs e he hplain, rfl⟩)
  refine ⟨(congrArg CoreSt.irq (CoreSt.applyEffs_sansRegs (s.core c).issuing [s.sylEff c y]) :), fun i hi => ?_, fun n hn => ?_⟩
  · by_cases hbx : i = 0x56
    · subst hbx
      have hnone : (s.sylEff c y).det = [] := hdet.resolve_left fun hmem =>
        hi (List.mem_map.mpr ⟨0x56, hmem, physCode_of_plain _ (by decide)⟩)
      rw [CoreSt.applyEffs_bx_of_no_det (s.core c).issuing hlen (by simpa using hnone), CoreSt.wrAll_rf_other (hother _ hi),
        CoreSt.accsSet_rf]
      rfl
    · exact CoreSt.applyEffs_rf_other _ hbx (hother i hi)
  · rw [CoreSt.applyEffs_acc, CoreSt.accOf_accsSet, CoreSt.accOf_setAccs_other]
    · rfl
    · rintro e he rfl
      rw [List.flatMap_singleton] at he
      exact hn (haccs e he)
    · intro e he hmem
      rw [List.flatMap_singleton] at he
      exact hn (hparts e he n hmem)

/-- One syllable of a MAC slot or the AGU, alone and without a queue operation: its effect, and the next bundle. -/
theorem State.Straight.passed_alone (h : s.Straight c [y]) (hslot : y.slot ≠ .ctl) (hqueue : noQueueOp y = true) :
    State.Passed c ((s.applied c [y]).withCore c
      { applyEffs (s.core c).issuing [s.sylEff c y] with pc := (s.core c).pc + y.size }) (s.issue c [y]) := by
  have hpass := State.passed_issue h (by simp)
  have hctl : (s.bundleCtl (s.applied c [y]) c [y]).1 = { (s.applied c [y]).core c with pc := (s.core c).pc + y.size } := by
    have hfind : [y].find? (fun y => y.slot == .ctl) = none := by simpa using hslot
    have hlen : bundleLen [y] = y.size := by simp [bundleLen]
    simp only [State.bundleCtl, hfind, hlen]
    split
    · rfl
    · rfl
  rwa [s.bundleWrites_alone c hqueue, hctl, State.core_applied h.core_lt] at hpass

/-- The core after one syllable of a MAC slot or the AGU, alone and without a queue operation. -/
theorem State.Straight.core_alone (h : s.Straight c [y]) (hslot : y.slot ≠ .ctl) (hqueue : noQueueOp y = true) :
    ((s.issue c [y]).core c).arch =
      CoreSt.arch { applyEffs (s.core c).issuing [s.sylEff c y] with pc := (s.core c).pc + y.size } := by
  rw [(h.passed_alone hslot hqueue).core, State.core_withCore]
  rw [State.applied_eq]
  exact (List.length_modify ..).symm ▸ h.core_lt

/-- The flags after one syllable of a MAC slot or the AGU that writes FLG in no explicit way. -/
theorem State.Straight.flg_alone (h : s.Straight c [y]) (hslot : y.slot ≠ .ctl) (hqueue : noQueueOp y = true)
    (hflg : ∀ e ∈ (s.sylEff c y).regs, e.1 ≠ 0x55) :
    ((s.issue c [y]).core c).flg = (s.core c).flg.after (s.sylEff c y).fl := by
  refine (congrArg CoreSt.flg (h.core_alone hslot hqueue) :).trans ?_
  rw [show ∀ k : CoreSt, ∀ n, ({ k with pc := n } : CoreSt).arch.flg = k.flg from fun _ _ => rfl, CoreSt.applyEffs_flg]
  · rfl
  · simpa using hflg

/-- One syllable of a MAC slot or the AGU, alone: the core goes on and keeps what its effect does not name. -/
theorem State.Straight.kept_alone (h : s.Straight c [y]) (hslot : y.slot ≠ .ctl) (hqueue : noQueueOp y = true)
    {regs accs stored : List Nat} (hhold : (s.core c).Holds (applyEffs (s.core c).issuing [s.sylEff c y]) regs accs)
    (hstore : ∀ a, a ∉ stored → (s.applied c [y]).rdByte a = s.rdByte a) :
    s.Kept (s.issue c [y]) c y.size regs accs stored := by
  have hcore := h.core_alone hslot hqueue
  have hsans := CoreSt.applyEffs_sansRegs (s.core c).issuing [s.sylEff c y]
  refine ⟨(congrArg CoreSt.pc hcore :), (congrArg CoreSt.rstk hcore :).trans (congrArg CoreSt.rstk hsans :),
    (congrArg CoreSt.qs hcore :).trans (congrArg CoreSt.qs hsans :), ?_⟩
  refine (s.rest_applied c [y] hstore).same ?_ (h.passed_alone hslot hqueue) ⟨hhold.irq, hhold.rf, hhold.acc⟩
  rw [State.applied_eq]
  exact (List.length_modify ..).symm ▸ h.core_lt

end

end Sys2Proof.Machine
end


section
/-! The multiplies of the MAC slots (08 R199, R205). -/

namespace Sys2Proof.Machine

section
variable {s : State} {c : Nat} {pre post : List Syl} {hi : Bool} {k : MKind} {acd : Nat} {a b : MOp}

theorem macSlot_ne_ctl (hi : Bool) : macSlot hi ≠ .ctl := by cases hi <;> decide

/-- What a syllable of a bundle computes is among what the bundle computes. -/
theorem State.mem_bundleEffs (s : State) (c : Nat) (pre post : List Syl) (y : Syl) :
    s.sylEff c y ∈ s.bundleEffs c (pre ++ y :: post) := List.mem_map_of_mem (by simp)

theorem mopDest_pointer {y : Bool} {m : MOp} {d : Nat} (h : d ∈ mopDest y m) : 0x30 ≤ d ∧ d < 0x38 := by
  cases m with
  | reg k => cases h
  | mem ptr md =>
    rw [mopDest] at h
    split at h
    · cases h
    · obtain rfl := List.mem_singleton.mp h
      unfold ptrIx
      constructor
      · omega
      · split <;> omega

theorem State.mop_pointer {s : State} {c : Nat} {y : Bool} {m : MOp} {q : Nat × Half} (h : q ∈ (s.mop c y m).2) :
    0x30 ≤ q.1 ∧ q.1 < 0x38 :=
  mopDest_pointer (s.mop_codes c y m ▸ List.mem_map_of_mem h)

/-- A pointer is no part of an accumulator. -/
theorem pointer_not_mem_accDest {d n : Nat} (h : d < 0x48) : d ∉ accDest n := by
  simp only [accDest, List.mem_cons, List.not_mem_nil, or_false]
  omega

theorem State.effM_pointer {q : Nat × Half} (h : q ∈ (s.effM c k acd a b).regs) : 0x30 ≤ q.1 ∧ q.1 < 0x38 :=
  (List.mem_append.mp h).elim State.mop_pointer State.mop_pointer

/-- One multiply in a bundle, alone or not: the exact value in the accumulator and the pointers, by the model's `mulResult`. -/
theorem State.Straight.multiply (h : s.Straight c (pre ++ ⟨macSlot hi, .m k acd a b⟩ :: post)) :
    let r := mulResult k (accOf (s.core c) acd) (s.mop c false a).1 (s.mop c true b).1
    let ptrs := (s.mop c false a).2 ++ (s.mop c true b).2
    let t := s.issue c (pre ++ ⟨macSlot hi, .m k acd a b⟩ :: post)
    accOf (t.core c) acd = r.1 ∧ (∀ q ∈ ptrs, s.regAfter t c q.1 = q.2) ∧
      (pre = [] → post = [] →
        (t.core c).flg = { (s.core c).flg with z := r.1 == 0, n := r.1.msb, v := r.2, av := (s.core c).flg.av || r.2 } ∧
        s.Kept t c 1 (ptrs.map fun q => q.1) [acd] []) := by
  intro r ptrs t
  have hmem := s.mem_bundleEffs c pre post ⟨macSlot hi, .m k acd a b⟩
  have hacd : acd < 4 := by
    have hwf := h.wf (y := ⟨macSlot hi, .m k acd a b⟩) (by simp)
    simp only [Syl.wf, opFits, Bool.and_eq_true, decide_eq_true_eq] at hwf
    exact hwf.1.1.1
  refine ⟨h.accOf_issue (by simp) hacd (List.mem_flatMap.mpr ⟨_, hmem, List.mem_singleton.mpr rfl⟩), fun q hq => ?_, ?_⟩
  · have hptr : 0x30 ≤ q.1 ∧ q.1 < 0x38 := State.effM_pointer (k := k) (acd := acd) hq
    exact h.regAfter_issue (by simp) (by omega) (List.mem_flatMap.mpr ⟨_, hmem, hq⟩)
  · rintro rfl rfl
    have hptr : ∀ q ∈ (s.sylEff c ⟨macSlot hi, .m k acd a b⟩).regs, q.1 < 0x38 := fun q hq => (State.effM_pointer hq).2
    refine ⟨h.flg_alone (macSlot_ne_ctl hi) rfl fun q hq => ?_, h.kept_alone (macSlot_ne_ctl hi) rfl ?_ fun a _ => ?_⟩
    · have := hptr q hq
      omega
    · refine h.holds_applied (fun q hq _ => List.mem_map.mpr ⟨q, hq, rfl⟩) (.inr rfl) (fun q hq => ?_) fun q hq n hn => ?_
      · obtain rfl := List.mem_singleton.mp hq
        exact List.mem_singleton.mpr rfl
      · exact absurd hn (pointer_not_mem_accDest (by have := hptr q hq; omega))
    · exact State.rdByte_applied_of_no_store rfl a

/-- The width past which a multiply overflows (08 R205): none for those that accumulate nothing. -/
def mulWidth (k : MKind) : Nat := if satK k then 32 else if mulK k then 0 else 40

theorem mulResult_eq (k : MKind) (acc : BitVec 40) (a b : Half) :
    let x := mulExact k acc.toInt a b
    mulResult k acc a b =
      (BitVec.ofInt 40 (if mulWidth k = 32 then clip 32 x else x), if mulWidth k = 0 then false else ovf (mulWidth k) x) := by
  unfold mulResult mulWidth
  split
  · rfl
  · split
    · rfl
    · rfl

/-- The multiply of kind `k`, whose exact value is `x` and whose width is `w`, as the instruction `i`. -/
theorem State.Straight.multiply_exact {i : Instr} {x : Int} {w : Nat}
    (hexec : exec i s = .next (s.issue c (pre ++ ⟨macSlot hi, .m k acd a b⟩ :: post)))
    (hx : mulExact k (accOf (s.core c) acd).toInt (s.mop c false a).1 (s.mop c true b).1 = x) (hw : mulWidth k = w)
    (h : s.Straight c (pre ++ ⟨macSlot hi, .m k acd a b⟩ :: post)) :
    let ptrs := (s.mop c false a).2 ++ (s.mop c true b).2
    let r := BitVec.ofInt 40 (if w = 32 then clip 32 x else x)
    let v := if w = 0 then false else ovf w x
    ∃ t, exec i s = .next t ∧ accOf (t.core c) acd = r ∧ (∀ q ∈ ptrs, s.regAfter t c q.1 = q.2) ∧
      (pre = [] → post = [] →
        (t.core c).flg = { (s.core c).flg with z := r == 0, n := r.msb, v := v, av := (s.core c).flg.av || v } ∧
        s.Kept t c 1 (ptrs.map fun q => q.1) [acd] []) := by
  subst hx hw
  have hdone := h.multiply
  rw [mulResult_eq] at hdone
  exact ⟨_, hexec, hdone⟩

end

/-- Settles O28: `mulExact` is R205's exact value, `mulWidth` the width it may overflow. -/
theorem multiplyInstructions : Obligations.MultiplyInstructions := by
  intro s c pre hi acd a b post x y z ptrs mk
  iterate 12 refine List.forall_mem_cons.mpr ⟨State.Straight.multiply_exact rfl rfl rfl, ?_⟩
  exact List.forall_mem_nil _

end Sys2Proof.Machine
end

section
/-! A syllable alone in its bundle (07 R162; 09 R221, R228): one register written, and the syllables of the CTL slot. -/

namespace Sys2Proof.Machine

/-! ### The effect of one explicit write -/

namespace CoreSt

theorem flg_after_none (p : Flg) : p.after FlagEff.none = p := by simp [Flg.after, FlagEff.none]

theorem accsSet_of_plain_effect (k : CoreSt) {e : Eff} (haccs : e.accs = []) (hfl : e.fl = FlagEff.none) :
    k.accsSet [e] = k := by
  simp only [accsSet, List.flatMap_singleton, haccs, List.foldl_nil, List.map_singleton, List.foldl_cons, hfl, flg_after_none,
    ite_self]

theorem detected_of_no_det (k : CoreSt) {es : List Eff} (hdet : es.flatMap Eff.det = []) : k.detected es = k := by
  have hset : k.rf.set 0x56 (k.rf.getD 0x56 0) = k.rf := by
    by_cases h : 0x56 < k.rf.length
    · rw [List.getD_eq_getElem _ _ h, List.set_getElem_self]
    · rw [List.set_eq_of_length_le (not_lt.mp h)]
  rw [detected, hdet, List.foldl_nil, BitVec.ofNat_toNat, BitVec.setWidth_eq, hset]

/-- An effect on registers alone, without a detection, is its writes. -/
theorem applyEffs_of_regs (k : CoreSt) {e : Eff} (haccs : e.accs = []) (hfl : e.fl = FlagEff.none) (hdet : e.det = []) :
    applyEffs k [e] = wrAll k e.regs k := by
  rw [applyEffs_eq, accsSet_of_plain_effect k haccs hfl, detected_of_no_det _ (by simpa using hdet), List.flatMap_singleton]

theorem rf_wr_same {k base : CoreSt} {d : Nat} (hd : plainCode d = true) (hlt : d < 0x6C) (hlen : k.rf.length = 0x6C)
    (v : Half) : (k.wr base d v).rf.getD (physCode base d) 0 = keptBits d v := by
  rw [wr_of_plain hd, List.getD_eq_getElem?_getD, List.getElem?_set_self (by rw [hlen]; exact physCode_lt hlt (by decide))]
  rfl

end CoreSt

/-! ### An AGU or MAC syllable that writes registers alone -/

section
variable {s : State} {c : Nat} {y : Syl}

theorem State.Straight.core_written (h : s.Straight c [y]) (hslot : y.slot ≠ .ctl) (hqueue : noQueueOp y = true)
    (haccs : (s.sylEff c y).accs = []) (hfl : (s.sylEff c y).fl = FlagEff.none) (hdet : (s.sylEff c y).det = []) :
    ((s.issue c [y]).core c).arch = CoreSt.arch
      { CoreSt.wrAll (s.core c).issuing (s.sylEff c y).regs (s.core c).issuing with pc := (s.core c).pc + y.size } := by
  rw [h.core_alone hslot hqueue, CoreSt.applyEffs_of_regs _ haccs hfl hdet]

/-! ### A CTL syllable -/

theorem State.length_applied (s : State) (c : Nat) (b : List Syl) : (s.applied c b).cores.length = s.cores.length := by
  rw [State.applied_eq]
  exact List.length_modify ..

/-- A CTL syllable alone: its registers, then its control part. -/
theorem State.Straight.passed_ctl (h : s.Straight c [y]) (hslot : y.slot = .ctl) (hqueue : noQueueOp y = true)
    (hflg : namesFlg [y] = false) :
    State.Passed c ((s.applied c [y]).withCore c (s.ctlOp (s.applied c [y]) c ((s.core c).pc + y.size) y).1) (s.issue c [y]) := by
  have hpass := State.passed_issue h (by simp)
  have hctl : (s.bundleCtl (s.applied c [y]) c [y]).1 = (s.ctlOp (s.applied c [y]) c ((s.core c).pc + y.size) y).1 := by
    have hfind : [y].find? (fun y => y.slot == .ctl) = some y := by simp [hslot]
    have hlen : bundleLen [y] = y.size := by simp [bundleLen]
    simp only [State.bundleCtl, hfind, hlen, hflg]
    rfl
  rwa [s.bundleWrites_alone c hqueue, hctl] at hpass

theorem State.Straight.core_ctl (h : s.Straight c [y]) (hslot : y.slot = .ctl) (hqueue : noQueueOp y = true)
    (hflg : namesFlg [y] = false) :
    ((s.issue c [y]).core c).arch = (s.ctlOp (s.applied c [y]) c ((s.core c).pc + y.size) y).1.arch := by
  rw [(h.passed_ctl hslot hqueue hflg).core, State.core_withCore (s.length_applied c [y] ▸ h.core_lt)]

/-- What a CTL syllable alone leaves, by what its control part leaves of the core. -/
theorem State.Straight.same_ctl (h : s.Straight c [y]) (hslot : y.slot = .ctl) (hqueue : noQueueOp y = true)
    (hflg : namesFlg [y] = false) {regs accs : List Nat} (hmem : (s.sylEff c y).mem = none)
    (hhold : (s.core c).Holds (s.ctlOp (s.applied c [y]) c ((s.core c).pc + y.size) y).1 regs accs) :
    s.Same (s.issue c [y]) c regs accs [] := by
  have hstore : (s.bundleEffs c [y]).filterMap Eff.mem = [] := by simp [State.bundleEffs, hmem]
  exact (s.rest_applied c [y] fun a _ => State.rdByte_applied_of_no_store hstore a).same (s.length_applied c [y] ▸ h.core_lt)
    (h.passed_ctl hslot hqueue hflg) hhold

/-- A syllable without an effect leaves its core as it stood. -/
theorem State.applied_of_no_effect (h : s.sylEff c y = Eff.zero) : s.applied c [y] = s.updCore c CoreSt.issuing := by
  have heffs : s.bundleEffs c [y] = [Eff.zero] := by rw [State.bundleEffs, List.map_singleton, h]
  have hcore : (fun k : CoreSt => applyEffs k.issuing [Eff.zero]) = CoreSt.issuing := by
    funext k
    exact CoreSt.applyEffs_of_regs _ rfl rfl rfl
  rw [State.applied, heffs, hcore]
  rfl

/-- A CTL syllable alone that writes no register before its control part leaves the core `k`. -/
theorem State.Straight.ctl_alone (h : s.Straight c [y]) (hslot : y.slot = .ctl) (hqueue : noQueueOp y = true)
    (hflg : namesFlg [y] = false) (heff : s.sylEff c y = Eff.zero) {k : CoreSt} {regs accs : List Nat}
    (hk : (s.ctlOp (s.updCore c CoreSt.issuing) c ((s.core c).pc + y.size) y).1 = k) :
    ((s.issue c [y]).core c).arch = k.arch ∧ ((s.core c).Holds k regs accs → s.Same (s.issue c [y]) c regs accs []) := by
  rw [← State.applied_of_no_effect heff] at hk
  subst hk
  exact ⟨h.core_ctl hslot hqueue hflg, h.same_ctl hslot hqueue hflg (by rw [heff]; rfl)⟩

/-- A register reads the same while its bundle issues (07 R162). -/
theorem State.rg_updCore_issuing (hc : c < s.cores.length) (r : Nat) : (s.updCore c CoreSt.issuing).rg c r = s.rg c r := by
  have hpend : (s.updCore c CoreSt.issuing).ipend c = s.ipend c := by
    rw [State.ipend, State.core_updCore_same hc]
    rfl
  simp only [State.rg, State.core_updCore_same hc, hpend]
  rfl

end

end Sys2Proof.Machine
end

section
/-! Moves to every kind of register code (07 R164, R175; 08 R198, R202, R212; 09 R222). -/

namespace Sys2Proof.Machine

/-- What a move of `v` to code `d` leaves, by the kind of the code. -/
structure State.Moved (s t : State) (c d : Nat) (v : Half) : Prop where
  readOnly : codeRO d = true → s.Kept t c 1 [] [] [] ∧ (t.core c).flg = (s.core c).flg
  plain : plainCode d = true → s.regAfter t c d = keptBits d v ∧ s.Kept t c 1 [d] [] [] ∧ (t.core c).flg = (s.core c).flg
  flags : d = 0x55 → s.Kept t c 1 [] [] [] ∧ (t.core c).flg =
    ⟨v.getLsbD 0, v.getLsbD 1, v.getLsbD 2, v.getLsbD 3, v.getLsbD 4, (s.core c).flg.qe &&& v.extractLsb' 12 4⟩
  low : ∀ n, n < 4 → d = 0x58 + n →
    accOf (t.core c) n = (accOf (s.core c) n).extractLsb' 16 24 ++ v ∧ s.Kept t c 1 [] [n] []
  high : ∀ n, n < 4 → d = 0x5C + n →
    accOf (t.core c) n = (accOf (s.core c) n).extractLsb' 32 8 ++ v ++ (accOf (s.core c) n).extractLsb' 0 16 ∧
      s.Kept t c 1 [] [n] []
  guard : ∀ n, n < 4 → d = 0x60 + n →
    accOf (t.core c) n = v.extractLsb' 0 8 ++ (accOf (s.core c) n).extractLsb' 0 32 ∧ s.Kept t c 1 [] [n] []

section
variable {s : State} {c d : Nat} {y : Syl} {v : Half} {det : List Nat}

/-- The destination of a legal move is a code of R164. -/
theorem State.Straight.named_lt {b : List Syl} (h : s.Straight c b) (hy : y ∈ b) (hd : d ∈ namedDests y) : d < 0x6C := by
  obtain ⟨-, hok, -⟩ := h.legal
  have hsyl := List.all_eq_true.mp hok y hy
  rw [sylOk, Bool.and_eq_true, List.all_eq_true] at hsyl
  have hcode := hsyl.1 d (List.mem_append_right _ hd)
  simp only [codeOk, Bool.and_eq_true, decide_eq_true_eq] at hcode
  exact hcode.1.1.1

theorem CoreSt.accOf_modify_same {k : CoreSt} {n : Nat} (hn : n < k.acc.length) (f : BitVec 40 → BitVec 40) :
    accOf { k with acc := k.acc.modify n f } n = f (accOf k n) := by
  simp [accOf, List.getD_eq_getElem?_getD, hn]

/-! A write of one code, by the kind of the code. -/

theorem CoreSt.wr_low (k base : CoreSt) {n : Nat} (hn : n < 4) (v : Half) :
    k.wr base (0x58 + n) v = { k with acc := k.acc.modify n fun a => a.extractLsb' 16 24 ++ v } := by
  unfold CoreSt.wr
  rw [if_neg (by simp only [codeRO, Bool.or_eq_true, beq_iff_eq]; omega), if_neg (by omega), if_pos (by omega),
    Nat.add_sub_cancel_left]

theorem CoreSt.wr_high (k base : CoreSt) {n : Nat} (hn : n < 4) (v : Half) :
    k.wr base (0x5C + n) v =
      { k with acc := k.acc.modify n fun a => a.extractLsb' 32 8 ++ v ++ a.extractLsb' 0 16 } := by
  unfold CoreSt.wr
  rw [if_neg (by simp only [codeRO, Bool.or_eq_true, beq_iff_eq]; omega), if_neg (by omega), if_neg (by omega),
    if_pos (by omega), Nat.add_sub_cancel_left]

theorem CoreSt.wr_guard (k base : CoreSt) {n : Nat} (hn : n < 4) (v : Half) :
    k.wr base (0x60 + n) v = { k with acc := k.acc.modify n fun a => v.extractLsb' 0 8 ++ a.extractLsb' 0 32 } := by
  unfold CoreSt.wr
  rw [if_neg (by simp only [codeRO, Bool.or_eq_true, beq_iff_eq]; omega), if_neg (by omega), if_neg (by omega),
    if_neg (by omega), if_pos (by omega), Nat.add_sub_cancel_left]

theorem CoreSt.wr_readOnly (k base : CoreSt) (hd : codeRO d = true) (v : Half) : k.wr base d v = k := if_pos hd

/-! What a core holds after one. -/

theorem CoreSt.holds_plain (k : CoreSt) (hd : plainCode d = true) (v : Half) :
    k.Holds (k.issuing.wr k.issuing d v) [d] [] := by
  rw [CoreSt.wr_of_plain hd]
  refine ⟨rfl, fun i hi => ?_, fun _ _ => rfl⟩
  have hne : physCode k.issuing d ≠ i := fun he => hi (List.mem_singleton.mpr he.symm)
  simp only [List.getD_eq_getElem?_getD, List.getElem?_set_ne hne]
  rfl

theorem CoreSt.holds_part (k : CoreSt) {n : Nat} {k' : CoreSt} {f : BitVec 40 → BitVec 40}
    (hk : k' = { k.issuing with acc := k.acc.modify n f }) : k.Holds k' [] [n] := by
  subst hk
  exact ⟨rfl, fun _ _ => rfl, fun m hm => k.accOf_modify (Ne.symm (by simpa using hm)) f⟩

/-! ### One syllable that writes one code -/

/-- `y` moves `v` to `d`, one syllable long. -/
structure State.Moves (s : State) (c : Nat) (y : Syl) (d : Nat) (v : Half) : Prop where
  slot : y.slot ≠ .ctl
  queue : noQueueOp y = true
  size : y.size = 1
  eff : s.sylEff c y = { Eff.zero with regs := [(d, v)] }

theorem State.Moves.core (hy : s.Moves c y d v) (h : s.Straight c [y]) :
    ((s.issue c [y]).core c).arch =
      CoreSt.arch { (s.core c).issuing.wr (s.core c).issuing d v with pc := (s.core c).pc + y.size } := by
  rw [h.core_written hy.slot hy.queue (by rw [hy.eff]; rfl) (by rw [hy.eff]; rfl) (by rw [hy.eff]; rfl), hy.eff]
  rfl

theorem State.Moves.kept (hy : s.Moves c y d v) (h : s.Straight c [y]) {regs accs : List Nat}
    (hhold : (s.core c).Holds ((s.core c).issuing.wr (s.core c).issuing d v) regs accs) :
    s.Kept (s.issue c [y]) c 1 regs accs [] := by
  rw [← hy.size]
  have hstore : (s.bundleEffs c [y]).filterMap Eff.mem = [] := by simp [State.bundleEffs, hy.eff, Eff.zero]
  refine h.kept_alone hy.slot hy.queue ?_ fun a _ => State.rdByte_applied_of_no_store hstore a
  rw [CoreSt.applyEffs_of_regs _ (by rw [hy.eff]; rfl) (by rw [hy.eff]; rfl) (by rw [hy.eff]; rfl), hy.eff]
  exact hhold

theorem State.Moves.flg (hy : s.Moves c y d v) (h : s.Straight c [y]) (hd : d ≠ 0x55) :
    ((s.issue c [y]).core c).flg = (s.core c).flg :=
  (congrArg CoreSt.flg (hy.core h) :).trans (CoreSt.wr_flg hd _ _ v)

/-- A move to a part of accumulator `n`. -/
theorem State.Moves.part (hy : s.Moves c y d v) (h : s.Straight c [y]) {n : Nat} (hn : n < 4) {f : BitVec 40 → BitVec 40}
    (hwr : (s.core c).issuing.wr (s.core c).issuing d v = { (s.core c).issuing with acc := (s.core c).acc.modify n f }) :
    accOf ((s.issue c [y]).core c) n = f (accOf (s.core c) n) ∧ s.Kept (s.issue c [y]) c 1 [] [n] [] := by
  obtain ⟨-, hacc, -⟩ := h.sized
  refine ⟨?_, hy.kept h (CoreSt.holds_part _ hwr)⟩
  refine (congrArg (fun k : CoreSt => accOf k n) (hy.core h) :).trans ?_
  rw [hwr]
  exact CoreSt.accOf_modify_same (k := (s.core c).issuing) (hn.trans_eq hacc.symm) f

theorem State.Moves.moved (hy : s.Moves c y d v) (h : s.Straight c [y]) (hd : d < 0x6C) : s.Moved (s.issue c [y]) c d v := by
  obtain ⟨hlen, -⟩ := h.sized
  refine ⟨fun hro => ⟨hy.kept h ?_, hy.flg h ?_⟩, fun hplain => ⟨?_, hy.kept h (CoreSt.holds_plain _ hplain v), hy.flg h ?_⟩,
    ?_, ?_, ?_, ?_⟩
  · rw [CoreSt.wr_readOnly _ _ hro]
    exact ⟨rfl, fun _ _ => rfl, fun _ _ => rfl⟩
  · rintro rfl
    cases hro
  · exact (congrArg (fun k : CoreSt => k.rf.getD (physCode (s.core c) d) 0) (hy.core h) :).trans
      (CoreSt.rf_wr_same (k := (s.core c).issuing) (base := (s.core c).issuing) hplain hd hlen v)
  · exact (plainCode_iff.mp hplain).2.1
  · rintro rfl
    exact ⟨hy.kept h ⟨rfl, fun _ _ => rfl, fun _ _ => rfl⟩, (congrArg CoreSt.flg (hy.core h) :)⟩
  · rintro n hn rfl
    exact hy.part h hn (CoreSt.wr_low _ _ hn v)
  · rintro n hn rfl
    exact hy.part h hn (CoreSt.wr_high _ _ hn v)
  · rintro n hn rfl
    exact hy.part h hn (CoreSt.wr_guard _ _ hn v)

/-- A move that detects lowers BX to the source's redundant sign bits. -/
theorem State.Straight.moved_det (h : s.Straight c [y]) (hslot : y.slot ≠ .ctl) (hqueue : noQueueOp y = true)
    (hsize : y.size = 1) (hd : d < 0x48) (heff : s.sylEff c y = { Eff.zero with regs := [(d, v)], det := [rsb16 v] }) :
    s.regAfter (s.issue c [y]) c d = v ∧
      ((s.issue c [y]).core c).rf.getD 0x56 0 = BitVec.ofNat 16 (min ((s.core c).rf.getD 0x56 0).toNat (rsb16 v)) ∧
      s.Kept (s.issue c [y]) c 1 [d, 0x56] [] [] := by
  obtain ⟨hlen, -⟩ := h.sized
  have heffs : s.bundleEffs c [y] = [{ Eff.zero with regs := [(d, v)], det := [rsb16 v] }] := by
    rw [State.bundleEffs, List.map_singleton, heff]
  refine ⟨h.regAfter_issue (by simp) hd (by simp [heffs]), ?_, ?_⟩
  · refine (congrArg (fun k : CoreSt => k.rf.getD 0x56 0) (h.core_alone hslot hqueue) :).trans ?_
    refine (CoreSt.applyEffs_bx (s.core c).issuing hlen).trans ?_
    rw [CoreSt.wrAll_rf_other, CoreSt.accsSet_rf, heff]
    · rfl
    · rw [heff]
      exact List.forall_mem_singleton.mpr fun _ => physCode_ne (by decide) (by omega)
  · rw [← hsize]
    refine h.kept_alone hslot hqueue (h.holds_applied ?_ (.inl (by simp)) ?_ ?_) fun a _ => ?_
    · rw [heff]
      exact List.forall_mem_singleton.mpr fun _ => List.mem_cons_self
    · rw [heff]
      exact List.forall_mem_nil _
    · rw [heff]
      exact List.forall_mem_singleton.mpr fun n hn => absurd hn (pointer_not_mem_accDest hd)
    · exact State.rdByte_applied_of_no_store (by simp [heffs, Eff.zero]) a

/-- A move as instruction `i`, with or without a detection. -/
theorem State.Straight.move_instr {i : Instr} {detect : Bool} (hexec : exec i s = .next (s.issue c [y])) (hslot : y.slot ≠ .ctl)
    (hqueue : noQueueOp y = true) (hsize : y.size = 1)
    (heff : s.sylEff c y = { Eff.zero with regs := [(d, v)], det := if detect then [rsb16 v] else [] }) (hd : d ∈ namedDests y)
    (h : s.Straight c [y]) :
    ∃ t, exec i s = .next t ∧ (detect = false → s.Moved t c d v) ∧
      (detect = true → d < 0x48 → s.regAfter t c d = v ∧
        (t.core c).rf.getD 0x56 0 = BitVec.ofNat 16 (min ((s.core c).rf.getD 0x56 0).toNat (rsb16 v)) ∧
        s.Kept t c 1 [d, 0x56] [] []) := by
  refine ⟨_, hexec, ?_, ?_⟩
  · rintro rfl
    exact State.Moves.moved ⟨hslot, hqueue, hsize, heff⟩ h (h.named_lt List.mem_cons_self hd)
  · rintro rfl hlt
    exact h.moved_det hslot hqueue hsize hlt heff

/-- A NOP of a MAC slot or the AGU. -/
theorem State.Straight.nop (h : s.Straight c [y]) (hslot : y.slot ≠ .ctl) (hqueue : noQueueOp y = true) (hsize : y.size = 1)
    (heff : s.sylEff c y = Eff.zero) :
    s.Kept (s.issue c [y]) c 1 [] [] [] ∧ ((s.issue c [y]).core c).flg = (s.core c).flg := by
  have happlied : applyEffs (s.core c).issuing [s.sylEff c y] = (s.core c).issuing := by
    rw [heff]
    exact CoreSt.applyEffs_of_regs _ rfl rfl rfl
  refine ⟨hsize ▸ h.kept_alone hslot hqueue ?_ fun a _ => ?_, ?_⟩
  · rw [happlied]
    exact ⟨rfl, fun _ _ => rfl, fun _ _ => rfl⟩
  · exact State.rdByte_applied_of_no_store (by simp [State.bundleEffs, heff, Eff.zero]) a
  · refine (congrArg CoreSt.flg (h.core_alone hslot hqueue) :).trans ?_
    rw [happlied]
    rfl

end

/-- What a move leaves, as the destinations stand in R164. -/
theorem State.Moved.byCode {s t : State} {c d : Nat} {v : Half} (h : s.Moved t c d v) :
    (d = 0x67 ∨ d = 0x6B → s.Kept t c 1 [] [] [] ∧ (t.core c).flg = (s.core c).flg) ∧
    (d < 0x55 ∨ d = 0x64 ∨ d = 0x65 ∨ 0x68 ≤ d ∧ d < 0x6B → s.regAfter t c d = v ∧ s.Kept t c 1 [d] [] [] ∧
      (t.core c).flg = (s.core c).flg) ∧
    (d = 0x55 → s.Kept t c 1 [] [] [] ∧ (t.core c).flg =
      ⟨v.getLsbD 0, v.getLsbD 1, v.getLsbD 2, v.getLsbD 3, v.getLsbD 4, (s.core c).flg.qe &&& v.extractLsb' 12 4⟩) ∧
    (d = 0x56 → (t.core c).rf.getD 0x56 0 = v &&& 0xF ∧ s.Kept t c 1 [0x56] [] []) ∧
    (d = 0x57 → (t.core c).rf.getD 0x57 0 = v &&& 0x1F ∧ s.Kept t c 1 [0x57] [] []) ∧
    (d = 0x66 → (t.core c).rf.getD 0x66 0 = v &&& 3 ∧ s.Kept t c 1 [0x66] [] []) ∧
    (∀ n, n < 4 → d = 0x58 + n →
      accOf (t.core c) n = (accOf (s.core c) n).extractLsb' 16 24 ++ v ∧ s.Kept t c 1 [] [n] []) ∧
    (∀ n, n < 4 → d = 0x5C + n →
      accOf (t.core c) n = (accOf (s.core c) n).extractLsb' 32 8 ++ v ++ (accOf (s.core c) n).extractLsb' 0 16 ∧
        s.Kept t c 1 [] [n] []) ∧
    (∀ n, n < 4 → d = 0x60 + n →
      accOf (t.core c) n = v.extractLsb' 0 8 ++ (accOf (s.core c) n).extractLsb' 0 32 ∧ s.Kept t c 1 [] [n] []) := by
  have hkept : ∀ d', d = d' → plainCode d' = true → (0x30 ≤ d') →
      (t.core c).rf.getD d' 0 = keptBits d' v ∧ s.Kept t c 1 [d'] [] [] := by
    rintro _ rfl hplain hcode
    obtain ⟨hreg, hsame, -⟩ := h.plain hplain
    rw [State.regAfter, physCode_of_plain _ (.inr hcode)] at hreg
    exact ⟨hreg, hsame⟩
  refine ⟨fun hd => h.readOnly (by rcases hd with rfl | rfl <;> rfl), fun hd => ?_, h.flags, fun hd => hkept _ hd rfl (by decide),
    fun hd => hkept _ hd rfl (by decide), fun hd => hkept _ hd rfl (by decide), h.low, h.high, h.guard⟩
  have hplain : plainCode d = true := by
    refine plainCode_iff.mpr ⟨?_, by omega, by omega⟩
    simp only [codeRO, Bool.or_eq_false_iff, beq_eq_false_iff_ne]
    omega
  have hbits : keptBits d v = v := by
    unfold keptBits
    rw [if_neg (by omega), if_neg (by omega), if_neg (by omega)]
  exact hbits ▸ h.plain hplain

/-- The four moves: each with its syllable, its source's word and whether it detects. -/
def moveInstrs (s : State) (c : Fin 5) (hi : Bool) (d a b : Nat) (det : Bool) (imm : Half) : List (Instr × Syl × Half × Bool) :=
  [(Instr.iMov c [] hi d a b det [], ⟨macSlot hi, .r .mov d a b det⟩, s.rg c a, det),
    (Instr.iMovi c [] hi d imm [], ⟨macSlot hi, .movi d imm⟩, imm, false),
    (Instr.iAguAmov c [] d a [], ⟨.agu, .r .mov d a 0 false⟩, s.rg c a, false),
    (Instr.iAmovi c [] d imm [], ⟨.agu, .movi d imm⟩, imm, false)]

theorem exec_moveInstrs (s : State) (c : Fin 5) (hi : Bool) (d a b : Nat) (det : Bool) (imm : Half) :
    ∀ e ∈ moveInstrs s c hi d a b det imm, s.Straight c [e.2.1] →
      ∃ t, exec e.1 s = .next t ∧ (e.2.2.2 = false → s.Moved t c d e.2.2.1) ∧
        (e.2.2.2 = true → d < 0x48 → s.regAfter t c d = e.2.2.1 ∧
          (t.core c).rf.getD 0x56 0 = BitVec.ofNat 16 (min ((s.core c).rf.getD 0x56 0).toNat (rsb16 e.2.2.1)) ∧
          s.Kept t c 1 [d, 0x56] [] []) := by
  have hmac := macSlot_ne_ctl hi
  have hagu : Slot.agu ≠ .ctl := by decide
  refine List.forall_mem_cons.mpr ⟨State.Straight.move_instr rfl hmac rfl rfl rfl List.mem_cons_self, ?_⟩
  refine List.forall_mem_cons.mpr ⟨State.Straight.move_instr rfl hmac rfl rfl rfl List.mem_cons_self, ?_⟩
  refine List.forall_mem_cons.mpr ⟨State.Straight.move_instr rfl hagu rfl rfl rfl List.mem_cons_self, ?_⟩
  exact List.forall_mem_singleton.mpr (State.Straight.move_instr rfl hagu rfl rfl rfl List.mem_cons_self)

/-- CTL_NOP. -/
theorem State.Straight.ctl_nop {s : State} {c : Nat} (h : s.Straight c [⟨.ctl, .nop⟩]) :
    s.Kept (s.issue c [⟨.ctl, .nop⟩]) c 1 [] [] [] ∧ ((s.issue c [⟨.ctl, .nop⟩]).core c).flg = (s.core c).flg := by
  obtain ⟨hcore, hsame⟩ := h.ctl_alone rfl rfl rfl rfl (k := { (s.core c).issuing with pc := (s.core c).pc + 1 })
    (by simp only [State.ctlOp, State.core_updCore_same h.core_lt]; rfl)
  exact ⟨⟨(congrArg CoreSt.pc hcore :), (congrArg CoreSt.rstk hcore :), (congrArg CoreSt.qs hcore :),
    hsame ⟨rfl, fun _ _ => rfl, fun _ _ => rfl⟩⟩, (congrArg CoreSt.flg hcore :)⟩

/-- Settles O31: a move is one explicit write, and `State.Moved` says what such a write leaves, by the kind of its code. -/
theorem movesReachEveryRegisterCode : Obligations.MovesReachEveryRegisterCode := by
  refine ⟨fun s c hi d a b det imm e he h _ => ?_, fun s c hi => ?_⟩
  · obtain ⟨t, hnext, hmoved, hdet⟩ := exec_moveInstrs s c hi d a b det imm e he h
    exact ⟨t, hnext, fun hno => (hmoved hno).byCode, hdet⟩
  · refine List.forall_mem_cons.mpr ⟨fun h => ⟨_, rfl, h.nop (macSlot_ne_ctl hi) rfl rfl rfl⟩, ?_⟩
    refine List.forall_mem_cons.mpr ⟨fun h => ⟨_, rfl, h.nop (by simp) rfl rfl rfl⟩, ?_⟩
    exact List.forall_mem_singleton.mpr fun h => ⟨_, rfl, h.ctl_nop⟩

end Sys2Proof.Machine
end

section
/-! Skips, branches, calls and returns (07 R170, R171, R190; 09 R229 to R231). -/

namespace Sys2Proof.Machine

section
variable {s : State} {c : Nat}

/-- A core that keeps its registers, accumulators and lines. -/
theorem CoreSt.holds_of_eq {k0 k : CoreSt} (hirq : k.irq = k0.irq) (hrf : k.rf = k0.rf) (hacc : k.acc = k0.acc) :
    k0.Holds k [] [] :=
  ⟨hirq, fun i _ => by rw [hrf], fun n _ => by rw [accOf, hacc, accOf]⟩

/-! ### Skips -/

theorem State.Straight.skf {cond q : Nat} (h : s.Straight c [⟨.ctl, .skf cond q⟩]) :
    let t := s.issue c [⟨.ctl, .skf cond q⟩]
    (t.core c).pair = true ∧ (t.core c).squash = skfHolds (s.core c).flg (s.core c).qa cond q ∧
      (t.core c).flg = (s.core c).flg ∧ s.Kept t c 1 [] [] [] := by
  obtain ⟨hcore, hsame⟩ := h.ctl_alone rfl rfl rfl rfl
    (k := { (s.core c).issuing with
      pc := (s.core c).pc + 1, pair := true, squash := skfHolds (s.core c).flg (s.core c).qa cond q })
    (by simp only [State.ctlOp, State.core_updCore_same h.core_lt]; rfl)
  exact ⟨(congrArg CoreSt.pair hcore :), (congrArg CoreSt.squash hcore :), (congrArg CoreSt.flg hcore :),
    (congrArg CoreSt.pc hcore :), (congrArg CoreSt.rstk hcore :), (congrArg CoreSt.qs hcore :),
    hsame (CoreSt.holds_of_eq rfl rfl rfl)⟩

/-- The register of SKR reads as it stood before the bundle. -/
theorem State.skrValue (hc : c < s.cores.length) (r : Nat) :
    (if 0x10 ≤ r ∧ r < 0x30 then (s.core c).issuing.rf.getD (physCode (s.core c) r) 0
      else (s.updCore c CoreSt.issuing).rg c r) = s.rg c r := by
  rw [State.rg_updCore_issuing hc]
  split
  · simp only [State.rg]
    rw [if_neg (by omega), if_neg (by omega), if_neg (by omega), if_neg (by omega), if_neg (by omega)]
    rfl
  · rfl

theorem State.Straight.skr {rc r bit : Nat} (h : s.Straight c [⟨.ctl, .skr rc r bit⟩]) :
    let t := s.issue c [⟨.ctl, .skr rc r bit⟩]
    (t.core c).pair = true ∧ (t.core c).squash = skrHolds rc (s.rg c r) bit ∧
      (t.core c).flg = (s.core c).flg ∧ s.Kept t c 1 [] [] [] := by
  obtain ⟨hcore, hsame⟩ := h.ctl_alone rfl rfl rfl rfl
    (k := { (s.core c).issuing with pc := (s.core c).pc + 1, pair := true, squash := skrHolds rc (s.rg c r) bit })
    (by
      rw [← State.skrValue h.core_lt r]
      simp only [State.ctlOp, State.core_updCore_same h.core_lt]
      rfl)
  exact ⟨(congrArg CoreSt.pair hcore :), (congrArg CoreSt.squash hcore :), (congrArg CoreSt.flg hcore :),
    (congrArg CoreSt.pc hcore :), (congrArg CoreSt.rstk hcore :), (congrArg CoreSt.qs hcore :),
    hsame (CoreSt.holds_of_eq rfl rfl rfl)⟩

/-! ### Branches and calls -/

/-- A control part that sets the PC to `tgt` and pushes `pushed` on the return stack. -/
theorem State.Straight.branch {op : Op} {tgt : Nat} {pushed : List Nat} (h : s.Straight c [⟨.ctl, op⟩])
    (hqueue : noQueueOp ⟨.ctl, op⟩ = true) (hflg : namesFlg [⟨.ctl, op⟩] = false) (heff : s.sylEff c ⟨.ctl, op⟩ = Eff.zero)
    (hctl : (s.ctlOp (s.updCore c CoreSt.issuing) c ((s.core c).pc + Syl.size ⟨.ctl, op⟩) ⟨.ctl, op⟩).1 =
      { (s.updCore c CoreSt.issuing).core c with
        pc := tgt, rstk := pushed ++ ((s.updCore c CoreSt.issuing).core c).rstk }) :
    let t := s.issue c [⟨.ctl, op⟩]
    (t.core c).pc = tgt ∧ (t.core c).rstk = pushed ++ (s.core c).rstk ∧ (t.core c).qs = (s.core c).qs ∧
      (t.core c).flg = (s.core c).flg ∧ s.Same t c [] [] [] := by
  rw [State.core_updCore_same h.core_lt] at hctl
  obtain ⟨hcore, hsame⟩ := h.ctl_alone rfl hqueue hflg heff hctl
  exact ⟨(congrArg CoreSt.pc hcore :), (congrArg CoreSt.rstk hcore :), (congrArg CoreSt.qs hcore :),
    (congrArg CoreSt.flg hcore :), hsame (CoreSt.holds_of_eq rfl rfl rfl)⟩

/-! ### Returns -/

/-- A syllable alone in a bundle about to issue faults nowhere. -/
theorem State.Straight.issueFault_eq {y : Syl} (h : s.Straight c [y]) : s.issueFault c ((s.core c).pc + y.size) y = none := by
  obtain ⟨-, -, ⟨-, -, -, -, -, -, -, -, hfault⟩, -⟩ := h
  simpa [bundleLen] using hfault

/-- A RET that faults nowhere finds a return PC. -/
theorem State.Straight.rstk_ne_nil (h : s.Straight c [⟨.ctl, .ret⟩]) : (s.core c).rstk ≠ [] := by
  intro hnil
  have hfault := h.issueFault_eq
  simp [State.issueFault, hnil] at hfault

theorem State.Straight.ret (h : s.Straight c [⟨.ctl, .ret⟩]) :
    let t := s.issue c [⟨.ctl, .ret⟩]
    (t.core c).pc :: (t.core c).rstk = (s.core c).rstk ∧ (t.core c).qs = (s.core c).qs ∧ (t.core c).flg = (s.core c).flg ∧
      s.Same t c [] [] [] := by
  obtain ⟨hcore, hsame⟩ := h.ctl_alone rfl rfl rfl rfl
    (k := { (s.core c).issuing with pc := (s.core c).rstk.headD 0, rstk := (s.core c).rstk.tail })
    (by simp only [State.ctlOp, State.core_updCore_same h.core_lt]; rfl)
  refine ⟨?_, (congrArg CoreSt.qs hcore :), (congrArg CoreSt.flg hcore :), hsame (CoreSt.holds_of_eq rfl rfl rfl)⟩
  obtain ⟨pc, rstk, hstack⟩ := List.exists_cons_of_ne_nil h.rstk_ne_nil
  refine (congrArg (fun k : CoreSt => k.pc :: k.rstk) hcore :).trans ?_
  simp [CoreSt.arch, hstack]

theorem State.Straight.rti (h : s.Straight c [⟨.ctl, .rti⟩]) :
    let t := s.issue c [⟨.ctl, .rti⟩]
    ((t.core c).arch = CoreSt.arch (CoreSt.rti { (s.core c).issuing with pc := (s.core c).pc + 1 } (s.core c))) ∧
      s.Same t c [0x66] [] [] := by
  obtain ⟨hcore, hsame⟩ := h.ctl_alone rfl rfl rfl rfl
    (k := CoreSt.rti { (s.core c).issuing with pc := (s.core c).pc + 1 } (s.core c))
    (by simp only [State.ctlOp, State.core_updCore_same h.core_lt]; rfl)
  refine ⟨hcore, hsame ⟨rfl, fun i hi => ?_, fun _ _ => rfl⟩⟩
  have hne : 0x66 ≠ i := fun he => hi (by simp [physCode, ← he])
  simp [CoreSt.rti, List.getD_eq_getElem?_getD, List.getElem?_set_ne hne, CoreSt.issuing]

end

/-- A code above the V registers that is neither FLG, IPEND nor part of an accumulator reads its place. -/
theorem State.rg_of_place (s : State) (c : Nat) {d : Nat} (hplace : 0x30 ≤ d)
    (hplain : d ≠ 0x55 ∧ d ≠ 0x67 ∧ ¬(0x58 ≤ d ∧ d < 0x64)) : s.rg c d = (s.core c).rf.getD d 0 := by
  obtain ⟨h55, h67, hacc⟩ := hplain
  simp only [State.rg]
  rw [if_neg h55, if_neg h67, if_neg (by omega), if_neg (by omega), if_neg (by omega), physCode_of_plain _ (.inr hplace)]

/-- Settles O35: each control part writes the PC, the stack, the skip or the interrupt's registers, and no more. -/
theorem skipsBranchesAndReturns : Obligations.SkipsBranchesAndReturns := by
  refine ⟨fun s c cond q h => ⟨_, rfl, h.skf⟩, fun s c rc r bit h => ⟨_, rfl, h.skr⟩, fun s c tgt r hi => ?_,
    fun s c h => ⟨_, rfl, h.ret⟩, fun s c h => ?_⟩
  · refine List.forall_mem_cons.mpr ⟨fun h => ⟨_, rfl, h.branch rfl rfl rfl rfl⟩, ?_⟩
    refine List.forall_mem_cons.mpr ⟨fun h => ⟨_, rfl, h.branch rfl rfl rfl rfl⟩, ?_⟩
    refine List.forall_mem_cons.mpr ⟨fun h => ⟨_, rfl, h.branch rfl rfl rfl rfl⟩, ?_⟩
    exact List.forall_mem_singleton.mpr fun h => ⟨_, rfl, h.branch rfl rfl rfl rfl⟩
  · intro f n
    obtain ⟨hcore, hsame⟩ := h.rti
    have hf : f = (s.core c).rf.getD 0x69 0 := s.rg_of_place c (by decide) (by decide)
    have hn : n = ((s.core c).rf.getD 0x6A 0).toNat := congrArg BitVec.toNat (s.rg_of_place c (d := 0x6A) (by decide) (by decide))
    have hlen := h.sized.1
    rw [hf, hn, s.rg_of_place c (d := 0x68) (by decide) (by decide), s.rg_of_place c (d := 0x66) (by decide) (by decide)]
    refine ⟨_, rfl, (congrArg CoreSt.pc hcore :), (congrArg CoreSt.flg hcore :), (congrArg CoreSt.rep hcore :), ?_,
      (congrArg CoreSt.rstk hcore :), (congrArg CoreSt.qs hcore :), hsame⟩
    rw [State.rg_of_place _ _ (d := 0x66) (by decide) (by decide)]
    refine .trans ?_ (congrArg (fun k : CoreSt => k.rf.getD 0x66 0) hcore :).symm
    simp [CoreSt.arch, CoreSt.rti, CoreSt.issuing, List.getD_eq_getElem?_getD, hlen]

end Sys2Proof.Machine
end

section
/-! The halt of a core at a boundary (07 R191, R192). -/

namespace Sys2Proof.Machine

section
variable {s : State} {c : Nat}

theorem State.boundary_of_halted (h : (s.core c).run = false) : s.boundary c = s := by simp [State.boundary, h]

theorem State.length_waitEnd (s : State) (c : Nat) : (s.waitEnd c).cores.length = s.cores.length :=
  (State.Passed.waitEnd c s).length

/-- A core that stops runs no more, waits for nothing and asks for no halt. -/
theorem State.core_coreStop (hc : c < s.cores.length) (b : Nat) :
    (s.coreStop c b).core c = { (s.waitEnd c).core c with run := false, stepping := false, haltReq := false } :=
  State.core_updCore_same (by rwa [State.length_waitEnd]) _

/-- The end of a wait counts cycles run and cycles stalled. -/
theorem State.r_waitEnd (s : State) (c p : Nat) {o : Nat} (ho : o < 4096) (hrun : o ≠ 0x054) (hstall : o ≠ 0x058) :
    (s.waitEnd c).r p o = s.r p o := by
  unfold State.waitEnd
  split
  · rfl
  · unfold State.cycles
    rw [State.r_w_ne _ _ (by unfold rkey; omega), State.r_w_ne _ _ (by unfold rkey; omega)]
    rfl

theorem State.r_coreStop (s : State) (c p b : Nat) {o : Nat} (ho : o < 4096) (hrun : o ≠ 0x054) (hstall : o ≠ 0x058)
    (hev : o ≠ 0x014) : (s.coreStop c b).r p o = s.r p o := by
  rw [State.coreStop, State.r_ev_ne _ _ (by unfold rkey; omega)]
  exact s.r_waitEnd c p ho hrun hstall

theorem State.f_coreStop (s : State) (c b : Nat) (hb : b < 32) : (s.coreStop c b).f (pgCORE c) 0x014 b b = 1 :=
  State.f_ev_same _ _ hb

end

end Sys2Proof.Machine
end

section
/-! Loops, repeats and control (07 R171 to R174, R192; 09 R232 to R238). -/

namespace Sys2Proof.Machine

section
variable {s : State} {c : Nat} {y : Syl}

/-! ### A CTL syllable that writes registers before its control part -/

/-- A control part that goes on to the next bundle, and may start a repeat: what the syllable's effect leaves. -/
theorem State.Straight.kept_ctl (h : s.Straight c [y]) (hslot : y.slot = .ctl) (hqueue : noQueueOp y = true)
    (hflg : namesFlg [y] = false) (hmem : (s.sylEff c y).mem = none) {rep : CoreSt → Option Rep} {regs accs : List Nat}
    (hctl : (s.ctlOp (s.applied c [y]) c ((s.core c).pc + y.size) y).1 =
      { (s.applied c [y]).core c with pc := (s.core c).pc + y.size, rep := rep ((s.applied c [y]).core c) })
    (hhold : (s.core c).Holds (applyEffs (s.core c).issuing [s.sylEff c y]) regs accs) :
    ((s.issue c [y]).core c).rep = rep (applyEffs (s.core c).issuing [s.sylEff c y]) ∧
      ((s.issue c [y]).core c).rf = (applyEffs (s.core c).issuing [s.sylEff c y]).rf ∧
      ((s.issue c [y]).core c).flg = (applyEffs (s.core c).issuing [s.sylEff c y]).flg ∧
      s.Kept (s.issue c [y]) c y.size regs accs [] := by
  have hcore := h.core_ctl hslot hqueue hflg
  have hsame := h.same_ctl hslot hqueue hflg hmem (regs := regs) (accs := accs)
  have hsans := CoreSt.applyEffs_sansRegs (s.core c).issuing [s.sylEff c y]
  rw [hctl, State.core_applied h.core_lt] at hcore hsame
  exact ⟨(congrArg CoreSt.rep hcore :), (congrArg CoreSt.rf hcore :), (congrArg CoreSt.flg hcore :),
    (congrArg CoreSt.pc hcore :), (congrArg CoreSt.rstk hcore :).trans (congrArg CoreSt.rstk hsans :),
    (congrArg CoreSt.qs hcore :).trans (congrArg CoreSt.qs hsans :), hsame ⟨hhold.irq, hhold.rf, hhold.acc⟩⟩

/-- A CTL syllable that writes `v` to the plain code `d`. -/
theorem State.Straight.ctl_register (h : s.Straight c [y]) (hslot : y.slot = .ctl) (hqueue : noQueueOp y = true)
    (hflg : namesFlg [y] = false) {d : Nat} {v : Half} {rep : CoreSt → Option Rep}
    (heff : s.sylEff c y = { Eff.zero with regs := [(d, v)] }) (hplain : plainCode d = true) (hd : 0x30 ≤ d ∧ d < 0x6C)
    (hctl : (s.ctlOp (s.applied c [y]) c ((s.core c).pc + y.size) y).1 =
      { (s.applied c [y]).core c with pc := (s.core c).pc + y.size, rep := rep ((s.applied c [y]).core c) }) :
    ((s.issue c [y]).core c).rep = rep ((s.core c).issuing.wr (s.core c).issuing d v) ∧
      (s.issue c [y]).rg c d = keptBits d v ∧ s.Kept (s.issue c [y]) c y.size [d] [] [] := by
  obtain ⟨hlen, -⟩ := h.sized
  obtain ⟨hro, h55, hacc⟩ := plainCode_iff.mp hplain
  have happ : applyEffs (s.core c).issuing [s.sylEff c y] = (s.core c).issuing.wr (s.core c).issuing d v := by
    rw [heff]
    exact CoreSt.applyEffs_of_regs _ rfl rfl rfl
  have hkept := h.kept_ctl hslot hqueue hflg (by rw [heff]; rfl) hctl (regs := [d]) (accs := [])
  rw [happ] at hkept
  obtain ⟨hrep, hrf, -, hkept⟩ := hkept (CoreSt.holds_plain _ hplain v)
  refine ⟨hrep, ?_, hkept⟩
  have hplace := CoreSt.rf_wr_same (k := (s.core c).issuing) (base := (s.core c).issuing) hplain hd.2 hlen v
  rw [physCode_of_plain _ (.inr hd.1)] at hplace
  rw [State.rg_of_place _ _ hd.1 ⟨h55, (by rintro rfl; cases hro), hacc⟩, hrf, hplace]

/-! ### DO and LBRK -/

theorem State.lenAt_updCore_issuing (hc : c < s.cores.length) (n pc : Nat) :
    (s.updCore c CoreSt.issuing).lenAt c n pc = s.lenAt c n pc := by
  induction n generalizing pc with
  | zero => rfl
  | succ n ih =>
    have hfetch : (s.updCore c CoreSt.issuing).fetched c pc = s.fetched c pc := by
      rw [State.fetched, State.core_updCore_same hc]
      rfl
    simp only [State.lenAt, hfetch, ih]

/-- A DO that counts nothing jumps over its loop. -/
theorem State.Straight.do_none {rt : Bool} {creg : Option Nat} {cimm ofs : Nat}
    (h : s.Straight c [⟨.ctl, .doLoop rt creg cimm ofs⟩]) (hn : s.countOf c creg cimm = 0) :
    let nxt := (s.core c).pc + 1
    let t := s.issue c [⟨.ctl, .doLoop rt creg cimm ofs⟩]
    (t.core c).pc = nxt + ofs + s.lenAt c 4 (nxt + ofs) ∧ (t.core c).rstk = (s.core c).rstk ∧ s.Same t c [] [] [] := by
  intro nxt t
  obtain ⟨hcore, hsame⟩ := h.ctl_alone rfl rfl rfl rfl
    (k := { (s.core c).issuing with pc := nxt + ofs + s.lenAt c 4 (nxt + ofs) })
    (by
      simp only [State.ctlOp, State.core_updCore_same h.core_lt, hn, if_true, State.lenAt_updCore_issuing h.core_lt]
      rfl)
  exact ⟨(congrArg CoreSt.pc hcore :), (congrArg CoreSt.rstk hcore :), hsame (CoreSt.holds_of_eq rfl rfl rfl)⟩

/-- A DO that faults nowhere finds a level free. -/
theorem State.Straight.do_llv {rt : Bool} {creg : Option Nat} {cimm ofs : Nat}
    (h : s.Straight c [⟨.ctl, .doLoop rt creg cimm ofs⟩]) : (s.core c).llv < 3 := by
  by_contra hllv
  have hfault := h.issueFault_eq
  simp only [State.issueFault] at hfault
  rw [if_pos (.inl (not_lt.mp hllv))] at hfault
  cases hfault

/-- The core as a DO leaves it: level `l` open from `nxt` to `last`, `n` times. -/
def CoreSt.opened (k : CoreSt) (l nxt last n : Nat) (rt : Bool) : CoreSt :=
  { (((k.put (0x48 + l) nxt).put (0x4C + l) last).put (0x50 + l) n).put 0x6B (l + 1) with rot := k.rot.set l rt }

theorem CoreSt.put_rf_same (k : CoreSt) {code : Nat} (h : code < k.rf.length) (v : Nat) :
    (k.put code v).rf.getD code 0 = BitVec.ofNat 16 v := by
  rw [CoreSt.put, List.getD_eq_getElem?_getD, List.getElem?_set_self h]
  rfl

theorem CoreSt.length_put (k : CoreSt) (code v : Nat) : (k.put code v).rf.length = k.rf.length := List.length_set ..

/-- The registers of a level once DO has opened it. -/
theorem CoreSt.opened_rf {k : CoreSt} {l : Nat} (hlen : k.rf.length = 0x6C) (hl : l < 3) (nxt last n : Nat) (rt : Bool) :
    (k.opened l nxt last n rt).rf.getD (0x48 + l) 0 = BitVec.ofNat 16 nxt ∧
      (k.opened l nxt last n rt).rf.getD (0x4C + l) 0 = BitVec.ofNat 16 last ∧
      (k.opened l nxt last n rt).rf.getD (0x50 + l) 0 = BitVec.ofNat 16 n ∧
      (k.opened l nxt last n rt).rf.getD 0x6B 0 = BitVec.ofNat 16 (l + 1) := by
  refine ⟨?_, ?_, ?_, ?_⟩
  · refine (CoreSt.put_rf_ne _ _ (by omega)).trans ((CoreSt.put_rf_ne _ _ (by omega)).trans
      ((CoreSt.put_rf_ne _ _ (by omega)).trans (CoreSt.put_rf_same _ (by omega) _)))
  · refine (CoreSt.put_rf_ne _ _ (by omega)).trans ((CoreSt.put_rf_ne _ _ (by omega)).trans
      (CoreSt.put_rf_same _ (by rw [CoreSt.length_put]; omega) _))
  · refine (CoreSt.put_rf_ne _ _ (by omega)).trans (CoreSt.put_rf_same _ (by simp only [CoreSt.length_put]; omega) _)
  · exact CoreSt.put_rf_same _ (by simp only [CoreSt.length_put]; omega) _

theorem CoreSt.opened_rf_other (k : CoreSt) {l i : Nat} (nxt last n : Nat) (rt : Bool)
    (hi : i ∉ [0x48 + l, 0x4C + l, 0x50 + l, 0x6B]) : (k.opened l nxt last n rt).rf.getD i 0 = k.rf.getD i 0 := by
  simp only [List.mem_cons, List.not_mem_nil, or_false, not_or] at hi
  exact (CoreSt.put_rf_ne _ _ (by omega)).trans ((CoreSt.put_rf_ne _ _ (by omega)).trans
    ((CoreSt.put_rf_ne _ _ (by omega)).trans (CoreSt.put_rf_ne _ _ (by omega))))

/-- A DO that counts `n` opens a level. -/
theorem State.Straight.do_some {rt : Bool} {creg : Option Nat} {cimm ofs : Nat}
    (h : s.Straight c [⟨.ctl, .doLoop rt creg cimm ofs⟩]) (hn : 0 < s.countOf c creg cimm) :
    let nxt := (s.core c).pc + 1
    let l := (s.core c).llv
    let t := s.issue c [⟨.ctl, .doLoop rt creg cimm ofs⟩]
    t.rg c (0x48 + l) = BitVec.ofNat 16 nxt ∧ t.rg c (0x4C + l) = BitVec.ofNat 16 (nxt + ofs) ∧
      t.rg c (0x50 + l) = BitVec.ofNat 16 (s.countOf c creg cimm) ∧ (t.core c).llv = l + 1 ∧ (t.core c).rot.getD l false = rt ∧
      s.Kept t c 1 [0x48 + l, 0x4C + l, 0x50 + l, 0x6B] [] [] := by
  intro nxt l t
  obtain ⟨hlen, -, -, hrot, -⟩ := h.sized
  have hl : l < 3 := h.do_llv
  obtain ⟨hcore, hsame⟩ := h.ctl_alone rfl rfl rfl rfl
    (k := { (s.core c).issuing with pc := nxt }.opened l nxt (nxt + ofs) (s.countOf c creg cimm) rt)
    (by
      simp only [State.ctlOp, State.core_updCore_same h.core_lt]
      rw [if_neg hn.ne']
      rfl)
  have hrf : ∀ i, (t.core c).rf.getD i 0 = _ := fun i => (congrArg (fun k : CoreSt => k.rf.getD i 0) hcore :)
  obtain ⟨hls, hle, hlc, hllv⟩ := CoreSt.opened_rf (k := { (s.core c).issuing with pc := nxt }) hlen hl nxt (nxt + ofs)
    (s.countOf c creg cimm) rt
  refine ⟨?_, ?_, ?_, ?_, ?_, (congrArg CoreSt.pc hcore :), (congrArg CoreSt.rstk hcore :), (congrArg CoreSt.qs hcore :),
    hsame ⟨rfl, fun i hi => ?_, fun _ _ => rfl⟩⟩
  · rw [State.rg_of_place _ _ (by omega) (by omega), hrf]
    exact hls
  · rw [State.rg_of_place _ _ (by omega) (by omega), hrf]
    exact hle
  · rw [State.rg_of_place _ _ (by omega) (by omega), hrf]
    exact hlc
  · refine (congrArg BitVec.toNat ((hrf 0x6B).trans hllv)).trans ?_
    rw [BitVec.toNat_ofNat]
    omega
  · refine (congrArg (fun k : CoreSt => k.rot.getD l false) hcore :).trans ?_
    simp [CoreSt.arch, CoreSt.opened, CoreSt.put, CoreSt.issuing, List.getD_eq_getElem?_getD, hrot, hl]
  · refine CoreSt.opened_rf_other { (s.core c).issuing with pc := nxt } _ _ _ _ fun hmem => hi ?_
    exact List.mem_map.mpr ⟨i, hmem, physCode_of_plain _ (.inr (by simp at hmem; omega))⟩

/-- Codes set to 0, one after the other. -/
theorem CoreSt.foldl_put_zero (f : Nat → Nat) (l : List Nat) (k : CoreSt) :
    l.foldl (fun k i => k.put (f i) 0) k = { k with rf := l.foldl (fun rf i => rf.set (f i) 0) k.rf } := by
  induction l generalizing k with
  | nil => rfl
  | cons i l ih => exact ih _

theorem foldl_set_zero_other {f : Nat → Nat} {l : List Nat} {j : Nat} (h : ∀ i ∈ l, f i ≠ j) (rf : List Half) :
    (l.foldl (fun rf i => rf.set (f i) 0) rf).getD j 0 = rf.getD j 0 := by
  induction l generalizing rf with
  | nil => rfl
  | cons i l ih =>
    rw [List.forall_mem_cons] at h
    exact (ih h.2 _).trans (by simp [List.getD_eq_getElem?_getD, List.getElem?_set_ne h.1])

theorem getD_set_zero (rf : List Half) (n j : Nat) (h : n = j ∨ rf.getD j 0 = 0) : (rf.set n 0).getD j 0 = 0 := by
  by_cases hn : n = j
  · subst hn
    by_cases hlen : n < rf.length
    · simp [hlen]
    · simp [not_lt.mp hlen]
  · rw [List.getD_eq_getElem?_getD, List.getElem?_set_ne hn, ← List.getD_eq_getElem?_getD]
    exact h.resolve_left hn

/-- A code among those set to 0 holds 0, and stays so. -/
theorem foldl_set_zero_same {f : Nat → Nat} {l : List Nat} {j : Nat} {rf : List Half}
    (h : (∃ i ∈ l, f i = j) ∨ rf.getD j 0 = 0) : (l.foldl (fun rf i => rf.set (f i) 0) rf).getD j 0 = 0 := by
  induction l generalizing rf with
  | nil => simpa using h
  | cons n l ih =>
    refine ih ?_
    obtain ⟨i, hi, hij⟩ | hzero := h
    · obtain rfl | hi := List.mem_cons.mp hi
      · exact .inr (getD_set_zero rf _ _ (.inl hij))
      · exact .inl ⟨i, hi, hij⟩
    · exact .inr (getD_set_zero rf _ _ (.inr hzero))

/-- LBRK closes levels that are open. -/
theorem State.Straight.lbrk_llv {lv : Nat} (h : s.Straight c [⟨.ctl, .lbrk lv⟩]) : lv ≤ (s.core c).llv := by
  by_contra hllv
  have hfault := h.issueFault_eq
  simp only [State.issueFault] at hfault
  rw [if_pos (not_le.mp hllv)] at hfault
  cases hfault

theorem State.Straight.lbrk {lv : Nat} (h : s.Straight c [⟨.ctl, .lbrk lv⟩]) :
    let t := s.issue c [⟨.ctl, .lbrk lv⟩]
    (t.core c).llv = (s.core c).llv - lv ∧
      (∀ l, (s.core c).llv - lv ≤ l → l < (s.core c).llv → t.rg c (0x50 + l) = 0) ∧
      s.Kept t c 1 [0x50, 0x51, 0x52, 0x6B] [] [] := by
  intro t
  obtain ⟨hlen, -, -, -, htop⟩ := h.sized
  have hlv := h.lbrk_llv
  obtain ⟨hcore, hsame⟩ := h.ctl_alone rfl rfl rfl rfl
    (k := (List.range lv).foldl (fun k i => k.put (0x50 + ((s.core c).llv - 1 - i)) 0)
      ({ (s.core c).issuing with pc := (s.core c).pc + 1 }.put 0x6B ((s.core c).llv - lv)))
    (by
      simp only [State.ctlOp, State.core_updCore_same h.core_lt]
      rfl)
  rw [CoreSt.foldl_put_zero (fun i => 0x50 + ((s.core c).llv - 1 - i))] at hcore hsame
  have hrf : ∀ i, (t.core c).rf.getD i 0 = _ := fun i => (congrArg (fun k : CoreSt => k.rf.getD i 0) hcore :)
  refine ⟨?_, fun l hfrom hto => ?_, (congrArg CoreSt.pc hcore :), (congrArg CoreSt.rstk hcore :),
    (congrArg CoreSt.qs hcore :), hsame ⟨rfl, fun i hi => ?_, fun _ _ => rfl⟩⟩
  · refine (congrArg BitVec.toNat ((hrf 0x6B).trans (foldl_set_zero_other (fun i _ => by omega) _))).trans ?_
    rw [CoreSt.put_rf_same _ (by exact hlen ▸ (by decide : 0x6B < 0x6C)), BitVec.toNat_ofNat]
    omega
  · rw [State.rg_of_place _ _ (by omega) (by omega), hrf]
    exact foldl_set_zero_same (.inl ⟨(s.core c).llv - 1 - l, List.mem_range.mpr (by omega), by omega⟩)
  · have hne : ∀ j ∈ [0x50, 0x51, 0x52, 0x6B], i ≠ j := by
      rintro j hj rfl
      exact hi (List.mem_map.mpr ⟨i, hj, physCode_of_plain _ (.inr (by simp at hj; omega))⟩)
    simp only [List.mem_cons, List.not_mem_nil, or_false, forall_eq_or_imp, forall_eq] at hne
    refine (foldl_set_zero_other (fun n hn => ?_) _).trans (CoreSt.put_rf_ne _ _ (by omega))
    have := List.mem_range.mp hn
    omega

/-! ### LIMX, WAITE and HALT -/

theorem State.Straight.limx_alone {d : Nat} {d2 : Option Nat} {ext : Word} (h : s.Straight c [⟨.ctl, .limx d d2 ext⟩])
    (hd : d < 0x48) (hd2 : ∀ e ∈ d2, e < 0x48) :
    let t := s.issue c [⟨.ctl, .limx d d2 ext⟩]
    (t.core c).flg = (s.core c).flg ∧ s.Kept t c 2 (d :: d2.toList) [] [] := by
  have hregs : ∀ e ∈ (s.sylEff c ⟨.ctl, .limx d d2 ext⟩).regs, e.1 ∈ d :: d2.toList ∧ e.1 < 0x48 := by
    cases d2 with
    | none => exact List.forall_mem_singleton.mpr ⟨List.mem_cons_self, hd⟩
    | some e =>
      exact List.forall_mem_cons.mpr ⟨⟨List.mem_cons_self, hd⟩, List.forall_mem_singleton.mpr ⟨by simp, hd2 e rfl⟩⟩
  have hnames : namesFlg [⟨.ctl, .limx d d2 ext⟩] = false := by
    cases d2 with
    | none => simpa [namesFlg, namedDests] using (show ¬0x55 = d by omega)
    | some e =>
      have := hd2 e rfl
      simpa [namesFlg, namedDests] using (show ¬0x55 = d ∧ ¬0x55 = e by omega)
  obtain ⟨-, -, hflg, hkept⟩ := h.kept_ctl rfl rfl hnames rfl (rep := CoreSt.rep) (regs := d :: d2.toList) (accs := []) rfl
    (h.holds_applied (fun e he _ => (hregs e he).1) (.inr rfl) (List.forall_mem_nil _)
      fun e he n hn => absurd hn (pointer_not_mem_accDest (hregs e he).2))
  refine ⟨hflg.trans ?_, hkept⟩
  rw [CoreSt.applyEffs_of_regs _ rfl rfl rfl, CoreSt.wrAll_flg fun e he => by have := (hregs e he).2; omega]
  rfl

theorem State.Straight.waite (h : s.Straight c [⟨.ctl, .waite⟩]) :
    let t := s.issue c [⟨.ctl, .waite⟩]
    (t.core c).rel = false ∧ s.Kept t c 1 [] [] [] := by
  obtain ⟨hcore, hsame⟩ := h.ctl_alone rfl rfl rfl rfl
    (k := { (s.core c).issuing with pc := (s.core c).pc + 1, rel := false })
    (by simp only [State.ctlOp, State.core_updCore_same h.core_lt]; rfl)
  exact ⟨(congrArg CoreSt.rel hcore :), (congrArg CoreSt.pc hcore :), (congrArg CoreSt.rstk hcore :),
    (congrArg CoreSt.qs hcore :), hsame (CoreSt.holds_of_eq rfl rfl rfl)⟩

theorem State.Straight.halt (h : s.Straight c [⟨.ctl, .halt⟩]) :
    let t := s.issue c [⟨.ctl, .halt⟩]
    (t.core c).run = false ∧ t.f (pgCORE c) 0x040 0 0 = 0 ∧ t.f (pgCORE c) 0x014 1 1 = 1 ∧ s.Kept t c 1 [] [] [] := by
  obtain ⟨hcore, hsame⟩ := h.ctl_alone rfl rfl rfl rfl (k := { (s.core c).issuing with pc := (s.core c).pc + 1 })
    (by simp only [State.ctlOp, State.core_updCore_same h.core_lt]; rfl)
  have hkept : s.Kept (s.issue c [⟨.ctl, .halt⟩]) c 1 [] [] [] :=
    ⟨(congrArg CoreSt.pc hcore :), (congrArg CoreSt.rstk hcore :), (congrArg CoreSt.qs hcore :),
      hsame (CoreSt.holds_of_eq rfl rfl rfl)⟩
  have hlen : c < (s.bundleDone c [⟨.ctl, .halt⟩]).cores.length :=
    State.Shape.core_lt (State.shapeTo_bundleDone h.faults_none h.1) h.2.2.1.1
  have hrun := congrArg CoreSt.run
    (State.core_coreStop (s := (s.bundleDone c [⟨.ctl, .halt⟩]).sf (pgCORE c) 0x040 0 0 0) hlen 1)
  have hissue : s.issue c [⟨.ctl, .halt⟩] = ((s.bundleDone c [⟨.ctl, .halt⟩]).sf (pgCORE c) 0x040 0 0 0).coreStop c 1 :=
    (State.issue_of_straight h (by simp)).trans (State.boundary_of_halted hrun)
  refine ⟨?_, ?_, ?_, hkept⟩
  · rw [hissue]
    exact hrun
  · rw [hissue, State.f, State.r_coreStop _ _ _ _ (o := 0x040) (by omega) (by omega) (by omega) (by omega), ← State.f,
      State.f_sf_same _ _ _ _ _ _ (by decide) (by decide)]
    rfl
  · rw [hissue]
    exact State.f_coreStop _ _ _ (by decide)

end

/-- Settles O36: the control part of each of these syllables, and the registers its effect writes. -/
theorem loopsRepeatsAndControl : Obligations.LoopsRepeatsAndControl := by
  refine ⟨fun s c rt creg cimm ofs h => ?_, fun s c lv h => ⟨_, rfl, h.lbrk⟩, fun s c creg cimm => ?_, fun s c set k h => ?_,
    fun s c pre d d2 ext post h hd hd2 => ?_, fun s c => ?_, fun s c h => ⟨_, rfl, h.waite⟩, fun s c h => ⟨_, rfl, h.halt⟩⟩
  · exact ⟨_, rfl, fun hn => h.do_none hn, fun hn => h.do_some hn⟩
  · refine List.forall_mem_cons.mpr ⟨fun h => ?_, List.forall_mem_singleton.mpr fun h => ?_⟩
    · exact ⟨_, rfl, h.ctl_register rfl rfl rfl rfl rfl (by decide) (rep := fun _ => some ⟨s.countOf c creg cimm, false⟩) rfl⟩
    · exact ⟨_, rfl, h.ctl_register rfl rfl rfl rfl rfl (by decide) (rep := fun _ => some ⟨s.countOf c creg cimm, true⟩) rfl⟩
  · exact ⟨_, rfl, (h.ctl_register rfl rfl rfl rfl rfl (by decide) (rep := CoreSt.rep) rfl).2⟩
  · have hmem := s.mem_bundleEffs c pre post ⟨.ctl, .limx d d2 ext⟩
    refine ⟨_, rfl, h.regAfter_issue (by simp) hd (List.mem_flatMap.mpr ⟨_, hmem, List.mem_cons_self⟩), fun e he => ?_, ?_⟩
    · refine h.regAfter_issue (by simp) (hd2 e he) (List.mem_flatMap.mpr ⟨_, hmem, ?_⟩)
      rw [Option.mem_def.mp he]
      exact List.mem_cons_of_mem _ List.mem_cons_self
    · rintro rfl rfl
      exact h.limx_alone hd hd2
  · refine List.forall_mem_cons.mpr ⟨fun h => ?_, List.forall_mem_cons.mpr ⟨fun h => ?_, List.forall_mem_singleton.mpr fun h => ?_⟩⟩
    · exact ⟨_, rfl, (h.ctl_register rfl rfl rfl rfl rfl (by decide) (rep := CoreSt.rep) rfl).2⟩
    · exact ⟨_, rfl, (h.ctl_register rfl rfl rfl rfl rfl (by decide) (rep := CoreSt.rep) rfl).2⟩
    · exact ⟨_, rfl, (h.ctl_register rfl rfl rfl rfl rfl (by decide) (rep := CoreSt.rep) rfl).2⟩

end Sys2Proof.Machine
end

section
/-! Loads, stores and pointers (07 R161, R176; 08 R202; 09 R220, R222). -/

namespace Sys2Proof.Machine

section
variable {s : State} {c : Nat} {pre post : List Syl} {op : Op}

/-- The pointer an AGU access modifies is no register a bundle may name beside it, and lies below the loop registers. -/
theorem State.ea_pointer {y : Bool} {ptr amod : Nat} {q : Nat × Half} (h : q ∈ (s.ea c y ptr amod).2) : q.1 < 0x48 := by
  have hcode : q.1 ∈ amodDest y ptr amod := s.ea_codes c y ptr amod ▸ List.mem_map_of_mem h
  rw [amodDest] at hcode
  split at hcode
  · obtain hq := List.mem_singleton.mp hcode
    rw [hq, ptrIx]
    split <;> omega
  · cases hcode

/-- What an effect on registers below the loop registers leaves, alone in a bundle of the AGU. -/
theorem State.Straight.agu_alone (h : s.Straight c [⟨.agu, op⟩]) (hqueue : noQueueOp ⟨.agu, op⟩ = true)
    (haccs : (s.sylEff c ⟨.agu, op⟩).accs = []) (hfl : (s.sylEff c ⟨.agu, op⟩).fl = FlagEff.none)
    (hregs : ∀ q ∈ (s.sylEff c ⟨.agu, op⟩).regs, q.1 < 0x48) {regs : List Nat}
    (hmem : ∀ q ∈ (s.sylEff c ⟨.agu, op⟩).regs, q.1 ∈ regs)
    (hdet : 0x56 ∈ regs ∨ (s.sylEff c ⟨.agu, op⟩).det = []) {stored : List Nat}
    (hstore : ∀ a, a ∉ stored → (s.applied c [⟨.agu, op⟩]).rdByte a = s.rdByte a) :
    ((s.issue c [⟨.agu, op⟩]).core c).flg = (s.core c).flg ∧
      s.Kept (s.issue c [⟨.agu, op⟩]) c (Syl.size ⟨.agu, op⟩) regs [] stored := by
  have hslot : (⟨.agu, op⟩ : Syl).slot ≠ .ctl := by simp
  refine ⟨?_, h.kept_alone hslot hqueue (h.holds_applied (fun q hq _ => hmem q hq) hdet ?_ fun q hq n hn => ?_) hstore⟩
  · rw [h.flg_alone hslot hqueue fun q hq => by have := hregs q hq; omega, hfl, CoreSt.flg_after_none]
  · rw [haccs]
    exact List.forall_mem_nil _
  · exact absurd hn (pointer_not_mem_accDest (hregs q hq))

/-- An AGU syllable that stores nothing: the words it leaves in registers, memory, and all else where it is alone. -/
theorem State.Straight.agu_reads (h : s.Straight c (pre ++ ⟨.agu, op⟩ :: post)) {eff : Eff} (heff : s.sylEff c ⟨.agu, op⟩ = eff)
    (hqueue : noQueueOp ⟨.agu, op⟩ = true) (hplain : eff = { Eff.zero with regs := eff.regs })
    (hregs : ∀ q ∈ eff.regs, q.1 < 0x48) :
    let t := s.issue c (pre ++ ⟨.agu, op⟩ :: post)
    (∀ q ∈ eff.regs, s.regAfter t c q.1 = q.2) ∧ (∀ a, t.rdByte a = s.rdByte a) ∧
      (pre = [] → post = [] → (t.core c).flg = (s.core c).flg ∧
        s.Kept t c (Syl.size ⟨.agu, op⟩) (eff.regs.map fun q => q.1) [] []) := by
  subst heff
  have hmem := s.mem_bundleEffs c pre post ⟨.agu, op⟩
  refine ⟨fun q hq => h.regAfter_issue (by simp) (hregs q hq) (List.mem_flatMap.mpr ⟨_, hmem, hq⟩),
    h.rdByte_issue_of_no_store rfl (by rw [hplain]; rfl), ?_⟩
  rintro rfl rfl
  refine h.agu_alone hqueue (by rw [hplain]; rfl) (by rw [hplain]; rfl) hregs (fun q hq => List.mem_map_of_mem hq)
    (.inr (by rw [hplain]; rfl)) fun a _ => State.rdByte_applied_of_no_store ?_ a
  rw [State.bundleEffs, List.map_singleton, hplain]
  rfl

theorem State.Straight.st {reg ptr amod : Nat} {y det : Bool}
    (h : s.Straight c (pre ++ ⟨.agu, .st reg y ptr amod det⟩ :: post)) :
    let e := s.ea c y ptr amod
    let w := wordAddr c y e.1
    let t := s.issue c (pre ++ ⟨.agu, .st reg y ptr amod det⟩ :: post)
    t.rd16 w = (s.rg c reg).toNat ∧ (∀ a, a ≠ w → a ≠ w + 1 → t.rdByte a = s.rdByte a) ∧
      (∀ q ∈ e.2, s.regAfter t c q.1 = q.2) ∧
      (pre = [] → post = [] → (t.core c).flg = (s.core c).flg ∧
        (t.core c).rf.getD 0x56 0 = (if det then BitVec.ofNat 16 (min ((s.core c).rf.getD 0x56 0).toNat (rsb16 (s.rg c reg)))
          else (s.core c).rf.getD 0x56 0) ∧ s.Kept t c 1 (0x56 :: e.2.map fun q => q.1) [] [w, w + 1]) := by
  intro e w t
  have hmem := s.mem_bundleEffs c pre post ⟨.agu, .st reg y ptr amod det⟩
  obtain ⟨hword, hbytes⟩ := h.store_issue rfl (m := (y, e.1, s.rg c reg)) rfl
  refine ⟨hword, hbytes, fun q hq => h.regAfter_issue (by simp) (State.ea_pointer hq) (List.mem_flatMap.mpr ⟨_, hmem, hq⟩), ?_⟩
  rintro rfl rfl
  obtain ⟨hlen, -⟩ := h.sized
  obtain ⟨hflg, hkept⟩ := h.agu_alone rfl rfl rfl (fun q hq => State.ea_pointer hq) (regs := 0x56 :: e.2.map fun q => q.1)
    (stored := [w, w + 1]) (fun q hq => List.mem_cons_of_mem _ (List.mem_map_of_mem hq)) (.inl List.mem_cons_self) fun a ha => by
      simp only [List.mem_cons, List.not_mem_nil, or_false, not_or] at ha
      exact (h.rdByte_issue (by simp) a).symm.trans (hbytes a ha.1 ha.2)
  refine ⟨hflg, ?_, hkept⟩
  refine (congrArg (fun k : CoreSt => k.rf.getD 0x56 0) (h.core_alone (by simp) rfl) :).trans ?_
  refine (CoreSt.applyEffs_bx (s.core c).issuing hlen).trans ?_
  rw [CoreSt.wrAll_rf_other fun q hq _ => physCode_ne (by decide) ?_, CoreSt.accsSet_rf]
  · cases det with
    | true => rfl
    | false => exact (BitVec.ofNat_toNat _ _).trans (BitVec.setWidth_eq _)
  · rw [List.flatMap_singleton] at hq
    have := State.ea_pointer hq
    omega

end

/-- Settles O33: an AGU syllable's effect lands in the places it names; the one that stores writes its word. -/
theorem loadsStoresAndPointers : Obligations.LoadsStoresAndPointers := by
  refine ⟨fun s c pre reg y ptr amod post h hreg => ?_, fun s c pre reg y ptr amod det post h => ⟨_, rfl, h.st⟩,
    fun s c pre dx dy px mx py my post h hdx hdy => ?_, fun s c pre y ptr amod post h => ?_, fun s c pre pr simm post h => ?_⟩
  · obtain ⟨hregs, hrest⟩ := h.agu_reads rfl rfl rfl (List.forall_mem_cons.mpr ⟨hreg, fun q hq => State.ea_pointer hq⟩)
    obtain ⟨hdest, hptrs⟩ := List.forall_mem_cons.mp hregs
    exact ⟨_, rfl, hdest, hptrs, hrest⟩
  · have hptr : ∀ q ∈ (s.mop c false (.mem px mx)).2 ++ (s.mop c true (.mem py my)).2, q.1 < 0x48 := fun q hq => by
      have : q.1 < 0x38 := ((List.mem_append.mp hq).elim State.mop_pointer State.mop_pointer).2
      omega
    obtain ⟨hregs, hrest⟩ := h.agu_reads rfl rfl rfl (List.forall_mem_cons.mpr ⟨hdx, List.forall_mem_cons.mpr ⟨hdy, hptr⟩⟩)
    obtain ⟨hx, hregs⟩ := List.forall_mem_cons.mp hregs
    obtain ⟨hy, hptrs⟩ := List.forall_mem_cons.mp hregs
    exact ⟨_, rfl, hx, hy, hptrs, hrest⟩
  · exact ⟨_, rfl, h.agu_reads rfl rfl rfl fun q hq => State.ea_pointer hq⟩
  · have hpr : pr % 8 = pr := by
      have hwf := h.wf (y := ⟨.agu, .paddi pr simm⟩) (by simp)
      simp only [Syl.wf, opFits, Bool.and_eq_true, decide_eq_true_eq] at hwf
      exact Nat.mod_eq_of_lt hwf.1
    have heff : s.sylEff c ⟨.agu, .paddi pr simm⟩ = { Eff.zero with regs := [(0x30 + pr, s.bump c pr simm)] } := by
      simp only [State.sylEff, State.effPaddi, hpr]
    obtain ⟨hregs, hrest⟩ := h.agu_reads heff rfl rfl (List.forall_mem_singleton.mpr (by dsimp only; omega))
    refine ⟨_, rfl, ?_, hrest⟩
    have hplace := List.forall_mem_singleton.mp hregs
    rwa [State.regAfter, physCode_of_plain _ (.inr (by dsimp only; omega))] at hplace

end Sys2Proof.Machine
end

section
/-! Queues of a Rhoif-16 core under the operations that move them (07 R179 to R186; 09 R223 to R226). -/

namespace Sys2Proof.Machine

/-! ### One queue among the four -/

namespace CoreSt

variable {k : CoreSt} {p q : Nat}

theorem queue_updQ_same (hq : q < k.qs.length) (f : Queue → Queue) : (k.updQ q f).queue q = f (k.queue q) := by
  simp [queue, updQ, List.getD_eq_getElem?_getD, hq]

theorem queue_updQ_ne (h : p ≠ q) (f : Queue → Queue) : (k.updQ q f).queue p = k.queue p := by
  simp [queue, updQ, List.getD_eq_getElem?_getD, List.getElem?_modify_ne _ _ h.symm]

theorem length_qs_updQ (k : CoreSt) (q : Nat) (f : Queue → Queue) : (k.updQ q f).qs.length = k.qs.length := List.length_modify ..

/-- A push changes its queue and QE alone. -/
theorem queue_pushQ_ne (h : p ≠ q) (v : Half) (now : Nat) : (k.pushQ q v now).queue p = k.queue p := by
  unfold pushQ
  dsimp only
  split
  · exact queue_updQ_ne h _
  split
  · exact queue_updQ_ne h _
  · exact queue_updQ_ne h _

/-- What a push leaves of the queues depends on the queues alone. -/
theorem qs_pushQ {k' : CoreSt} (h : k.qs = k'.qs) (q : Nat) (v : Half) (now : Nat) :
    (k.pushQ q v now).qs = (k'.pushQ q v now).qs := by
  have hqueue : k.queue q = k'.queue q := by rw [queue, h, queue]
  unfold pushQ
  dsimp only
  rw [hqueue]
  split
  · rw [updQ, setQe, h, updQ, setQe]
  split
  · rw [updQ, setQe, h, updQ, setQe]
  · rw [updQ, h, updQ]

end CoreSt

/-! ### What the drain of a queue reads -/

theorem any_congr_of_mem {α : Type} {l : List α} {f g : α → Bool} (h : ∀ a ∈ l, f a = g a) : l.any f = l.any g := by
  rw [Bool.eq_iff_iff, List.any_eq_true, List.any_eq_true]
  exact exists_congr fun a => and_congr_right fun ha => by rw [h a ha]

/-- The domains, and the tenant table from its core row and its tenants' rows on, are the same in `s` and `u`. -/
structure State.TableAs (s u : State) : Prop where
  doms : u.doms = s.doms
  table : ∀ o, o < 4096 → (o = 0x048 ∨ 0x100 ≤ o) → u.r pgTEN o = s.r pgTEN o

namespace State.TableAs

variable {s u t : State}

theorem trans (h : s.TableAs u) (h' : u.TableAs t) : s.TableAs t :=
  ⟨h'.doms.trans h.doms, fun o ho hrow => (h'.table o ho hrow).trans (h.table o ho hrow)⟩

theorem symm (h : s.TableAs u) : u.TableAs s := ⟨h.doms.symm, fun o ho hrow => (h.table o ho hrow).symm⟩

theorem updCore (s : State) (c : Nat) (f : CoreSt → CoreSt) : s.TableAs (s.updCore c f) := ⟨rfl, fun _ _ _ => rfl⟩

theorem of_asked {c : Nat} (h : State.Asked (coreNi c) s u) : s.TableAs u := by
  refine ⟨h.doms, fun o ho hrow => h.reg pgTEN o ho ?_ fun _ => hrow⟩
  unfold coreNi pgTEN pgNI
  repeat' split
  all_goals decide

theorem domRun (h : s.TableAs u) (d : Nat) : u.domRun d = s.domRun d := by
  rw [State.domRun, State.dom, h.doms, State.domRun, State.dom]

theorem win (h : s.TableAs u) {n w : Nat} (hn : n < 16) (hw : w < 8) : u.win n w = s.win n w := by
  unfold State.win
  rw [h.table (0x400 + 0x40 * n + 8 * w) (by omega) (.inr (by omega)),
    h.table (0x404 + 0x40 * n + 8 * w) (by omega) (.inr (by omega))]

theorem touchesSE (h : s.TableAs u) (a n : Nat) : u.touchesSE a n = s.touchesSE a n := by
  unfold State.touchesSE
  refine any_congr_of_mem fun t ht => any_congr_of_mem fun w hw => ?_
  obtain ⟨i, hi, rfl⟩ := List.mem_map.mp ht
  rw [h.win (by have := List.mem_range.mp hi; omega) (List.mem_range.mp hw)]

theorem tntOfCore (h : s.TableAs u) (c : Nat) : u.tntOfCore c = s.tntOfCore c := by
  unfold State.tntOfCore State.coreTnt State.f
  rw [h.table 0x048 (by decide) (.inl rfl)]

theorem tntOfCore_lt {c t : Nat} (h : s.tntOfCore c = some t) : t < 16 := by
  unfold State.tntOfCore at h
  split at h
  · obtain rfl := Option.some.inj h
    decide
  · exact State.coreTnt_lt h

theorem qRoom (h : s.TableAs u) {c : Nat} (hqs : (u.core c).qs = (s.core c).qs) : u.qRoom c = s.qRoom c := by
  unfold State.qRoom
  rw [h.tntOfCore]
  cases htnt : s.tntOfCore c with
  | none => rfl
  | some t =>
    dsimp only
    rw [hqs, State.f, h.table (0x100 + 0x20 * t) (by have := tntOfCore_lt htnt; omega) (.inr (by omega)), State.f]

theorem qClear (h : s.TableAs u) (x : Queue) (n : Nat) : u.qClear x n = s.qClear x n := by
  unfold State.qClear
  simp only [h.touchesSE]

theorem qWritable (h : s.TableAs u) (x : Queue) (flush : Bool) : u.qWritable x flush = s.qWritable x flush := by
  unfold State.qWritable
  simp only [h.touchesSE, h.qClear]

end State.TableAs

/-! ### Draining one queue -/

section
variable {c q : Nat} {s u : State}

/-- The core of a state that only its page tells apart. -/
theorem State.core_err (s : State) (p code info d : Nat) : (s.err p code info).core d = s.core d := by
  unfold State.err
  split
  · rfl
  · rfl

theorem State.core_qStop (hc : c < s.cores.length) (q sts : Nat) :
    (s.qStop c q sts).core c = ((s.core c).setQe q).updQ q fun x => { x with arm := false, sts := sts } := by
  rw [State.qStop, State.core_err]
  exact State.core_updCore_same hc _

theorem State.core_qMisal (hc : c < s.cores.length) (q : Nat) :
    (s.qMisal c q).core c =
      (((s.core c).updQ q fun x => { x with misal := true }).setQe q).updQ q fun x =>
        { x with arm := false, sts := ((s.core c).queue q).sts } := by
  have hlen : c < (s.updCore c fun k => k.updQ q fun x => { x with misal := true }).cores.length :=
    (List.length_modify ..).symm ▸ hc
  rw [State.qMisal, State.core_qStop hlen, State.core_updCore_same hc]

theorem State.core_weltRequest (s : State) (c cmd cls a size : Nat) (data : List Byte) (d : Nat) :
    (s.weltRequest (coreNi c) 0 cmd cls a size data).core d = s.core d := by
  rw [State.core, (s.asked_weltRequest c cmd cls a size data).cores, State.core]

theorem State.length_weltRequest (s : State) (c cmd cls a size : Nat) (data : List Byte) :
    (s.weltRequest (coreNi c) 0 cmd cls a size data).cores.length = s.cores.length := by
  rw [(s.asked_weltRequest c cmd cls a size data).cores]

/-- A queue after the first `m` of its elements are issued as one write. -/
def Queue.written (x : Queue) (m : Nat) (se : Bool) : Queue :=
  { x.advance m with buf := x.buf.drop (m * x.ew), fly := x.fly ++ [⟨x.addr, m * x.ew, se, none, false, true⟩] }

/-- The state once queue `q` has issued `m` elements as one write. -/
def State.qWrote (s : State) (c q m : Nat) : State :=
  let x := (s.core c).queue q
  (s.updCore c fun k => k.updQ q fun x => x.written m (s.touchesSE x.addr x.eb)).weltRequest (coreNi c) 0 2 x.cls x.addr (m * x.eb)
    (halfBytes (x.buf.take (m * x.ew)))

theorem State.qDrain_succ (n : Nat) (s : State) (c q : Nat) (flush : Bool) :
    State.qDrain (n + 1) s c q flush =
      let x := (s.core c).queue q
      let m := s.qWritable x flush
      if m = 0 ∨ s.qRoom c = false ∨ s.domRun (coreDom c) = false then s
      else if x.addr % x.eb ≠ 0 then s.qMisal c q
      else State.qDrain n (s.qWrote c q m) c q flush := rfl

theorem State.core_qWrote (hc : c < s.cores.length) (q m : Nat) :
    (s.qWrote c q m).core c = (s.core c).updQ q fun x => x.written m (s.touchesSE x.addr x.eb) := by
  rw [State.qWrote, State.core_weltRequest]
  exact State.core_updCore_same hc _

theorem State.length_qWrote (s : State) (c q m : Nat) : (s.qWrote c q m).cores.length = s.cores.length := by
  rw [State.qWrote, State.length_weltRequest]
  exact List.length_modify ..

theorem State.tableAs_qWrote (s : State) (c q m : Nat) : s.TableAs (s.qWrote c q m) :=
  (State.TableAs.updCore s c _).trans (.of_asked (State.asked_weltRequest _ _ _ _ _ _ _))

/-- Two states whose cores hold the same queues drain them alike. -/
theorem State.qs_qDrain (htab : s.TableAs u) (hqs : (u.core c).qs = (s.core c).qs) (hs : c < s.cores.length)
    (hu : c < u.cores.length) (n q : Nat) (flush : Bool) :
    ((State.qDrain n u c q flush).core c).qs = ((State.qDrain n s c q flush).core c).qs := by
  induction n generalizing s u with
  | zero => exact hqs
  | succ n ih =>
    have hqueue : (u.core c).queue q = (s.core c).queue q := by rw [CoreSt.queue, hqs, CoreSt.queue]
    simp only [State.qDrain_succ, hqueue, htab.qWritable, htab.qRoom hqs, htab.domRun]
    split
    · exact hqs
    split
    · rw [State.core_qMisal hs, State.core_qMisal hu, hqueue]
      simp only [CoreSt.updQ, CoreSt.setQe, hqs]
    · refine ih ?_ ?_ ?_ ?_
      · exact (s.tableAs_qWrote c q _).symm.trans (htab.trans (u.tableAs_qWrote c q _))
      · rw [State.core_qWrote hs, State.core_qWrote hu]
        simp only [CoreSt.updQ, hqs, htab.touchesSE]
      · rwa [State.length_qWrote]
      · rwa [State.length_qWrote]

/-- The drain of one queue leaves the others. -/
theorem State.queue_qDrain_ne (hc : c < s.cores.length) (n : Nat) (flush : Bool) {p : Nat} (hp : p ≠ q) :
    ((State.qDrain n s c q flush).core c).queue p = (s.core c).queue p := by
  induction n generalizing s with
  | zero => rfl
  | succ n ih =>
    rw [State.qDrain_succ]
    dsimp only
    split
    · rfl
    split
    · rw [State.core_qMisal hc, CoreSt.queue_updQ_ne hp]
      exact CoreSt.queue_updQ_ne hp _
    · rw [ih (by rwa [State.length_qWrote]), State.core_qWrote hc, CoreSt.queue_updQ_ne hp]

end

end Sys2Proof.Machine
end

section
/-! The queue syllables of the AGU (07 R179, R184, R186; 09 R223 to R226). -/

namespace Sys2Proof.Machine

/-! ### A pop -/

namespace CoreSt

variable {k : CoreSt} {q : Nat}

theorem queue_popQ_same (hq : q < k.qs.length) :
    (k.popQ q).queue q =
      let x := k.queue q
      { x with dirErr := x.dirErr || x.dir, under := x.under || (!x.dir && x.buf.isEmpty),
               buf := if x.dir then x.buf else x.buf.tail } := by
  have hset : ∀ f, ((k.setQe q).updQ q f).queue q = f (k.queue q) := queue_updQ_same (k := k.setQe q) hq
  have hpop : ∀ f, (k.updQ q f).queue q = f (k.queue q) := queue_updQ_same hq
  unfold popQ
  dsimp only
  cases hdir : (k.queue q).dir with
  | true => simp [hset, hdir]
  | false =>
    cases hbuf : (k.queue q).buf with
    | nil => simp [hset, hdir, hbuf]
    | cons v l => simp [hpop, hdir, hbuf]

theorem flg_popQ (k : CoreSt) (q : Nat) :
    (k.popQ q).flg.qe =
      if (k.queue q).dir || (k.queue q).buf.isEmpty then k.flg.qe ||| BitVec.ofNat 4 (2 ^ q) else k.flg.qe := by
  unfold popQ
  dsimp only
  cases (k.queue q).dir with
  | true => rfl
  | false =>
    cases (k.queue q).buf with
    | nil => rfl
    | cons v l => rfl

/-- A core keeps what it held whatever its queues do. -/
theorem Holds.of_sansQ {k0 k k' : CoreSt} {regs accs : List Nat} (h : k0.Holds k regs accs) (hk : k'.sansQ = k.sansQ) :
    k0.Holds k' regs accs where
  irq := (congrArg CoreSt.irq hk :).trans h.irq
  rf i hi := (congrArg (fun k : CoreSt => k.rf.getD i 0) hk :).trans (h.rf i hi)
  acc n hn := (congrArg (fun k : CoreSt => accOf k n) hk :).trans (h.acc n hn)

end CoreSt

/-! ### An AGU syllable alone, with its queue operation -/

section
variable {s : State} {c : Nat} {op : Op}

theorem State.Straight.passed_agu (h : s.Straight c [⟨.agu, op⟩]) :
    State.Passed c ((s.bundleWrites c [⟨.agu, op⟩]).withCore c
      { (s.bundleWrites c [⟨.agu, op⟩]).core c with pc := (s.core c).pc + Syl.size ⟨.agu, op⟩ }) (s.issue c [⟨.agu, op⟩]) := by
  have hpass := State.passed_issue h (by simp)
  have hctl : (s.bundleCtl (s.bundleWrites c [⟨.agu, op⟩]) c [⟨.agu, op⟩]).1 =
      { (s.bundleWrites c [⟨.agu, op⟩]).core c with pc := (s.core c).pc + Syl.size ⟨.agu, op⟩ } := by
    have hfind : [(⟨.agu, op⟩ : Syl)].find? (fun y => y.slot == .ctl) = none := rfl
    have hlen : bundleLen [⟨.agu, op⟩] = Syl.size ⟨.agu, op⟩ := by simp [bundleLen]
    simp only [State.bundleCtl, hfind, hlen]
    split
    · rfl
    · rfl
  rwa [hctl] at hpass

/-- A fold of queue operations. -/
theorem State.Queued.foldl {α : Type} {f : State → α → State} (hf : ∀ s a, State.Queued c s (f s a)) (l : List α) (s : State) :
    State.Queued c s (l.foldl f s) := by
  induction l generalizing s with
  | nil => exact .refl c s
  | cons a l ih => exact (hf s a).trans (ih _)

theorem State.Straight.length_bundleWrites {b : List Syl} (h : s.Straight c b) : c < (s.bundleWrites c b).cores.length :=
  State.Shape.core_lt ((show s.ShapeTo (s.bundleWrites c b) by simp) h.1) h.2.2.1.1

theorem State.Straight.core_agu (h : s.Straight c [⟨.agu, op⟩]) :
    ((s.issue c [⟨.agu, op⟩]).core c).arch = CoreSt.arch
      { (s.bundleWrites c [⟨.agu, op⟩]).core c with pc := (s.core c).pc + Syl.size ⟨.agu, op⟩ } := by
  rw [h.passed_agu.core, State.core_withCore h.length_bundleWrites]

/-- The registers a queue syllable computes, before its queue acts. -/
def State.aguCore (s : State) (c : Nat) (op : Op) : CoreSt := applyEffs (s.core c).issuing [s.sylEff c ⟨.agu, op⟩]

/-- The queues stand as they stood when the queue operation of a bundle acts. -/
theorem State.qs_aguCore (s : State) (c : Nat) (op : Op) : (s.aguCore c op).qs = (s.core c).qs :=
  (congrArg CoreSt.qs (CoreSt.applyEffs_sansRegs (s.core c).issuing [s.sylEff c ⟨.agu, op⟩]) :)

theorem State.queue_aguCore (s : State) (c : Nat) (op : Op) (q : Nat) : (s.aguCore c op).queue q = (s.core c).queue q := by
  rw [CoreSt.queue, State.qs_aguCore, CoreSt.queue]

/-- A queue syllable that acts on its core alone: the core, and what stays. -/
theorem State.Straight.queue_alone (h : s.Straight c [⟨.agu, op⟩]) {g : CoreSt → CoreSt}
    (hop : s.bundleWrites c [⟨.agu, op⟩] = (s.applied c [⟨.agu, op⟩]).updCore c g) (hg : ∀ k, (g k).sansQ = k.sansQ)
    {regs accs stored : List Nat} (hhold : (s.core c).Holds (s.aguCore c op) regs accs)
    (hstore : ∀ a, a ∉ stored → (s.applied c [⟨.agu, op⟩]).rdByte a = s.rdByte a) :
    let t := s.issue c [⟨.agu, op⟩]
    (t.core c).qs = (g (s.aguCore c op)).qs ∧ (t.core c).flg = (g (s.aguCore c op)).flg ∧
      (t.core c).pc = (s.core c).pc + Syl.size ⟨.agu, op⟩ ∧ s.Same t c regs accs stored := by
  have hlen := h.length_bundleWrites
  have hcore := h.core_agu
  have hpass := h.passed_agu
  have hwrites : (s.bundleWrites c [⟨.agu, op⟩]).core c = g (s.aguCore c op) := by
    rw [hop, State.core_updCore_same (s.length_applied c _ ▸ h.core_lt), State.core_applied h.core_lt]
    rfl
  rw [hwrites] at hcore hpass
  refine ⟨(congrArg CoreSt.qs hcore :), (congrArg CoreSt.flg hcore :), (congrArg CoreSt.pc hcore :), ?_⟩
  have hrest : s.Rest (s.bundleWrites c [⟨.agu, op⟩]) c stored := by
    have happ := s.rest_applied c [⟨.agu, op⟩] hstore
    rw [hop]
    exact ⟨fun d hd => (State.core_updCore_ne hd g).trans (happ.others d hd), happ.bytes, happ.reg, happ.act, happ.ltb, happ.welt⟩
  have hhold' := hhold.of_sansQ (hg _)
  exact hrest.same hlen hpass ⟨hhold'.irq, hhold'.rf, hhold'.acc⟩

/-- The queues of a core in shape. -/
theorem State.Straight.queue_lt (h : s.Straight c [⟨.agu, op⟩]) {q : Nat} (hq : q < 4) : q < (s.core c).qs.length := by
  obtain ⟨-, -, hqs, -⟩ := h.sized
  omega

theorem State.aguCore_of_no_effect (h : s.sylEff c ⟨.agu, op⟩ = Eff.zero) : s.aguCore c op = (s.core c).issuing := by
  rw [State.aguCore, h]
  exact CoreSt.applyEffs_of_regs _ rfl rfl rfl

theorem State.holds_of_no_effect (h : s.sylEff c ⟨.agu, op⟩ = Eff.zero) : (s.core c).Holds (s.aguCore c op) [] [] := by
  rw [State.aguCore_of_no_effect h]
  exact CoreSt.holds_of_eq rfl rfl rfl

/-! ### QSET and QSTOP -/

theorem State.Straight.wf_q {q : Nat} (h : s.Straight c [⟨.agu, op⟩]) (hfits : opFits op = true → q < 4) : q < 4 := by
  have hwf := h.wf (y := ⟨.agu, op⟩) (by simp)
  rw [Syl.wf, Bool.and_eq_true] at hwf
  exact hfits hwf.1

/-- A queue syllable that computes no register and acts on queue `q` of its core, and maybe on QE. -/
theorem State.Straight.queue_of_no_effect (h : s.Straight c [⟨.agu, op⟩]) (heff : s.sylEff c ⟨.agu, op⟩ = Eff.zero)
    {g : CoreSt → CoreSt} (hop : s.bundleWrites c [⟨.agu, op⟩] = (s.applied c [⟨.agu, op⟩]).updCore c g)
    (hg : ∀ k, (g k).sansQ = k.sansQ) :
    let t := s.issue c [⟨.agu, op⟩]
    (t.core c).qs = (g (s.core c).issuing).qs ∧ (t.core c).flg = (g (s.core c).issuing).flg ∧
      (t.core c).pc = (s.core c).pc + Syl.size ⟨.agu, op⟩ ∧ s.Same t c [] [] [] := by
  rw [← State.aguCore_of_no_effect heff]
  refine h.queue_alone hop hg (State.holds_of_no_effect heff) fun a _ => State.rdByte_applied_of_no_store ?_ a
  rw [State.bundleEffs, List.map_singleton, heff]
  rfl

theorem State.Straight.qset {q cls sreg creg : Nat} {dir w32 : Bool} {ext : Word}
    (h : s.Straight c [⟨.agu, .qset q dir w32 cls sreg creg ext⟩]) :
    let t := s.issue c [⟨.agu, .qset q dir w32 cls sreg creg ext⟩]
    (t.core c).queue q = ((s.core c).queue q).setup dir w32 cls (s.rg c sreg) (s.rg c creg).toNat ext.toNat ∧
      (t.core c).flg.qe = (s.core c).flg.qe &&& ~~~(BitVec.ofNat 4 (2 ^ q)) ∧
      (∀ p, p ≠ q → (t.core c).queue p = (s.core c).queue p) ∧ (t.core c).pc = (s.core c).pc + 2 ∧ s.Same t c [] [] [] := by
  have hq : q < 4 := h.wf_q fun hfits => by
    simp only [opFits, Bool.and_eq_true, decide_eq_true_eq] at hfits
    exact hfits.1.1.1
  obtain ⟨hqs, hflg, hpc, hsame⟩ := h.queue_of_no_effect rfl (g := fun k => (k.clrQe q).updQ q fun x =>
    x.setup dir w32 cls (s.rg c sreg) (s.rg c creg).toNat ext.toNat) rfl fun _ => rfl
  refine ⟨?_, congrArg Flg.qe hflg, fun p hp => ?_, hpc, hsame⟩
  · rw [CoreSt.queue, hqs]
    exact CoreSt.queue_updQ_same (k := (s.core c).issuing.clrQe q) (h.queue_lt hq) _
  · rw [CoreSt.queue, hqs]
    exact CoreSt.queue_updQ_ne (k := (s.core c).issuing.clrQe q) hp _

theorem State.Straight.qstop {q : Nat} (h : s.Straight c [⟨.agu, .qstop q⟩]) :
    let t := s.issue c [⟨.agu, .qstop q⟩]
    (t.core c).queue q = ((s.core c).queue q).cancel ∧ (∀ p, p ≠ q → (t.core c).queue p = (s.core c).queue p) ∧
      (t.core c).flg = (s.core c).flg ∧ (t.core c).pc = (s.core c).pc + 1 ∧ s.Same t c [] [] [] := by
  have hq : q < 4 := h.wf_q fun hfits => by simpa [opFits] using hfits
  obtain ⟨hqs, hflg, hpc, hsame⟩ := h.queue_of_no_effect rfl (g := fun k => k.updQ q Queue.cancel) rfl fun _ => rfl
  refine ⟨?_, fun p hp => ?_, hflg, hpc, hsame⟩
  · rw [CoreSt.queue, hqs]
    exact CoreSt.queue_updQ_same (k := (s.core c).issuing) (h.queue_lt hq) _
  · rw [CoreSt.queue, hqs]
    exact CoreSt.queue_updQ_ne (k := (s.core c).issuing) hp _

/-! ### QPOP and QPOPM -/

/-- A pop, alone in its bundle: its queue, QE, and what stays. -/
theorem State.Straight.pop_alone {q : Nat} (h : s.Straight c [⟨.agu, op⟩]) (hq : q < 4)
    (hop : s.bundleWrites c [⟨.agu, op⟩] = (s.applied c [⟨.agu, op⟩]).updCore c fun k => k.popQ q)
    {regs accs stored : List Nat} (hhold : (s.core c).Holds (s.aguCore c op) regs accs)
    (hstore : ∀ a, a ∉ stored → (s.applied c [⟨.agu, op⟩]).rdByte a = s.rdByte a) :
    let x := (s.core c).queue q
    let t := s.issue c [⟨.agu, op⟩]
    ((t.core c).queue q).buf = (if x.dir then x.buf else x.buf.tail) ∧
      ((t.core c).queue q).dirErr = (x.dirErr || x.dir) ∧ ((t.core c).queue q).under = (x.under || (!x.dir && x.buf.isEmpty)) ∧
      (t.core c).flg.qe =
        (if x.dir || x.buf.isEmpty then (s.aguCore c op).flg.qe ||| BitVec.ofNat 4 (2 ^ q) else (s.aguCore c op).flg.qe) ∧
      (t.core c).pc = (s.core c).pc + Syl.size ⟨.agu, op⟩ ∧ s.Same t c regs accs stored := by
  intro x t
  obtain ⟨hqs, hflg, hpc, hsame⟩ := h.queue_alone hop (fun k => State.Queued.sansQ_popQ k q) hhold hstore
  have hqueue : (t.core c).queue q = { x with
      dirErr := x.dirErr || x.dir, under := x.under || (!x.dir && x.buf.isEmpty), buf := if x.dir then x.buf else x.buf.tail } := by
    rw [CoreSt.queue, hqs, ← CoreSt.queue, CoreSt.queue_popQ_same (by rw [State.qs_aguCore]; exact h.queue_lt hq),
      State.queue_aguCore]
  rw [hqueue, hflg, CoreSt.flg_popQ, State.queue_aguCore]
  exact ⟨rfl, rfl, rfl, rfl, hpc, hsame⟩

theorem State.Straight.qpop {reg q : Nat} {w det : Bool} (h : s.Straight c [⟨.agu, .qpop reg q w det⟩]) (hreg : reg < 0x48) :
    let x := (s.core c).queue q
    let t := s.issue c [⟨.agu, .qpop reg q w det⟩]
    s.regAfter t c reg = (if x.dir then 0 else x.buf.headD 0) ∧
      ((t.core c).queue q).buf = (if x.dir then x.buf else x.buf.tail) ∧
      ((t.core c).queue q).dirErr = (x.dirErr || x.dir) ∧ ((t.core c).queue q).under = (x.under || (!x.dir && x.buf.isEmpty)) ∧
      (t.core c).flg.qe = (if x.dir || x.buf.isEmpty then (s.core c).flg.qe ||| BitVec.ofNat 4 (2 ^ q) else (s.core c).flg.qe) ∧
      (t.core c).pc = (s.core c).pc + 1 ∧ s.Same t c [reg, 0x56] [] [] := by
  have hq : q < 4 := h.wf_q fun hfits => by
    simp only [opFits, Bool.and_eq_true, decide_eq_true_eq] at hfits
    exact hfits.2
  have hnames : namesFlg [⟨.agu, .qpop reg q w det⟩] = false := by
    simpa [namesFlg, namedDests] using (show ¬0x55 = reg by omega)
  have hop : s.bundleWrites c [⟨.agu, .qpop reg q w det⟩] =
      (s.applied c [⟨.agu, .qpop reg q w det⟩]).updCore c fun k => k.popQ q := by
    simp only [State.bundleWrites, hnames]
    rfl
  have hflg : (s.aguCore c (.qpop reg q w det)).flg = (s.core c).flg := by
    rw [State.aguCore, CoreSt.applyEffs_flg _ (by simpa [State.sylEff] using (show reg ≠ 0x55 by omega))]
    exact CoreSt.flg_after_none _
  have hpop := h.pop_alone hq hop (regs := [reg, 0x56]) (accs := []) (stored := [])
    (h.holds_applied (List.forall_mem_singleton.mpr fun _ => List.mem_cons_self) (.inl (by simp)) (List.forall_mem_nil _)
      (List.forall_mem_singleton.mpr fun n hn => absurd hn (pointer_not_mem_accDest hreg)))
    fun a _ => State.rdByte_applied_of_no_store rfl a
  rw [hflg] at hpop
  exact ⟨h.regAfter_issue (by simp) hreg (List.mem_cons_self), hpop⟩

theorem State.Straight.qpopm {q ptr amod : Nat} {w y : Bool} (h : s.Straight c [⟨.agu, .qpopm q w y ptr amod⟩]) :
    let e := s.ea c y ptr amod
    let a := wordAddr c y e.1
    let x := (s.core c).queue q
    let t := s.issue c [⟨.agu, .qpopm q w y ptr amod⟩]
    t.rd16 a = x.front.toNat ∧ ((t.core c).queue q).buf = (if x.dir then x.buf else x.buf.tail) ∧
      (∀ p ∈ e.2, s.regAfter t c p.1 = p.2) ∧ (t.core c).pc = (s.core c).pc + 1 ∧
      s.Same t c (e.2.map fun p => p.1) [] [a, a + 1] := by
  intro e a x t
  have hq : q < 4 := h.wf_q fun hfits => by
    simp only [opFits, Bool.and_eq_true, decide_eq_true_eq] at hfits
    exact hfits.1.1
  have hmem := s.mem_bundleEffs c [] [] ⟨.agu, .qpopm q w y ptr amod⟩
  obtain ⟨hword, hbytes⟩ := State.Straight.store_issue (pre := []) h rfl (m := (y, e.1, x.front)) rfl
  obtain ⟨hbuf, -, -, -, hpc, hsame⟩ := h.pop_alone hq rfl (regs := e.2.map fun p => p.1) (accs := []) (stored := [a, a + 1])
    (h.holds_applied (fun p hp _ => List.mem_map_of_mem hp) (.inr rfl) (List.forall_mem_nil _)
      fun p hp n hn => absurd hn (pointer_not_mem_accDest (State.ea_pointer hp)))
    fun b hb => by
      simp only [List.mem_cons, List.not_mem_nil, or_false, not_or] at hb
      exact (h.rdByte_issue (by simp) b).symm.trans (hbytes b hb.1 hb.2)
  exact ⟨hword, hbuf, fun p hp => h.regAfter_issue (by simp) (State.ea_pointer hp) (List.mem_flatMap.mpr ⟨_, hmem, hp⟩), hpc, hsame⟩

/-! ### QPUSH and QPUSHM -/

/-- A push drains its queue as it would without the rest of its bundle, and leaves the other queues. -/
theorem State.Straight.push_alone {q : Nat} {v : Half} (h : s.Straight c [⟨.agu, op⟩])
    (hop : s.bundleWrites c [⟨.agu, op⟩] =
      State.qDrain 32 ((s.applied c [⟨.agu, op⟩]).updCore c fun k => k.pushQ q v (s.applied c [⟨.agu, op⟩]).rhoNow) c q false) :
    let t := s.issue c [⟨.agu, op⟩]
    (t.core c).queue q = (((s.updCore c fun k => k.pushQ q v s.rhoNow).qDrain 32 c q false).core c).queue q ∧
      (∀ p, p ≠ q → (t.core c).queue p = (s.core c).queue p) ∧ (t.core c).rf = (s.aguCore c op).rf ∧
      (t.core c).pc = (s.core c).pc + Syl.size ⟨.agu, op⟩ := by
  intro t
  have hlt := h.core_lt
  have hcore := h.core_agu
  have hnow : (s.applied c [⟨.agu, op⟩]).rhoNow = s.rhoNow := by
    rw [State.applied_eq]
    rfl
  have htab : s.TableAs (s.applied c [⟨.agu, op⟩]) := by
    rw [State.applied_eq]
    exact ⟨rfl, fun _ _ _ => rfl⟩
  have happ : (s.applied c [⟨.agu, op⟩]).core c = s.aguCore c op := State.core_applied hlt _
  have happlt : c < (s.applied c [⟨.agu, op⟩]).cores.length := s.length_applied c _ ▸ hlt
  have hpushlt : ∀ {u : State} {f : CoreSt → CoreSt}, c < u.cores.length → c < (u.updCore c f).cores.length := fun hu =>
    (List.length_modify ..).symm ▸ hu
  have hqueue : ∀ p, (t.core c).queue p = ((s.bundleWrites c [⟨.agu, op⟩]).core c).queue p := fun p =>
    (congrArg (fun k : CoreSt => k.queue p) hcore :)
  refine ⟨?_, fun p hp => ?_, (congrArg CoreSt.rf hcore :).trans (State.rf_bundleWrites hlt _), (congrArg CoreSt.pc hcore :)⟩
  · rw [hqueue, hop, hnow, CoreSt.queue, State.qs_qDrain (s := s.updCore c fun k => k.pushQ q v s.rhoNow), ← CoreSt.queue]
    · exact (State.TableAs.updCore s c _).symm.trans (htab.trans (.updCore _ c _))
    · rw [State.core_updCore_same hlt, State.core_updCore_same happlt, happ]
      exact CoreSt.qs_pushQ (s.qs_aguCore c op) q v _
    · exact hpushlt hlt
    · exact hpushlt happlt
  · rw [hqueue, hop, State.queue_qDrain_ne (hpushlt happlt) _ _ hp, State.core_updCore_same happlt, happ,
      CoreSt.queue_pushQ_ne hp, State.queue_aguCore]

/-! ### A bundle that waits -/

/-- A bundle with a wait that is not over stalls whole: the core holds it and its queues may issue (09 R226). -/
theorem State.issue_of_waiting {b : List Syl} (hc : c < 5) (hrun : (s.core c).run = true)
    (hwait : (s.core c).wait = none) (hdom : s.domRun (coreDom c) = true) (hsquash : (s.core c).squash = false)
    (hrep : (s.core c).rep = none) (hdec : decodeFault (s.core c) c b = none) {y : Syl} (hy : y ∈ b)
    (hover : s.waitOver c y = false) :
    State.Queued c (s.updCore c fun k => { k with wait := some ⟨b, s.rhoNow, 0⟩ }) (s.issue c b) := by
  have hb : b.isEmpty = false := by
    cases b with
    | nil => cases hy
    | cons _ _ => rfl
  have hcount : s.repCount c = s := by simp [State.repCount, hrep]
  have hall : ¬b.all (s.waitOver c) = true := fun h => by
    rw [List.all_eq_true.mp h y hy] at hover
    cases hover
  simp only [State.issue, hdec]
  rw [if_neg (by simp [hc, hrun, hwait, hdom, hb]), if_neg (by simp [hsquash, hrep]), hcount, if_neg hall]
  exact State.Queued.foldl (fun s q => .qDrain c 32 s q _) _ _

end

/-- Settles O34: each queue syllable's operation on the queues of its core, and the stall of a bundle that waits. -/
theorem queueInstructions : Obligations.QueueInstructions := by
  refine ⟨fun s c q dir w32 cls sreg creg ext h => ?_, fun s c q h => ?_, fun s c reg q w det h hreg => ⟨_, rfl, h.qpop hreg⟩,
    fun s c q w y ptr amod h => ⟨_, rfl, h.qpopm⟩, fun s c reg q w h => ?_, fun s c q w y ptr amod h => ?_,
    fun s c q k h => ⟨_, rfl, h.nop (by simp) rfl rfl rfl⟩, fun s c q h => ⟨_, rfl, h.nop (by simp) rfl rfl rfl⟩,
    fun s c q k pre post hs hrun hwait hdom hsquash hrep hdec hover => ?_, fun s c w hwait hdom hover => ?_⟩
  · obtain ⟨hqueue, hrest⟩ := h.qset
    exact ⟨_, _, rfl, hqueue, rfl, rfl, rfl, rfl, rfl, rfl, rfl, rfl, rfl, rfl, rfl, rfl, rfl, hrest⟩
  · obtain ⟨hqueue, hrest⟩ := h.qstop
    refine ⟨s.issue c [⟨.agu, .qstop q⟩], rfl, ?_⟩
    rw [hqueue]
    refine ⟨rfl, rfl, fun r hr => ?_, List.length_map _, hrest⟩
    obtain ⟨r, -, rfl⟩ := List.mem_map.mp hr
    rfl
  · obtain ⟨hqueue, hother, hrf, hpc⟩ := h.push_alone rfl
    refine ⟨_, rfl, hqueue, hother, hrf.trans ?_, hpc, State.Straight.rdByte_issue_of_no_store (pre := []) h rfl rfl⟩
    rw [State.aguCore_of_no_effect rfl]
    rfl
  · obtain ⟨hqueue, hother, -, hpc⟩ := h.push_alone rfl
    have hmem := s.mem_bundleEffs c [] [] ⟨.agu, .qpushm q w y ptr amod⟩
    exact ⟨_, rfl, hqueue, hother,
      fun p hp => h.regAfter_issue (by simp) (State.ea_pointer hp) (List.mem_flatMap.mpr ⟨_, hmem, hp⟩), hpc,
      State.Straight.rdByte_issue_of_no_store (pre := []) h rfl rfl⟩
  · have hstall := State.issue_of_waiting c.isLt hrun hwait hdom hsquash hrep hdec
      (List.mem_append_right _ List.mem_cons_self) hover
    have hcore := hstall.core
    rw [State.core_updCore_same (hs.core_lt c.isLt)] at hcore
    exact ⟨_, rfl, (congrArg CoreSt.wait hcore :), (congrArg CoreSt.pc hcore :), (congrArg CoreSt.rf hcore :),
      (congrArg CoreSt.acc hcore :), hstall.mem⟩
  · have hnext : s.waitBundleIssue c = (s.waitEnd c).issueNow c w.syls := by
      simp [State.waitBundleIssue, hwait, hover, hdom]
    exact congrArg Host.Outcome.next hnext

end Sys2Proof.Machine
end

section
/-! Line events, interrupt entry and the control page of a Rhoif-16 core (07 R187 to R189, R192, R193). -/

namespace Sys2Proof.Machine

section
variable {s : State} {c : Nat}

/-! ### Line events -/

theorem State.evArrive_eq (s : State) (typ tgt arg : Nat) : ∃ l, s.evArrive typ tgt arg = { s with ltb := l } := by
  unfold State.evArrive
  split
  · exact ⟨s.ltb, rfl⟩
  · exact ⟨_, rfl⟩

theorem State.irqEvent_of_on {n : Nat} (hn : n < 16) (hreset : (s.core c).inReset = false) (hdom : s.domRun (coreDom c) = true) :
    s.irqEvent c n = (s.evArrive 0 c n).updCore c fun k => { k with irq := k.irq ||| BitVec.ofNat 16 (2 ^ n) } := by
  unfold State.irqEvent
  obtain ⟨l, hl⟩ := s.evArrive_eq 0 c n
  rw [hl, Nat.mod_eq_of_lt hn]
  exact if_neg (not_or.mpr ⟨Bool.not_eq_true _ ▸ hreset, (Bool.not_eq_false _).mpr hdom⟩)

theorem State.releaseEvent_of_on (arg : Nat) (hreset : (s.core c).inReset = false) (hdom : s.domRun (coreDom c) = true) :
    s.releaseEvent c arg =
      if (s.core c).rel then ((s.evArrive 1 c arg).cntUp (pgCORE c) 0x060 15 0 1).ev (pgCORE c) 3
      else (s.evArrive 1 c arg).updCore c fun k => { k with rel := true } := by
  unfold State.releaseEvent
  obtain ⟨l, hl⟩ := s.evArrive_eq 1 c arg
  rw [hl]
  exact if_neg (not_or.mpr ⟨Bool.not_eq_true _ ▸ hreset, (Bool.not_eq_false _).mpr hdom⟩)

/-! ### Interrupt entry -/

/-- The highest of the first `n` bits set. -/
theorem foldl_highest {p : BitVec 16} {n m : Nat} (hm : m < n) (hset : p.getLsbD m = true)
    (habove : ∀ i, m < i → p.getLsbD i = false) :
    (List.range n).foldl (fun b i => if p.getLsbD i then some i else b) none = some m := by
  induction n with
  | zero => cases hm
  | succ n ih =>
    rw [List.range_succ, List.foldl_append, List.foldl_cons, List.foldl_nil]
    obtain hlt | rfl := Nat.lt_succ_iff_lt_or_eq.mp hm
    · rw [ih hlt, habove n hlt]
      rfl
    · rw [if_pos hset]

theorem State.rg_ipend (s : State) (c : Nat) : s.rg c 0x67 = s.ipend c := rfl

theorem State.irqTaken_eq {n : Nat} (hn : n < 16) (hset : (s.rg c 0x67 &&& s.rg c 0x65).getLsbD n = true)
    (habove : ∀ m, n < m → (s.rg c 0x67 &&& s.rg c 0x65).getLsbD m = false) : s.irqTaken c = some n := by
  rw [State.irqTaken, ← State.rg_ipend]
  exact foldl_highest hn hset habove

/-- IFLG as an interrupt saves it: the flags, and whether a repeat was on. -/
def CoreSt.savedFlags (k : CoreSt) : Half := (k.flgWord &&& 0xFF1F) ||| (if k.rep.isSome then 0x80 else 0)

/-- A core as interrupt `n` enters at `v`: IPC, IFLG and IRPC save what `k0` held, INH is set. -/
def CoreSt.interrupted (k k0 : CoreSt) (n v : Nat) : CoreSt :=
  let k := ((k.put 0x68 k.pc).put 0x69 k0.savedFlags.toNat).put 0x6A ((k0.rep.map Rep.left).getD 0)
  { (k.put 0x66 ((k.rf.getD 0x66 0).toNat + 2)) with
    ipcHi := decide (65536 ≤ k.pc), irq := k.irq &&& ~~~(BitVec.ofNat 16 (2 ^ n)), rep := none, pc := v, redir := true, fbuf := [] }

theorem State.interruptEntry_eq {n : Nat} (hc : c < 5) (htaken : s.irqTaken c = some n) (hrun : (s.core c).run = true)
    (hstep : (s.core c).stepping = false) (hdom : s.domRun (coreDom c) = true) (hint : interruptible (s.core c) = true)
    (hictl : s.rg c 0x66 &&& 3 = 1) (hpc : pcOk c ((s.rg c 0x64).toNat + 8 * n) = true) :
    s.interruptEntry c = (s.waitEnd c).updCore c fun k => k.interrupted (s.core c) n ((s.rg c 0x64).toNat + 8 * n) := by
  have henabled : (s.rg c 0x66).getLsbD 0 = true := by simpa using congrArg (fun w : Half => w.getLsbD 0) hictl
  have hclear : (s.rg c 0x66).getLsbD 1 = false := by simpa using congrArg (fun w : Half => w.getLsbD 1) hictl
  simp only [State.interruptEntry, htaken]
  rw [if_neg (by simp only [henabled, hclear, hrun, hstep, hdom, hint]; simp [hc]), if_neg (by simp [hpc])]
  cases hrep : (s.core c).rep <;> simp [CoreSt.interrupted, CoreSt.savedFlags, hrep]

/-- The registers an interrupt writes. -/
theorem CoreSt.interrupted_rf {k k0 : CoreSt} (hlen : k.rf.length = 0x6C) (n v : Nat) :
    (k.interrupted k0 n v).rf.getD 0x68 0 = BitVec.ofNat 16 k.pc ∧
      (k.interrupted k0 n v).rf.getD 0x69 0 = k0.savedFlags ∧
      (k.interrupted k0 n v).rf.getD 0x6A 0 = BitVec.ofNat 16 ((k0.rep.map Rep.left).getD 0) ∧
      (k.interrupted k0 n v).rf.getD 0x66 0 = k.rf.getD 0x66 0 + 2 ∧
      ∀ i, i < 0x66 → (k.interrupted k0 n v).rf.getD i 0 = k.rf.getD i 0 := by
  have hother : ∀ i, i ≠ 0x66 → i ≠ 0x68 → i ≠ 0x69 → i ≠ 0x6A → (k.interrupted k0 n v).rf.getD i 0 = k.rf.getD i 0 :=
    fun i h6 h8 h9 hA => (CoreSt.put_rf_ne _ _ h6.symm).trans ((CoreSt.put_rf_ne _ _ hA.symm).trans
      ((CoreSt.put_rf_ne _ _ h9.symm).trans (CoreSt.put_rf_ne _ _ h8.symm)))
  refine ⟨?_, ?_, ?_, ?_, fun i hi => hother i (by omega) (by omega) (by omega) (by omega)⟩
  · exact (CoreSt.put_rf_ne _ _ (by decide)).trans ((CoreSt.put_rf_ne _ _ (by decide)).trans
      ((CoreSt.put_rf_ne _ _ (by decide)).trans (CoreSt.put_rf_same _ (by omega) _)))
  · refine (CoreSt.put_rf_ne _ _ (by decide)).trans ((CoreSt.put_rf_ne _ _ (by decide)).trans
      ((CoreSt.put_rf_same _ (by rw [CoreSt.length_put]; omega) _).trans ?_))
    exact (BitVec.ofNat_toNat _ _).trans (BitVec.setWidth_eq _)
  · exact (CoreSt.put_rf_ne _ _ (by decide)).trans (CoreSt.put_rf_same _ (by simp only [CoreSt.length_put]; omega) _)
  · refine (CoreSt.put_rf_same _ (by simp only [CoreSt.length_put]; omega) _).trans ?_
    rw [CoreSt.put_rf_ne _ _ (by decide), CoreSt.put_rf_ne _ _ (by decide), CoreSt.put_rf_ne _ _ (by decide)]
    exact BitVec.eq_of_toNat_eq (by simp [BitVec.toNat_ofNat, BitVec.toNat_add])

/-- IFLG keeps the condition bits and tells a repeat apart. -/
theorem CoreSt.savedFlags_bits (k : CoreSt) :
    k.savedFlags &&& 0x1F = k.flgWord &&& 0x1F ∧ k.savedFlags.getLsbD 7 = k.rep.isSome := by
  unfold CoreSt.savedFlags
  generalize k.flgWord = w
  generalize k.rep.isSome = b
  have hkept : w &&& 0xFF1F &&& 0x1F = w &&& 0x1F := by rw [BitVec.and_assoc]; rfl
  have hrep : (0x1F : Half) &&& (if b then 0x80 else 0) = 0#16 := by cases b <;> rfl
  refine ⟨?_, by cases b <;> simp⟩
  rw [BitVec.and_comm, BitVec.and_or_distrib_left, hrep, BitVec.or_zero, BitVec.and_comm, hkept]

/-- ICTL with IE set and INH clear: an interrupt sets INH. -/
theorem getLsbD_one_add_two {w : Half} (h : w &&& 3 = 1) : (w + 2).getLsbD 1 = true := by
  have hmod : w.toNat % 4 = 1 := (Nat.and_two_pow_sub_one_eq_mod w.toNat 2).symm.trans (congrArg BitVec.toNat h)
  rw [BitVec.getLsbD, Nat.testBit_eq_decide_div_mod_eq, BitVec.toNat_add, decide_eq_true_eq]
  simp only [BitVec.reduceToNat]
  omega

theorem State.wait_waitEnd (hc : c < (s.waitEnd c).cores.length) : ((s.waitEnd c).core c).wait = none := by
  rw [State.length_waitEnd] at hc
  unfold State.waitEnd
  split
  next hnone => exact hnone
  next w _ => exact congrArg CoreSt.wait (State.core_updCore_same hc _)

/-- What a core and its state hold once interrupt `n` has entered at `v`. -/
theorem State.interrupted_fields (s : State) (hs : s.Shape) {n v : Nat} (hc : c < 5) (hictl : s.rg c 0x66 &&& 3 = 1) :
    let t := (s.waitEnd c).updCore c fun k => k.interrupted (s.core c) n v
    (t.core c).pc = v ∧ t.rg c 0x68 = BitVec.ofNat 16 (s.core c).pc ∧ (t.core c).ipcHi = decide (65536 ≤ (s.core c).pc) ∧
      t.rg c 0x69 &&& 0x1F = (s.core c).flgWord &&& 0x1F ∧ (t.rg c 0x69).getLsbD 7 = (s.core c).rep.isSome ∧
      t.rg c 0x6A = BitVec.ofNat 16 (((s.core c).rep.map Rep.left).getD 0) ∧ (t.rg c 0x66).getLsbD 1 = true ∧
      (t.core c).irq = (s.core c).irq &&& ~~~(BitVec.ofNat 16 (2 ^ n)) ∧ (t.core c).rep = none ∧ (t.core c).wait = none ∧
      (t.core c).acc = (s.core c).acc ∧ (∀ k, k < 0x66 → (t.core c).rf.getD k 0 = (s.core c).rf.getD k 0) ∧
      (∀ d, d ≠ c → t.core d = s.core d) ∧ t.mem = s.mem ∧ t.regs = (s.waitEnd c).regs := by
  intro t
  have hend := State.Passed.waitEnd c s
  have hlen : c < (s.waitEnd c).cores.length := s.length_waitEnd c ▸ hs.core_lt hc
  have hcore : t.core c = ((s.waitEnd c).core c).interrupted (s.core c) n v := State.core_updCore_same hlen _
  have harch : ∀ {α : Type} (f : CoreSt → α), (∀ k : CoreSt, f k.arch = f k) → f ((s.waitEnd c).core c) = f (s.core c) :=
    fun f hf => by rw [← hf, hend.core, hf]
  have hpc := harch CoreSt.pc fun _ => rfl
  have hrf := harch CoreSt.rf fun _ => rfl
  obtain ⟨hrlen, -⟩ := s.core_sized hs c
  obtain ⟨h68, h69, h6A, h66, hlow⟩ := CoreSt.interrupted_rf (k0 := s.core c) (hrf ▸ hrlen) n v
  obtain ⟨hflags, hrep⟩ := (s.core c).savedFlags_bits
  rw [State.rg_of_place _ _ (d := 0x68) (by decide) (by decide), State.rg_of_place _ _ (d := 0x69) (by decide) (by decide),
    State.rg_of_place _ _ (d := 0x6A) (by decide) (by decide), State.rg_of_place _ _ (d := 0x66) (by decide) (by decide),
    hcore, h68, h69, h6A, h66]
  refine ⟨rfl, by rw [hpc], ?_, hflags, hrep, rfl, ?_, ?_, rfl, ?_, harch CoreSt.acc fun _ => rfl, fun i hi => ?_,
    fun d hd => (State.core_updCore_ne hd _).trans (hend.others d hd), hend.mem, rfl⟩
  · exact congrArg (fun pc => decide (65536 ≤ pc)) hpc
  · rw [State.rg_of_place _ _ (d := 0x66) (by decide) (by decide)] at hictl
    rw [hrf]
    exact getLsbD_one_add_two hictl
  · exact congrArg (fun irq => irq &&& ~~~(BitVec.ofNat 16 (2 ^ n))) (harch CoreSt.irq fun _ => rfl)
  · exact State.wait_waitEnd hlen
  · rw [hlow i hi, hrf]

/-! ### The control page -/

theorem State.put_core {w : By} {o : Nat} (v : Word) (h : s.Writes w .core (pgCORE c) o) (h4 : o % 4 = 0) (ho : 0x040 ≤ o) :
    s.put w (pgCORE c) o v = (s.coreWrite c o v).answer .ok 0 := by
  rw [State.put_block v h h4 ho (by decide), State.blockWrite, Nat.add_sub_cancel_left]

theorem State.keeperHeld_ctrl (s : State) (c x : Nat) : (s.sf (pgCORE c) 0x040 0 0 x).keeperHeld c = s.keeperHeld c := by
  by_cases hc : c = 4
  · subst hc
    rw [State.keeperHeld, State.keeperHeld, State.f_sf_ne _ _ _ _ _ _ (by decide)]
  · simp [State.keeperHeld, hc]

/-- A core as it starts at `pc`. -/
def CoreSt.started (k : CoreSt) (pc : Nat) : CoreSt :=
  { k with pc := pc, run := true, haltReq := false, stepping := false, pair := false, squash := false, rep := none, wait := none,
           redir := true, fbuf := [] }

/-- The write of CR_CTRL that starts a halted core. -/
theorem State.coreWrite_run (hrun : (s.core c).run = false) (hreset : (s.core c).inReset = false)
    (hheld : s.keeperHeld c = false) (hentry : c = 4 ∨ s.f (pgCORE c) 0x048 15 0 ≤ 0x7FFF) :
    s.coreWrite c 0x040 1 = (s.sf (pgCORE c) 0x040 0 0 1).updCore c fun k =>
      k.started (if c = 4 then 0x10000 else s.f (pgCORE c) 0x048 15 0) := by
  have hkeep := (s.keeperHeld_ctrl c 1).trans hheld
  have hpc : (s.sf (pgCORE c) 0x040 0 0 1).f (pgCORE c) 0x048 15 0 = s.f (pgCORE c) 0x048 15 0 :=
    State.f_sf_ne _ _ _ _ _ _ (by unfold rkey; omega)
  unfold State.coreWrite
  rw [if_pos rfl, if_pos (by decide), if_neg (by omega)]
  refine (if_neg ?_).trans ?_
  · exact not_or.mpr ⟨Bool.not_eq_true _ ▸ hrun, Bool.not_eq_true _ ▸ hreset⟩
  · rw [State.coreStart, hkeep, hpc]
    rfl

/-- The write of CR_CTRL that stops a core at its boundary. -/
theorem State.coreWrite_halt (hc : c < s.cores.length) (hrun : (s.core c).run = true) (hint : interruptible (s.core c) = true) :
    s.coreWrite c 0x040 0 = ((s.sf (pgCORE c) 0x040 0 0 0).updCore c fun k => { k with haltReq := true }).coreStop c 1 := by
  have hcore : ((s.sf (pgCORE c) 0x040 0 0 0).updCore c fun k => { k with haltReq := true }).core c =
      { s.core c with haltReq := true } := State.core_updCore_same hc _
  unfold State.coreWrite
  rw [if_pos rfl, if_neg (by decide), if_neg (by decide), State.coreHaltReq,
    if_pos (show ((s.sf (pgCORE c) 0x040 0 0 0).core c).run = true from hrun), State.boundary, hcore]
  exact if_pos ⟨hrun, rfl, hint⟩

/-- What a core and its state hold once its halt is done. -/
theorem State.halted_fields (s : State) (hc : c < s.cores.length) :
    let t := (((s.sf (pgCORE c) 0x040 0 0 0).updCore c fun k => { k with haltReq := true }).coreStop c 1).answer .ok 0
    (t.core c).run = false ∧ (t.core c).pc = (s.core c).pc ∧ t.f (pgCORE c) 0x040 0 0 = 0 ∧ t.f (pgCORE c) 0x014 1 1 = 1 ∧
      (t.core c).rf = (s.core c).rf ∧ (∀ d, d ≠ c → t.core d = s.core d) ∧ t.mem = s.mem := by
  intro t
  have hlen : c < ((s.sf (pgCORE c) 0x040 0 0 0).updCore c fun k => { k with haltReq := true }).cores.length :=
    (List.length_modify ..).symm ▸ hc
  have hstop := State.Passed.coreStop c ((s.sf (pgCORE c) 0x040 0 0 0).updCore c fun k => { k with haltReq := true }) 1
  have hcore : (t.core c).arch = (s.core c).arch := by
    refine hstop.core.trans ?_
    rw [State.core_updCore_same (s := s.sf (pgCORE c) 0x040 0 0 0) hc]
    rfl
  refine ⟨congrArg CoreSt.run (State.core_coreStop hlen 1), (congrArg CoreSt.pc hcore :), ?_, State.f_coreStop _ _ _ (by decide),
    (congrArg CoreSt.rf hcore :), fun d hd => (hstop.others d hd).trans (State.core_updCore_ne hd _), hstop.mem⟩
  have hctrl := State.r_coreStop ((s.sf (pgCORE c) 0x040 0 0 0).updCore c fun k => { k with haltReq := true }) c (pgCORE c) 1
    (o := 0x040) (by omega) (by omega) (by omega) (by omega)
  refine (congrArg (fun w => fldOf w 0 0) hctrl).trans ?_
  exact s.f_sf_same _ _ 0 0 0 (by decide) le_rfl

/-- Functions that agree on core `c` update it alike. -/
theorem State.updCore_congr {f g : CoreSt → CoreSt} (h : f (s.core c) = g (s.core c)) : s.updCore c f = s.updCore c g := by
  have hcores : s.cores.modify c f = s.cores.modify c g := by
    refine List.ext_getElem? fun i => ?_
    rw [List.getElem?_modify, List.getElem?_modify]
    split
    next hi =>
      subst hi
      cases hk : s.cores[c]? with
      | none => rfl
      | some k =>
        have hcore : s.core c = k := by simp [State.core, List.getD_eq_getElem?_getD, hk]
        rw [hcore] at h
        exact congrArg some h
    · rfl
  rw [State.updCore, hcores, State.updCore]

/-- Steps of a core that does not go on past its bundle. -/
theorem State.stepLoop_of_halts {n : Nat} (hwait : (s.core c).wait = none)
    (hhalt : ((s.issue c (s.bundleAt c 5 (s.core c).pc)).core c).run = false) :
    s.stepLoop (n + 2) c = s.issue c (s.bundleAt c 5 (s.core c).pc) := by
  have hstop : ∀ {u : State} (n : Nat), (u.core c).run = false → u.stepLoop (n + 1) c = u := fun n hu => if_pos (.inl hu)
  cases hrun : (s.core c).run with
  | true =>
    refine (if_neg ?_).trans (hstop n hhalt)
    simp [hrun, hwait]
  | false =>
    rw [hstop _ hrun, State.issue]
    exact (if_pos (.inr (.inl hrun))).symm

/-- The write of CR_CTRL that steps a halted core, where one bundle is the whole step. -/
theorem State.coreWrite_step (hc : c < s.cores.length) (hrun : (s.core c).run = false) (hreset : (s.core c).inReset = false)
    (hheld : s.keeperHeld c = false) (hfresh : (s.core c).fresh = false) (hwait : (s.core c).wait = none)
    (hdom : s.domRun (coreDom c) = true) {u : State}
    (hu : u = (s.sf (pgCORE c) 0x040 0 0 0).updCore c fun k => { k with run := true, stepping := true })
    (hhalt : ((u.issue c (u.bundleAt c 5 (s.core c).pc)).core c).run = false) :
    s.coreWrite c 0x040 2 = u.issue c (u.bundleAt c 5 (s.core c).pc) := by
  have hkeep := (s.keeperHeld_ctrl c 0).trans hheld
  have hcore : u.core c = { s.core c with run := true, stepping := true } := hu ▸ State.core_updCore_same hc _
  have hpc : (u.core c).pc = (s.core c).pc := by rw [hcore]
  unfold State.coreWrite
  rw [if_pos rfl, if_neg (by decide), if_pos (by decide), State.coreHaltReq,
    if_neg (show ¬((s.sf (pgCORE c) 0x040 0 0 0).core c).run = true from Bool.not_eq_true _ ▸ hrun), State.coreStep]
  refine (if_neg ?_).trans ?_
  · exact not_or.mpr ⟨Bool.not_eq_true _ ▸ hrun, not_or.mpr ⟨Bool.not_eq_true _ ▸ hreset, not_or.mpr
      ⟨Bool.not_eq_true _ ▸ hkeep, (Bool.not_eq_false _).mpr hdom⟩⟩⟩
  · rw [State.updCore_congr (g := fun k => { k with run := true, stepping := true }), ← hu, ← hpc]
    · exact State.stepLoop_of_halts ((congrArg CoreSt.wait hcore).trans hwait) (hpc ▸ hhalt)
    · have hnot : ¬(s.core c).fresh = true := by simp [hfresh]
      exact congrArg (fun pc => ({ s.core c with run := true, stepping := true, pc := pc } : CoreSt)) (if_neg hnot)

end

/-- Settles O37: each event or write acts on its core, with what stays named field by field. -/
theorem coresRunHaltAndTakeEvents : Obligations.CoresRunHaltAndTakeEvents := by
  refine ⟨fun s c n hsys hreset hdom => ?_, fun s c arg hsys hreset hdom => ?_,
    fun s c n hs hsys hdom hrun hstep hint hictl hn hset habove hpc => ?_,
    fun s w c hw hs hrun hreset hheld hentry => ?_, fun s w c hw hs hrun hint => ?_,
    fun s w c hw hs hrun hreset hheld hfresh hwait hdom hhalt => ?_, fun s w c hw => ?_⟩
  · refine congrArg Host.Outcome.next ((if_pos hsys).trans ?_)
    exact State.irqEvent_of_on n.isLt hreset hdom
  · refine congrArg Host.Outcome.next ((if_pos hsys).trans ?_)
    exact State.releaseEvent_of_on arg hreset hdom
  · have hentry := State.interruptEntry_eq c.isLt (State.irqTaken_eq hn hset habove) hrun hstep hdom hint hictl hpc
    exact ⟨_, congrArg Host.Outcome.next ((if_pos hsys).trans hentry), s.interrupted_fields hs c.isLt hictl⟩
  · refine ⟨_, congrArg Host.Outcome.next (State.put_core 1 hw rfl le_rfl), ?_⟩
    have hlen := hs.core_lt c.isLt
    have hc : (c = 4) = (c.val = 4) := by simp [Fin.ext_iff]
    rw [State.coreWrite_run hrun hreset hheld (hc ▸ hentry)]
    have hcore := State.core_updCore_same (s := s.sf (pgCORE c) 0x040 0 0 1) hlen
      fun k => k.started (if c.val = 4 then 0x10000 else s.f (pgCORE c) 0x048 15 0)
    refine ⟨congrArg CoreSt.run hcore, (congrArg CoreSt.pc hcore).trans ?_, s.f_sf_same _ _ 0 0 1 (by decide) le_rfl,
      (congrArg CoreSt.rf hcore :), fun d hd => State.core_updCore_ne hd _, rfl⟩
    simp only [CoreSt.started, hc]
  · refine ⟨_, congrArg Host.Outcome.next (State.put_core 0 hw rfl le_rfl), ?_⟩
    have hlen := hs.core_lt c.isLt
    rw [State.coreWrite_halt hlen hrun hint]
    exact s.halted_fields hlen
  · refine congrArg Host.Outcome.next ((State.put_core 2 hw rfl le_rfl).trans ?_)
    rw [State.coreWrite_step (hs.core_lt c.isLt) hrun hreset hheld hfresh hwait hdom rfl hhalt]
  · refine congrArg Host.Outcome.next ((State.put_core 0x80000000 hw rfl (by decide)).trans ?_)
    rfl

end Sys2Proof.Machine
end

section
/-! Requests, answers and time-outs of the queues of a Rhoif-16 core (07 R180, R182, R184, R185, R191). -/

namespace Sys2Proof.Machine

/-! ### How many elements a request takes -/

section
variable {s : State} {x : Queue}

theorem Queue.ew_cases (x : Queue) : x.ew = 1 ∨ x.ew = 2 := by
  unfold Queue.ew
  split
  · exact .inr rfl
  · exact .inl rfl

theorem Queue.ew_pos (x : Queue) : 0 < x.ew := by
  have := x.ew_cases
  omega

theorem State.qClear_le (s : State) (x : Queue) (n : Nat) : s.qClear x n ≤ n := by
  unfold State.qClear
  exact (List.takeWhile_sublist _).length_le.trans_eq List.length_range

/-- The first element lies under no SE window. -/
theorem State.qClear_pos (hse : s.touchesSE x.addr x.eb = false) {n : Nat} (hn : 0 < n) : 0 < s.qClear x n := by
  obtain ⟨n, rfl⟩ := Nat.exists_eq_succ_of_ne_zero hn.ne'
  rw [State.qClear, List.range_succ_eq_map, List.takeWhile_cons_of_pos (by simpa using hse)]
  exact Nat.succ_pos _

/-- An aligned element ends before the next multiple of `2 ^ k` bytes. -/
theorem Queue.aligned_room (halign : x.addr % x.eb = 0) {n : Nat} (hn : n = 64 ∨ n = 256) : 0 < (n - x.addr % n) / x.eb := by
  have hroom : n - x.addr % n = 64 - x.addr % 64 ∨ n - x.addr % n = 256 - x.addr % 256 := by
    obtain rfl | rfl := hn
    · exact .inl rfl
    · exact .inr rfl
  clear hn
  refine Nat.div_pos ?_ (Nat.mul_pos two_pos x.ew_pos)
  have heb : x.eb = 2 ∨ x.eb = 4 := by
    have := x.ew_cases
    unfold Queue.eb
    omega
  obtain heb | heb := heb
  · rw [heb] at halign ⊢
    omega
  · rw [heb] at halign ⊢
    omega

end

/-! ### What the drain of the other queues leaves -/

/-- A queue that issues no write. -/
def Queue.Idle (x : Queue) : Prop := x.dir = false ∨ x.arm = false

theorem State.qWritable_of_idle {x : Queue} (h : x.Idle) (s : State) (flush : Bool) : s.qWritable x flush = 0 := by
  unfold State.qWritable
  exact if_pos (h.elim .inl fun h => .inr (.inl h))

theorem State.qDrain_of_idle {s : State} {c q : Nat} (h : ((s.core c).queue q).Idle) (n : Nat) (flush : Bool) :
    State.qDrain n s c q flush = s := by
  cases n with
  | zero => rfl
  | succ n => exact if_pos (.inl (State.qWritable_of_idle h s flush))

/-- An error clears no event. -/
theorem State.f_err_of_raised (s : State) {p b : Nat} (code info : Nat) (h : s.f p 0x014 b b = 1) :
    (s.err p code info).f p 0x014 b b = 1 := by
  refine State.f_ev_of_raised _ (by decide) ?_
  have hcode : rkey p 0x014 ≠ rkey p 0x028 := by unfold rkey; omega
  have hinfo : rkey p 0x014 ≠ rkey p 0x02C := by unfold rkey; omega
  rw [State.f, State.r_w_ne _ _ hinfo, State.cntUp, State.r_sf_ne _ _ _ _ hcode, State.r_sf_ne _ _ _ _ hcode]
  split
  · exact h
  · rwa [State.r_sf_ne _ _ _ _ hcode]

/-- From `s` to `t` queue `q` of core `c` stands, and so do its error bit and what its error recorded. -/
structure State.Stands (c q : Nat) (s t : State) : Prop where
  length : t.cores.length = s.cores.length
  queue : (t.core c).queue q = (s.core c).queue q
  qe : (s.core c).flg.qe.getLsbD q = true → (t.core c).flg.qe.getLsbD q = true
  event : s.f (pgCORE c) 0x014 2 2 = 1 → t.f (pgCORE c) 0x014 2 2 = 1
  code : s.f (pgCORE c) 0x028 15 0 = 0x4311 → t.f (pgCORE c) 0x028 15 0 = 0x4311
  mem : t.mem = s.mem

namespace State.Stands

variable {c q p : Nat} {s t u : State}

theorem refl (c q : Nat) (s : State) : Stands c q s s := ⟨rfl, rfl, id, id, id, rfl⟩

theorem trans (h : Stands c q s t) (h' : Stands c q t u) : Stands c q s u :=
  ⟨h'.length.trans h.length, h'.queue.trans h.queue, h'.qe ∘ h.qe, h'.event ∘ h.event, h'.code ∘ h.code, h'.mem.trans h.mem⟩

/-- The stop of a queue leaves the others, and its records are those of every stop. -/
theorem qStop (hc : c < s.cores.length) (hp : q ≠ p) (sts : Nat) : Stands c q s (s.qStop c p sts) := by
  have hcore := State.core_qStop hc p sts
  refine ⟨?_, ?_, fun h => ?_, fun _ => ?_, fun _ => State.f_err_code _ _ _ _, ?_⟩
  · exact (congrArg List.length (State.cores_err _ _ _ _)).trans (List.length_modify ..)
  · rw [hcore]
    exact CoreSt.queue_updQ_ne (k := (s.core c).setQe p) hp _
  · rw [hcore]
    exact (BitVec.getLsbD_or ..).trans (by rw [h, Bool.true_or])
  · exact State.f_err_of_raised _ _ _ (State.f_ev_same _ _ (by decide))
  · exact (State.Queued.qStop c s p sts).mem

theorem qMisal (hc : c < s.cores.length) (hp : q ≠ p) : Stands c q s (s.qMisal c p) := by
  have hset : Stands c q s (s.updCore c fun k => k.updQ p fun x => { x with misal := true }) := by
    refine ⟨List.length_modify .., ?_, fun h => ?_, id, id, rfl⟩
    · rw [State.core_updCore_same hc, CoreSt.queue_updQ_ne hp]
    · rw [State.core_updCore_same hc]
      exact h
  exact hset.trans (qStop (hset.length ▸ hc) hp _)

theorem qWrote (hc : c < s.cores.length) (hp : q ≠ p) (m : Nat) : Stands c q s (s.qWrote c p m) := by
  have hasked := State.asked_weltRequest (s.updCore c fun k => k.updQ p fun x => x.written m (s.touchesSE x.addr x.eb)) c 2
    ((s.core c).queue p).cls ((s.core c).queue p).addr (m * ((s.core c).queue p).eb)
    (halfBytes (((s.core c).queue p).buf.take (m * ((s.core c).queue p).ew)))
  have hcore := State.core_qWrote hc p m
  have hreg : ∀ o, o < 4096 → (s.qWrote c p m).r (pgCORE c) o = s.r (pgCORE c) o := fun o ho => by
    refine hasked.reg _ o ho ?_ fun h => ?_
    · unfold coreNi pgNI pgCORE
      repeat' split
      all_goals omega
    · unfold pgCORE pgTEN at h
      omega
  refine ⟨s.length_qWrote c p m, ?_, fun h => ?_, fun h => ?_, fun h => ?_, hasked.mem⟩
  · rw [hcore, CoreSt.queue_updQ_ne hp]
  · rw [hcore]
    exact h
  · rwa [State.f, hreg 0x014 (by decide)]
  · rwa [State.f, hreg 0x028 (by decide)]

/-- The drain of a queue that is another, or that issues nothing. -/
theorem qDrain (hc : c < s.cores.length) (hp : q = p → ((s.core c).queue q).Idle) (n : Nat) (flush : Bool) :
    Stands c q s (State.qDrain n s c p flush) := by
  by_cases hqp : q = p
  · subst hqp
    rw [State.qDrain_of_idle (hp rfl)]
    exact refl c q s
  · clear hp
    induction n generalizing s with
    | zero => exact refl c q s
    | succ n ih =>
      rw [State.qDrain_succ]
      dsimp only
      split
      · exact refl c q s
      split
      · exact qMisal hc hqp
      · have hwrote := qWrote hc hqp (s.qWritable ((s.core c).queue p) flush)
        exact hwrote.trans (ih (hwrote.length ▸ hc))

/-- The drain of every queue, where `q` issues nothing. -/
theorem drainAll (hc : c < s.cores.length) (hidle : ((s.core c).queue q).Idle) (n : Nat) (flush : State → Nat → Bool)
    (l : List Nat) : Stands c q s (l.foldl (fun s p => State.qDrain n s c p (flush s p)) s) := by
  induction l generalizing s with
  | nil => exact refl c q s
  | cons p l ih =>
    have hfirst : Stands c q s (State.qDrain n s c p (flush s p)) := qDrain hc (fun _ => hidle) n _
    exact hfirst.trans (ih (hfirst.length ▸ hc) (hfirst.queue ▸ hidle))

end State.Stands

/-! ### Reads and merged writes -/

section
variable {s : State} {c q : Nat} {x : Queue}

theorem State.Shape.queue_lt (hs : s.Shape) (c : Nat) (hq : q < 4) : q < (s.core c).qs.length := by
  obtain ⟨-, -, hqs, -⟩ := s.core_sized hs c
  omega

/-- A queue once a read of its first `m` elements is on its way. -/
def Queue.asked (x : Queue) (m : Nat) : Queue :=
  { x.advance m with fly := x.fly ++ [⟨x.addr, m * x.ew, false, none, false, false⟩] }

/-- The elements of the next read, outside SE windows. -/
def State.readTop (s : State) (x : Queue) : Nat :=
  s.qClear x (if x.contig then
    min (min (64 / x.eb) ((256 - x.addr % 256) / x.eb)) (min x.cnt ((32 - (x.buf.length + x.owed)) / x.ew)) else 1)

theorem State.readTop_pos (hcnt : 0 < x.cnt) (hroom : x.ew ≤ 32 - (x.buf.length + x.owed)) (halign : x.addr % x.eb = 0)
    (hse : s.touchesSE x.addr x.eb = false) : 0 < s.readTop x := by
  refine State.qClear_pos hse ?_
  split
  · refine lt_min (lt_min (Nat.div_pos ?_ (Nat.mul_pos two_pos x.ew_pos)) (Queue.aligned_room halign (.inr rfl)))
      (lt_min hcnt (Nat.div_pos hroom x.ew_pos))
    have := x.ew_cases
    unfold Queue.eb
    omega
  · exact Nat.one_pos

theorem State.readTop_le (hcnt : 0 < x.cnt) : s.readTop x ≤ x.cnt := by
  refine (s.qClear_le x _).trans ?_
  split
  · exact (min_le_right _ _).trans (min_le_left _ _)
  · exact hcnt

theorem State.queueReadIssue_eq (hx : (s.core c).queue q = x) (hdom : s.domRun (coreDom c) = true) (harm : x.arm = true)
    (hdir : x.dir = false) (hcnt : 0 < x.cnt) (hroom : x.ew ≤ 32 - (x.buf.length + x.owed)) (hwelt : s.qRoom c = true)
    (hfly : x.fly.all (fun r => !r.se || r.void) = true) (halign : x.addr % x.eb = 0)
    (hse : s.touchesSE x.addr x.eb = false) :
    s.queueReadIssue c q = (s.updCore c fun k => k.updQ q fun y => y.asked (s.readTop x)).weltRequest (coreNi c) 0 0 x.cls x.addr
      (s.readTop x * x.eb) [] := by
  have hnone : ¬(x.fly.any fun r => r.se && !r.void) = true := by
    simp only [List.any_eq_true, List.all_eq_true] at hfly ⊢
    rintro ⟨r, hr, hse⟩
    have := hfly r hr
    revert this hse
    cases r.se <;> cases r.void <;> decide
  unfold State.queueReadIssue
  rw [hx]
  refine (if_neg ?_).trans ((if_neg (by simpa using halign)).trans ?_)
  · simp only [hdom, harm, hdir, hwelt, hnone]
    simp only [Bool.true_eq_false, Bool.false_eq_true, false_or, or_false, not_or]
    omega
  · simp only [hse]
    exact if_neg fun h => Bool.false_ne_true h.1

/-- An in-queue's next read (07 R180). -/
theorem State.Shape.queueReadIssue (hs : s.Shape) (hc : c < 5) (hq : q < 4) (hx : (s.core c).queue q = x)
    (hdom : s.domRun (coreDom c) = true) (harm : x.arm = true)
    (hdir : x.dir = false) (hcnt : 0 < x.cnt) (hroom : x.ew ≤ 32 - (x.buf.length + x.owed)) (hwelt : s.qRoom c = true)
    (hfly : x.fly.all (fun r => !r.se || r.void) = true) (halign : x.addr % x.eb = 0)
    (hse : s.touchesSE x.addr x.eb = false) :
    let t := s.queueReadIssue c q
    (t.core c).queue q = x.asked (s.readTop x) ∧ t.mem = s.mem := by
  intro t
  have heq : t = _ := State.queueReadIssue_eq hx hdom harm hdir hcnt hroom hwelt hfly halign hse
  refine ⟨?_, ?_⟩
  · rw [heq, State.core_weltRequest, State.core_updCore_same (hs.core_lt hc), CoreSt.queue_updQ_same (hs.queue_lt c hq), hx]
  · rw [heq]
    exact (State.asked_weltRequest _ c _ _ _ _ _).mem

/-- An aligned element outside SE windows may be written, once its merge is sent off. -/
theorem State.qWritable_flush (harm : x.arm = true) (hdir : x.dir = true) (hcnt : 0 < x.cnt) (hbuf : x.ew ≤ x.buf.length)
    (halign : x.addr % x.eb = 0) (hse : s.touchesSE x.addr x.eb = false) : 0 < s.qWritable x true := by
  have helem : 0 < min (x.buf.length / x.ew) x.cnt := lt_min (Nat.div_pos hbuf x.ew_pos) hcnt
  unfold State.qWritable
  dsimp only
  rw [if_neg (by simp [harm, hdir, helem.ne']), if_neg (by simpa using halign), if_neg (by simp [hse])]
  split
  · rw [if_pos (.inr (.inr (.inr rfl)))]
    exact State.qClear_pos hse (lt_min helem (Queue.aligned_room halign (.inl rfl)))
  · exact Nat.one_pos

/-- An out-queue left alone issues what it merged (07 R182). -/
theorem State.queueMergeTimeout_eq (hx : (s.core c).queue q = x) (hdom : s.domRun (coreDom c) = true)
    (hlate : x.pushed + 32 ≤ s.rhoNow) (hwelt : s.qRoom c = true) (halign : x.addr % x.eb = 0)
    (hpos : 0 < s.qWritable x true) : s.queueMergeTimeout c q = s.qWrote c q (s.qWritable x true) := by
  unfold State.queueMergeTimeout
  rw [hx, if_neg (not_lt.mpr hlate), State.qDrain_succ]
  simp only [hx]
  rw [if_neg (by simp [hpos.ne', hwelt, hdom]), if_neg (by simpa using halign)]
  rfl

/-! ### Answers -/

/-- The drain of every queue of a core, as an answer lets it. -/
def State.drainAll (s : State) (c : Nat) : State :=
  (List.range 4).foldl (fun s p => s.qDrain 32 c p (s.syncing c p)) s

theorem State.stands_drainAll (hc : c < s.cores.length) (hidle : ((s.core c).queue q).Idle) :
    State.Stands c q s (s.drainAll c) :=
  State.Stands.drainAll hc hidle 32 (fun s p => s.syncing c p) _

/-- A queue once the answer to its first request `r`, the words `d`, is in. -/
def Queue.answer (x : Queue) (r : QReq) (d : List Half) : Queue :=
  if r.wr then { x with fly := x.fly.eraseIdx 0 }
  else
    let f := settle (x.fly.set 0 { r with data := some d })
    { x with buf := x.buf ++ f.1, fly := f.2 }

/-- The answer to the only request on its way. -/
theorem Queue.answer_only {r : QReq} (hfly : x.fly = [r]) (hlive : r.wr = true ∨ r.void = false) (d : List Half) :
    x.answer r d = { x with buf := x.buf ++ (if r.wr then [] else d), fly := [] } := by
  unfold Queue.answer
  cases hwr : r.wr with
  | true => simp [hfly]
  | false =>
    have hvoid : r.void = false := hlive.resolve_left (by simp [hwr])
    simp [hfly, settle, hvoid]

/-- A response to the first request of a queue that takes it (07 R185). -/
theorem State.queueResponse_eq {r : QReq} {sts : Nat} {dem late : Bool} {data : List Byte}
    (hfirst : ((s.core c).queue q).fly[0]? = some r) (hdata : r.data = none) (hlive : r.wr = true ∨ r.void = false) :
    let d := if sts = 0 then halves r.words data else List.replicate r.words 0
    let u := s.updCore c fun k => k.updQ q fun x => x.answer r d
    s.queueResponse c q 0 sts dem late data =
      (if sts = 0 then u.updCore c fun k => k.updQ q fun x => { x with dem := x.dem || dem, late := x.late || late }
        else u.qStop c q sts).drainAll c := by
  have hkept : ¬(r.void && !r.wr) = true := by
    obtain hwr | hvoid := hlive
    · simp [hwr]
    · simp [hvoid]
  unfold State.queueResponse
  dsimp only
  split
  next hnone => rw [hnone] at hfirst; cases hfirst
  next r' hsome =>
    obtain rfl := Option.some.inj (hsome.symm.trans hfirst)
    exact (if_neg (by simp [hdata])).trans (if_neg hkept)

theorem State.core_updQ_same {s : State} (hc : c < s.cores.length) (hq : q < (s.core c).qs.length) (f : Queue → Queue) :
    ((s.updCore c fun k => k.updQ q f).core c).queue q = f ((s.core c).queue q) := by
  rw [State.core_updCore_same hc, CoreSt.queue_updQ_same hq]

/-- A good answer: its words, its marks, and nothing else of its queue (07 R185). -/
theorem State.Shape.queueResponse_good (hs : s.Shape) (hc : c < 5) (hq : q < 4) {r : QReq} {dem late : Bool} {data : List Byte}
    (hx : (s.core c).queue q = x) (hfly : x.fly = [r]) (hdata : r.data = none) (hvoid : r.void = false) (hwr : r.wr = false)
    (hdir : x.dir = false) :
    let t := s.queueResponse c q 0 0 dem late data
    (t.core c).queue q =
      { x with buf := x.buf ++ halves r.words data, fly := [], dem := x.dem || dem, late := x.late || late } ∧ t.mem = s.mem := by
  intro t
  have hlen := hs.core_lt hc
  have hqs := hs.queue_lt c hq
  have heq : t = _ := State.queueResponse_eq (s := s) (q := q) (by rw [hx, hfly]; rfl) hdata (.inr hvoid)
  rw [if_pos rfl, if_pos rfl] at heq
  have hqueue := State.core_updQ_same (c := c) (q := q)
    (s := s.updCore c fun k => k.updQ q fun x => x.answer r (halves r.words data)) ((List.length_modify ..).symm ▸ hlen)
    (by rw [State.core_updCore_same hlen, CoreSt.length_qs_updQ]; exact hqs)
    fun x => { x with dem := x.dem || dem, late := x.late || late }
  rw [State.core_updQ_same hlen hqs, hx, Queue.answer_only hfly (.inr hvoid), hwr, if_neg Bool.false_ne_true] at hqueue
  have hstands := State.stands_drainAll (s := (s.updCore c fun k => k.updQ q fun x => x.answer r (halves r.words data)).updCore c
    fun k => k.updQ q fun x => { x with dem := x.dem || dem, late := x.late || late }) (c := c) (q := q)
    (by rw [State.updCore, State.updCore, List.length_modify, List.length_modify]; exact hlen)
    (by rw [hqueue]; exact .inl hdir)
  rw [heq]
  exact ⟨hstands.queue.trans hqueue, hstands.mem⟩

/-- A bad answer stops its queue and records the error (07 R185). -/
theorem State.Shape.queueResponse_bad (hs : s.Shape) (hc : c < 5) (hq : q < 4) {r : QReq} {sts : Nat} {dem late : Bool}
    {data : List Byte} (hx : (s.core c).queue q = x) (hfly : x.fly = [r]) (hdata : r.data = none)
    (hlive : r.wr = true ∨ r.void = false) (hsts : sts ≠ 0) :
    let t := s.queueResponse c q 0 sts dem late data
    (t.core c).queue q =
      { x with buf := x.buf ++ (if r.wr then [] else List.replicate r.words 0), fly := [], arm := false, sts := sts } ∧
      (t.core c).flg.qe.getLsbD q = true ∧ t.f (pgCORE c) 0x014 2 2 = 1 ∧ t.f (pgCORE c) 0x028 15 0 = 0x4311 ∧ t.mem = s.mem := by
  intro t
  have hlen := hs.core_lt hc
  have hqs := hs.queue_lt c hq
  have heq : t = _ := State.queueResponse_eq (s := s) (q := q) (by rw [hx, hfly]; rfl) hdata hlive
  rw [if_neg hsts, if_neg hsts] at heq
  generalize hu : (s.updCore c fun k => k.updQ q fun x => x.answer r (List.replicate r.words 0)) = u at heq
  have hulen : c < u.cores.length := hu ▸ (List.length_modify ..).symm ▸ hlen
  have huqs : q < (u.core c).qs.length := by
    rw [← hu, State.core_updCore_same hlen, CoreSt.length_qs_updQ]
    exact hqs
  have hqueue : (u.core c).queue q = { x with buf := x.buf ++ (if r.wr then [] else List.replicate r.words 0), fly := [] } := by
    rw [← hu, State.core_updQ_same hlen hqs, hx, Queue.answer_only hfly hlive]
  have hstop : ((u.qStop c q sts).core c).queue q =
      { x with buf := x.buf ++ (if r.wr then [] else List.replicate r.words 0), fly := [], arm := false, sts := sts } := by
    rw [State.core_qStop hulen, CoreSt.queue_updQ_same (k := (u.core c).setQe q) huqs]
    exact congrArg (fun x : Queue => { x with arm := false, sts := sts }) hqueue
  have hstands := State.stands_drainAll (s := u.qStop c q sts) (c := c) (q := q)
    (by rw [State.qStop, State.cores_err]; exact (List.length_modify ..).symm ▸ hulen) (by rw [hstop]; exact .inr rfl)
  rw [heq]
  refine ⟨hstands.queue.trans hstop, hstands.qe ?_, hstands.event ?_, hstands.code (State.f_err_code _ _ _ _), ?_⟩
  · rw [State.core_qStop hulen]
    refine (BitVec.getLsbD_or ..).trans ?_
    have hbit : (BitVec.ofNat 4 (2 ^ q)).getLsbD q = true := by
      rw [BitVec.getLsbD_ofNat, Nat.testBit_two_pow_self, decide_eq_true hq, Bool.true_and]
    rw [hbit, Bool.or_true]
  · exact State.f_err_of_raised _ _ _ (State.f_ev_same _ _ (by decide))
  · refine hstands.mem.trans ((State.Queued.qStop c u q sts).mem.trans ?_)
    rw [← hu]
    rfl

end

/-! ### A wait that lasts too long -/

section
variable {s : State} {c : Nat}

/-- From `s` to `t` only the security island's page and state may have changed. -/
structure State.IslandOnly (s t : State) : Prop where
  cores : t.cores = s.cores
  mem : t.mem = s.mem
  reg : ∀ p o, o < 4096 → p ≠ pgSEC → t.r p o = s.r p o

namespace State.IslandOnly

variable {t u : State}

theorem refl (s : State) : s.IslandOnly s := ⟨rfl, rfl, fun _ _ _ _ => rfl⟩

theorem trans (h : s.IslandOnly t) (h' : t.IslandOnly u) : s.IslandOnly u :=
  ⟨h'.cores.trans h.cores, h'.mem.trans h.mem, fun p o ho hp => (h'.reg p o ho hp).trans (h.reg p o ho hp)⟩

theorem w (s : State) {o : Nat} (v : Word) (ho : o < 4096) : s.IslandOnly (s.w pgSEC o v) :=
  ⟨rfl, rfl, fun _ _ ho' hp => s.r_w_ne v (rkey_ne_of_page_ne hp ho ho')⟩

theorem sf (s : State) {o : Nat} (hi lo x : Nat) (ho : o < 4096) : s.IslandOnly (s.sf pgSEC o hi lo x) := w s _ ho

theorem updSec (s : State) (f : Sec → Sec) : s.IslandOnly (s.updSec f) := ⟨rfl, rfl, fun _ _ _ _ => rfl⟩

theorem ev (s : State) (b : Nat) : s.IslandOnly (s.ev pgSEC b) :=
  let h := sf s b b 1 (o := 0x014) (by decide)
  ⟨h.cores, h.mem, h.reg⟩

theorem err (s : State) (code info : Nat) : s.IslandOnly (s.err pgSEC code info) := by
  have hne : ∀ {p o' : Nat} (o : Nat), o < 4096 → o' < 4096 → p ≠ pgSEC → rkey p o' ≠ rkey pgSEC o := fun o ho ho' hp =>
    rkey_ne_of_page_ne hp ho ho'
  refine ⟨State.cores_err _ _ _ _, State.mem_err _ _ _ _, fun p o ho hp => ?_⟩
  exact s.r_err_ne _ _ (hne 0x028 (by decide) ho hp) (hne 0x02C (by decide) ho hp) (hne 0x014 (by decide) ho hp)

theorem zeroise (s : State) : s.IslandOnly s.zeroise := by
  have hfold : ∀ (l : List Nat) (s : State), (∀ n ∈ l, n < 32) →
      s.IslandOnly (l.foldl (fun s n => if (s.kslot n).use 21 then s.setSlot n ⟨0, []⟩ else s) s) := by
    intro l s hl
    induction l generalizing s with
    | nil => exact refl s
    | cons n l ih =>
      rw [List.forall_mem_cons] at hl
      refine trans ?_ (ih _ hl.2)
      dsimp only
      split
      · exact (updSec s _).trans (w _ _ (by omega))
      · exact refl s
  exact hfold _ s fun n hn => List.mem_range.mp hn

theorem evalUpd (s : State) : s.IslandOnly s.evalUpd := by
  have hset := (w s (o := 0x044) (BitVec.ofNat 32 s.evalWhy) (by decide)).trans
    (sf _ (o := 0x040) 0 0 (b2n (decide (s.evalWhy = 0))) (by decide))
  unfold State.evalUpd
  dsimp only
  split
  · exact hset.trans (ev _ _)
  · exact hset

theorem islandFault (s : State) : s.IslandOnly s.islandFault :=
  ((((zeroise s).trans (updSec _ _)).trans (sf _ _ _ _ (by decide))).trans (ev _ _)).trans (err _ _ _) |>.trans (evalUpd _)

end State.IslandOnly

/-- What a fault of a core leaves (07 R191): the core stopped, its cause recorded, the island stopped where it is the Keeper's. -/
theorem State.coreFault_fields (h5 : c < 5) (hc : c < s.cores.length) {cause : Nat} (pc : Nat) :
    let t := s.coreFault c cause pc
    (t.core c).run = false ∧ (t.core c).wait = none ∧ t.r (pgCORE c) 0x04C = BitVec.ofNat 32 (cause * 2 ^ 28 + pc % 2 ^ 17) ∧
      t.f (pgCORE c) 0x014 0 0 = 1 ∧ t.f (pgCORE c) 0x028 15 0 = 0x4310 ∧ (t.core c).rf = (s.core c).rf ∧ t.mem = s.mem := by
  intro t
  generalize hs1 : s.w (pgCORE c) 0x04C (BitVec.ofNat 32 (cause <<< 28 + pc % 2 ^ 17)) = s1
  generalize hs3 : (s1.coreStop c 0).err (pgCORE c) 0x4310 (cause + (pc / 65536 % 2) <<< 4 + (pc % 65536) <<< 16) = s3
  have hlen : c < s1.cores.length := hs1 ▸ hc
  have ht : t = if c = 4 then s3.islandFault else s3 := by rw [← hs3, ← hs1]; rfl
  have hisland : s3.IslandOnly t := by
    rw [ht]
    split
    · exact .islandFault s3
    · exact .refl s3
  have hpage : pgCORE c ≠ pgSEC := by
    unfold pgCORE pgSEC
    omega
  have hreg : ∀ o, o < 4096 → t.r (pgCORE c) o = s3.r (pgCORE c) o := fun o ho => hisland.reg _ o ho hpage
  have hcore : t.core c = (s1.coreStop c 0).core c := by
    rw [State.core, hisland.cores, ← State.core, ← hs3, State.core_err]
  have hstop := State.Passed.coreStop c s1 0
  have hrkey : ∀ o, o < 4096 → o ≠ 0x04C → rkey (pgCORE c) 0x04C ≠ rkey (pgCORE c) o := fun o ho hne => by
    unfold rkey
    omega
  refine ⟨?_, ?_, ?_, ?_, ?_, ?_, ?_⟩
  · rw [hcore, State.core_coreStop hlen]
  · rw [hcore, State.core_coreStop hlen]
    exact State.wait_waitEnd (by rwa [State.length_waitEnd])
  · rw [hreg 0x04C (by decide), ← hs3, State.r_err_ne _ _ _ (hrkey 0x028 (by decide) (by decide))
      (hrkey 0x02C (by decide) (by decide)) (hrkey 0x014 (by decide) (by decide)),
      State.r_coreStop _ _ _ _ (o := 0x04C) (by decide) (by decide) (by decide) (by decide), ← hs1, State.r_w_same,
      Nat.shiftLeft_eq]
  · rw [State.f, hreg 0x014 (by decide), ← State.f, ← hs3]
    exact State.f_err_of_raised _ _ _ (State.f_coreStop _ _ _ (by decide))
  · rw [State.f, hreg 0x028 (by decide), ← State.f, ← hs3]
    exact State.f_err_code _ _ _ _
  · rw [hcore]
    refine (congrArg CoreSt.rf hstop.core :).trans ?_
    rw [← hs1]
    rfl
  · rw [hisland.mem, ← hs3, State.mem_err, hstop.mem, ← hs1]
    rfl

end

/-- Settles O38: what a queue asks for, takes and drops, the drain of the others apart. -/
theorem queueRequestsAndAnswers : Obligations.QueueRequestsAndAnswers := by
  refine ⟨?_, ?_, ?_, ?_, ?_⟩
  · intro s c q hs hdom x harm hdir hcnt hroom hwelt hfly halign hse
    obtain ⟨hqueue, hmem⟩ := hs.queueReadIssue c.isLt q.isLt rfl hdom harm hdir hcnt hroom hwelt hfly halign hse
    refine ⟨s.queueReadIssue c q, s.readTop x, rfl, State.readTop_pos hcnt hroom halign hse, State.readTop_le hcnt, ?_⟩
    rw [hqueue]
    exact ⟨rfl, rfl, rfl, rfl, hmem⟩
  · intro s c q hs hdom x hlate harm hdir hcnt hbuf hwelt halign hse
    have hpos := State.qWritable_flush harm hdir hcnt hbuf halign hse
    have heq := State.queueMergeTimeout_eq (q := q) rfl hdom hlate hwelt halign hpos
    have hqueue : ((s.qWrote c q (s.qWritable x true)).core c).queue q =
        x.written (s.qWritable x true) (s.touchesSE x.addr x.eb) := by
      rw [State.core_qWrote (hs.core_lt c.isLt), CoreSt.queue_updQ_same (hs.queue_lt c q.isLt)]
    refine ⟨_, s.qWritable x true, congrArg Host.Outcome.next heq, hpos, ?_⟩
    rw [hqueue]
    exact ⟨rfl, rfl, List.length_append.trans rfl, (State.asked_weltRequest _ c _ _ _ _ _).mem⟩
  · intro s c q r dem late data hs x hfly hdata hvoid hwr hdir
    obtain ⟨hqueue, hmem⟩ := hs.queueResponse_good (q := q) (dem := dem) (late := late) (data := data) c.isLt q.isLt rfl hfly hdata
      hvoid hwr hdir
    refine ⟨s.queueResponse c q 0 0 dem late data, rfl, ?_⟩
    rw [hqueue]
    exact ⟨rfl, rfl, rfl, rfl, rfl, hmem⟩
  · intro s c q r sts dem late data hs x hfly hdata hlive hsts
    have hne : sts.val ≠ 0 := fun h => hsts (Fin.ext h)
    obtain ⟨hqueue, hqe, hev, hcode, hmem⟩ := hs.queueResponse_bad (q := q) (dem := dem) (late := late) (data := data) c.isLt q.isLt
      rfl hfly hdata hlive hne
    refine ⟨s.queueResponse c q 0 sts dem late data, rfl, ?_⟩
    rw [hqueue]
    exact ⟨rfl, rfl, hqe, rfl, hev, hcode, hmem⟩
  · intro s c w hs hwait hlim hlate hover hqwait
    have heq : s.queueWaitTimeout c = s.coreFault c 7 (s.core c).pc := by
      simp only [State.queueWaitTimeout, hwait]
      exact if_neg (by simp [hover, hqwait]; omega)
    exact ⟨_, congrArg Host.Outcome.next heq, State.coreFault_fields c.isLt (hs.core_lt c.isLt) _⟩

end Sys2Proof.Machine
end

section
/-! Arithmetic of the ALU (08 R203, R209 to R214): the values the model computes, as the rules write them out. -/

namespace Sys2Proof.Machine

/-! ### Sums and differences of words (R209) -/

theorem aluAdd_eq (x y : Half) :
    aluAdd x y = ⟨x + y, some (ovf 16 (x.toInt + y.toInt)), some (decide (65536 ≤ x.toNat + y.toNat))⟩ := by
  have hsum : BitVec.ofNat 16 (x.toNat + y.toNat + 0) = x + y := by
    apply BitVec.eq_of_toNat_eq
    simp
  rw [aluAdd, addWith, hsum]
  rfl

theorem addWith_carry (x y : Half) (ci : Nat) (t : Int) :
    addWith x y ci t = ⟨x + y + BitVec.ofNat 16 ci, some (ovf 16 t), some (decide (65536 ≤ x.toNat + y.toNat + ci))⟩ := by
  have hsum : BitVec.ofNat 16 (x.toNat + y.toNat + ci) = x + y + BitVec.ofNat 16 ci := by
    rw [BitVec.ofNat_add, BitVec.ofNat_add, BitVec.ofNat_toNat, BitVec.ofNat_toNat, BitVec.setWidth_eq, BitVec.setWidth_eq]
  rw [addWith, hsum]

/-- Adding the complement of `y` and a carry of at most 1 subtracts `y` and the borrow. -/
theorem addWith_not (x y : Half) {ci : Nat} (hci : ci ≤ 1) (t : Int) :
    addWith x (~~~y) ci t =
      ⟨x - y - BitVec.ofNat 16 (1 - ci), some (ovf 16 t), some (decide (y.toNat + 1 ≤ x.toNat + ci))⟩ := by
  have hnot := BitVec.toNat_not (x := y)
  have hdiff : x + ~~~y + BitVec.ofNat 16 ci = x - y - BitVec.ofNat 16 (1 - ci) := by
    obtain rfl | rfl : ci = 0 ∨ ci = 1 := by omega
    · bv_omega
    · bv_omega
  have hcarry : (65536 ≤ x.toNat + (~~~y).toNat + ci) = (y.toNat + 1 ≤ x.toNat + ci) := by
    rw [hnot]
    have := y.isLt
    exact propext (by omega)
  rw [addWith_carry, hdiff]
  simp only [hcarry]

theorem aluSub_eq (x y : Half) :
    aluSub x y = ⟨x - y, some (ovf 16 (x.toInt - y.toInt)), some (decide (y.toNat ≤ x.toNat))⟩ := by
  rw [aluSub, addWith_not x y le_rfl]
  simp

/-- The saturating forms take C of the plain ones. -/
theorem aluAdds_eq (x y : Half) : aluSat (x.toInt + y.toInt) (aluAdd x y).c =
    ⟨BitVec.ofInt 16 (clip 16 (x.toInt + y.toInt)), some (ovf 16 (x.toInt + y.toInt)),
      some (decide (65536 ≤ x.toNat + y.toNat))⟩ :=
  congrArg (fun z : Alu => aluSat (x.toInt + y.toInt) z.c) (aluAdd_eq x y)

theorem aluSubs_eq (x y : Half) : aluSat (x.toInt - y.toInt) (aluSub x y).c =
    ⟨BitVec.ofInt 16 (clip 16 (x.toInt - y.toInt)), some (ovf 16 (x.toInt - y.toInt)), some (decide (y.toNat ≤ x.toNat))⟩ :=
  congrArg (fun z : Alu => aluSat (x.toInt - y.toInt) z.c) (aluSub_eq x y)

theorem b2n_le_one (b : Bool) : b2n b ≤ 1 := by cases b <;> decide

/-- NEG overflows on 8000H alone, and borrows from every word but 0. -/
theorem aluSub_zero (x : Half) : aluSub 0 x = ⟨-x, some (x == 0x8000), some (x == 0)⟩ := by
  have hv : ovf 16 (0 - x.toInt) = (x == 0x8000) := by
    rw [ovf, Bool.eq_iff_iff]
    simp only [Bool.or_eq_true, decide_eq_true_eq, beq_iff_eq]
    have htop : (0x8000 : Half).toNat = 32768 := rfl
    have := x.isLt
    rw [← BitVec.toNat_inj, htop, BitVec.toInt_eq_toNat_cond]
    split
    · norm_num
      omega
    · norm_num
      omega
  have hc : decide (x.toNat ≤ 0) = (x == 0) := by
    rw [Bool.eq_iff_iff, decide_eq_true_eq, beq_iff_eq, Nat.le_zero, ← BitVec.toNat_inj]
    rfl
  rw [aluSub_eq]
  refine (congrArg₂ (fun v c => Alu.mk (0 - x) (some v) (some c)) hv hc).trans ?_
  rw [show 0 - x = -x from BitVec.zero_sub x]

/-! ### ABS, MIN and MAX -/

theorem ite_msb_eq_ofInt_natAbs (x : Half) : (if x.msb then -x else x) = BitVec.ofInt 16 (x.toInt.natAbs : Int) := by
  rw [BitVec.msb_eq_toInt]
  by_cases h : x.toInt < 0
  · rw [if_pos (decide_eq_true h), Int.ofNat_natAbs_of_nonpos h.le, BitVec.ofInt_neg, BitVec.ofInt_toInt]
  · rw [if_neg (by simpa using h), Int.natAbs_of_nonneg (not_lt.mp h), BitVec.ofInt_toInt]

theorem ite_le_eq_ofInt_min (x y : Half) : (if x.toInt ≤ y.toInt then x else y) = BitVec.ofInt 16 (min x.toInt y.toInt) := by
  split
  next h => rw [min_eq_left h, BitVec.ofInt_toInt]
  next h => rw [min_eq_right (not_le.mp h).le, BitVec.ofInt_toInt]

theorem ite_le_eq_ofInt_max (x y : Half) : (if x.toInt ≤ y.toInt then y else x) = BitVec.ofInt 16 (max x.toInt y.toInt) := by
  split
  next h => rw [max_eq_right h, BitVec.ofInt_toInt]
  next h => rw [max_eq_left (not_le.mp h).le, BitVec.ofInt_toInt]

/-! ### Shifts (R211) -/

theorem aluAsr_eq (x : Half) (n : Nat) :
    aluAsr x n = ⟨x.sshiftRight n, some false,
      some (if n = 0 then false else if n ≤ 16 then x.getLsbD (n - 1) else x.msb)⟩ := by
  have hc : (if 16 < n then x.msb else decide (1 ≤ n) && x.getLsbD (n - 1)) =
      if n = 0 then false else if n ≤ 16 then x.getLsbD (n - 1) else x.msb := by
    obtain rfl | hn | hn : n = 0 ∨ (1 ≤ n ∧ n ≤ 16) ∨ 16 < n := by omega
    · rfl
    · rw [if_neg (by omega), if_neg (by omega), if_pos hn.2, decide_eq_true hn.1, Bool.true_and]
    · rw [if_pos hn, if_neg (by omega), if_neg (by omega)]
  rw [aluAsr, hc]

/-! ### Leading zeros (R213) -/

/-- Below a sign bit of 0 the redundant sign bits are the zeros above the highest one. -/
theorem rsbFrom_eq_sub_log2 {w : Nat} {x : BitVec w} (hmsb : x.msb = false) (hx : x.toNat ≠ 0) {n : Nat} (hn : x.toNat.log2 < n) :
    rsbFrom x n = n - 1 - x.toNat.log2 := by
  induction n with
  | zero => omega
  | succ n ih =>
    rw [rsbFrom, hmsb]
    obtain hlow | htop := Nat.lt_or_eq_of_le (Nat.le_of_lt_succ hn)
    · have hbit : x.getLsbD n = false := Nat.testBit_lt_two_pow ((Nat.log2_lt hx).mp hlow)
      rw [if_pos hbit, ih hlow]
      omega
    · have hbit : x.getLsbD n = true := by
        rw [← htop]
        exact Nat.testBit_log2 hx
      rw [if_neg (by simp [hbit])]
      omega

theorem clz16_eq (x : Half) : clz16 x = if x = 0 then 16 else 15 - x.toNat.log2 := by
  by_cases hx : x = 0
  · subst hx
    rfl
  have hne : x.toNat ≠ 0 := fun h => hx (BitVec.eq_of_toNat_eq h)
  rw [clz16, if_neg hx, if_neg hx]
  cases hmsb : x.msb with
  | true =>
    have hge : 2 ^ 15 ≤ x.toNat := by simpa [BitVec.msb_eq_decide] using hmsb
    have := (Nat.le_log2 hne).mpr hge
    rw [if_pos rfl]
    omega
  | false =>
    have hlt : x.toNat < 2 ^ 15 := by simpa [BitVec.msb_eq_decide] using hmsb
    have hlog := (Nat.log2_lt hne).mpr hlt
    rw [if_neg Bool.false_ne_true, rsb16, rsbFrom_eq_sub_log2 hmsb hne hlog]
    omega

theorem aluClz_eq (x : Half) : Alu.mk (BitVec.ofNat 16 (clz16 x)) none none =
    ⟨BitVec.ofNat 16 (if x = 0 then 16 else 15 - x.toNat.log2), none, none⟩ :=
  congrArg (fun n => Alu.mk (BitVec.ofNat 16 n) none none) (clz16_eq x)

/-! ### Bit fields (R214) -/

/-- A word read as a signed field of its width. -/
theorem sgn_toNat {w : Nat} (hw : 0 < w) (v : BitVec w) : sgn w v.toNat = v.toInt := by
  have htop : 2 ^ w = 2 * 2 ^ (w - 1) := by rw [← Nat.pow_succ', Nat.succ_eq_add_one, Nat.sub_add_cancel hw]
  rw [sgn, BitVec.toInt_eq_toNat_cond, Nat.mod_eq_of_lt v.isLt]
  exact if_congr (by omega) rfl rfl

theorem bfWidth_pos (imm : Nat) : 0 < bfWidth imm := by
  unfold bfWidth
  omega

theorem bfx_eq (x : Half) (imm : Nat) :
    bfx x imm = if imm % 2 = 1 then (x.extractLsb' (imm / 32 % 16) (bfWidth imm)).signExtend 16
      else (x.extractLsb' (imm / 32 % 16) (bfWidth imm)).setWidth 16 := by
  have hfield : (x >>> (imm / 32 % 16)).toNat % 2 ^ bfWidth imm = (x.extractLsb' (imm / 32 % 16) (bfWidth imm)).toNat := by
    rw [BitVec.toNat_ushiftRight, BitVec.extractLsb'_toNat]
  simp only [bfx, hfield, sgn_toNat (bfWidth_pos imm), BitVec.signExtend, BitVec.ofNat_toNat]

theorem getLsbD_bfx (x : Half) (imm : Nat) {i : Nat} (hi : i < 16) :
    (bfx x imm).getLsbD i = if i < bfWidth imm then x.getLsbD (imm / 32 % 16 + i)
      else decide (imm % 2 = 1) && x.getLsbD (imm / 32 % 16 + bfWidth imm - 1) := by
  have hpos := bfWidth_pos imm
  have hlast : imm / 32 % 16 + (bfWidth imm - 1) = imm / 32 % 16 + bfWidth imm - 1 := (Nat.add_sub_assoc hpos _).symm
  have hin : bfWidth imm - 1 < bfWidth imm := Nat.sub_lt hpos Nat.one_pos
  rw [bfx_eq]
  split
  next hs =>
    simp only [BitVec.getLsbD_signExtend, BitVec.msb_eq_getLsbD_last, BitVec.getLsbD_extractLsb', hi, hs, hin, hlast, decide_true,
      Bool.true_and]
    split
    next h => rw [decide_eq_true h, Bool.true_and]
    next => rfl
  next hs =>
    simp only [BitVec.getLsbD_setWidth, BitVec.getLsbD_extractLsb', hi, hs, decide_true, decide_false, Bool.true_and, Bool.false_and]
    split
    next h => rw [decide_eq_true h, Bool.true_and]
    next h => rw [decide_eq_false h, Bool.false_and]

theorem getLsbD_fieldMask (pos w : Nat) {i : Nat} (hi : i < 16) :
    (fieldMask pos w).getLsbD i = decide (pos ≤ i ∧ i < pos + w) := by
  rw [fieldMask, BitVec.getLsbD_ofNat, Nat.testBit_shiftLeft, Nat.testBit_two_pow_sub_one, decide_eq_true hi, Bool.true_and,
    ← Bool.decide_and]
  exact decide_eq_decide.mpr (by omega)

theorem getLsbD_bfi (d x : Half) (imm : Nat) {i : Nat} (hi : i < 16) :
    (bfi d x imm).getLsbD i = if imm / 32 % 16 ≤ i ∧ i < imm / 32 % 16 + bfWidth imm then x.getLsbD (i - imm / 32 % 16)
      else d.getLsbD i := by
  simp only [bfi, BitVec.getLsbD_or, BitVec.getLsbD_and, BitVec.getLsbD_not, getLsbD_fieldMask _ _ hi, BitVec.getLsbD_shiftLeft,
    hi, decide_true, Bool.true_and]
  split
  next h => simp [decide_eq_true h, not_lt.mpr h.1]
  next h => simp [decide_eq_false h]

end Sys2Proof.Machine
end

section
/-! A syllable of a MAC slot in a bundle, and the obligations on formats A, R and RI (08 R206 to R216). -/

namespace Sys2Proof.Machine

/-! ### A syllable of a MAC slot -/

section
variable {s : State} {c : Nat} {pre post : List Syl} {hi : Bool} {op : Op} {eff : Eff}

/-- What an effect on accumulators and registers below the loop registers leaves, in any bundle. -/
theorem State.Straight.mac_writes (h : s.Straight c (pre ++ ⟨macSlot hi, op⟩ :: post))
    (heff : s.sylEff c ⟨macSlot hi, op⟩ = eff) (haccs : ∀ q ∈ eff.accs, q.1 < 4) (hregs : ∀ q ∈ eff.regs, q.1 < 0x48) :
    (∀ q ∈ eff.accs, accOf ((s.issue c (pre ++ ⟨macSlot hi, op⟩ :: post)).core c) q.1 = q.2) ∧
      ∀ q ∈ eff.regs, s.regAfter (s.issue c (pre ++ ⟨macSlot hi, op⟩ :: post)) c q.1 = q.2 := by
  subst heff
  have hmem := s.mem_bundleEffs c pre post ⟨macSlot hi, op⟩
  exact ⟨fun q hq => h.accOf_issue (by simp) (haccs q hq) (List.mem_flatMap.mpr ⟨_, hmem, hq⟩),
    fun q hq => h.regAfter_issue (by simp) (hregs q hq) (List.mem_flatMap.mpr ⟨_, hmem, hq⟩)⟩

/-- What such an effect leaves where its syllable is alone: flags, BX, and all it does not name. -/
theorem State.Straight.mac_alone (h : s.Straight c [⟨macSlot hi, op⟩]) (heff : s.sylEff c ⟨macSlot hi, op⟩ = eff)
    (hqueue : noQueueOp ⟨macSlot hi, op⟩ = true) (hsize : Syl.size ⟨macSlot hi, op⟩ = 1)
    (hregs : ∀ q ∈ eff.regs, q.1 < 0x48) (hmem : eff.mem = none) {regs : List Nat} (hnamed : ∀ q ∈ eff.regs, q.1 ∈ regs)
    (hdet : 0x56 ∈ regs ∨ eff.det = []) :
    let t := s.issue c [⟨macSlot hi, op⟩]
    (t.core c).flg = (s.core c).flg.after eff.fl ∧
      (t.core c).rf.getD 0x56 0 = BitVec.ofNat 16 (eff.det.foldl min ((s.core c).rf.getD 0x56 0).toNat) ∧
      s.Kept t c 1 regs (eff.accs.map fun q => q.1) [] := by
  subst heff
  obtain ⟨hlen, -⟩ := h.sized
  have hslot : (⟨macSlot hi, op⟩ : Syl).slot ≠ .ctl := macSlot_ne_ctl hi
  refine ⟨h.flg_alone hslot hqueue fun q hq => ?_, ?_, ?_⟩
  · have := hregs q hq
    omega
  · refine (congrArg (fun k : CoreSt => k.rf.getD 0x56 0) (h.core_alone hslot hqueue) :).trans ?_
    refine (CoreSt.applyEffs_bx (s.core c).issuing hlen).trans ?_
    rw [List.flatMap_singleton, List.flatMap_singleton, CoreSt.wrAll_rf_other, CoreSt.accsSet_rf]
    · rfl
    · intro q hq _
      exact physCode_ne (by decide) (by have := hregs q hq; omega)
  · rw [← hsize]
    refine h.kept_alone hslot hqueue (h.holds_applied (fun q hq _ => hnamed q hq) hdet (fun q hq => List.mem_map_of_mem hq)
      fun q hq n hn => absurd hn (pointer_not_mem_accDest (hregs q hq))) fun a _ => State.rdByte_applied_of_no_store ?_ a
    simp [State.bundleEffs, hmem]

end

/-! ### Accumulator instructions (R206 to R208) -/

/-- The effect of an accumulator instruction whose exact value is `x` and whose width is `w`. -/
def accEff (acd w : Nat) (x : Int) : Eff :=
  let v := BitVec.ofInt 40 (if w = 32 then clip 32 x else x)
  { Eff.zero with accs := [(acd, v)], fl := { FlagEff.zn40 v with v := some (ovf w x) } }

theorem accExact_aabs (d a : Int) (r : Half) (n : Int) : accExact .aabs d a r n = (a.natAbs : Int) := by
  change (if a < 0 then -a else a) = (a.natAbs : Int)
  split <;> omega

section
variable {s : State} {c : Nat} {pre post : List Syl} {hi : Bool} {k : AKind} {acd acs r : Nat} {sbx : Bool} {sh : Nat} {det : Bool}
  {i : Instr}

/-- The accumulator a legal syllable of format A names. -/
theorem State.Straight.acd_lt (h : s.Straight c (pre ++ ⟨macSlot hi, .a k acd acs r sbx sh det⟩ :: post)) : acd < 4 := by
  have hwf := h.wf (y := ⟨macSlot hi, .a k acd acs r sbx sh det⟩) (by simp)
  simp only [Syl.wf, opFits, Bool.and_eq_true, decide_eq_true_eq] at hwf
  exact hwf.1.1.1.1

/-- An instruction that writes one accumulator, with the flag effects `fl`. -/
theorem State.Straight.acc_written (h : s.Straight c (pre ++ ⟨macSlot hi, .a k acd acs r sbx sh det⟩ :: post)) {w : BitVec 40}
    {fl : FlagEff} (heff : s.effA c k acd acs r sbx sh det = { Eff.zero with accs := [(acd, w)], fl := fl }) :
    let t := s.issue c (pre ++ ⟨macSlot hi, .a k acd acs r sbx sh det⟩ :: post)
    accOf (t.core c) acd = w ∧
      (pre = [] → post = [] → (t.core c).flg = (s.core c).flg.after fl ∧ s.Kept t c 1 [] [acd] []) := by
  intro t
  obtain ⟨haccs, -⟩ := h.mac_writes heff (List.forall_mem_singleton.mpr h.acd_lt) (List.forall_mem_nil _)
  refine ⟨haccs (acd, w) List.mem_cons_self, ?_⟩
  rintro rfl rfl
  obtain ⟨hflg, -, hkept⟩ := h.mac_alone heff rfl rfl (List.forall_mem_nil _) rfl (regs := []) (List.forall_mem_nil _) (.inr rfl)
  exact ⟨hflg, hkept⟩

/-- ACLR, AMOV, ALD and ALDW: the accumulator and no flag. -/
theorem State.Straight.acc_moved {x : Int}
    (hexec : exec i s = .next (s.issue c (pre ++ ⟨macSlot hi, .a k acd acs r sbx sh det⟩ :: post)))
    (heff : s.effA c k acd acs r sbx sh det = { Eff.zero with accs := [(acd, BitVec.ofInt 40 x)] })
    (h : s.Straight c (pre ++ ⟨macSlot hi, .a k acd acs r sbx sh det⟩ :: post)) :
    ∃ t, exec i s = .next t ∧ accOf (t.core c) acd = BitVec.ofInt 40 x ∧
      (pre = [] → post = [] → (t.core c).flg = (s.core c).flg ∧ s.Kept t c 1 [] [acd] []) := by
  have hdone := h.acc_written (fl := FlagEff.none) heff
  rw [CoreSt.flg_after_none] at hdone
  exact ⟨_, hexec, hdone⟩

/-- An arithmetic instruction whose exact value is `x` and whose width is `w`. -/
theorem State.Straight.acc_computed {x : Int} {w : Nat}
    (hexec : exec i s = .next (s.issue c (pre ++ ⟨macSlot hi, .a k acd acs r sbx sh det⟩ :: post)))
    (heff : s.effA c k acd acs r sbx sh det = accEff acd w x)
    (h : s.Straight c (pre ++ ⟨macSlot hi, .a k acd acs r sbx sh det⟩ :: post)) :
    let f := (s.core c).flg
    let v := BitVec.ofInt 40 (if w = 32 then clip 32 x else x)
    ∃ t, exec i s = .next t ∧ accOf (t.core c) acd = v ∧
      (pre = [] → post = [] → (t.core c).flg = { f with z := v == 0, n := v.msb, v := ovf w x, av := f.av || ovf w x } ∧
        s.Kept t c 1 [] [acd] []) :=
  ⟨_, hexec, h.acc_written heff⟩

theorem State.effA_aabs (s : State) (c acd acs r : Nat) (sbx : Bool) (sh : Nat) (det : Bool) :
    s.effA c .aabs acd acs r sbx sh det = accEff acd 40 ((accOf (s.core c) acs).toInt.natAbs : Int) := by
  rw [← accExact_aabs (accOf (s.core c) acd).toInt _ (s.rg c r) (s.shiftCnt c sbx sh)]
  rfl

/-- ACMP writes the flags of the difference and nothing else. -/
theorem State.Straight.acmp (h : s.Straight c [⟨macSlot hi, .a .acmp acd acs r sbx sh det⟩]) :
    let d := (accOf (s.core c) acd).toInt
    let a := (accOf (s.core c) acs).toInt
    let f := (s.core c).flg
    let t := s.issue c [⟨macSlot hi, .a .acmp acd acs r sbx sh det⟩]
    (t.core c).flg = ⟨decide (d = a), (BitVec.ofInt 40 (d - a)).msb, ovf 40 (d - a),
      decide ((accOf (s.core c) acs).toNat ≤ (accOf (s.core c) acd).toNat), f.av || ovf 40 (d - a), f.qe⟩ ∧
      s.Kept t c 1 [] [] [] := by
  intro d a f t
  obtain ⟨hflg, -, hkept⟩ := h.mac_alone rfl rfl rfl (List.forall_mem_nil _) rfl (regs := []) (List.forall_mem_nil _) (.inr rfl)
  have hz : decide (d - a = 0) = decide (d = a) := decide_eq_decide.mpr sub_eq_zero
  refine ⟨?_, hkept⟩
  rw [← hz]
  exact hflg

/-- NARR narrows the shifted accumulator and may lower BX. -/
theorem State.Straight.narr (h : s.Straight c (pre ++ ⟨macSlot hi, .a .narr acd acs r sbx sh det⟩ :: post)) (hr : r < 0x48) :
    let x := shiftInt (accOf (s.core c) acs).toInt (s.shiftCnt c sbx sh)
    let w := narrow x
    let f := (s.core c).flg
    let t := s.issue c (pre ++ ⟨macSlot hi, .a .narr acd acs r sbx sh det⟩ :: post)
    s.regAfter t c r = w ∧
      (pre = [] → post = [] → (t.core c).flg = ⟨w == 0, w.msb, ovf 32 x, f.c, f.av || ovf 32 x, f.qe⟩ ∧
        (t.core c).rf.getD 0x56 0 = (if det then BitVec.ofNat 16 (min ((s.core c).rf.getD 0x56 0).toNat (rsb16 w))
          else (s.core c).rf.getD 0x56 0) ∧ s.Kept t c 1 [r, 0x56] [] []) := by
  intro x w f t
  have hregs : ∀ q ∈ [(r, w)], q.1 < 0x48 := List.forall_mem_singleton.mpr hr
  obtain ⟨-, hwritten⟩ := h.mac_writes rfl (List.forall_mem_nil _) hregs
  refine ⟨hwritten (r, w) List.mem_cons_self, ?_⟩
  rintro rfl rfl
  obtain ⟨hflg, hbx, hkept⟩ := h.mac_alone rfl rfl rfl hregs rfl (regs := [r, 0x56])
    (List.forall_mem_singleton.mpr List.mem_cons_self) (.inl (by simp))
  refine ⟨hflg, hbx.trans ?_, hkept⟩
  cases det with
  | true => rfl
  | false => exact (BitVec.ofNat_toNat _ _).trans (BitVec.setWidth_eq _)

/-- AEXP writes its register and no flag. -/
theorem State.Straight.aexp (h : s.Straight c (pre ++ ⟨macSlot hi, .a .aexp acd acs r sbx sh det⟩ :: post)) (hr : r < 0x48) :
    let t := s.issue c (pre ++ ⟨macSlot hi, .a .aexp acd acs r sbx sh det⟩ :: post)
    s.regAfter t c r = BitVec.ofInt 16 ((rsb40 (accOf (s.core c) acs) : Int) - 8) ∧
      (pre = [] → post = [] → (t.core c).flg = (s.core c).flg ∧ s.Kept t c 1 [r] [] []) := by
  intro t
  have hregs : ∀ q ∈ [(r, BitVec.ofInt 16 ((rsb40 (accOf (s.core c) acs) : Int) - 8))], q.1 < 0x48 :=
    List.forall_mem_singleton.mpr hr
  obtain ⟨-, hwritten⟩ := h.mac_writes rfl (List.forall_mem_nil _) hregs
  refine ⟨hwritten (r, _) List.mem_cons_self, ?_⟩
  rintro rfl rfl
  obtain ⟨hflg, -, hkept⟩ := h.mac_alone rfl rfl rfl hregs rfl (regs := [r])
    (List.forall_mem_singleton.mpr List.mem_cons_self) (.inr rfl)
  exact ⟨hflg.trans (CoreSt.flg_after_none _), hkept⟩

end

/-- Settles O29: `accEff` is the effect of the arithmetic instructions, by their exact value and width. -/
theorem accumulatorInstructions : Obligations.AccumulatorInstructions := by
  intro s c pre hi acd acs r sbx sh det post d a x n f mk bundle
  refine ⟨?_, ?_, fun h => ⟨_, rfl, ?_⟩, fun h hr => ⟨_, rfl, h.narr hr⟩, fun h hr => ⟨_, rfl, h.aexp hr⟩⟩
  · iterate 4 refine List.forall_mem_cons.mpr ⟨State.Straight.acc_moved rfl rfl, ?_⟩
    exact List.forall_mem_nil _
  · iterate 3 refine List.forall_mem_cons.mpr ⟨State.Straight.acc_computed rfl rfl, ?_⟩
    refine List.forall_mem_cons.mpr ⟨State.Straight.acc_computed rfl (s.effA_aabs c acd acs r sbx sh det), ?_⟩
    iterate 3 refine List.forall_mem_cons.mpr ⟨State.Straight.acc_computed rfl rfl, ?_⟩
    exact List.forall_mem_nil _
  · rintro rfl rfl
    exact h.acmp

/-! ### Formats R and RI (R209 to R215) -/

/-- The effect of an ALU result: Z and N of it, and the destination where `wr`. -/
def Alu.eff (x : Alu) (d : Nat) (wr : Bool) : Eff :=
  { Eff.zero with regs := if wr then [(d, x.r)] else [], fl := { FlagEff.zn x.r with v := x.v, c := x.c } }

theorem State.effR_eq (s : State) (c d a b : Nat) (det : Bool) {k : RKind} (hk : k ≠ .mov ∧ k ≠ .bxdet) :
    s.effR c k d a b det = (aluR k (s.rg c a) (s.rg c b) (s.core c).flg.c).eff d !noDestK k := by
  cases k with
  | mov => exact absurd rfl hk.1
  | bxdet => exact absurd rfl hk.2
  | _ => rfl

theorem noDestK_eq (d a b : Nat) (det : Bool) {k : RKind} (hdet : k ≠ .bxdet) :
    (Op.r k d a b det == .r .cmp d a b det || Op.r k d a b det == .r .tst d a b det) = noDestK k := by
  cases k with
  | bxdet => exact absurd rfl hdet
  | _ => simp [noDestK]

section
variable {s : State} {c : Nat} {pre post : List Syl} {hi : Bool} {op : Op} {d : Nat} {i : Instr}

/-- An ALU result in a bundle, alone or not. -/
theorem State.Straight.alu (h : s.Straight c (pre ++ ⟨macSlot hi, op⟩ :: post)) {x : Alu} {wr : Bool} (hd : d < 0x48)
    (heff : s.sylEff c ⟨macSlot hi, op⟩ = x.eff d wr) (hqueue : noQueueOp ⟨macSlot hi, op⟩ = true)
    (hsize : Syl.size ⟨macSlot hi, op⟩ = 1) :
    let f := (s.core c).flg
    let t := s.issue c (pre ++ ⟨macSlot hi, op⟩ :: post)
    (wr = true → s.regAfter t c d = x.r) ∧
      (pre = [] → post = [] →
        (t.core c).flg = ⟨x.r == 0, x.r.msb, x.v.getD f.v, x.c.getD f.c, f.av || x.v.getD false, f.qe⟩ ∧
        s.Kept t c 1 (if wr then [d] else []) [] []) := by
  intro f t
  have hdest : ∀ q ∈ (x.eff d wr).regs, q.1 = d := by
    cases wr with
    | true => exact List.forall_mem_singleton.mpr rfl
    | false => exact List.forall_mem_nil _
  have hnamed : ∀ q ∈ (x.eff d wr).regs, q.1 ∈ if wr then [d] else [] := by
    cases wr with
    | true => exact List.forall_mem_singleton.mpr List.mem_cons_self
    | false => exact List.forall_mem_nil _
  have hlow : ∀ q ∈ (x.eff d wr).regs, q.1 < 0x48 := fun q hq => (hdest q hq).trans_lt hd
  obtain ⟨-, hwritten⟩ := h.mac_writes heff (List.forall_mem_nil _) hlow
  refine ⟨?_, ?_⟩
  · rintro rfl
    exact hwritten (d, x.r) List.mem_cons_self
  · rintro rfl rfl
    obtain ⟨hflg, -, hkept⟩ := h.mac_alone heff hqueue hsize hlow rfl hnamed (.inr rfl)
    exact ⟨hflg, hkept⟩

/-- An instruction of format R as `aluR` computes it. -/
theorem State.Straight.format_r {k : RKind} {a b : Nat} {det : Bool} {r : Half} {v cy : Option Bool}
    (hexec : exec i s = .next (s.issue c (pre ++ ⟨macSlot hi, .r k d a b det⟩ :: post))) (hk : k ≠ .mov ∧ k ≠ .bxdet)
    (hres : aluR k (s.rg c a) (s.rg c b) (s.core c).flg.c = ⟨r, v, cy⟩)
    (h : s.Straight c (pre ++ ⟨macSlot hi, .r k d a b det⟩ :: post)) (hd : d < 0x48) :
    let f := (s.core c).flg
    let wr := !(Op.r k d a b det == .r .cmp d a b det || Op.r k d a b det == .r .tst d a b det)
    ∃ t, exec i s = .next t ∧ (wr = true → s.regAfter t c d = r) ∧
      (pre = [] → post = [] → (t.core c).flg = ⟨r == 0, r.msb, v.getD f.v, cy.getD f.c, f.av || v.getD false, f.qe⟩ ∧
        s.Kept t c 1 (if wr then [d] else []) [] []) := by
  intro f wr
  have heff : s.sylEff c ⟨macSlot hi, .r k d a b det⟩ = Alu.eff ⟨r, v, cy⟩ d wr := by
    rw [← hres, show wr = !noDestK k from congrArg (!·) (noDestK_eq d a b det hk.2)]
    exact s.effR_eq c d a b det hk
  exact ⟨_, hexec, h.alu hd heff rfl rfl⟩

/-- An instruction of format RI as `aluI` computes it. -/
theorem State.Straight.format_ri {k : IKind} {a b imm : Nat} {det : Bool} {r : Half} {v cy : Option Bool}
    (hexec : exec i s = .next (s.issue c (pre ++ ⟨macSlot hi, .i k d a imm⟩ :: post)))
    (hres : aluI k (s.rg c a) (s.rg c d) imm = ⟨r, v, cy⟩)
    (h : s.Straight c (pre ++ ⟨macSlot hi, .i k d a imm⟩ :: post)) (hd : d < 0x48) :
    let f := (s.core c).flg
    let wr := !(Op.i k d a imm == .r .cmp d a b det || Op.i k d a imm == .r .tst d a b det)
    ∃ t, exec i s = .next t ∧ (wr = true → s.regAfter t c d = r) ∧
      (pre = [] → post = [] → (t.core c).flg = ⟨r == 0, r.msb, v.getD f.v, cy.getD f.c, f.av || v.getD false, f.qe⟩ ∧
        s.Kept t c 1 (if wr then [d] else []) [] []) := by
  have heff : s.sylEff c ⟨macSlot hi, .i k d a imm⟩ = Alu.eff ⟨r, v, cy⟩ d true := by
    rw [← hres]
    rfl
  exact ⟨_, hexec, h.alu hd heff rfl rfl⟩

end

/-- Settles O30: each row's `r`, V and C are what `aluR` and `aluI` compute. -/
theorem registerArithmeticAndShifts : Obligations.RegisterArithmeticAndShifts := by
  intro s c pre hi d a b det imm post x y ci sx sy k f shl shr asr rol mk mi r i
  -- Sums, differences and NEG
  refine List.forall_mem_cons.mpr ⟨State.Straight.format_r rfl (by decide) (aluAdd_eq x y), ?_⟩
  refine List.forall_mem_cons.mpr ⟨State.Straight.format_r rfl (by decide) (aluAdds_eq x y), ?_⟩
  refine List.forall_mem_cons.mpr ⟨State.Straight.format_r rfl (by decide) (addWith_carry x y ci _), ?_⟩
  refine List.forall_mem_cons.mpr ⟨State.Straight.format_r rfl (by decide) (aluSub_eq x y), ?_⟩
  refine List.forall_mem_cons.mpr ⟨State.Straight.format_r rfl (by decide) (aluSubs_eq x y), ?_⟩
  refine List.forall_mem_cons.mpr ⟨State.Straight.format_r rfl (by decide) (addWith_not x y (b2n_le_one _) _), ?_⟩
  refine List.forall_mem_cons.mpr ⟨State.Straight.format_r rfl (by decide) (aluSub_eq x y), ?_⟩
  refine List.forall_mem_cons.mpr ⟨State.Straight.format_r rfl (by decide) (aluSub_zero x), ?_⟩
  -- ABS, MIN and MAX
  refine List.forall_mem_cons.mpr
    ⟨State.Straight.format_r rfl (by decide) (congrArg (Alu.mk · _ none) (ite_msb_eq_ofInt_natAbs x)), ?_⟩
  refine List.forall_mem_cons.mpr
    ⟨State.Straight.format_r rfl (by decide) (congrArg (Alu.mk · none none) (ite_le_eq_ofInt_min x y)), ?_⟩
  refine List.forall_mem_cons.mpr
    ⟨State.Straight.format_r rfl (by decide) (congrArg (Alu.mk · none none) (ite_le_eq_ofInt_max x y)), ?_⟩
  -- AND to TST, then the shifts
  iterate 7 refine List.forall_mem_cons.mpr ⟨State.Straight.format_r rfl (by decide) rfl, ?_⟩
  refine List.forall_mem_cons.mpr ⟨State.Straight.format_r rfl (by decide) (aluAsr_eq x _), ?_⟩
  refine List.forall_mem_cons.mpr ⟨State.Straight.format_r rfl (by decide) rfl, ?_⟩
  -- CLZ and CLS
  refine List.forall_mem_cons.mpr ⟨State.Straight.format_r rfl (by decide) (aluClz_eq x), ?_⟩
  refine List.forall_mem_cons.mpr ⟨State.Straight.format_r rfl (by decide) rfl, ?_⟩
  -- The immediate forms
  iterate 2 refine List.forall_mem_cons.mpr ⟨State.Straight.format_ri rfl rfl, ?_⟩
  refine List.forall_mem_cons.mpr ⟨State.Straight.format_ri rfl (aluAsr_eq x _), ?_⟩
  iterate 2 refine List.forall_mem_cons.mpr ⟨State.Straight.format_ri rfl rfl, ?_⟩
  refine List.forall_mem_cons.mpr ⟨State.Straight.format_ri rfl (aluAdd_eq x k), ?_⟩
  exact List.forall_mem_nil _

/-! ### Bit fields, bytes and detection (R202, R214 to R216) -/

section
variable {s : State} {c : Nat} {pre post : List Syl} {hi : Bool} {d a imm : Nat} {i : Instr}

/-- BFX, BFI and PERM: the result, its Z and N, and nothing else. -/
theorem State.Straight.bit_field {k : IKind} {r : Half} (hres : aluI k (s.rg c a) (s.rg c d) imm = ⟨r, none, none⟩)
    (h : s.Straight c (pre ++ ⟨macSlot hi, .i k d a imm⟩ :: post)) (hd : d < 0x48) :
    let t := s.issue c (pre ++ ⟨macSlot hi, .i k d a imm⟩ :: post)
    s.regAfter t c d = r ∧ (pre = [] → post = [] →
      (t.core c).flg = { (s.core c).flg with z := r == 0, n := r.msb } ∧ s.Kept t c 1 [d] [] []) := by
  have heff : s.sylEff c ⟨macSlot hi, .i k d a imm⟩ = Alu.eff ⟨r, none, none⟩ d true := by
    rw [← hres]
    rfl
  obtain ⟨hreg, halone⟩ := h.alu hd heff rfl rfl
  refine ⟨hreg rfl, fun hpre hpost => ?_⟩
  obtain ⟨hflg, hkept⟩ := halone hpre hpost
  rw [Option.getD_none, Option.getD_none, Option.getD_none, Bool.or_false] at hflg
  exact ⟨hflg, hkept⟩

/-- BXCLR is a move of 15 to BX. -/
theorem State.Straight.bxclr (h : s.Straight c [⟨macSlot hi, .bxclr⟩]) :
    let t := s.issue c [⟨macSlot hi, .bxclr⟩]
    (t.core c).rf.getD 0x56 0 = 15 ∧ (t.core c).flg = (s.core c).flg ∧ s.Kept t c 1 [0x56] [] [] := by
  have hmoved : s.Moved (s.issue c [⟨macSlot hi, .bxclr⟩]) c 0x56 15 :=
    State.Moves.moved ⟨macSlot_ne_ctl hi, rfl, rfl, rfl⟩ h (by decide)
  obtain ⟨hreg, hkept, hflg⟩ := hmoved.plain rfl
  rw [State.regAfter, physCode_of_plain _ (.inr (by decide))] at hreg
  exact ⟨hreg, hflg, hkept⟩

/-- BXDET lowers BX to the redundant sign bits of its source. -/
theorem State.Straight.bxdet {b : Nat} {det : Bool} (h : s.Straight c [⟨macSlot hi, .r .bxdet d a b det⟩]) :
    let t := s.issue c [⟨macSlot hi, .r .bxdet d a b det⟩]
    (t.core c).rf.getD 0x56 0 = BitVec.ofNat 16 (min ((s.core c).rf.getD 0x56 0).toNat (rsb16 (s.rg c a))) ∧
      (t.core c).flg = (s.core c).flg ∧ s.Kept t c 1 [0x56] [] [] := by
  intro t
  obtain ⟨hflg, hbx, hkept⟩ := h.mac_alone rfl rfl rfl (List.forall_mem_nil _) rfl (regs := [0x56]) (List.forall_mem_nil _)
    (.inl List.mem_cons_self)
  exact ⟨hbx, hflg.trans (CoreSt.flg_after_none _), hkept⟩

end

/-- Settles O32: the bits of BFX and BFI, the bytes of PERM, and BX after BXCLR and BXDET. -/
theorem bitFieldsBytesAndDetection : Obligations.BitFieldsBytesAndDetection := by
  refine ⟨fun s c pre hi d a imm post => ⟨fun h hd => ?_, fun h hd => ?_, fun h hd => ?_⟩,
    fun s c hi h => ⟨_, rfl, h.bxclr⟩, fun s c hi d a b det h => ⟨_, rfl, h.bxdet⟩⟩
  · exact ⟨_, _, rfl, h.bit_field rfl hd, fun i => getLsbD_bfx _ imm⟩
  · exact ⟨_, _, rfl, h.bit_field rfl hd, fun i => getLsbD_bfi _ _ imm⟩
  · exact ⟨_, rfl, h.bit_field rfl hd⟩

end Sys2Proof.Machine
end

section
/-! The array between activations (10 R259 to R267): what the end of an activation and the switch cycle write. -/

namespace Sys2Proof.Machine

/-! ### Registers set -/

/-- From `s` to `t` no register has changed but those that `W` names by page and offset, and nothing else at all. -/
structure State.Sets (W : Nat → Nat → Prop) (s t : State) : Prop where
  rest : t.regless = s.regless
  reg : ∀ p o, o < 4096 → ¬ W p o → t.r p o = s.r p o

namespace State.Sets

variable {W : Nat → Nat → Prop} {s t u : State}

theorem refl (W : Nat → Nat → Prop) (s : State) : Sets W s s := ⟨rfl, fun _ _ _ _ => rfl⟩

theorem trans (h : Sets W s t) (h' : Sets W t u) : Sets W s u :=
  ⟨h'.rest.trans h.rest, fun p o ho hn => (h'.reg p o ho hn).trans (h.reg p o ho hn)⟩

theorem w (h : Sets W s t) {p o : Nat} (v : Word) (hw : W p o) (ho : o < 4096) : Sets W s (t.w p o v) := by
  refine h.trans ⟨rfl, fun p' o' ho' hn => t.r_w_ne v fun hk => hn ?_⟩
  obtain ⟨rfl, rfl⟩ := (rkey_inj ho' ho).mp hk
  exact hw

theorem sf (h : Sets W s t) {p o : Nat} (hi lo x : Nat) (hw : W p o) (ho : o < 4096) : Sets W s (t.sf p o hi lo x) :=
  h.w _ hw ho

theorem ev (h : Sets W s t) {p : Nat} (b : Nat) (hw : W p 0x014) : Sets W s (t.ev p b) :=
  let h' := h.sf b b 1 hw (by decide)
  ⟨h'.rest, h'.reg⟩

theorem ite {c : Prop} [Decidable c] {a b : State} (ha : Sets W s a) (hb : Sets W s b) : Sets W s (if c then a else b) := by
  split
  · exact ha
  · exact hb

theorem foldl {α : Type} {f : State → α → State} {l : List α} (hf : ∀ a ∈ l, ∀ s, Sets W s (f s a)) (h : Sets W s t) :
    Sets W s (l.foldl f t) := by
  induction l generalizing t with
  | nil => exact h
  | cons a l ih =>
    rw [List.forall_mem_cons] at hf
    exact ih hf.2 (h.trans (hf.1 t))

theorem field (h : Sets W s t) {p o : Nat} (hi lo : Nat) (ho : o < 4096) (hn : ¬ W p o) : t.f p o hi lo = s.f p o hi lo := by
  rw [State.f, h.reg p o ho hn, State.f]

theorem grv (h : Sets W s t) : t.grv = s.grv := (congrArg State.grv h.rest :)
theorem mem (h : Sets W s t) : t.mem = s.mem := (congrArg State.mem h.rest :)
theorem act (h : Sets W s t) : t.act = s.act := (congrArg State.act h.rest :)

end State.Sets

/-! ### Status words (R267) -/

/-- GRV_STAT for context `n` (8 for none) running, neither done nor halted. -/
def statusWord (v : Word) (n : Nat) : Word := setFldOf (setFldOf (setFldOf v 3 0 n) 4 4 0) 5 5 0

theorem fldOf_statusWord_ctx (v : Word) {n : Nat} (hn : n < 16) : fldOf (statusWord v n) 3 0 = n := by
  rw [statusWord, fldOf_setFldOf_other _ _ _ _ _ _ (by decide) (by decide),
    fldOf_setFldOf_other _ _ _ _ _ _ (by decide) (by decide), fldOf_setFldOf_same _ _ _ _ (by decide) (by decide)]
  exact Nat.mod_eq_of_lt hn

theorem fldOf_statusWord_doneHalt (v : Word) (n : Nat) : fldOf (statusWord v n) 5 4 = 0 := by
  apply Nat.eq_of_testBit_eq
  intro j
  rw [testBit_fldOf, statusWord, getLsbD_setFldOf _ _ _ _ _ (by decide), getLsbD_setFldOf _ _ _ _ _ (by decide), Nat.zero_testBit]
  by_cases hj : j < 2
  · interval_cases j <;> rfl
  · simp [hj]

theorem fldOf_statusWord_lost (v : Word) (n : Nat) : fldOf (statusWord v n) 6 6 = fldOf v 6 6 := by
  rw [statusWord, fldOf_setFldOf_other _ _ _ _ _ _ (by decide) (by decide),
    fldOf_setFldOf_other _ _ _ _ _ _ (by decide) (by decide), fldOf_setFldOf_other _ _ _ _ _ _ (by decide) (by decide)]

/-- The fields of GRV_LAST for a switch. -/
theorem fldOf_last {src n cause : Nat} (rest : Nat) (hsrc : src < 16) (hn : n < 16) (hcause : cause < 16) :
    let w : Word := BitVec.ofNat 32 (src + n <<< 4 + cause <<< 8 + rest <<< 16)
    fldOf w 3 0 = src ∧ fldOf w 7 4 = n ∧ fldOf w 11 8 = cause := by
  simp only [fldOf, BitVec.toNat_ofNat, Nat.shiftLeft_eq, Nat.shiftRight_eq_div_pow]
  omega

/-! ### The end of an activation (R262) -/

theorem State.r_updGrv (s : State) (f : Grv → Grv) (p o : Nat) : (s.updGrv f).r p o = s.r p o := rfl
theorem State.mem_updGrv (s : State) (f : Grv → Grv) : (s.updGrv f).mem = s.mem := rfl
theorem State.act_updGrv (s : State) (f : Grv → Grv) : (s.updGrv f).act = s.act := rfl
theorem State.f_updGrv (s : State) (f : Grv → Grv) (p o hi lo : Nat) : (s.updGrv f).f p o hi lo = s.f p o hi lo := rfl

/-- The array once its activation has ended. -/
def Grv.ended (g : Grv) : Grv :=
  { g with
    tok := [], out := [], acc := [], cnt := [], dup := [], trig := false, cyc := 0, since := none,
    ports := g.ports.map fun q => { GPort.zero with
      fly := (q.fly.filter fun r => r.data.isNone && r.refused.isNone).map fun r => { r with old := true } } }

/-- The registers that take the counts of an activation: EV_RAW, GRV_CYC and GRV_DISC, and GC_PpSTAT of the write ports. -/
def endRegs (p o : Nat) : Prop := p = pgGRV ∧ o ∈ [0x014, 0x04C, 0x050] ∨ p ≠ pgGRV ∧ 0x0F0 ≤ o

theorem State.endActivation_eq (s : State) : ∃ u, s.Sets endRegs u ∧ s.endActivation = u.updGrv Grv.ended := by
  unfold State.endActivation
  extract_lets ctx toks s1 armed s2 s3 c s4
  have h1 : s.Sets endRegs s1 := .sf (.refl _ s) _ _ _ (.inl (by decide)) (by decide)
  have h2 : s.Sets endRegs s2 := .ite (h1.ev _ (.inl (by decide))) h1
  have h3 : s.Sets endRegs s3 := by
    refine .foldl (fun p hp t => ?_) h2
    have hoff : 0x0F0 ≤ gpStat p ∧ gpStat p < 4096 := by
      revert p
      decide
    have hpage : pgGCTX (ctx % 8) ≠ pgGRV := by
      unfold pgGCTX pgGRV
      omega
    exact .sf (.sf (.refl _ t) _ _ _ (.inr ⟨hpage, hoff.1⟩) hoff.2) _ _ _ (.inl (by decide)) (by decide)
  have h4 : s.Sets endRegs s4 := .ite (h3.w _ (.inl (by decide)) (by decide)) h3
  exact ⟨s4, h4, rfl⟩

/-! ### The switch cycle (R260, R262) -/

/-- The page of context `n` at a switch into it: its index goes on, its commit is noted, its port statuses are cleared. -/
def State.switchPage (s : State) (n : Nat) : State :=
  let u := s.sf (pgGCTX n) 0x04C 11 0 (s.f (pgGCTX n) 0x04C 11 0 + 1)
  let u := (u.sf (pgGCTX n) 0x040 1 1 0).sf (pgGCTX n) 0x040 15 8 (u.f (pgGCTX n) 0x040 15 8 + 1)
  (List.range 8).foldl (fun u p => u.w (pgGCTX n) (gpStat p) 0) u

/-- The configuration of context `n` runs, its ports set up for activation `k`. -/
def State.switchArray (s : State) (n k : Nat) : State :=
  let c := s.grv.store.getD n GCtx.zero
  let prime := (c.cells.filter fun e => recF e.2 68 68 == 1 && !s.isFused e.1).map fun e =>
    (e.1, [BitVec.ofNat 16 (recF e.2 106 91)])
  s.updGrv fun g => { g with
    act := c, rf := rfInit c, ports := (List.range 8).map fun p => s.loadPort n k p (s.gport p).fly, out := prime, ovf := 0,
    trig := false, since := some s.grvNow }

/-- GRV_STAT, GRV_SWCNT and the event of a switch into context `n`. -/
def State.switchShown (s : State) (n : Nat) : State :=
  let u := s.w pgGRV 0x044 (statusWord (s.r pgGRV 0x044) n)
  (u.w pgGRV 0x054 (u.r pgGRV 0x054 + 1)).ev pgGRV 0

/-- GRV_LAST of a switch from the running context into `n`. -/
def State.lastWord (s : State) (n cause : Nat) : Word :=
  BitVec.ofNat 32 (s.actx + n <<< 4 + cause <<< 8 + s.grv.ovf <<< 16)

theorem State.doSwitch_eq (s : State) (n cause : Nat) :
    s.doSwitch n cause =
      let u := s.endActivation.w pgGRV 0x05C (s.lastWord n cause)
      ((u.switchPage n).switchArray n (u.f (pgGCTX n) 0x04C 11 0)).switchShown n := rfl

theorem State.sets_switchPage (s : State) (n : Nat) : s.Sets (fun p _ => p = pgGCTX n) (s.switchPage n) := by
  have hset : ∀ (t : State) {o : Nat} (hi lo x : Nat), o < 4096 →
      t.Sets (fun p _ => p = pgGCTX n) (t.sf (pgGCTX n) o hi lo x) := fun t _ _ _ _ ho => .sf (.refl _ t) _ _ _ rfl ho
  unfold State.switchPage
  extract_lets u1 u2
  have hfields : s.Sets (fun p _ => p = pgGCTX n) u2 :=
    ((hset s _ _ _ (by decide)).trans (hset u1 _ _ _ (by decide))).trans (hset _ _ _ _ (by decide))
  refine .foldl (fun p hp t => .w (.refl _ t) _ rfl ?_) hfields
  have := List.mem_range.mp hp
  unfold gpStat
  omega

theorem State.index_switchPage (s : State) (n : Nat) :
    (s.switchPage n).f (pgGCTX n) 0x04C 11 0 = (s.f (pgGCTX n) 0x04C 11 0 + 1) % 4096 := by
  have hctl : rkey (pgGCTX n) 0x04C ≠ rkey (pgGCTX n) 0x040 := by
    unfold rkey
    omega
  unfold State.switchPage
  extract_lets u1 u2
  have hstats : u2.Sets (fun _ o => 0x070 ≤ o) ((List.range 8).foldl (fun u p => u.w (pgGCTX n) (gpStat p) 0) u2) := by
    refine .foldl (fun p hp t => .w (.refl _ t) _ (Nat.le_add_right ..) ?_) (.refl _ u2)
    have := List.mem_range.mp hp
    unfold gpStat
    omega
  rw [hstats.field 11 0 (by decide) (by decide), State.f_sf_ne _ _ _ _ _ _ hctl, State.f_sf_ne _ _ _ _ _ _ hctl,
    State.f_sf_same _ _ _ _ _ _ (by decide) (by decide)]
  rfl

theorem State.r_switchArray (s : State) (n k p o : Nat) : (s.switchArray n k).r p o = s.r p o := s.r_updGrv _ p o

theorem State.gport_switchArray (s : State) (n k : Nat) {p : Nat} (hp : p < 8) :
    (s.switchArray n k).gport p = s.loadPort n k p (s.gport p).fly := by
  unfold State.gport State.switchArray State.updGrv
  simp [List.getD_eq_getElem?_getD, hp, State.gport]

theorem State.sets_switchShown (s : State) (n : Nat) :
    s.Sets (fun p o => p = pgGRV ∧ o ∈ [0x014, 0x044, 0x054]) (s.switchShown n) :=
  .ev (.w (.w (.refl _ s) _ ⟨rfl, by decide⟩ (by decide)) _ ⟨rfl, by decide⟩ (by decide)) _ ⟨rfl, by decide⟩

theorem State.stat_switchShown (s : State) (n : Nat) : (s.switchShown n).r pgGRV 0x044 = statusWord (s.r pgGRV 0x044) n := by
  unfold State.switchShown
  rw [State.r_ev_ne _ _ (by decide), State.r_w_ne _ _ (by decide), State.r_w_same]

theorem State.count_switchShown (s : State) (n : Nat) : (s.switchShown n).r pgGRV 0x054 = s.r pgGRV 0x054 + 1 := by
  unfold State.switchShown
  rw [State.r_ev_ne _ _ (by decide), State.r_w_same, State.r_w_ne _ _ (by decide)]

/-- `x` is `s` once its activation has ended for a switch into context `n` and the switch is recorded. -/
structure State.Leaves (s x : State) (n cause : Nat) : Prop where
  grv : x.grv = s.grv.ended
  mem : x.mem = s.mem
  act : x.act = s.act
  stat : x.r pgGRV 0x044 = s.r pgGRV 0x044
  count : x.r pgGRV 0x054 = s.r pgGRV 0x054
  last : x.r pgGRV 0x05C = s.lastWord n cause
  index : x.f (pgGCTX n) 0x04C 11 0 = (s.f (pgGCTX n) 0x04C 11 0 + 1) % 4096

theorem State.doSwitch_leaves (s : State) {n : Nat} (cause : Nat) (hn : n < 8) :
    ∃ x k, s.Leaves x n cause ∧ s.doSwitch n cause = (x.switchArray n k).switchShown n := by
  obtain ⟨u, hended, heq⟩ := s.endActivation_eq
  rw [State.doSwitch_eq, heq]
  extract_lets v
  have hpage := v.sets_switchPage n
  have hgrvPage : pgGRV ≠ pgGCTX n := by
    unfold pgGCTX pgGRV
    omega
  have hreg : ∀ o, o < 4096 → o ≠ 0x05C → ¬ endRegs pgGRV o → (v.switchPage n).r pgGRV o = s.r pgGRV o := by
    intro o ho hne hend
    have hv : v.r pgGRV o = u.r pgGRV o := State.r_w_ne (u.updGrv Grv.ended) _ fun hk => hne ((rkey_inj ho (by decide)).mp hk).2
    rw [hpage.reg pgGRV o ho hgrvPage, hv, hended.reg pgGRV o ho hend]
  have hindex : v.f (pgGCTX n) 0x04C 11 0 = s.f (pgGCTX n) 0x04C 11 0 := by
    rw [State.f, State.r_w_ne _ _ (rkey_ne_of_page_ne hgrvPage.symm (by decide) (by decide)), State.r_updGrv, ← State.f]
    exact hended.field _ _ (by decide) (by unfold endRegs; omega)
  have hgrv : v.grv = s.grv.ended := congrArg Grv.ended hended.grv
  have hmem : v.mem = s.mem := (State.mem_w ..).trans ((State.mem_updGrv ..).trans hended.mem)
  have hact : v.act = s.act := (State.act_w ..).trans ((State.act_updGrv ..).trans hended.act)
  refine ⟨v.switchPage n, v.f (pgGCTX n) 0x04C 11 0, ⟨hpage.grv.trans hgrv, hpage.mem.trans hmem, hpage.act.trans hact,
    hreg 0x044 (by decide) (by decide) (by unfold endRegs; decide), hreg 0x054 (by decide) (by decide) (by unfold endRegs; decide),
    ?_, ?_⟩, rfl⟩
  · rw [hpage.reg pgGRV 0x05C (by decide) hgrvPage]
    exact State.r_w_same _ _ _ _
  · rw [State.index_switchPage, hindex]

/-- A switch into context `n` does what R260 and R262 say, and GRV_STAT keeps SWLOST. -/
theorem State.switched_doSwitch (s : State) {n cause : Nat} (hn : n < 8) (hcause : cause < 16) :
    s.Switched (s.doSwitch n cause) n cause ∧ (s.doSwitch n cause).f pgGRV 0x044 6 6 = s.f pgGRV 0x044 6 6 := by
  obtain ⟨x, k, hx, heq⟩ := s.doSwitch_leaves cause hn
  rw [heq]
  have hshown := (x.switchArray n k).sets_switchShown n
  have harray : ((x.switchArray n k).switchShown n).grv = (x.switchArray n k).grv := hshown.grv
  have hstore : (x.switchArray n k).grv.store = s.grv.store := (congrArg Grv.store hx.grv :)
  have hstat : ((x.switchArray n k).switchShown n).r pgGRV 0x044 = statusWord (s.r pgGRV 0x044) n := by
    rw [State.stat_switchShown, State.r_switchArray, hx.stat]
  have hlast : ((x.switchArray n k).switchShown n).r pgGRV 0x05C = s.lastWord n cause := by
    rw [hshown.reg pgGRV 0x05C (by decide) (by decide), State.r_switchArray, hx.last]
  obtain ⟨hfrom, hinto, hwhy⟩ := fldOf_last s.grv.ovf (fldOf_lt _ _ _ : s.actx < 16) (by omega : n < 16) hcause
  simp only [State.Switched, State.actx, State.gport, harray, State.f, hstat, hlast]
  refine ⟨⟨fldOf_statusWord_ctx _ (by omega), ?_, (congrArg Grv.tok hx.grv :), (congrArg Grv.acc hx.grv :), rfl, rfl,
    fun p hp => ?_, fldOf_statusWord_doneHalt _ _, hfrom, hinto, hwhy, ?_, ?_, State.f_ev_same _ _ (by decide),
    (congrArg Grv.tile hx.grv :), hstore, ?_, ?_⟩, fldOf_statusWord_lost _ _⟩
  · rw [← hstore]
    rfl
  · rw [← State.gport, State.gport_switchArray _ _ _ hp]
    exact ⟨rfl, rfl, rfl⟩
  · rw [State.count_switchShown, State.r_switchArray, hx.count]
  · rw [hshown.reg (pgGCTX n) 0x04C (by decide) (by unfold pgGCTX pgGRV; omega), State.r_switchArray]
    exact hx.index
  · rw [hshown.mem]
    exact hx.mem
  · rw [hshown.act]
    exact hx.act

end Sys2Proof.Machine
end

section
/-! Triggers, the commands of the array's pages, and the end of the work of an activation (10 R260 to R267). -/

namespace Sys2Proof.Machine

/-! ### Triggers (R260, R261) -/

/-- A trigger is judged: one of lower rank, a queue trigger that waits among them, is lost and sets SWLOST. -/
def State.triggered (s : State) (lost : Bool) : State :=
  (if lost ∨ s.grv.trig = true then s.sf pgGRV 0x044 6 6 1 else s).updGrv fun g => { g with trig := false }

/-- Nothing but GRV_STAT and the request of the queue trigger has changed. -/
theorem State.triggered_eq (s : State) (lost : Bool) :
    ∃ l, s.triggered lost = { s with regs := l, grv := { s.grv with trig := false } } := by
  unfold State.triggered
  split
  · exact ⟨_, rfl⟩
  · exact ⟨_, rfl⟩

theorem State.r_triggered (s : State) (lost : Bool) {p o : Nat} (ho : o < 4096) (hne : ¬(p = pgGRV ∧ o = 0x044)) :
    (s.triggered lost).r p o = s.r p o := by
  unfold State.triggered
  rw [State.r_updGrv]
  split
  · exact State.r_sf_ne _ _ _ _ fun hk => hne ((rkey_inj ho (by decide)).mp hk)
  · rfl

theorem State.actx_triggered (s : State) (lost : Bool) : (s.triggered lost).actx = s.actx := by
  rw [State.triggered, State.actx, State.f_updGrv]
  split
  · exact State.f_sf_other _ _ (by decide) (by decide)
  · rfl

theorem State.lost_triggered (s : State) {lost : Bool} (h : lost = true ∨ s.grv.trig = true) :
    (s.triggered lost).f pgGRV 0x044 6 6 = 1 := by
  rw [State.triggered, State.f_updGrv, if_pos h]
  exact State.f_sf_same _ _ _ _ _ _ (by decide) (by decide)

/-- The reason for a refusal rests on the tenant table, the context's VALID, the tiles' owners, the store and the domain. -/
theorem State.switchReason_congr {s u : State} {n : Nat} (hn : n < 8)
    (hreg : ∀ p o, o < 4096 → ¬(p = pgGRV ∧ o = 0x044) → u.r p o = s.r p o) (hstore : u.grv.store = s.grv.store)
    (hgrade : u.grade = s.grade) (hdoms : u.doms = s.doms) (t : Nat) : u.switchReason t n = s.switchReason t n := by
  have hholder : u.ctxHolder n = s.ctxHolder n := by
    unfold State.ctxHolder State.holder
    refine congrArg (·.getD 0) (List.find?_congr fun t ht => ?_)
    obtain ⟨i, hi, rfl⟩ := List.mem_map.mp ht
    have := List.mem_range.mp hi
    unfold State.bitHeldBy State.f
    rw [hreg pgTEN _ (by omega) fun h => absurd h.1 (by decide)]
  have howner : u.owner (pgGCTX n) = s.owner (pgGCTX n) := by
    unfold State.owner State.f
    rw [hgrade, hreg pgTEN _ (by unfold pgGCTX; omega) fun h => absurd h.1 (by decide)]
  have hvalid : u.f (pgGCTX n) 0x040 0 0 = s.f (pgGCTX n) 0x040 0 0 := by
    rw [State.f, hreg _ _ (by decide) fun h => absurd h.2 (by decide), State.f]
  have htiles : ∀ m, u.f pgGRV 0x058 (4 * m + 3) (4 * m) = s.f pgGRV 0x058 (4 * m + 3) (4 * m) := fun m => by
    rw [State.f, hreg _ _ (by decide) (by decide), State.f]
  have harray : u.arrayOn = s.arrayOn := by
    unfold State.arrayOn State.domRun State.dom
    rw [hdoms]
  unfold State.switchReason
  simp only [hholder, howner, hvalid, htiles, hstore, harray]

theorem State.switchReason_triggered (s : State) {n : Nat} (hn : n < 8) (t : Nat) (lost : Bool) :
    (s.triggered lost).switchReason t n = s.switchReason t n := by
  obtain ⟨l, hl⟩ := s.triggered_eq lost
  refine State.switchReason_congr hn (fun p o ho hne => s.r_triggered lost ho hne) ?_ ?_ ?_ t
  all_goals rw [hl]

/-- A switch into context `n` is refused for `reason`. -/
def State.switchRefused (s : State) (t n cause reason : Nat) : State :=
  let u := if reason = 1 then s.violation 3 t 17 n 0 true else s
  let v := u.w pgGRV 0x05C (BitVec.ofNat 32 (u.actx + n <<< 4 + cause <<< 8 + reason <<< 12 + u.f pgGRV 0x05C 31 16 <<< 16))
  (v.ev pgGRV 6).err pgGRV 0x1410 (v.actx + n <<< 4 + cause <<< 8 + reason <<< 12)

theorem State.trigger_eq (s : State) {n : Nat} (t cause : Nat) (lost : Bool) (hn : n < 8) :
    s.trigger t n cause lost =
      (s.switchReason t n).elim ((s.triggered lost).doSwitch n cause) ((s.triggered lost).switchRefused t n cause) := by
  rw [← s.switchReason_triggered hn t lost]
  unfold State.trigger
  dsimp only
  split
  next h => rw [show (s.triggered lost).switchReason t n = none from h, Option.elim_none, State.triggered]
  next r h =>
    rw [show (s.triggered lost).switchReason t n = some r from h]
    rfl

/-- A trigger no reason of R261 refuses switches. -/
theorem State.switched_trigger (s : State) {t n cause : Nat} (lost : Bool) (hn : n < 8) (hcause : cause < 16)
    (h : s.switchReason t n = none) :
    s.Switched (s.trigger t n cause lost) n cause ∧
      (lost = true ∨ s.grv.trig = true → (s.trigger t n cause lost).f pgGRV 0x044 6 6 = 1) := by
  rw [s.trigger_eq t cause lost hn, h, Option.elim_none]
  obtain ⟨hswitch, hlost⟩ := (s.triggered lost).switched_doSwitch hn hcause
  refine ⟨?_, fun hany => hlost.trans (s.lost_triggered hany)⟩
  have hindex : (s.triggered lost).f (pgGCTX n) 0x04C 11 0 = s.f (pgGCTX n) 0x04C 11 0 := by
    rw [State.f, s.r_triggered lost (by decide) fun h => absurd h.2 (by decide), State.f]
  obtain ⟨l, hl⟩ := s.triggered_eq lost
  have hstore : (s.triggered lost).grv.store = s.grv.store := by rw [hl]
  have htile : (s.triggered lost).grv.tile = s.grv.tile := by rw [hl]
  have hmem : (s.triggered lost).mem = s.mem := by rw [hl]
  have hact : (s.triggered lost).act = s.act := by rw [hl]
  rwa [State.Switched, hindex, s.r_triggered lost (p := pgGRV) (o := 0x054) (by decide) (by decide), s.actx_triggered lost, hstore,
    htile, hmem, hact] at hswitch

theorem State.grv_violation (s : State) (kind tnt ni det addr : Nat) (record : Bool) :
    (s.violation kind tnt ni det addr record).grv = s.grv := by
  unfold State.violation
  dsimp only
  split_ifs
  all_goals rfl

/-- A trigger that is refused leaves the array, raises the event and records the error. -/
theorem State.refused_trigger (s : State) {t n r : Nat} (cause : Nat) (lost : Bool) (ht : t < 16) (hn : n < 8)
    (h : s.switchReason t n = some r) :
    let u := s.trigger t n cause lost
    u.grv = { s.grv with trig := false } ∧ u.actx = s.actx ∧ u.f pgGRV 0x014 6 6 = 1 ∧
      (lost = true ∨ s.grv.trig = true → u.f pgGRV 0x044 6 6 = 1) ∧ u.f pgGRV 0x028 15 0 = 0x1410 ∧ u.mem = s.mem := by
  rw [s.trigger_eq t cause lost hn, h, Option.elim_some]
  unfold State.switchRefused
  extract_lets u v
  have hgrv : u.grv = (s.triggered lost).grv := by
    unfold u
    split
    · exact State.grv_violation ..
    · rfl
  have hasked : State.Asked 0 (s.triggered lost) u := .ite (.violation 0 _ _ _ _ _ _ ht) (.refl 0 _)
  have hstat : ∀ x, ((v.ev pgGRV 6).err pgGRV 0x1410 x).r pgGRV 0x044 = (s.triggered lost).r pgGRV 0x044 := fun x => by
    rw [State.r_err_ne _ _ _ (by decide) (by decide) (by decide), State.r_ev_ne _ _ (by decide), State.r_w_ne _ _ (by decide)]
    exact hasked.reg pgGRV 0x044 (by decide) (by decide) (by decide)
  obtain ⟨l, hl⟩ := s.triggered_eq lost
  refine ⟨?_, ?_, State.f_err_of_raised _ _ _ (State.f_ev_same _ _ (by decide)), fun hany => ?_, State.f_err_code .., ?_⟩
  · rw [State.grv_err, State.grv_ev, State.grv_w, hgrv, hl]
  · rw [State.actx, State.f, hstat, ← State.f]
    exact s.actx_triggered lost
  · rw [State.f, hstat, ← State.f, s.lost_triggered hany]
  · rw [State.mem_err, State.mem_ev, State.mem_w, hasked.mem, hl]

/-- The queue trigger that DONE asked for switches to the next context. -/
theorem State.switched_queueTrigger {s : State} {n : Nat} (hctx : s.actx < 8) (hdone : s.f pgGRV 0x044 4 4 = 1)
    (htrig : s.grv.trig = true) (hnext : s.f (pgGCTX s.actx) 0x048 2 0 = n)
    (hreason : s.switchReason (s.ctxHolder s.actx) n = none) : s.Switched s.queueTrigger n 3 := by
  generalize hu : (s.updGrv fun g => { g with trig := false }) = u
  have hn : n < 8 := hnext ▸ fldOf_lt _ _ _
  have heq : s.queueTrigger = u.trigger (s.ctxHolder s.actx) n 3 false := by
    unfold State.queueTrigger
    dsimp only
    rw [if_neg (by simp only [hdone, htrig, Bool.true_eq_false, or_false]; omega), ← hu, ← hnext]
    rfl
  have hjudge : u.switchReason (s.ctxHolder s.actx) n = none := by
    rw [← hreason, ← hu]
    exact State.switchReason_congr hn (fun _ _ _ _ => State.r_updGrv ..) rfl rfl rfl _
  obtain ⟨hswitch, -⟩ := u.switched_trigger false hn (cause := 3) (by decide) hjudge
  rw [heq]
  subst hu
  exact hswitch

/-! ### The commands of GRV_CTRL and GC_ACTIDX (R260, R267) -/

theorem State.put_grv {s : State} {w : By} (v : Word) (h : s.Writes w .grv pgGRV 0x040) :
    s.put w pgGRV 0x040 v = (s.grvCtrl w.tnt v).answer .ok 0 :=
  State.put_block v h (by decide) (by decide) (by decide)

theorem State.grvCtrl_sw (s : State) (t : Nat) (n : Fin 8) :
    s.grvCtrl t (BitVec.ofNat 32 (16 + n * 256)) = s.trigger t n 2 false := by
  have hword : ∀ n : Fin 8, let v : Word := BitVec.ofNat 32 (16 + n * 256)
      v.getLsbD 0 = false ∧ v.getLsbD 1 = false ∧ v.getLsbD 4 = true ∧ fldOf v 10 8 = n := by decide
  obtain ⟨hidle, hclr, hsw, hctx⟩ := hword n
  simp only [State.grvCtrl, hidle, hclr, hsw, hctx, Bool.false_eq_true, if_false, if_true]

theorem State.put_grvSw {s : State} {w : By} (n : Fin 8) (h : s.Writes w .grv pgGRV 0x040) :
    s.put w pgGRV 0x040 (BitVec.ofNat 32 (16 + n * 256)) = (s.trigger w.tnt n 2 false).answer .ok 0 := by
  rw [State.put_grv _ h, State.grvCtrl_sw]

theorem State.put_grvIdle {s : State} {w : By} (h : s.Writes w .grv pgGRV 0x040) :
    s.put w pgGRV 0x040 1 = s.grvIdle.answer .ok 0 := State.put_grv 1 h

theorem State.put_actidxClr {s : State} {w : By} {n : Nat} (h : s.Writes w .gctx (pgGCTX n) 0x04C) :
    s.put w (pgGCTX n) 0x04C 0x80000000 = (s.sf (pgGCTX n) 0x04C 11 0 0).answer .ok 0 := by
  rw [State.put_block _ h (by decide) (by decide) (by decide), State.blockWrite, Nat.add_sub_cancel_left, State.gctxWrite,
    if_pos rfl, if_pos (by decide)]

/-- The array once it is idle. -/
def Grv.idled (g : Grv) : Grv := { g.ended with act := GCtx.zero, rf := [], ovf := 0 }

/-- GRV_CTRL.IDLE ends the activation of the context that runs. -/
theorem State.grvIdle_fields {s : State} (h : s.actx < 8) :
    let t := s.grvIdle
    t.actx = 8 ∧ t.f pgGRV 0x044 5 4 = 0 ∧ t.grv = s.grv.idled ∧ t.mem = s.mem := by
  obtain ⟨u, hended, heq⟩ := s.endActivation_eq
  unfold State.grvIdle
  rw [if_neg (by omega), heq]
  extract_lets v x
  have hstat : (x.w pgGRV 0x044 (statusWord (x.r pgGRV 0x044) 8)).r pgGRV 0x044 = statusWord (x.r pgGRV 0x044) 8 :=
    State.r_w_same _ _ _ _
  refine ⟨?_, ?_, ?_, ?_⟩
  · exact (congrArg (fldOf · 3 0) hstat).trans (fldOf_statusWord_ctx _ (by decide))
  · exact (congrArg (fldOf · 5 4) hstat).trans (fldOf_statusWord_doneHalt _ _)
  · exact congrArg Grv.idled hended.grv
  · rw [State.mem_w, State.mem_updGrv, State.mem_updGrv, hended.mem]

/-! ### The end of the work of an activation (R264, R265) -/

theorem State.activationDone_of_finished {s : State} {p : Nat} (hrun : s.portsRun = true) (hdone : s.f pgGRV 0x044 4 4 ≠ 1)
    (hp : p < 8) (harm : (s.gport p).arm = true) (hall : ∀ q, q < 8 → (s.gport q).arm = true → (s.gport q).finished q = true) :
    s.activationDone =
      ((s.updGrv fun g => { g with trig := decide (s.f (pgGCTX s.actx) 0x048 3 3 = 1) }).sf pgGRV 0x044 4 4 1).ev pgGRV 1 := by
  have hmem : p ∈ (List.range 8).filter fun q => (s.gport q).arm := List.mem_filter.mpr ⟨List.mem_range.mpr hp, harm⟩
  have hfinished : (((List.range 8).filter fun q => (s.gport q).arm).all fun q => (s.gport q).finished q) = true := by
    rw [List.all_eq_true]
    intro q hq
    obtain ⟨hq, harm⟩ := List.mem_filter.mp hq
    exact hall q (List.mem_range.mp hq) harm
  have hsome : ((List.range 8).filter fun q => (s.gport q).arm).isEmpty = false :=
    List.isEmpty_eq_false_iff_exists_mem.mpr ⟨p, hmem⟩
  unfold State.activationDone
  exact if_neg (by simp only [hrun, hdone, hsome, hfinished, Bool.true_eq_false, Bool.false_eq_true, or_self, not_false_eq_true])

theorem State.gport_updPort_same {s : State} {p : Nat} (hp : p < s.grv.ports.length) (f : GPort → GPort) :
    (s.updPort p f).gport p = f (s.gport p) := by
  simp [State.gport, State.updPort, State.updGrv, List.getD_eq_getElem?_getD, hp]

theorem State.gport_updPort_ne (s : State) {p q : Nat} (hq : q ≠ p) (f : GPort → GPort) :
    (s.updPort p f).gport q = s.gport q := by
  simp [State.gport, State.updPort, State.updGrv, List.getD_eq_getElem?_getD, Ne.symm hq]

/-- The words a write port of context `c` holds are dropped and counted. -/
def State.portDrop (c : Nat) (s : State) (p : Nat) : State :=
  ((s.cntUp (pgGCTX c) (gpStat p) 31 24 (s.gport p).buf.length).cntUp pgGRV 0x050 31 16 (s.gport p).buf.length).updPort p
    fun q => { q with buf := [] }

theorem State.tok_portDrop (c : Nat) (s : State) (p : Nat) : (s.portDrop c p).grv.tok = s.grv.tok := by
  unfold State.portDrop State.updPort State.updGrv
  dsimp only
  rw [State.grv_cntUp, State.grv_cntUp]

theorem State.mem_portDrop (c : Nat) (s : State) (p : Nat) : (s.portDrop c p).mem = s.mem := by
  unfold State.portDrop State.updPort
  rw [State.mem_updGrv, State.mem_cntUp, State.mem_cntUp]

theorem State.buf_portDrop_same (c : Nat) (s : State) (p : Nat) : ((s.portDrop c p).gport p).buf = [] := by
  by_cases hp : p < s.grv.ports.length
  · exact congrArg GPort.buf
      (State.gport_updPort_same (s := (s.cntUp (pgGCTX c) (gpStat p) 31 24 _).cntUp pgGRV 0x050 31 16 _) hp _)
  · simp [State.gport, State.portDrop, State.updPort, State.updGrv, List.getD_eq_getElem?_getD, hp, GPort.zero]

theorem State.buf_portDrop_of_empty {s : State} {p : Nat} (c q : Nat) (h : (s.gport p).buf = []) :
    ((s.portDrop c q).gport p).buf = [] := by
  by_cases hq : p = q
  · rw [hq]
    exact s.buf_portDrop_same c q
  · exact (congrArg GPort.buf (State.gport_updPort_ne _ hq _)).trans h

theorem State.buf_foldl_portDrop_of_empty {s : State} {p : Nat} (c : Nat) (l : List Nat) (h : (s.gport p).buf = []) :
    ((l.foldl (State.portDrop c) s).gport p).buf = [] := by
  induction l generalizing s with
  | nil => exact h
  | cons q l ih => exact ih (State.buf_portDrop_of_empty c q h)

theorem State.buf_foldl_portDrop {p : Nat} (c : Nat) (s : State) {l : List Nat} (h : p ∈ l) :
    ((l.foldl (State.portDrop c) s).gport p).buf = [] := by
  induction l generalizing s with
  | nil => exact absurd h List.not_mem_nil
  | cons q l ih =>
    obtain rfl | h := List.mem_cons.mp h
    · exact State.buf_foldl_portDrop_of_empty c l (s.buf_portDrop_same c p)
    · exact ih (s.portDrop c q) h

/-- The watchdog halts an activation that is over its cycles. -/
theorem State.activationWatchdog_eq {s : State} (hrun : s.portsRun = true) (hdone : s.f pgGRV 0x044 4 4 ≠ 1)
    (hlim : 0 < s.f (pgGCTX s.actx) 0x044 23 0) (hover : s.f (pgGCTX s.actx) 0x044 23 0 ≤ s.actCyc) :
    s.activationWatchdog =
      ((([4, 5, 6, 7].foldl (State.portDrop s.actx) s).sf pgGRV 0x044 5 5 1).ev pgGRV 2).err pgGRV 0x3411 s.actx := by
  have hctx : s.actx < 8 := by
    unfold State.portsRun at hrun
    simp only [Bool.and_eq_true, decide_eq_true_eq] at hrun
    exact hrun.1.1
  unfold State.activationWatchdog
  dsimp only
  rw [Nat.mod_eq_of_lt hctx]
  exact if_neg (by simp only [hrun, hdone, Bool.true_eq_false, false_or]; omega)

theorem State.halted_fields_of_watchdog (s : State) (c : Nat) :
    let t := ((([4, 5, 6, 7].foldl (State.portDrop c) s).sf pgGRV 0x044 5 5 1).ev pgGRV 2).err pgGRV 0x3411 c
    t.f pgGRV 0x044 5 5 = 1 ∧ t.f pgGRV 0x014 2 2 = 1 ∧ t.f pgGRV 0x028 15 0 = 0x3411 ∧
      (∀ p, 4 ≤ p → p < 8 → (t.gport p).buf = []) ∧ t.grv.tok = s.grv.tok ∧ t.mem = s.mem := by
  have hbuf : ∀ p, 4 ≤ p → p < 8 → (([4, 5, 6, 7].foldl (State.portDrop c) s).gport p).buf = [] := fun p h4 h8 => by
    refine State.buf_foldl_portDrop c s ?_
    interval_cases p
    all_goals decide
  have htok : ([4, 5, 6, 7].foldl (State.portDrop c) s).grv.tok = s.grv.tok :=
    foldl_keeps (fun s : State => s.grv.tok) (State.tok_portDrop c) _ s
  have hmem : ([4, 5, 6, 7].foldl (State.portDrop c) s).mem = s.mem :=
    foldl_keeps State.mem (State.mem_portDrop c) _ s
  generalize [4, 5, 6, 7].foldl (State.portDrop c) s = u at hbuf htok hmem ⊢
  have hgrv : (((u.sf pgGRV 0x044 5 5 1).ev pgGRV 2).err pgGRV 0x3411 c).grv = u.grv := by
    rw [State.grv_err, State.grv_ev, State.grv_sf]
  refine ⟨?_, State.f_err_of_raised _ _ _ (State.f_ev_same _ _ (by decide)), State.f_err_code .., ?_, ?_, ?_⟩
  · rw [State.f, State.r_err_ne _ _ _ (by decide) (by decide) (by decide), State.r_ev_ne _ _ (by decide), ← State.f]
    exact State.f_sf_same _ _ _ _ _ _ (by decide) (by decide)
  · simpa only [State.gport, hgrv] using hbuf
  · rw [hgrv, htok]
  · rw [State.mem_err, State.mem_ev, State.mem_sf, hmem]

/-! ### The statement -/

theorem State.Switched.answer {s t : State} {n cause : Nat} (h : s.Switched t n cause) (st : Sts) (d : Word) :
    s.Switched (t.answer st d) n cause := h

/-- Settles O39: each trigger is `State.trigger`, which switches or is refused; the others act as their lemmas say. -/
theorem contextSwitches : Obligations.ContextSwitches := by
  refine ⟨fun s e n lost hsys harray hs hreason => ?_, fun s w n hw hs hreason => ?_, fun s w n r hw hreason => ?_,
    fun s n hsys hs hctx hdone htrig hnext hreason => ?_, fun s w hw hctx => ?_, fun s w hw => ?_, fun s w n hw => ?_,
    fun s p hsys hrun hdone hp harm hall => ?_, fun s hsys hrun hdone hlim hover => ?_⟩
  · obtain ⟨l, hl⟩ := s.evArrive_eq 2 0 n
    have heq : s.ctxSwitchEvent e n lost = ({ s with ltb := l } : State).trigger (s.letOwner e) n 1 lost := by
      unfold State.ctxSwitchEvent
      rw [Nat.mod_eq_of_lt n.isLt, hl]
      exact if_pos harray
    obtain ⟨hswitch, hlost⟩ := State.switched_trigger (s := { s with ltb := l }) lost n.isLt (cause := 1) (by decide) hreason
    exact ⟨_, congrArg Host.Outcome.next ((State.onSys_run hsys _).trans heq), hswitch, hlost⟩
  · obtain ⟨hswitch, hlost⟩ := s.switched_trigger false n.isLt (cause := 2) (by decide) hreason
    exact ⟨_, congrArg Host.Outcome.next (State.put_grvSw n hw), hswitch.answer _ _, fun h => hlost (.inr h)⟩
  · obtain ⟨hgrv, hctx, hev, hlost, hcode, hmem⟩ := s.refused_trigger 2 false w.tnt.isLt n.isLt hreason
    exact ⟨_, congrArg Host.Outcome.next (State.put_grvSw n hw), hgrv, hctx, hev, fun h => hlost (.inr h), hcode, hmem⟩
  · exact ⟨_, congrArg Host.Outcome.next (State.onSys_run hsys _), State.switched_queueTrigger hctx hdone htrig hnext hreason⟩
  · obtain ⟨hidle, hstat, hgrv, hmem⟩ := State.grvIdle_fields hctx
    refine ⟨_, congrArg Host.Outcome.next (State.put_grvIdle hw), hidle, hstat, ?_⟩
    rw [State.grv_answer, hgrv]
    exact ⟨rfl, rfl, rfl, rfl, rfl, rfl, hmem⟩
  · exact congrArg Host.Outcome.next (State.put_grv 2 hw)
  · exact congrArg Host.Outcome.next (State.put_actidxClr hw)
  · exact congrArg Host.Outcome.next ((State.onSys_run hsys _).trans (State.activationDone_of_finished hrun hdone hp harm hall))
  · exact ⟨_, congrArg Host.Outcome.next ((State.onSys_run hsys _).trans (State.activationWatchdog_eq hrun hdone hlim hover)),
      s.halted_fields_of_watchdog s.actx⟩

end Sys2Proof.Machine
end

section
/-! Tokens of the array (10 R243 to R250): where they go, what a cell's firing takes and sends, and a token alone. -/

namespace Sys2Proof.Machine

/-! ### Maps -/

theorem mapGet_mapPut_same {β : Type} [DecidableEq β] (d : β) (k : Nat) (v : β) (m : List (Nat × β)) :
    mapGet d (mapPut d k v m) k = v := Sparse.get_put_same _ k v m

theorem mapGet_mapPut_ne {β : Type} [DecidableEq β] (d : β) {j k : Nat} (h : j ≠ k) (v : β) (m : List (Nat × β)) :
    mapGet d (mapPut d k v m) j = mapGet d m j := Sparse.get_put_ne _ h v m

theorem nodup_eraseDups {α : Type} [DecidableEq α] (l : List α) : l.eraseDups.Nodup := by
  match l with
  | [] => exact List.nodup_nil
  | a :: l =>
    rw [List.eraseDups_cons, List.nodup_cons]
    exact ⟨by simp, nodup_eraseDups _⟩
termination_by l.length
decreasing_by exact Nat.lt_succ_of_le (List.length_filter_le _ l)

/-! ### Where a token goes (R243, R249) -/

/-- A token that leaves a box arrives at another cell. -/
theorem State.cell_of_hop {s : State} {cell d i k : Nat} (hi : i < 4) (h : s.hop cell d i = .track k) : k / 16 ≠ cell := by
  unfold State.hop at h
  dsimp only at h
  repeat' split at h
  all_goals cases h
  all_goals
    unfold trackKey cellKey
    omega

theorem State.trackSinks_track {s : State} {cell x i : Nat} {e : Nat × Nat} (hi : i < 4) (h : e ∈ s.trackSinks cell x i) :
    e.2 < 4 := by
  unfold State.trackSinks at h
  split_ifs at h
  · obtain rfl := List.mem_singleton.mp h
    exact hi
  · obtain rfl := List.mem_singleton.mp h
    exact hi
  · cases h
  · obtain ⟨n, -, hn⟩ := List.mem_filterMap.mp h
    split_ifs at hn
    obtain rfl := Option.some.inj hn
    exact Nat.mod_lt n four_pos

/-- The state without the tokens on tracks and in ports. -/
def State.tokless (s : State) : State := { s with grv := { s.grv with tok := [], ports := [] } }

/-- From `s` to `t` tokens have left `cell`: nothing has changed but the tracks of other cells and the ports. -/
structure State.Sends (cell : Nat) (s t : State) : Prop where
  rest : t.tokless = s.tokless
  tok : ∀ k, k / 16 = cell → mapGet [] t.grv.tok k = mapGet [] s.grv.tok k

namespace State.Sends

variable {cell : Nat} {s t u : State}

theorem refl (cell : Nat) (s : State) : Sends cell s s := ⟨rfl, fun _ _ => rfl⟩

theorem trans (h : Sends cell s t) (h' : Sends cell t u) : Sends cell s u :=
  ⟨h'.rest.trans h.rest, fun k hk => (h'.tok k hk).trans (h.tok k hk)⟩

theorem putTok (s : State) {h : Hop} (v : Half) (hne : ∀ k, h = .track k → k / 16 ≠ cell) : Sends cell s (s.putTok h v) := by
  cases h with
  | track key => exact ⟨rfl, fun k hk => mapGet_mapPut_ne _ (fun e => hne key rfl (by rwa [← e])) _ _⟩
  | port p => exact ⟨rfl, fun _ _ => rfl⟩
  | blocked => exact refl cell s

theorem sendTo (s : State) (v : Half) {l : List (Nat × Nat)} (hl : ∀ e ∈ l, e.2 < 4) : Sends cell s (s.sendTo cell l v) := by
  have hfold : ∀ t, Sends cell t (l.foldl (fun t e => t.putTok (s.hop cell e.1 e.2) v) t) := by
    induction l with
    | nil => exact refl cell
    | cons e l ih =>
      rw [List.forall_mem_cons] at hl
      exact fun t => (putTok t v fun k hk => State.cell_of_hop hl.1 hk).trans (ih hl.2 _)
  exact hfold s

end State.Sends

/-! ### What a firing takes (R247) -/

/-- The oldest token of incoming track `k` of a cell is taken, and goes where else the track leads. -/
def State.consume (cell : Nat) (s : State) (k : Nat) : State :=
  let l := mapGet [] s.grv.tok (cell * 16 + k)
  (s.updGrv fun g => { g with tok := mapPut [] (cell * 16 + k) l.tail g.tok }).sendTo cell (s.trackSinks cell (k / 4) (k % 4))
    (l.headD 0)

theorem State.consume_sends (cell : Nat) (s : State) (k : Nat) :
    State.Sends cell (s.updGrv fun g => { g with
      tok := mapPut [] (cell * 16 + k) (mapGet [] s.grv.tok (cell * 16 + k)).tail g.tok }) (s.consume cell k) :=
  .sendTo _ _ fun _ he => State.trackSinks_track (Nat.mod_lt k four_pos) he

theorem State.tokless_consume (cell : Nat) (s : State) (k : Nat) : (s.consume cell k).tokless = s.tokless :=
  (s.consume_sends cell k).rest

theorem State.tok_consume_same (cell : Nat) (s : State) {k : Nat} (hk : k < 16) :
    mapGet [] (s.consume cell k).grv.tok (cell * 16 + k) = (mapGet [] s.grv.tok (cell * 16 + k)).tail :=
  ((s.consume_sends cell k).tok _ (by omega)).trans (mapGet_mapPut_same _ _ _ _)

theorem State.tok_consume_ne (cell : Nat) (s : State) {j k : Nat} (hj : j < 16) (hne : j ≠ k) :
    mapGet [] (s.consume cell k).grv.tok (cell * 16 + j) = mapGet [] s.grv.tok (cell * 16 + j) :=
  ((s.consume_sends cell k).tok _ (by omega)).trans (mapGet_mapPut_ne _ (by omega) _ _)

theorem State.tok_foldl_consume_ne (cell : Nat) (s : State) {l : List Nat} {j : Nat} (hj : j < 16) (hl : j ∉ l) :
    mapGet [] (l.foldl (State.consume cell) s).grv.tok (cell * 16 + j) = mapGet [] s.grv.tok (cell * 16 + j) := by
  induction l generalizing s with
  | nil => rfl
  | cons k l ih =>
    obtain ⟨hne, hl⟩ := not_or.mp (mt List.mem_cons.mpr hl)
    exact (ih (s.consume cell k) hl).trans (s.tok_consume_ne cell hj hne)

/-- Each track named once loses its oldest token. -/
theorem State.tok_foldl_consume (cell : Nat) (s : State) {l : List Nat} {j : Nat} (hj : j < 16) (hnd : l.Nodup) (hl : j ∈ l) :
    mapGet [] (l.foldl (State.consume cell) s).grv.tok (cell * 16 + j) = (mapGet [] s.grv.tok (cell * 16 + j)).tail := by
  induction l generalizing s with
  | nil => exact absurd hl List.not_mem_nil
  | cons k l ih =>
    obtain ⟨hk, hnd⟩ := List.nodup_cons.mp hnd
    rw [List.foldl_cons]
    by_cases hjk : j = k
    · rw [← hjk] at hk ⊢
      rw [State.tok_foldl_consume_ne cell _ hj hk, s.tok_consume_same cell hj]
    · rw [ih _ hnd ((List.mem_cons.mp hl).resolve_left hjk), s.tok_consume_ne cell hj hjk]

theorem State.tokless_foldl_consume (cell : Nat) (s : State) (l : List Nat) :
    (l.foldl (State.consume cell) s).tokless = s.tokless := foldl_keeps State.tokless (State.tokless_consume cell) l s

/-! ### What a firing gives (R246 to R248) -/

/-- The result of a firing, if any, reaches its cell's output register. -/
def State.emitted (cell : Nat) (o : Option Half) (s : State) : State := o.elim s (s.emit cell)

theorem State.out_emitted (cell : Nat) (o : Option Half) (s : State) :
    mapGet [] (s.emitted cell o).grv.out cell = mapGet [] s.grv.out cell ++ o.toList := by
  cases o with
  | none => exact (List.append_nil _).symm
  | some v => exact mapGet_mapPut_same _ _ _ _

/-- The output register and the register file aside, nothing changes. -/
theorem State.emitted_eq (cell : Nat) (o : Option Half) (s : State) :
    ∃ out rf, s.emitted cell o = { s with grv := { s.grv with out := out, rf := rf } } := by
  cases o with
  | none => exact ⟨s.grv.out, s.grv.rf, rfl⟩
  | some v => exact ⟨_, _, rfl⟩

/-- The incoming tracks a cell record takes operands from. -/
def opTracks (w : BitVec 128) : List Nat := ((opSrcs w).filter fun k => decide (k < 16)).eraseDups

theorem mem_opTracks {w : BitVec 128} {k : Nat} : k ∈ opTracks w ↔ k ∈ opSrcs w ∧ k < 16 := by
  rw [opTracks, List.mem_eraseDups, List.mem_filter, decide_eq_true_eq]

/-- Operand `n` of a cell. -/
def State.operand (s : State) (cell n : Nat) : Half := s.srcVal cell ((opSrcs (s.cellRec cell)).getD n 25)

/-- The word a TRD of a cell reads. -/
def State.tileRead (s : State) (cell : Nat) : Half :=
  Sparse.get (tileDefault s.grv.tileLost) s.grv.tile (s.tileOf cell * 8192 + (s.operand cell 0).toNat % 8192)

/-- What a cell's function makes of its operands. -/
def State.firing (s : State) (cell : Nat) : Fire :=
  fireOp (s.cellRec cell) (s.operand cell 0) (s.operand cell 1) (s.operand cell 2) (mapGet 0 s.grv.acc cell)
    (mapGet 0 s.grv.cnt cell) (s.tileOf cell) (s.tileRead cell)

/-- The array once a firing with result `f` is noted: accumulator, count, overflows, a tile word, the copies of a DUPN of `a`. -/
def Grv.fired (cell : Nat) (w : BitVec 128) (a : Half) (f : Fire) (g : Grv) : Grv :=
  { g with
    acc := mapPut 0 cell f.acc g.acc, cnt := mapPut 0 cell f.cnt g.cnt, ovf := satAdd 0xFFFF g.ovf f.ovf,
    tile := (match f.tw with | some e => Sparse.put (tileDefault g.tileLost) e.1 e.2 g.tile | none => g.tile),
    dup := if recF w 127 122 = 0x19 then mapPut [] cell (List.replicate (recF w 84 73) a) g.dup else g.dup }

/-- Cell (c, r) has the tokens of its operands, room where they fork and room at its output, and a function that fires. -/
structure State.CanFire (s : State) (c r : Nat) : Prop where
  run : s.portsRun = true
  col : c < gcols s.grade
  row : r < 8
  whole : s.isFused (cellKey c r) = false
  fires : (opArity (recF (s.cellRec (cellKey c r)) 127 122)).2 = true
  op : recF (s.cellRec (cellKey c r)) 127 122 < 0x1A
  tracks : ∀ k ∈ opSrcs (s.cellRec (cellKey c r)), k < 16 → mapGet [] s.grv.tok (cellKey c r * 16 + k) ≠ [] ∧
    s.sinksRoom (cellKey c r) (s.trackSinks (cellKey c r) (k / 4) (k % 4)) = true
  out : (mapGet [] s.grv.out (cellKey c r)).length < 2
  dup : mapGet [] s.grv.dup (cellKey c r) = []

/-- A cell that can fire takes its operands, notes the firing and gives its result. -/
theorem State.CanFire.cellFire {s : State} {c r : Nat} (h : s.CanFire c r) :
    let cell := cellKey c r
    let w := s.cellRec cell
    s.cellFire c r = (((opTracks w).foldl (State.consume cell) s).updGrv
      (Grv.fired cell w (s.operand cell 0) (s.firing cell))).emitted cell (s.firing cell).o := by
  intro cell w
  have hhas : (opTracks w).all (fun k => !(mapGet [] s.grv.tok (cell * 16 + k)).isEmpty) = true := by
    rw [List.all_eq_true]
    intro k hk
    obtain ⟨hsrc, hlt⟩ := mem_opTracks.mp hk
    simpa using (h.tracks k hsrc hlt).1
  have hforks : (opTracks w).all (fun k => s.sinksRoom cell (s.trackSinks cell (k / 4) (k % 4))) = true := by
    rw [List.all_eq_true]
    intro k hk
    obtain ⟨hsrc, hlt⟩ := mem_opTracks.mp hk
    exact (h.tracks k hsrc hlt).2
  have hguard : ¬(s.portsRun = false ∨ gcols s.grade ≤ c ∨ 8 ≤ r ∨ s.isFused cell = true ∨
      (opArity (recF w 127 122)).2 = false ∨ 0x1A ≤ recF w 127 122 ∨
      (opTracks w).all (fun k => !(mapGet [] s.grv.tok (cell * 16 + k)).isEmpty) = false ∨
      (opTracks w).all (fun k => s.sinksRoom cell (s.trackSinks cell (k / 4) (k % 4))) = false ∨
      2 ≤ (mapGet [] s.grv.out cell).length ∨ (mapGet [] s.grv.dup cell).isEmpty = false) := by
    rw [hhas, hforks, h.run, h.whole, h.fires, h.dup]
    simp only [Bool.true_eq_false, Bool.false_eq_true, List.isEmpty_nil, false_or, or_false, not_or, not_le]
    exact ⟨h.col, h.row, h.op, h.out⟩
  have heq : s.cellFire c r = if _ then s else _ := rfl
  refine heq.trans ((if_neg hguard).trans ?_)
  dsimp only
  split
  next o ho =>
    rw [State.emitted, show (s.firing cell).o = some o from ho]
    rfl
  next ho =>
    rw [State.emitted, show (s.firing cell).o = none from ho]
    rfl

/-- What a firing leaves (R246, R247). -/
theorem State.CanFire.cellFire_fields {s : State} {c r : Nat} (h : s.CanFire c r) :
    let cell := cellKey c r
    let t := s.cellFire c r
    mapGet 0 t.grv.acc cell = (s.firing cell).acc ∧ mapGet 0 t.grv.cnt cell = (s.firing cell).cnt ∧
      mapGet [] t.grv.out cell = mapGet [] s.grv.out cell ++ (s.firing cell).o.toList ∧
      (∀ k ∈ opSrcs (s.cellRec cell), k < 16 →
        mapGet [] t.grv.tok (cell * 16 + k) = (mapGet [] s.grv.tok (cell * 16 + k)).tail) ∧
      t.mem = s.mem ∧ t.regs = s.regs := by
  intro cell t
  have ht : t = _ := h.cellFire (s := s)
  have hrest := s.tokless_foldl_consume cell (opTracks (s.cellRec cell))
  have htok : ∀ k ∈ opSrcs (s.cellRec cell), k < 16 →
      mapGet [] ((opTracks (s.cellRec cell)).foldl (State.consume cell) s).grv.tok (cell * 16 + k) =
        (mapGet [] s.grv.tok (cell * 16 + k)).tail :=
    fun k hsrc hk => s.tok_foldl_consume cell hk (nodup_eraseDups _) (mem_opTracks.mpr ⟨hsrc, hk⟩)
  generalize (opTracks (s.cellRec cell)).foldl (State.consume cell) s = u at ht hrest htok
  have hout : u.grv.out = s.grv.out := (congrArg (fun x : State => x.grv.out) hrest :)
  obtain ⟨out, rf, heq⟩ := State.emitted_eq cell (s.firing cell).o
    (u.updGrv (Grv.fired cell (s.cellRec cell) (s.operand cell 0) (s.firing cell)))
  refine ⟨?_, ?_, ?_, ?_, ?_, ?_⟩
  · rw [ht, heq]
    exact mapGet_mapPut_same _ _ _ _
  · rw [ht, heq]
    exact mapGet_mapPut_same _ _ _ _
  · rw [ht, State.out_emitted, ← hout]
    rfl
  · rw [ht, heq]
    exact htok
  · rw [ht, heq]
    exact (congrArg State.mem hrest :)
  · rw [ht, heq]
    exact (congrArg State.regs hrest :)

/-- The functions that only combine their operands (R246). -/
theorem fireOp_combines (w : BitVec 128) (a b c : Half) (acc : BitVec 36) (cnt tile : Nat) (rd : Half) :
    ∀ e ∈ ([(0x01, a), (0x02, a + b), (0x03, a - b), (0x06, a &&& b), (0x07, a ||| b), (0x08, a ^^^ b),
        (0x0C, if a.toInt ≤ b.toInt then a else b), (0x0D, if a.toInt ≤ b.toInt then b else a),
        (0x0F, if c ≠ 0 then a else b), (0x10, if a.toInt < b.toInt then 1 else 0), (0x16, rd)] : List (Nat × Half)),
      recF w 127 122 = e.1 → (fireOp w a b c acc cnt tile rd).o = some e.2 := by
  simp only [List.forall_mem_cons]
  refine ⟨?_, ?_, ?_, ?_, ?_, ?_, ?_, ?_, ?_, ?_, ?_, List.forall_mem_nil _⟩
  all_goals
    intro h
    rw [fireOp, h]
    rfl

/-! ### A token alone (R249, R250) -/

/-- A read port with no word delivers none. -/
theorem State.moveIn_of_empty {s : State} {p : Nat} (h : (s.gport p).buf = []) : s.moveIn p = s := by
  unfold State.moveIn
  dsimp only
  rw [h]

/-- A write port with no word issues nothing. -/
theorem State.portDrain_of_empty {s : State} {p : Nat} (h : (s.gport p).buf = []) (n : Nat) (flush : Bool) :
    State.portDrain n s p flush = s := by
  cases n with
  | zero => rfl
  | succ n =>
    refine if_pos (.inl ?_)
    unfold State.portWritable
    exact if_pos (.inr (.inr (by rw [h]; exact Nat.zero_div _)))

/-- The state with one token, on one track. -/
def State.loneTok (s : State) (k : Nat) (v : Half) : State := { s with grv := { s.grv with tok := [(k, [v])] } }

/-- A token alone whose box sends it one way goes there. -/
theorem State.moveTrack_lone {s : State} {key d i k : Nat} {v : Half} (htok : s.grv.tok = [(key, [v])])
    (hsinks : s.trackSinks (key / 16) (key % 16 / 4) (key % 4) = [(d, i)])
    (hfree : s.cellUses (key / 16) (key % 16 / 4) (key % 4) = false ∨ s.isFused (key / 16) = true)
    (hhop : s.hop (key / 16) d i = .track k) : s.moveTrack key = s.loneTok k v := by
  have hget : mapGet [] s.grv.tok key = [v] := by
    rw [htok]
    exact if_pos rfl
  have hroom : s.sinksRoom (key / 16) [(d, i)] = true := by
    have hlen : (mapGet [] [(key, [v])] k).length < 2 := by
      unfold mapGet Sparse.get
      split
      · exact Nat.one_lt_two
      · exact Nat.two_pos
    simpa [State.sinksRoom, hhop, State.hopRoom, htok] using hlen
  have hempty : mapPut [] key [] s.grv.tok = [] := by
    rw [htok]
    simp [mapPut, Sparse.put, Sparse.del]
  have hplace : mapPut [] k ([] ++ [v]) [] = [(k, [v])] := by simp [mapPut, Sparse.put, Sparse.del, Sparse.ins]
  have hsent : ((s.updGrv fun g => { g with tok := mapPut [] key [] g.tok }).sendTo (key / 16) [(d, i)] v) = s.loneTok k v := by
    have hhop' : (s.updGrv fun g => { g with tok := mapPut [] key [] g.tok }).hop (key / 16) d i = .track k := hhop
    rw [State.sendTo, List.foldl_cons, List.foldl_nil, hhop']
    simp only [State.putTok, State.updGrv, State.loneTok, hempty, mapGet, Sparse.get]
    rw [hplace]
  unfold State.moveTrack
  dsimp only
  rw [hget, hsinks]
  refine (if_neg ?_).trans hsent
  rw [hroom]
  obtain hfree | hfree := hfree
  · simp [hfree]
  · simp [hfree]

/-- A token alone goes one stage on in an array cycle, and no port acts. -/
theorem State.trackAdvance_lone {s : State} {key d i k : Nat} {v : Half} (hrun : s.portsRun = true)
    (htok : s.grv.tok = [(key, [v])]) (hout : s.grv.out = []) (hdup : s.grv.dup = [])
    (hbuf : ∀ p, p < 8 → (s.gport p).buf = [])
    (hsinks : s.trackSinks (key / 16) (key % 16 / 4) (key % 4) = [(d, i)])
    (hfree : s.cellUses (key / 16) (key % 16 / 4) (key % 4) = false ∨ s.isFused (key / 16) = true)
    (hhop : s.hop (key / 16) d i = .track k) : s.trackAdvance = s.loneTok k v := by
  have hports : ∀ p, p < 8 → ((s.loneTok k v).gport p).buf = [] := hbuf
  have hsweep : s.sweep = s.loneTok k v := by
    have hmoved : (s.grv.tok.map (·.1)).foldl (fun s k => s.moveTrack k) s = s.loneTok k v := by
      rw [htok]
      exact State.moveTrack_lone htok hsinks hfree hhop
    unfold State.sweep
    dsimp only
    rw [hmoved, show (s.loneTok k v).grv.out = [] from hout, show (s.loneTok k v).grv.dup = [] from hdup]
    refine foldl_stays fun p hp => State.moveIn_of_empty (hports p ?_)
    revert p
    decide
  unfold State.trackAdvance
  rw [if_pos hrun, hsweep]
  refine foldl_stays fun p hp => State.portDrain_of_empty (hports p ?_) 16 false
  revert p
  decide

end Sys2Proof.Machine
end

section
/-! The ports of the array (10 R253 to R258): reads, merged writes, answers and retries. -/

namespace Sys2Proof.Machine

/-! ### A request at an NI leaves the array alone (06 R139) -/

theorem State.Books.grv {s t : State} (h : s.Books t) : t.grv = s.grv := (congrArg State.grv h.rest :)

theorem State.grv_niJudge (s : State) (n t cmd cls a size : Nat) (ok : Bool) :
    (s.niJudge n t cmd cls a size ok).1.grv = s.grv := by
  simp only [State.niJudge]
  split
  · rfl
  split
  · exact State.grv_violation ..
  split
  · exact State.grv_violation ..
  split
  · rfl
  split
  · exact State.grv_violation ..
  have hroute := ((State.Books.refl s).selectRoute n (servingNis s.grade a) cls).grv
  split
  next u h => rwa [h] at hroute
  next u idx w h =>
    rw [h] at hroute
    split
    · exact hroute
    · exact ((State.Books.refl u).classCheck n t cls idx _ _).grv.trans hroute

theorem State.grv_issuePart (s : State) (n t cmd cls grp a size : Nat) (data : List Byte) (ok : Bool) :
    (s.issuePart n t cmd cls grp a size data ok).grv = s.grv := by
  have hjudge := s.grv_niJudge n t cmd cls a size ok
  unfold State.issuePart
  split
  next u st h =>
    rw [h] at hjudge
    exact ((State.Books.refl u).partDone n grp a st false false []).grv.trans hjudge
  next u idx w kept h =>
    rw [h] at hjudge
    exact hjudge

theorem State.grv_weltRequest (s : State) (n sub cmd cls a size : Nat) (data : List Byte) :
    (s.weltRequest n sub cmd cls a size data).grv = s.grv := by
  unfold State.weltRequest
  split
  · rfl
  split
  · rfl
  · exact foldl_keeps State.grv (fun s p => s.grv_issuePart ..) _ _

theorem State.holder_lt (s : State) (base bit : Nat) : s.holder base bit < 16 := by
  unfold State.holder
  cases h : ((List.range 15).map (· + 1)).find? fun t => s.bitHeldBy base bit t with
  | none => exact Nat.zero_lt_succ 15
  | some t =>
    obtain ⟨i, hi, rfl⟩ := List.mem_map.mp (List.mem_of_find?_eq_some h)
    exact Nat.succ_lt_succ (List.mem_range.mp hi)

theorem portNi_cases (p : Nat) : portNi p = 17 ∨ portNi p = 18 ∨ portNi p = 24 ∨ portNi p = 25 := by
  unfold portNi
  split_ifs
  all_goals simp

theorem State.stamp_portNi_lt {s : State} {p t : Nat} (h : s.stamp (portNi p) 0 = some t) : t < 16 := by
  have hstamp : s.stamp (portNi p) 0 =
      if s.f pgGRV 0x044 3 0 < 8 then some (s.ctxHolder (s.f pgGRV 0x044 3 0)) else none := by
    obtain h | h | h | h := portNi_cases p
    all_goals rw [h]; rfl
  rw [hstamp] at h
  split at h
  · obtain rfl := Option.some.inj h
    exact s.holder_lt _ _
  · cases h

/-- A port's NI takes its request. -/
theorem State.asked_portRequest (s : State) (p cmd cls a size : Nat) (data : List Byte) :
    State.Asked (portNi p) s (s.weltRequest (portNi p) 0 cmd cls a size data) := by
  unfold State.weltRequest
  split
  · exact .refl _ s
  next t ht =>
    refine .ite (.refl _ s) ?_
    extract_lets parts grp welt s1 b s2 ok
    have h2 : State.Asked (portNi p) s s2 := .update rfl rfl rfl rfl rfl rfl
    exact h2.trans (.foldl (fun s p => .issuePart _ s _ _ _ _ _ _ _ (State.stamp_portNi_lt ht)) _ _)

/-! ### One port among the eight -/

section
variable {s : State} {p : Nat}

theorem State.Shape.port_lt (hs : s.Shape) (hp : p < 8) : p < s.grv.ports.length := by
  obtain ⟨-, -, ⟨hports, -⟩, -⟩ := hs
  omega

/-- A port changed and its request taken: the port is as changed. -/
theorem State.gport_request (hp : p < s.grv.ports.length) (f : GPort → GPort) (n cmd cls a size : Nat) (data : List Byte) :
    ((s.updPort p f).weltRequest n 0 cmd cls a size data).gport p = f (s.gport p) := by
  rw [State.gport, State.grv_weltRequest, ← State.gport, State.gport_updPort_same hp]

theorem State.mem_request (f : GPort → GPort) (cmd cls a size : Nat) (data : List Byte) :
    ((s.updPort p f).weltRequest (portNi p) 0 cmd cls a size data).mem = s.mem :=
  (State.asked_portRequest _ p cmd cls a size data).mem.trans (State.mem_updGrv ..)

end

/-! ### How many elements a request takes (R255 to R257) -/

section
variable {s : State} {q : GPort}

theorem GPort.ew_cases (q : GPort) : q.ew = 1 ∨ q.ew = 2 := by
  unfold GPort.ew
  split
  · exact .inr rfl
  · exact .inl rfl

theorem GPort.ew_pos (q : GPort) : 0 < q.ew := by
  have := q.ew_cases
  omega

/-- The first element lies under no SE window. -/
theorem State.portClear_pos {i n : Nat} (hse : s.touchesSE (q.addr i) q.eb = false) (hn : 0 < n) : 0 < s.portClear q i n := by
  obtain ⟨n, rfl⟩ := Nat.exists_eq_succ_of_ne_zero hn.ne'
  rw [State.portClear, List.range_succ_eq_map, List.takeWhile_cons_of_pos (by simpa using hse)]
  exact Nat.succ_pos _

/-- An aligned element ends before the next multiple of 64 and of 256 bytes. -/
theorem GPort.aligned_room {a n : Nat} (halign : a % q.eb = 0) (hn : n = 64 ∨ n = 256) : 0 < (n - a % n) / q.eb := by
  refine Nat.div_pos ?_ (Nat.mul_pos two_pos q.ew_pos)
  have heb : q.eb = 2 ∨ q.eb = 4 := by
    have := q.ew_cases
    unfold GPort.eb
    omega
  obtain rfl | rfl := hn
  all_goals
    obtain heb | heb := heb
    all_goals
      rw [heb] at halign ⊢
      omega

/-- The elements of the next read, outside SE windows. -/
def State.portTop (s : State) (q : GPort) : Nat :=
  s.portClear q q.issued (if q.contig then
    min (min (64 / q.eb) ((256 - q.addr q.issued % 256) / q.eb))
      (min (q.cnt - q.issued) ((64 - (q.buf.length + q.inFly)) / q.ew)) else 1)

theorem State.portTop_pos (hleft : q.issued < q.cnt) (hroom : q.ew ≤ 64 - (q.buf.length + q.inFly))
    (halign : q.addr q.issued % q.eb = 0) (hse : s.touchesSE (q.addr q.issued) q.eb = false) : 0 < s.portTop q := by
  refine State.portClear_pos hse ?_
  split
  · refine lt_min (lt_min (Nat.div_pos ?_ (Nat.mul_pos two_pos q.ew_pos)) (GPort.aligned_room halign (.inr rfl)))
      (lt_min (Nat.sub_pos_of_lt hleft) (Nat.div_pos hroom q.ew_pos))
    have := q.ew_cases
    unfold GPort.eb
    omega
  · exact Nat.one_pos

/-- An aligned element outside SE windows may be written, once its merge is sent off. -/
theorem State.portWritable_flush (harm : q.arm = true) (hstop : q.stopped = false) (hbuf : q.ew ≤ q.buf.length)
    (halign : q.addr q.issued % q.eb = 0) (hse : s.touchesSE (q.addr q.issued) q.eb = false) : 0 < s.portWritable q true := by
  have helem : 0 < q.buf.length / q.ew := Nat.div_pos hbuf q.ew_pos
  unfold State.portWritable
  dsimp only
  rw [if_neg (by simp [harm, hstop, helem.ne']), if_neg (by simpa using halign), if_neg (by simp [hse])]
  split
  · rw [if_pos (.inr (.inr (.inr rfl)))]
    exact State.portClear_pos hse (lt_min helem (GPort.aligned_room halign (.inl rfl)))
  · exact Nat.one_pos

end

/-! ### Reads and merged writes (R255, R257) -/

/-- A port once a read of its next `m` elements is on its way. -/
def GPort.asked (ctx m : Nat) (q : GPort) : GPort :=
  { q with issued := q.issued + m, fly := q.fly ++ [⟨ctx, q.issued, m, false, none, 0, none, false, []⟩] }

/-- A port once a write of its next `m` elements is on its way in state `s`. -/
def GPort.wrote (s : State) (m : Nat) (q : GPort) : GPort :=
  { q with
    issued := q.issued + m, buf := q.buf.drop (m * q.ew),
    fly := q.fly ++ [⟨s.actx, q.issued, m, s.touchesSE (q.addr q.issued) q.eb, none, 0, none, false, q.buf.take (m * q.ew)⟩] }

section
variable {s : State} {p : Nat} {q : GPort}

theorem State.portReadIssue_eq (hq : s.gport p = q) (hp : p < 4) (hrun : s.portsRun = true) (harm : q.arm = true)
    (hstop : q.stopped = false) (hleft : q.issued < q.cnt) (hroom : q.ew ≤ 64 - (q.buf.length + q.inFly))
    (hwelt : s.portRoom p = true) (hfly : q.fly.all (fun r => !r.se) = true) (halign : q.addr q.issued % q.eb = 0)
    (hse : s.touchesSE (q.addr q.issued) q.eb = false) :
    s.portReadIssue p = (s.updPort p (GPort.asked s.actx (s.portTop q))).weltRequest (portNi p) 0 0 q.cls (q.addr q.issued)
      (s.portTop q * q.eb) [] := by
  have hnone : (q.fly.any fun r => r.se && !r.old) = false := by
    rw [List.any_eq_false]
    intro r hr
    have := List.all_eq_true.mp hfly r hr
    simp_all
  have hwords : (64 - (q.buf.length + q.inFly)) / q.ew ≠ 0 := (Nat.div_pos hroom q.ew_pos).ne'
  unfold State.portReadIssue
  rw [hq]
  refine (if_neg ?_).trans ((if_neg (by simpa using halign)).trans ?_)
  · simp only [hrun, harm, hstop, hwelt, hnone, hwords, Bool.true_eq_false, Bool.false_eq_true, false_or, or_false]
    omega
  · simp only [hse]
    exact if_neg fun h => Bool.false_ne_true h.1

theorem State.portMergeTimeout_eq (hq : s.gport p = q) (hp : 4 ≤ p) (hlate : q.last + 48 ≤ s.grvNow) (hrun : s.portsRun = true)
    (hwelt : s.portRoom p = true) (halign : q.addr q.issued % q.eb = 0) (hpos : 0 < s.portWritable q true) :
    let m := s.portWritable q true
    s.portMergeTimeout p = (s.updPort p (GPort.wrote s m)).weltRequest (portNi p) 0 2 q.cls (q.addr q.issued) (m * q.eb)
      (halfBytes (q.buf.take (m * q.ew))) := by
  intro m
  unfold State.portMergeTimeout
  rw [hq, if_neg (by omega), State.portDrain]
  dsimp only
  rw [hq]
  refine (if_neg ?_).trans (if_neg (by simpa using halign))
  rw [hwelt, hrun]
  simpa using hpos.ne'

end

/-! ### Answers (R255, R256, R258) -/

/-- The marks of a good answer: demoted and late. -/
def State.portMarked (s : State) (p ctx sts : Nat) (dem late : Bool) : State :=
  let s := if dem ∧ sts = 0 then s.sf (pgGCTX ctx) (gpStat p) 8 8 1 else s
  if late ∧ sts = 0 then s.sf (pgGCTX ctx) (gpStat p) 9 9 1 else s

/-- Nothing but registers has changed. -/
theorem State.portMarked_eq (s : State) (p ctx sts : Nat) (dem late : Bool) :
    ∃ l, s.portMarked p ctx sts dem late = { s with regs := l } := by
  unfold State.portMarked
  dsimp only
  split_ifs
  · exact ⟨_, rfl⟩
  · exact ⟨_, rfl⟩
  · exact ⟨_, rfl⟩
  · exact ⟨_, rfl⟩

/-- A read port once the answer to its request number `i`, `r`, is in with status `sts` and words `d`. -/
def GPort.answered (r : GReq) (i sts : Nat) (d : List Half) (q : GPort) : GPort :=
  let fly := if sts = 0 then q.fly else q.fly.take (i + 1) ++ (q.fly.drop (i + 1)).filter fun x => x.data.isNone
  let f := portSettle (fly.set i { r with data := some d })
  { q with buf := q.buf ++ f.1, fly := f.2 }

/-- The answer to the only request on its way. -/
theorem GPort.answered_only {q : GPort} {r : GReq} (hfly : q.fly = [r]) (hold : r.old = false) (sts : Nat) (d : List Half) :
    q.answered r 0 sts d = { q with buf := q.buf ++ d, fly := [] } := by
  unfold GPort.answered
  simp [hfly, portSettle, hold]

/-- Request `r`, not answered yet, is the only one on its way of read port `p`, which has not stopped. -/
structure State.Awaits (s : State) (p : Nat) (r : GReq) : Prop where
  read : p < 4
  len : p < s.grv.ports.length
  fly : (s.gport p).fly = [r]
  run : (s.gport p).stopped = false
  data : r.data = none
  refused : r.refused = none
  now : r.old = false

section
variable {s : State} {p : Nat} {r : GReq}

/-- The first REFUSED answers to a request make it wait. -/
theorem State.Awaits.refuse (h : s.Awaits p r) (htries : r.tries < 4) (dem late : Bool) (data : List Byte) :
    s.portResponse p 0 1 dem late data =
      s.updPort p fun q => { q with fly := q.fly.set 0 { r with refused := some s.grvNow } } := by
  unfold State.portResponse
  dsimp only
  rw [h.fly, List.getElem?_cons_zero]
  dsimp only
  rw [if_neg (by simp [h.data, h.refused]), if_neg (by simp [h.now]), if_pos ⟨rfl, htries⟩]

/-- Any other answer is taken; one with an error stops the port. -/
theorem State.Awaits.take {sts : Nat} (h : s.Awaits p r) (hsts : ¬(sts = 1 ∧ r.tries < 4)) (dem late : Bool)
    (data : List Byte) :
    let n := r.n * (s.gport p).ew
    let u := (s.portMarked p r.ctx sts dem late).updPort p
      (GPort.answered r 0 sts (if sts = 0 then halves n data else List.replicate n 0))
    s.portResponse p 0 sts dem late data = if sts = 0 then u else u.portStop p r.ctx sts := by
  intro n u
  unfold State.portResponse
  dsimp only
  rw [h.fly, List.getElem?_cons_zero]
  dsimp only
  rw [if_neg (by simp [h.data, h.refused]), if_neg (by simp [h.now]), if_neg hsts,
    if_pos (c := p < 4 ∧ _) ⟨h.read, .inl h.run⟩]
  simp only [h.run, Bool.false_eq_true, or_false]
  rfl

theorem State.portStop_fields (hp : p < s.grv.ports.length) (h8 : p < 8) (ctx : Nat) {sts : Nat}
    (hsts : sts < 16) :
    let t := s.portStop p ctx sts
    (t.gport p).stopped = true ∧ t.f (pgGCTX ctx) (gpStat p) 10 10 = 1 ∧ t.f (pgGCTX ctx) (gpStat p) 15 12 = sts ∧
      t.f pgGRV 0x014 4 4 = 1 ∧ t.mem = s.mem := by
  have hoff : gpStat p < 4096 := by
    unfold gpStat
    omega
  have hkey : rkey (pgGCTX ctx) (gpStat p) ≠ rkey pgGRV 0x014 :=
    rkey_ne_of_page_ne (by unfold pgGCTX pgGRV; omega) (by decide) hoff
  unfold State.portStop
  extract_lets u
  refine ⟨?_, ?_, ?_, State.f_ev_same _ _ (by decide), rfl⟩
  · exact congrArg GPort.stopped (State.gport_updPort_same hp _)
  · rw [State.f_ev_ne _ _ _ _ hkey, State.f_sf_other _ _ (by decide) (by decide),
      State.f_sf_same _ _ _ _ _ _ (by decide) (by decide)]
    rfl
  · rw [State.f_ev_ne _ _ _ _ hkey, State.f_sf_same _ _ _ _ _ _ (by decide) (by decide)]
    exact Nat.mod_eq_of_lt hsts

/-- A good answer: its words join the buffer. -/
theorem State.Awaits.good (h : s.Awaits p r) (dem late : Bool) (data : List Byte) :
    let t := s.portResponse p 0 0 dem late data
    t.gport p = { s.gport p with buf := (s.gport p).buf ++ halves (r.n * (s.gport p).ew) data, fly := [] } ∧ t.mem = s.mem := by
  intro t
  have ht : t = _ := h.take (sts := 0) (by simp) dem late data
  rw [if_pos rfl, if_pos rfl] at ht
  obtain ⟨l, hl⟩ := s.portMarked_eq p r.ctx 0 dem late
  rw [ht, hl]
  exact ⟨(State.gport_updPort_same (s := { s with regs := l }) h.len _).trans (GPort.answered_only h.fly h.now 0 _), rfl⟩

/-- The request waits after one of its first REFUSED answers. -/
theorem State.Awaits.waits (h : s.Awaits p r) (htries : r.tries < 4) (dem late : Bool) (data : List Byte) :
    let t := s.portResponse p 0 1 dem late data
    (t.gport p).fly = [{ r with refused := some s.grvNow }] ∧ t.regs = s.regs ∧ t.mem = s.mem := by
  intro t
  have ht : t = _ := h.refuse htries dem late data
  rw [ht, State.gport_updPort_same h.len, h.fly]
  exact ⟨rfl, rfl, rfl⟩

/-- An answer with an error stops the port. -/
theorem State.Awaits.stops {sts : Nat} (h : s.Awaits p r) (herr : sts ≠ 0) (hsts : ¬(sts = 1 ∧ r.tries < 4)) (h16 : sts < 16)
    (dem late : Bool) (data : List Byte) :
    let t := s.portResponse p 0 sts dem late data
    (t.gport p).stopped = true ∧ t.f (pgGCTX r.ctx) (gpStat p) 10 10 = 1 ∧ t.f (pgGCTX r.ctx) (gpStat p) 15 12 = sts ∧
      t.f pgGRV 0x014 4 4 = 1 ∧ t.mem = s.mem := by
  intro t
  have ht : t = _ := h.take hsts dem late data
  rw [if_neg herr, if_neg herr] at ht
  obtain ⟨l, hl⟩ := s.portMarked_eq p r.ctx sts dem late
  rw [ht, hl]
  have h8 : p < 8 := h.read.trans (by decide)
  exact State.portStop_fields ((List.length_modify ..).symm ▸ h.len) h8 r.ctx h16

end

/-! ### Retries (R258) -/

/-- A port once its request number `i`, `r`, goes out again. -/
def GPort.retried (i : Nat) (r : GReq) (q : GPort) : GPort :=
  { q with fly := q.fly.set i { r with refused := none, tries := r.tries + 1 } }

/-- A count of events in eight bits goes up by one and stops at 255. -/
theorem State.f_cntUp_byte (s : State) {p o hi lo : Nat} (hhi : hi < 32) (hlo : hi = lo + 7) :
    (s.cntUp p o hi lo 1).f p o hi lo = min 255 (s.f p o hi lo + 1) := by
  have hsize : hi + 1 - lo = 8 := by omega
  rw [State.cntUp, State.f_sf_same _ _ _ _ _ _ hhi (by omega), hsize, satAdd]
  split <;> omega

section
variable {s : State} {p i : Nat} {r : GReq}

theorem State.portRetry_eq {t0 : Nat} (hrun : s.portsRun = true) (hfly : (s.gport p).fly[i]? = some r)
    (hwait : r.refused = some t0) (hlate : t0 + 192 ≤ s.grvNow) (hstop : (s.gport p).stopped = false) (hold : r.old = false) :
    s.portRetry p i = ((s.cntUp (pgGCTX r.ctx) (gpStat p) 23 16 1).updPort p (GPort.retried i r)).weltRequest (portNi p) 0
      (if p < 4 then 0 else 2) (s.gport p).cls ((s.gport p).addr r.first) (r.n * (s.gport p).eb)
      (if p < 4 then [] else halfBytes r.wd) := by
  unfold State.portRetry
  dsimp only
  rw [hfly]
  dsimp only
  rw [hwait]
  exact if_neg (by simp [hold, hstop, hrun]; omega)

/-- A refused request goes out again, and is counted. -/
theorem State.portRetry_fields {t0 : Nat} (hp : p < 8) (hlen : p < s.grv.ports.length) (hrun : s.portsRun = true)
    (hfly : (s.gport p).fly[i]? = some r) (hwait : r.refused = some t0) (hlate : t0 + 192 ≤ s.grvNow)
    (hstop : (s.gport p).stopped = false) (hold : r.old = false) (hctx : r.ctx < 8) :
    let t := s.portRetry p i
    (t.gport p).fly[i]? = some { r with refused := none, tries := r.tries + 1 } ∧
      t.f (pgGCTX r.ctx) (gpStat p) 23 16 = min 255 (s.f (pgGCTX r.ctx) (gpStat p) 23 16 + 1) ∧ t.mem = s.mem := by
  intro t
  have ht : t = _ := State.portRetry_eq hrun hfly hwait hlate hstop hold
  obtain ⟨hi, -⟩ := List.getElem?_eq_some_iff.mp hfly
  have hcount := s.f_cntUp_byte (p := pgGCTX r.ctx) (o := gpStat p) (hi := 23) (lo := 16) (by decide) rfl
  have hgrv : (s.cntUp (pgGCTX r.ctx) (gpStat p) 23 16 1).grv = s.grv := State.grv_cntUp ..
  have hmem : (s.cntUp (pgGCTX r.ctx) (gpStat p) 23 16 1).mem = s.mem := State.mem_cntUp ..
  rw [ht]
  generalize s.cntUp (pgGCTX r.ctx) (gpStat p) 23 16 1 = u at hcount hgrv hmem ⊢
  refine ⟨?_, ?_, ?_⟩
  · rw [State.gport_request (hgrv ▸ hlen), State.gport, hgrv, ← State.gport]
    exact List.getElem?_set_self hi
  · rw [← hcount, State.f, (State.asked_portRequest ..).reg _ _ (by unfold gpStat; omega) ?_ ?_, State.updPort, State.r_updGrv,
      State.f]
    · have := portNi_cases p
      unfold pgGCTX pgNI
      omega
    · unfold pgGCTX pgTEN
      omega
  · rw [State.mem_request, hmem]

end

/-! ### The statement -/

/-- Settles O40: a firing is `State.CanFire.cellFire_fields`, a lone token `State.trackAdvance_lone`; each port issues, takes its
answer and retries as its lemma says. -/
theorem cellsTokensAndPorts : Obligations.CellsTokensAndPorts := by
  refine ⟨?fire, ?token, ?read, ?write, ?answer, ?retry⟩
  case fire =>
    intro s c r cell w op v tile rd f hsys hrun hcol hfused hfires hop htracks hout hdup
    have hcan : s.CanFire c r := ⟨hrun, hcol, r.isLt, hfused, hfires, hop, htracks, hout, hdup⟩
    obtain ⟨hacc, hcnt, hres, htok, hmem, hregs⟩ := hcan.cellFire_fields
    exact ⟨_, congrArg Host.Outcome.next (State.onSys_run hsys _), hacc, hcnt, hres, htok, fireOp_combines w _ _ _ _ _ _ _, hmem,
      hregs⟩
  case token =>
    intro s key d i k v hsys hrun htok hout hdup hbuf hsinks hfree hhop
    exact congrArg Host.Outcome.next
      ((State.onSys_run hsys _).trans (State.trackAdvance_lone hrun htok hout hdup hbuf hsinks hfree hhop))
  case read =>
    intro s p hsys hs hrun hp q harm hstop hleft hroom hwelt hfly halign hse
    have heq := State.portReadIssue_eq rfl hp hrun harm hstop hleft hroom hwelt hfly halign hse
    refine ⟨_, s.portTop q, congrArg Host.Outcome.next ((State.onSys_run hsys _).trans heq),
      State.portTop_pos hleft hroom halign hse, ?_⟩
    rw [State.gport_request (hs.port_lt p.isLt)]
    exact ⟨rfl, rfl, rfl, State.mem_request ..⟩
  case write =>
    intro s p hsys hs hrun hp q hlate harm hstop hbuf hwelt halign hse
    have hpos := State.portWritable_flush harm hstop hbuf halign hse
    have heq := State.portMergeTimeout_eq rfl hp hlate hrun hwelt halign hpos
    refine ⟨_, s.portWritable q true, congrArg Host.Outcome.next ((State.onSys_run hsys _).trans heq), hpos, ?_⟩
    rw [State.gport_request (hs.port_lt p.isLt)]
    exact ⟨rfl, rfl, List.length_append, State.mem_request ..⟩
  case answer =>
    intro s p r sts dem late data hsys hs hp hfly hstop hdata hwait hold
    have hwaits : s.Awaits p r := ⟨hp, hs.port_lt p.isLt, hfly, hstop, hdata, hwait, hold⟩
    refine ⟨_, congrArg Host.Outcome.next (State.onSys_run hsys _), ?_⟩
    by_cases hgood : sts = 0
    · subst hgood
      obtain ⟨hport, hmem⟩ := hwaits.good dem late data
      refine ⟨hmem, fun _ => ?_, fun h => absurd h (by decide), fun h => absurd h (by decide)⟩
      exact ⟨congrArg GPort.buf hport, congrArg GPort.fly hport, (congrArg GPort.stopped hport).trans hstop⟩
    by_cases hagain : sts = 1 ∧ r.tries < 4
    · obtain ⟨rfl, htries⟩ := hagain
      obtain ⟨hfly, hregs, hmem⟩ := hwaits.waits htries dem late data
      exact ⟨hmem, fun h => absurd h hgood, fun _ _ => ⟨hfly, hregs⟩, fun h => absurd h (by decide)⟩
    · have hnot : ¬(sts.val = 1 ∧ r.tries < 4) := fun h => hagain ⟨Fin.ext h.1, h.2⟩
      obtain ⟨hstopped, hst, hcode, hev, hmem⟩ := hwaits.stops (fun h => hgood (Fin.ext h)) hnot sts.isLt dem late data
      exact ⟨hmem, fun h => absurd h hgood, fun h htries => absurd ⟨h, htries⟩ hagain,
        fun _ => ⟨hstopped, fun _ => ⟨hst, hcode⟩, hev⟩⟩
  case retry =>
    intro s p i r t0 hsys hs hrun hfly hwait hlate hstop hold hctx
    exact ⟨_, congrArg Host.Outcome.next (State.onSys_run hsys _),
      State.portRetry_fields p.isLt (hs.port_lt p.isLt) hrun hfly hwait hlate hstop hold hctx⟩

end Sys2Proof.Machine
end
